-- ==== Sys2Proof/Word.lean ====
section
/-!
DEFINITION. The small types every file shares: bytes, the identifiers of spec/00_scope.md §0.8, the sets that the manual
codes as bits of one byte (spec/12_record_layouts.md R198), and the lists of all members of each identifier type.
-/
namespace Sys2Proof

/-- One byte of a record, a report, or the serial memory. -/
abbrev Byte := BitVec 8

/-- Computers C0–C5 (00 §0.8). -/
abbrev Computer := Fin 6
/-- Heads H0–H3 of one computer. -/
abbrev HeadNo := Fin 4
/-- Screens S0–S7. -/
abbrev ScreenId := Fin 8
/-- Video inputs V0–V15. -/
abbrev InputId := Fin 16
/-- Desk lines L0–L7. -/
abbrev LineId := Fin 8
/-- Scenes 0–15. -/
abbrev SceneNo := Fin 16
/-- Hotkey entries 0–31. -/
abbrev EntryNo := Fin 32
/-- Key translation maps 0–3. -/
abbrev MapNo := Fin 4

/-- A subset of the pointer buttons B1–B5, bit 0 for B1 (R198). -/
abbrev ButtonSet := BitVec 5
/-- A subset of the lamps NUM, CAPS, SCROLL, COMPOSE, KANA, bit 0 for NUM (R202). -/
abbrev LampSet := BitVec 5
/-- A subset of the modifier codes 224–231, bit 0 for 224 (R202). -/
abbrev ModSet := BitVec 8
/-- A subset of the screens S0–S7, bit 0 for S0 (R198). -/
abbrev ScreenSet := BitVec 8
/-- A subset of the modifier kinds CTRL, SHIFT, ALT, META, bit 0 for CTRL (R201). -/
abbrev KindSet := BitVec 4

/-- The number `k` as an identifier of a type with `n` members, if it is one. -/
def fin? (n k : Nat) : Option (Fin n) :=
  if h : k < n then some ⟨k, h⟩ else none

/-- `a` is a subset of `b`, for sets coded as bits. -/
def subBits {n : Nat} (a b : BitVec n) : Bool := (a &&& ~~~b) == 0

def allComputers : List Computer := [0, 1, 2, 3, 4, 5]
def allHeads : List HeadNo := [0, 1, 2, 3]
def allScreens : List ScreenId := [0, 1, 2, 3, 4, 5, 6, 7]
def allInputs : List InputId := [0, 1, 2, 3, 4, 5, 6, 7, 8, 9, 10, 11, 12, 13, 14, 15]
def allLines : List LineId := [0, 1, 2, 3, 4, 5, 6, 7]
def allScenes : List SceneNo := [0, 1, 2, 3, 4, 5, 6, 7, 8, 9, 10, 11, 12, 13, 14, 15]
def allMaps : List MapNo := [0, 1, 2, 3]
def allEntries : List EntryNo :=
  [0, 1, 2, 3, 4, 5, 6, 7, 8, 9, 10, 11, 12, 13, 14, 15, 16, 17, 18, 19, 20, 21, 22, 23, 24, 25, 26, 27, 28, 29, 30, 31]

end Sys2Proof
end

