-- ==== Sys2Proof/Syntax.lean ====
section
/-!
DEFINITION. The commands of the DX-68: one constructor of `Instr` for each row of spec/opcode_table.json, in the table's order.
A record's operands are the fields of its body as R201 and R204 lay them out, each a number as it travels (so that a value out
of range can be written, and is refused by the record's own checks). An event's operands are what comes from outside with it.
-/
namespace Sys2Proof

/-- The two desk ports of R87. -/
inductive DeskPort where
  | keyboard
  | pointer
  deriving DecidableEq, Repr

/-- The two functions a computer port presents (R146). -/
inductive PortFunction where
  | keyboard
  | pointer
  deriving DecidableEq, Repr

/-- What is observed at the end of a power-on reset (R146, R87). -/
inductive Attach where
  | computer (c : Computer)
  | desk (p : DeskPort)
  deriving DecidableEq, Repr

/-- The five steps of a save, in the order of R196. -/
inductive SaveStep where
  | clearMarker
  | writeBody
  | readBody
  | writeMarker
  | readMarker
  deriving DecidableEq, Repr, Inhabited

/-- How the memory's work for a save ended (R196): step 5 agreed, or a write was not acknowledged or a read-back disagreed at a
step. -/
inductive SaveResult where
  | verified
  | failed (step : SaveStep)
  deriving DecidableEq, Repr

/-- A hotkey entry's eight bytes as R201 lays them out. -/
structure RawHotkey where
  trigger : Nat
  t1 : Nat
  t2 : Nat
  t3 : Nat
  action : Nat
  a1 : Nat
  a2 : Nat
  enabled : Nat
  deriving DecidableEq, Repr

/-- A scene item's three bytes: the screen, then the source (R201). -/
structure RawItem where
  screen : Nat
  computer : Nat
  head : Nat
  deriving DecidableEq, Repr

/-- The body of SET_COMPUTER after the computer (R201). -/
structure RawComputer where
  flags : Nat
  inputWake : Nat
  pulseWidth : Nat
  maxAttempts : Nat
  timeout : Nat
  keymap : Nat
  w : Nat
  h : Nat
  labelLength : Nat
  label : List Nat
  deriving DecidableEq, Repr

/-- The body of SET_LINE after the line (R204). -/
structure RawLine where
  mode : Nat
  polarity : Nat
  filter : Nat
  wake : Nat
  report : Nat
  sourceKind : Nat
  sourceArg : Nat
  counts : Nat
  deriving DecidableEq, Repr

/-- The commands. -/
inductive Instr where
  | powerOnReset (rateHigh : Bool) (observed : List Attach)
  | profileLoadDone (answered : Bool)
  | byteReceived (byte : Byte) (stopGood : Bool)
  | gapTimerExpiry
  | replySent
  | identify
  | queryStatus
  | clearEvents (kinds : Nat)
  | setEventMask (kinds : Nat)
  | restart
  | softReset
  | saveProfile
  | saveComplete (result : SaveResult)
  | saveTimeout
  | setScreen (screen configured x y w h : Nat)
  | setComputer (computer : Nat) (fields : RawComputer)
  | setHead (computer head defined priv allowed x y w h : Nat)
  | mapInput (input computer head : Nat)
  | getLayoutScreen (screen : Nat)
  | getLayoutComputer (computer : Nat)
  | getLayoutHead (computer head : Nat)
  | getLayoutInput (input : Nat)
  | syncEdge (input : InputId) (time : Nat)
  | lostTimerExpiry (input : InputId)
  | lockInputChange (screen : ScreenId) (present : Bool)
  | linkTimerExpiry (screen : ScreenId)
  | powerOnTimerExpiry (screen : ScreenId)
  | assign (screen computer head : Nat)
  | storeScene (scene keyFocus wake : Nat) (items : List RawItem)
  | applyScene (scene : Nat)
  | setStartScene (scene : Nat)
  | getScreen (screen : Nat)
  | getScreenScene (scene : Nat)
  | setScreenTiming (linkLimit powerValue powerScale : Nat)
  | setBallistics (t1 t2 t3 g0 g1 g2 g3 : Nat)
  | setGlide (barrier : Nat)
  | warpComputer (computer : Nat)
  | warpPosition (x y : Nat)
  | getPointer
  | deskPointerReport (bytes : List Byte) (time : Nat)
  | pushDecayTimerExpiry
  | setFocus (computer scope : Nat)
  | getFocus
  | getFocusMap (map : Nat)
  | setKeymap (map : Nat) (pairs : List (Nat × Nat))
  | setKeyOptions (stuckLimit leader window : Nat)
  | deskPortCheck (port : Nat)
  | deskPortEnable (port : Nat)
  | deskPortDisable (port : Nat)
  | deskDeviceAttach (port : DeskPort)
  | deskDeviceDetach (port : DeskPort)
  | deskKeyboardReport (bytes : List Byte) (time : Nat)
  | stuckTimerExpiry (code : Nat)
  | windowTimerExpiry
  | addHotkey (choice : Nat) (entry : RawHotkey)
  | removeHotkey (entry : Nat)
  | getHotkey (entry : Nat)
  | getHotkeyMatcher
  | runAction (action a1 a2 : Nat)
  | setLine (line : Nat) (fields : RawLine)
  | driveLine (line level : Nat)
  | getLines
  | lineLevelChange (line : LineId) (high : Bool)
  | filterTimerExpiry (line : LineId)
  | busPowerAppears (computer : Computer)
  | configurationSelected (computer : Computer)
  | busIdle (computer : Computer)
  | busActivity (computer : Computer)
  | configurationDeselected (computer : Computer)
  | busReset (computer : Computer)
  | busPowerDisappears (computer : Computer)
  | keyboardPoll (computer : Computer)
  | pointerPoll (computer : Computer)
  | currentStateRequest (computer : Computer) (function : PortFunction)
  | lampWrite (computer : Computer) (lamps : Byte)
  | remoteWakeChange (computer : Computer) (granted : Bool)
  | wake (computer : Nat)
  | attemptTimerExpiry (computer : Computer)
  | wakePulseExpiry (computer : Computer)
  | getComputer (computer : Nat)
  | setDeskPower (standbyValue standbyScale offValue offScale deadZone resumeWake : Nat)
  | setDeskPowerRead
  | deskStandby
  | idleThresholdReached
  | motionWindowExpiry
  deriving DecidableEq, Repr

end Sys2Proof
end

