-- ==== Sys2Proof/Decode.lean ====
section
/-!
DEFINITION. From bytes to commands: the table of record kinds and bodies (spec/12_record_layouts.md R199, R201, R204) read as a
total function that answers a command or says by name why there is none, the same layouts from commands to records, and
`decodeTableWord` for the rows of spec/opcode_table.json that give bits (none does).
-/
namespace Sys2Proof

/-- What a record's kind and body spell (R188): no record of that kind, a length its kind does not allow, bytes that R198 has
refused with OUT_OF_RANGE at the owner's range step (a selector or a pad byte; each of these kinds is BUSY only while LOADING),
or a command. -/
inductive Parsed where
  | unknownKind
  | badLength
  | outOfRange
  | command (i : Instr)
  deriving DecidableEq, Repr

/-- Two bytes, most significant first (R198). -/
def word16 (hi lo : Nat) : Nat := hi * 256 + lo

/-- The scene items of a STORE_SCENE body, three bytes each (R201); `none` when the bytes do not divide into items. -/
def parseItems : List Nat → Option (List RawItem)
  | [] => some []
  | s :: c :: h :: rest => (parseItems rest).map (⟨s, c, h⟩ :: ·)
  | _ => none

/-- The pairs of a SET_KEYMAP body (R204); `none` when the bytes do not divide into pairs. -/
def parsePairs : List Nat → Option (List (Nat × Nat))
  | [] => some []
  | a :: b :: rest => (parsePairs rest).map ((a, b) :: ·)
  | _ => none

/-- GET_LAYOUT: selector, first identifier, second identifier, which is 0 except for a head (R201). -/
def parseGetLayout (selector a b : Nat) : Parsed :=
  match selector, b with
  | 0, 0 => .command (.getLayoutScreen a)
  | 1, 0 => .command (.getLayoutComputer a)
  | 2, h => .command (.getLayoutHead a h)
  | 3, 0 => .command (.getLayoutInput a)
  | _, _ => .outOfRange

/-- DESK_PORT: port, then 0 CHECK, 1 ENABLE, 2 DISABLE (R204). -/
def parseDeskPort (port op : Nat) : Parsed :=
  match op with
  | 0 => .command (.deskPortCheck port)
  | 1 => .command (.deskPortEnable port)
  | 2 => .command (.deskPortDisable port)
  | _ => .outOfRange

/-- STORE_SCENE: scene, item count, key focus, wake flag, items; 4 plus 3 times the count bytes (R201). -/
def parseStoreScene (scene count keyFocus wake : Nat) (rest : List Nat) : Parsed :=
  match parseItems rest with
  | some items => if items.length = count then .command (.storeScene scene keyFocus wake items) else .badLength
  | none => .badLength

/-- SET_KEYMAP: map, pair count, pairs; 2 plus 2 times the count bytes (R204). -/
def parseSetKeymap (map count : Nat) (rest : List Nat) : Parsed :=
  match parsePairs rest with
  | some pairs => if pairs.length = count then .command (.setKeymap map pairs) else .badLength
  | none => .badLength

/-- SET_COMPUTER's 26 bytes (R201). -/
def parseSetComputer : List Nat → Parsed
  | c :: flags :: mode :: p1 :: p0 :: m :: t1 :: t0 :: km :: w1 :: w0 :: h1 :: h0 :: len :: label =>
    if label.length = 12 then
      .command (.setComputer c ⟨flags, mode, word16 p1 p0, m, word16 t1 t0, km, word16 w1 w0, word16 h1 h0, len, label⟩)
    else .badLength
  | _ => .badLength

/-- The eight bytes of a hotkey entry (R201). -/
def parseHotkey : List Nat → Option RawHotkey
  | [k, a, b, c, n, x, y, e] => some ⟨k, a, b, c, n, x, y, e⟩
  | _ => none

/-- A record's body read by its kind: the 37 kinds of R199 with the layouts of R201 and R204. -/
def parseRecord (kind : Nat) (body : List Nat) : Parsed :=
  match kind, body with
  | 0x01, [] => .command .identify
  | 0x02, [] => .command .queryStatus
  | 0x03, [a, b] => .command (.clearEvents (word16 a b))
  | 0x04, [a, b] => .command (.setEventMask (word16 a b))
  | 0x05, [] => .command .restart
  | 0x06, [] => .command .saveProfile
  | 0x10, [s, c, x1, x0, y1, y0, w1, w0, h1, h0] =>
      .command (.setScreen s c (word16 x1 x0) (word16 y1 y0) (word16 w1 w0) (word16 h1 h0))
  | 0x11, b => parseSetComputer b
  | 0x12, [c, h, d, p, a, x1, x0, y1, y0, w1, w0, h1, h0] =>
      .command (.setHead c h d p a (word16 x1 x0) (word16 y1 y0) (word16 w1 w0) (word16 h1 h0))
  | 0x13, [v, c, h] => .command (.mapInput v c h)
  | 0x14, [sel, a, b] => parseGetLayout sel a b
  | 0x20, [s, c, h] => .command (.assign s c h)
  | 0x21, n :: count :: k :: w :: rest => parseStoreScene n count k w rest
  | 0x22, [n] => .command (.applyScene n)
  | 0x23, [n] => .command (.setStartScene n)
  | 0x24, [0, s] => .command (.getScreen s)
  | 0x24, [1, n] => .command (.getScreenScene n)
  | 0x24, [_, _] => .outOfRange
  | 0x25, [l1, l0, v, c] => .command (.setScreenTiming (word16 l1 l0) v c)
  | 0x30, [t1, t2, t3, g0, g1, g2, g3] => .command (.setBallistics t1 t2 t3 g0 g1 g2 g3)
  | 0x31, [b] => .command (.setGlide b)
  | 0x32, [c] => .command (.warpComputer c)
  | 0x32, [x1, x0, y1, y0] => .command (.warpPosition (word16 x1 x0) (word16 y1 y0))
  | 0x33, [] => .command .getPointer
  | 0x40, [c, sc] => .command (.setFocus c sc)
  | 0x41, [0, 0] => .command .getFocus
  | 0x41, [1, m] => .command (.getFocusMap m)
  | 0x41, [_, _] => .outOfRange
  | 0x42, m :: count :: rest => parseSetKeymap m count rest
  | 0x43, [l, k, w1, w0] => .command (.setKeyOptions l k (word16 w1 w0))
  | 0x44, [p, op] => parseDeskPort p op
  | 0x50, [ch, k, a, b, c, n, x, y, e] => .command (.addHotkey ch ⟨k, a, b, c, n, x, y, e⟩)
  | 0x51, [n] => .command (.removeHotkey n)
  | 0x52, [0, n] => .command (.getHotkey n)
  | 0x52, [1, 0] => .command .getHotkeyMatcher
  | 0x52, [_, _] => .outOfRange
  | 0x53, [k, a, b] => .command (.runAction k a b)
  | 0x60, [l, m, p, f, w, r, k, a, n] => .command (.setLine l ⟨m, p, f, w, r, k, a, n⟩)
  | 0x61, [l, v] => .command (.driveLine l v)
  | 0x62, [] => .command .getLines
  | 0x70, [c] => .command (.wake c)
  | 0x71, [] => .command .setDeskPowerRead
  | 0x71, [sv, sc, ov, oc, dz, rw] => .command (.setDeskPower sv sc ov oc dz rw)
  | 0x72, [] => .command .deskStandby
  | 0x73, [c] => .command (.getComputer c)
  | k, _ =>
    if k ∈ [0x01, 0x02, 0x03, 0x04, 0x05, 0x06, 0x10, 0x12, 0x13, 0x14, 0x20, 0x21, 0x22, 0x23, 0x24, 0x25, 0x30, 0x31, 0x32,
        0x33, 0x40, 0x41, 0x42, 0x43, 0x44, 0x50, 0x51, 0x52, 0x53, 0x60, 0x61, 0x62, 0x70, 0x71, 0x72, 0x73] then .badLength
    else .unknownKind

/-! ### From commands to records -/

/-- A two-byte number's bytes, most significant first (R198). -/
def wordBytes (n : Nat) : List Nat := [n / 256, n % 256]

/-- SET_COMPUTER's fields after the computer, as bytes (R201). -/
def RawComputer.bytes (r : RawComputer) : List Nat :=
  [r.flags, r.inputWake] ++ wordBytes r.pulseWidth ++ [r.maxAttempts] ++ wordBytes r.timeout ++ [r.keymap] ++ wordBytes r.w
    ++ wordBytes r.h ++ [r.labelLength] ++ r.label

/-- The eight bytes of a hotkey entry (R201). -/
def RawHotkey.bytes (r : RawHotkey) : List Nat := [r.trigger, r.t1, r.t2, r.t3, r.action, r.a1, r.a2, r.enabled]

/-- SET_LINE's fields after the line, as bytes (R204). -/
def RawLine.bytes (r : RawLine) : List Nat :=
  [r.mode, r.polarity, r.filter, r.wake, r.report, r.sourceKind, r.sourceArg, r.counts]

/-- The kind and body of the record that carries a command (R199, R201, R204); `none` for an event, which no record carries. -/
def Instr.record : Instr → Option (Nat × List Nat)
  | .powerOnReset _ _ => none
  | .profileLoadDone _ => none
  | .byteReceived _ _ => none
  | .gapTimerExpiry => none
  | .replySent => none
  | .identify => some (0x01, [])
  | .queryStatus => some (0x02, [])
  | .clearEvents k => some (0x03, wordBytes k)
  | .setEventMask k => some (0x04, wordBytes k)
  | .restart => some (0x05, [])
  | .softReset => none
  | .saveProfile => some (0x06, [])
  | .saveComplete _ => none
  | .saveTimeout => none
  | .setScreen s c x y w h => some (0x10, [s, c] ++ wordBytes x ++ wordBytes y ++ wordBytes w ++ wordBytes h)
  | .setComputer c r => some (0x11, c :: r.bytes)
  | .setHead c h d p a x y w hh =>
      some (0x12, [c, h, d, p, a] ++ wordBytes x ++ wordBytes y ++ wordBytes w ++ wordBytes hh)
  | .mapInput v c h => some (0x13, [v, c, h])
  | .getLayoutScreen s => some (0x14, [0, s, 0])
  | .getLayoutComputer c => some (0x14, [1, c, 0])
  | .getLayoutHead c h => some (0x14, [2, c, h])
  | .getLayoutInput v => some (0x14, [3, v, 0])
  | .syncEdge _ _ => none
  | .lostTimerExpiry _ => none
  | .lockInputChange _ _ => none
  | .linkTimerExpiry _ => none
  | .powerOnTimerExpiry _ => none
  | .assign s c h => some (0x20, [s, c, h])
  | .storeScene n k w items =>
      some (0x21, [n, items.length, k, w] ++ items.flatMap fun it => [it.screen, it.computer, it.head])
  | .applyScene n => some (0x22, [n])
  | .setStartScene n => some (0x23, [n])
  | .getScreen s => some (0x24, [0, s])
  | .getScreenScene n => some (0x24, [1, n])
  | .setScreenTiming l v c => some (0x25, wordBytes l ++ [v, c])
  | .setBallistics t1 t2 t3 g0 g1 g2 g3 => some (0x30, [t1, t2, t3, g0, g1, g2, g3])
  | .setGlide b => some (0x31, [b])
  | .warpComputer c => some (0x32, [c])
  | .warpPosition x y => some (0x32, wordBytes x ++ wordBytes y)
  | .getPointer => some (0x33, [])
  | .deskPointerReport _ _ => none
  | .pushDecayTimerExpiry => none
  | .setFocus c sc => some (0x40, [c, sc])
  | .getFocus => some (0x41, [0, 0])
  | .getFocusMap m => some (0x41, [1, m])
  | .setKeymap m pairs => some (0x42, [m, pairs.length] ++ pairs.flatMap fun p => [p.1, p.2])
  | .setKeyOptions l k w => some (0x43, [l, k] ++ wordBytes w)
  | .deskPortCheck p => some (0x44, [p, 0])
  | .deskPortEnable p => some (0x44, [p, 1])
  | .deskPortDisable p => some (0x44, [p, 2])
  | .deskDeviceAttach _ => none
  | .deskDeviceDetach _ => none
  | .deskKeyboardReport _ _ => none
  | .stuckTimerExpiry _ => none
  | .windowTimerExpiry => none
  | .addHotkey ch r => some (0x50, ch :: r.bytes)
  | .removeHotkey n => some (0x51, [n])
  | .getHotkey n => some (0x52, [0, n])
  | .getHotkeyMatcher => some (0x52, [1, 0])
  | .runAction k a b => some (0x53, [k, a, b])
  | .setLine l r => some (0x60, l :: r.bytes)
  | .driveLine l v => some (0x61, [l, v])
  | .getLines => some (0x62, [])
  | .lineLevelChange _ _ => none
  | .filterTimerExpiry _ => none
  | .busPowerAppears _ => none
  | .configurationSelected _ => none
  | .busIdle _ => none
  | .busActivity _ => none
  | .configurationDeselected _ => none
  | .busReset _ => none
  | .busPowerDisappears _ => none
  | .keyboardPoll _ => none
  | .pointerPoll _ => none
  | .currentStateRequest _ _ => none
  | .lampWrite _ _ => none
  | .remoteWakeChange _ _ => none
  | .wake c => some (0x70, [c])
  | .attemptTimerExpiry _ => none
  | .wakePulseExpiry _ => none
  | .getComputer c => some (0x73, [c])
  | .setDeskPower a b c d z r => some (0x71, [a, b, c, d, z, r])
  | .setDeskPowerRead => some (0x71, [])
  | .deskStandby => some (0x72, [])
  | .idleThresholdReached => none
  | .motionWindowExpiry => none

/-- The command that a word spells by the bits of spec/opcode_table.json. Every row of the table has an empty list of fields
and no fixed bits, so no word spells a command. -/
def decodeTableWord (_nbits _w : Nat) : Option Instr := none

end Sys2Proof
end

