-- ==== Sys2Proof/Config.lean ====
section
/-!
DEFINITION. What an implementation fixes and the manual does not state: free constants without a body, so that no proof can
see their values. `erasedByte` is the one value that a log entry chooses.
-/
namespace Sys2Proof.Config

/-- The family code IDENTIFY returns (R193, R204 give no value): free, log entry 11. -/
opaque familyCode : Byte
/-- The part code of the DX-68 (R193, R204 give no value): free, log entry 11. -/
opaque partCode : Byte
/-- The part's revision number (R193, R204 give no value): free, log entry 11. -/
opaque revision : Byte

/-- Where a save stood when its time ran out or a reset ended it (R196, R197 do not say): free, log entry 8. -/
opaque freeSaveStep : Nat → SaveStep
/-- How many bytes of the image step 2 of a save had written when it stopped (R196 does not say): free, log entry 8. -/
opaque freeWritten : Nat → Nat
/-- What a byte of the image past the marker holds after a save that stopped at step 3, where what was read back may not be what was
written (R196 does not say): free for each save and address, log entry 8. -/
opaque freeBodyByte : Nat → Nat → Byte
/-- What a marker byte holds when a power-on reset ends a save in step 1 (R196: "the next load judges whatever the memory
holds"): free, log entry 8. -/
opaque freeHalfErased : Nat → Byte
/-- What a marker byte holds after a save that failed at step 4 or 5 (R196: "leaves the marker unreliable"): free, entry 8. -/
opaque freeMarkerByte : Nat → Byte

/-- DESIGN CHOICE (unsafe), log entry 7: a byte of the serial memory that nothing has written reads as 0xFF. R195 says only
that erased memory does not hold the marker. -/
def erasedByte : Byte := 0xFF

end Sys2Proof.Config
end

