-- ==== Sys2Proof/Machine/State.lean ====
section
/-!
DEFINITION. Everything the DX-68 holds, as plain data, block by block (spec/00_scope.md §0.3), the reasons a command could stop,
and the machine right after a power-on reset. INVENTORY.md lists every field with its rule and reset value.
-/
namespace Sys2Proof.Machine
open Sys2Proof

/-- A running timer: the time base when it was started, and its limit, both in µs. A stopped timer is `none`. -/
structure Timer where
  start : Nat
  limit : Nat
  deriving DecidableEq, Repr

/-! ### Layout Tables (01) -/

/-- A rectangle: origin and size (R2, R8). -/
structure Rect where
  x : Nat
  y : Nat
  w : Nat
  h : Nat
  deriving DecidableEq, Repr

/-- A head: computer, then head (00 §0.8). A source is an `Option Head`, `none` being NONE. -/
structure Head where
  computer : Computer
  no : HeadNo
  deriving DecidableEq, Repr

/-- A defined head's entry (R8). -/
structure HeadEntry where
  rect : Rect
  isPrivate : Bool
  allowed : ScreenSet
  deriving DecidableEq, Repr

/-- Input-wake modes, in the order of R5. -/
inductive InputWake where
  | off
  | once
  | always
  deriving DecidableEq, Repr

/-- A computer table entry (R5). -/
structure ComputerEntry where
  label : List Nat
  guarded : Bool
  takeClickSwallow : Bool
  holdDrop : Bool
  inputWake : InputWake
  wakeOnFocus : Bool
  wakeLine : Bool
  pulseWidth : Nat
  activeHigh : Bool
  maxAttempts : Nat
  timeout : Nat
  keymap : Option MapNo
  w : Nat
  h : Nat
  deriving DecidableEq, Repr

/-- The four tables (01). An unconfigured screen, an undefined head and an unbound input are `none`; R2 and R8 give their
fields as 0, which is what a read of them returns. -/
structure Layout where
  screens : Vector (Option Rect) 8
  computers : Vector ComputerEntry 6
  heads : Vector (Vector (Option HeadEntry) 4) 6
  inputs : Vector (Option Head) 16
  deriving DecidableEq, Repr

/-! ### Sync Monitor (02) -/

inductive ChannelState where
  | lost
  | acquiring
  | alive
  deriving DecidableEq, Repr

/-- A channel record (R18); its count is the length of the window. -/
structure Channel where
  state : ChannelState
  running : Bool
  lastEdge : Option Nat
  window : List Nat
  average : Option Nat
  lostTimer : Option Timer
  deriving DecidableEq, Repr

/-! ### Screen Controller (03) -/

/-- Screen states, in the order of R31. -/
inductive ScreenState where
  | unused
  | blank
  | linking
  | showing
  | dark
  | fault
  | standby
  | powering
  | off
  deriving DecidableEq, Repr

/-- What a selection message sets (03 §3.2). -/
inductive Selection where
  | input (v : InputId)
  | blank
  | standby
  | off
  deriving DecidableEq, Repr

/-- A screen record (R31), with the lock input as it stands at the pin and the last selection the matrix was sent (R33). -/
structure ScreenRec where
  state : ScreenState
  current : Option Head
  waiting : Option Head
  lockView : Bool
  linkTimer : Option Timer
  powerTimer : Option Timer
  lockPin : Bool
  selected : Option Selection
  deriving DecidableEq, Repr

structure SceneItem where
  screen : ScreenId
  source : Option Head
  deriving DecidableEq, Repr

/-- A stored scene (R50). -/
structure Scene where
  items : List SceneItem
  keyFocus : Option Computer
  wake : Bool
  deriving DecidableEq, Repr

/-- The in-flight scene record (R51). -/
structure InFlight where
  scene : SceneNo
  outstanding : ScreenSet
  incomplete : Bool
  superseded : Bool
  deriving DecidableEq, Repr

structure ScreenController where
  recs : Vector ScreenRec 8
  scenes : Vector (Option Scene) 16
  startScene : Option SceneNo
  inFlight : Option InFlight
  linkLimit : Nat
  powerValue : Nat
  powerScale : Nat
  deriving DecidableEq, Repr

/-! ### Pointer Engine (04) -/

/-- Where a pointer that is not parked is (R59). -/
structure Place where
  screen : ScreenId
  x : Nat
  y : Nat
  deriving DecidableEq, Repr

/-- The push record with its decay timer, which runs while the record exists (R68, R69). -/
structure Push where
  screen : ScreenId
  amount : Nat
  timer : Timer
  deriving DecidableEq, Repr

structure PointerEngine where
  place : Option Place
  focus : Option Computer
  rx : Int
  ry : Int
  lastInterval : Option Nat
  push : Option Push
  glideLock : Bool
  buttons : ButtonSet
  swallow : ButtonSet
  lastAbs : Vector (Nat × Nat) 6
  t1 : Nat
  t2 : Nat
  t3 : Nat
  g0 : Nat
  g1 : Nat
  g2 : Nat
  g3 : Nat
  barrier : Nat
  deriving DecidableEq, Repr

/-! ### Keyboard Engine (05) -/

/-- A held-key record (R93). -/
structure HeldKey where
  code : Nat
  pressed : Nat
  suppressed : Bool
  swallowed : Bool
  stuck : Bool
  deferred : Bool
  timer : Option Timer
  deriving DecidableEq, Repr

inductive DeskPortState where
  | absent
  | present
  | disabled
  deriving DecidableEq, Repr

structure DeskPortRec where
  state : DeskPortState
  attached : Bool
  lastReport : Option Nat
  deriving DecidableEq, Repr

/-- A key state: a modifier set and up to six distinct ordinary codes, in order (R96, R150). -/
structure KeyState where
  mods : ModSet
  keys : List Nat
  deriving DecidableEq, Repr

structure KeyboardEngine where
  focus : Computer
  held : List HeldKey
  lamps : Vector LampSet 6
  maps : Vector (List (Nat × Nat)) 4
  stuckLimit : Nat
  kbPort : DeskPortRec
  ptrPort : DeskPortRec
  shown : Option LampSet
  deriving DecidableEq, Repr

/-! ### Hotkey Matcher (06) -/

inductive Trigger where
  | chord (kinds : KindSet) (code : Nat)
  | one (k1 : Nat)
  | two (k1 k2 : Nat)
  | line (l : LineId) (active : Bool)
  deriving DecidableEq, Repr

inductive Action where
  | focus (c : Computer) (both : Bool)
  | cycle (previous : Bool)
  | momentary (c : Computer)
  | scene (n : SceneNo)
  | wake (c : Computer)
  | glideLock
  | deskStandby
  | report
  deriving DecidableEq, Repr

structure Hotkey where
  trigger : Trigger
  action : Action
  enabled : Bool
  deriving DecidableEq, Repr

inductive MatcherState where
  | idle
  | leaderDown
  | armed
  | second
  deriving DecidableEq, Repr

structure FirstKey where
  code : Nat
  held : Bool
  deriving DecidableEq, Repr

/-- The return slot (R114): the computer to return to, the entry number, a copy of its trigger. -/
structure ReturnSlot where
  computer : Computer
  entry : EntryNo
  trigger : Trigger
  deriving DecidableEq, Repr

structure Matcher where
  table : Vector (Option Hotkey) 32
  leader : Nat
  window : Nat
  state : MatcherState
  attempt : Option Nat
  first : Option FirstKey
  timer : Option Timer
  slot : Option ReturnSlot
  deriving DecidableEq, Repr

/-! ### Line Unit (07) -/

inductive LineMode where
  | off
  | input
  | output
  | dial
  deriving DecidableEq, Repr

inductive OutputSource where
  | manual (active : Bool)
  | keyFocus (c : Computer)
  | awake (c : Computer)
  | attention
  | deskActive
  deriving DecidableEq, Repr

/-- The configuration of a line (R134). -/
structure LineConfig where
  mode : LineMode
  activeLow : Bool
  filter : Nat
  wake : Bool
  report : Bool
  source : OutputSource
  counts : Nat
  deriving DecidableEq, Repr

/-- A line record (R134); `pin` is the level applied from outside, high or low. A level is `true` for ACTIVE. -/
structure LineRec where
  config : LineConfig
  pin : Bool
  filtered : Option Bool
  timer : Option Timer
  suppressed : Bool
  driven : Option Bool
  deriving DecidableEq, Repr

/-- The dial decoder (R143), `true` for ACTIVE. -/
structure Dial where
  a : Bool
  b : Bool
  count : Int
  deriving DecidableEq, Repr

structure LineUnit where
  recs : Vector LineRec 8
  dial : Option Dial
  deriving DecidableEq, Repr

/-! ### Port Unit (08) -/

inductive PortState where
  | detached
  | attached
  | attachedSuspended
  | configured
  | suspended
  deriving DecidableEq, Repr

/-- An entry of a hold queue (R150). -/
inductive Entry where
  | keyboard (k : KeyState)
  | pointer (x y : Nat) (buttons : ButtonSet) (wheel : Int)
  deriving DecidableEq, Repr

/-- A port record (R146). -/
structure Port where
  observed : PortState
  permission : Bool
  queue : List Entry
  keys : KeyState
  x : Nat
  y : Nat
  buttons : ButtonSet
  kbOwed : Bool
  ptrOwed : Bool
  deriving DecidableEq, Repr

/-! ### Power Manager (09, 10) -/

inductive PowerState where
  | absent
  | starting
  | awake
  | asleep
  | waking
  | unresponsive
  deriving DecidableEq, Repr

inductive Method where
  | link
  | line
  deriving DecidableEq, Repr

/-- A computer power record (R163), with the level of its wake line (R5). -/
structure PowerRec where
  state : PowerState
  attempt : Nat
  timer : Option Timer
  method : Option Method
  pulse : Option Timer
  armed : Bool
  wakeHigh : Bool
  deriving DecidableEq, Repr

inductive DeskState where
  | active
  | standby
  | off
  deriving DecidableEq, Repr

structure MotionWindow where
  sum : Nat
  timer : Timer
  deriving DecidableEq, Repr

/-- The desk power record (R177). The idle timer is the time at which it was last restarted, `none` while stopped. -/
structure Desk where
  state : DeskState
  idleStart : Option Nat
  window : Option MotionWindow
  standbyValue : Nat
  standbyScale : Nat
  offValue : Nat
  offScale : Nat
  deadZone : Nat
  resumeWake : Bool
  deriving DecidableEq, Repr

/-! ### Status Unit (11.3) -/

/-- The fifteen event kinds, in the order of R189. -/
inductive EventKind where
  | focusChanged
  | computerState
  | wakeFailed
  | keysDropped
  | stuckKey
  | hotkey
  | screenState
  | screenFault
  | sceneDone
  | syncChange
  | deskPort
  | lineEdge
  | deskPower
  | linkError
  | profileDone
  deriving DecidableEq, Repr

inductive DeskPortCause where
  | attach
  | detach
  | malformed
  deriving DecidableEq, Repr

inductive LinkFault where
  | gap
  | check
  | overrun
  deriving DecidableEq, Repr

inductive ProfileOutcome where
  | loaded
  | defaults
  | badImage
  | saved
  | saveFailed
  deriving DecidableEq, Repr

/-- A raise: a kind with its detail (R189). -/
inductive Event where
  | focusChanged (key : Computer) (pointer : Option Computer)
  | computerState (c : Computer)
  | wakeFailed (c : Computer)
  | keysDropped (c : Computer)
  | stuckKey (code : Nat)
  | hotkey (entry : EntryNo) (fired : Bool)
  | screenState (i : ScreenId)
  | screenFault (i : ScreenId)
  | sceneDone (n : SceneNo) (incomplete superseded : Bool)
  | syncChange (v : InputId)
  | deskPort (p : DeskPort) (cause : DeskPortCause)
  | lineEdge (l : LineId) (active : Bool)
  | deskPower (d : DeskState)
  | linkError (f : LinkFault)
  | profileDone (o : ProfileOutcome)
  deriving DecidableEq, Repr

/-- An event record (R189). -/
structure EventRec where
  isPending : Bool
  enabled : Bool
  detail : Option Event
  deriving DecidableEq, Repr

structure Status where
  events : Vector EventRec 15
  attention : Bool
  faultHolds : Bool
  wakeHolds : Bool
  deriving DecidableEq, Repr

/-! ### Link Interface and Profile Store (11) -/

inductive Assembly where
  | hunting
  | length
  | body
  | check
  deriving DecidableEq, Repr

/-- An item of the receive queue (R187). -/
inductive RxItem where
  | record (kind : Byte) (body : List Byte)
  | overrun (kind : Byte)
  | check
  deriving DecidableEq, Repr

/-- A reply: its kind, and its body, whose byte 0 is the result code (R188, R199). -/
structure ReplyFrame where
  kind : Byte
  body : List Byte
  deriving DecidableEq, Repr

structure Link where
  rateHigh : Bool
  assembly : Assembly
  length : Nat
  bytes : List Byte
  gapTimer : Option Timer
  queue : List RxItem
  replies : List ReplyFrame
  resetDue : Bool
  deriving DecidableEq, Repr

inductive StoreState where
  | loading
  | ready
  | saving
  deriving DecidableEq, Repr

/-- A save in progress: the image being written and the 1500 ms limit (R196). -/
structure Save where
  image : List Byte
  timer : Timer
  deriving DecidableEq, Repr

structure Profile where
  state : StoreState
  memory : List Host.Cell
  unreliable : Bool
  save : Option Save
  deriving DecidableEq, Repr

/-! ### What is handed on to the outside -/

/-- What a command hands on outside the part: matrix messages (R33), replies as the bytes of their frames (R187, R199), answers to
polls (R157, R158), resume signalling (R149), lamp writes to the desk keyboard as their one byte (R110, R202). -/
inductive Output where
  | matrix (i : ScreenId) (sel : Selection)
  | reply (frame : List Byte)
  | keyboardReport (c : Computer) (bytes : List Byte)
  | pointerReport (c : Computer) (bytes : List Byte)
  | noChange (c : Computer) (f : PortFunction)
  | resumeSignal (c : Computer)
  | deskLamps (report : Byte)
  deriving DecidableEq, Repr

/-- Everything the part holds. -/
structure State where
  now : Nat
  link : Link
  status : Status
  profile : Profile
  layout : Layout
  sync : Vector Channel 16
  screens : ScreenController
  pointer : PointerEngine
  keyboard : KeyboardEngine
  matcher : Matcher
  lines : LineUnit
  ports : Vector Port 6
  power : Vector PowerRec 6
  desk : Desk
  freeCount : Nat
  out : List Output
  pending : List Instr
  deriving DecidableEq, Repr

/-- The manual describes no machine fault, so no command faults: the type has no constructor. -/
inductive Fault where
  deriving DecidableEq, Repr

/-- Why a command is refused. -/
inductive Refusal where
  /-- Raised by an arm of `exec` whose command has no meaning yet. Safe: the model stops where the part goes on. -/
  | notModelled (mnemonic : String)
  deriving DecidableEq, Repr

/-! ### The machine right after a power-on reset -/

def ComputerEntry.reset : ComputerEntry :=
  { label := [], guarded := false, takeClickSwallow := false, holdDrop := false, inputWake := .once, wakeOnFocus := false,
    wakeLine := false, pulseWidth := 200, activeHigh := false, maxAttempts := 3, timeout := 8000, keymap := none, w := 1, h := 1 }

def Layout.reset : Layout :=
  { screens := Vector.replicate 8 none, computers := Vector.replicate 6 .reset,
    heads := Vector.replicate 6 (Vector.replicate 4 none), inputs := Vector.replicate 16 none }

def Channel.reset : Channel :=
  { state := .lost, running := false, lastEdge := none, window := [], average := none, lostTimer := none }

/-- R31; the lock pin at absent is a DESIGN CHOICE (log entry 6). -/
def ScreenRec.reset : ScreenRec :=
  { state := .unused, current := none, waiting := none, lockView := false, linkTimer := none, powerTimer := none,
    lockPin := false, selected := none }

def ScreenController.reset : ScreenController :=
  { recs := Vector.replicate 8 .reset, scenes := Vector.replicate 16 none, startScene := none, inFlight := none,
    linkLimit := 2000, powerValue := 5, powerScale := 2 }

def PointerEngine.reset : PointerEngine :=
  { place := none, focus := none, rx := 0, ry := 0, lastInterval := none, push := none, glideLock := false, buttons := 0,
    swallow := 0, lastAbs := Vector.replicate 6 (16384, 16384), t1 := 4, t2 := 12, t3 := 24, g0 := 16, g1 := 24, g2 := 40,
    g3 := 56, barrier := 16 }

def DeskPortRec.reset : DeskPortRec := { state := .absent, attached := false, lastReport := none }

def KeyState.empty : KeyState := { mods := 0, keys := [] }

def KeyboardEngine.reset : KeyboardEngine :=
  { focus := 0, held := [], lamps := Vector.replicate 6 0, maps := Vector.replicate 4 [], stuckLimit := 30, kbPort := .reset,
    ptrPort := .reset, shown := none }

def Matcher.reset : Matcher :=
  { table := Vector.replicate 32 none, leader := 71, window := 1500, state := .idle, attempt := none, first := none,
    timer := none, slot := none }

/-- The power-on configuration of a line (R134). -/
def LineConfig.reset : LineConfig :=
  { mode := .off, activeLow := false, filter := 10, wake := false, report := false, source := .manual false, counts := 4 }

/-- R134; the pin at low is a DESIGN CHOICE (log entry 6). -/
def LineRec.reset : LineRec :=
  { config := .reset, pin := false, filtered := none, timer := none, suppressed := false, driven := none }

def LineUnit.reset : LineUnit := { recs := Vector.replicate 8 .reset, dial := none }

def Port.reset : Port :=
  { observed := .detached, permission := false, queue := [], keys := .empty, x := 16384, y := 16384, buttons := 0,
    kbOwed := false, ptrOwed := false }

def PowerRec.reset : PowerRec :=
  { state := .absent, attempt := 0, timer := none, method := none, pulse := none, armed := true, wakeHigh := true }

/-- R177, at time `t`, the end of the reset. -/
def Desk.resetAt (t : Nat) : Desk :=
  { state := .active, idleStart := some t, window := none, standbyValue := 0, standbyScale := 0, offValue := 0, offScale := 0,
    deadZone := 8, resumeWake := false }

def EventRec.reset : EventRec := { isPending := false, enabled := false, detail := none }

def Status.reset : Status :=
  { events := Vector.replicate 15 .reset, attention := false, faultHolds := false, wakeHolds := false }

/-- R185, R187 after a power-on reset, with the rate the strap selected. -/
def Link.resetAt (rateHigh : Bool) : Link :=
  { rateHigh := rateHigh, assembly := .hunting, length := 0, bytes := [], gapTimer := none, queue := [], replies := [],
    resetDue := false }

/-- The Profile Store right after a power-on reset (R194), with the memory it finds. -/
def Profile.resetAt (memory : List Host.Cell) (unreliable : Bool) : Profile :=
  { state := .loading, memory := memory, unreliable := unreliable, save := none }

/-- The part right after a power-on reset with nothing attached to it: every field at the value its rule gives (INVENTORY.md).
The time base at 0, the RATE strap low, the pins low or absent and the memory erased are DESIGN CHOICES (log entries 6, 7). -/
def State.reset : State :=
  { now := 0, link := .resetAt false, status := .reset, profile := .resetAt [] false, layout := .reset,
    sync := Vector.replicate 16 .reset, screens := .reset, pointer := .reset, keyboard := .reset, matcher := .reset,
    lines := .reset, ports := Vector.replicate 6 .reset, power := Vector.replicate 6 .reset, desk := .resetAt 0, freeCount := 0,
    out := [], pending := [] }

end Sys2Proof.Machine
end

