-- ==== Sys2Proof/Machine/Ops.lean ====
section
/-!
DEFINITION. The named operations the other files are built from: the serial memory, the time base and timers, one read and one
write of each record of State, what a command hands on, and how a record is answered (BUSY step and reply).
-/
namespace Sys2Proof.Machine
open Sys2Proof

/-! ### The serial memory -/

/-- The serial memory as (address, byte) pairs, addresses strictly rising, no entry equal to the erased byte. -/
abbrev Memory := List Host.Cell

/-- The byte at an address; an address that is not listed reads as erased (log entry 7). -/
def Memory.read : Memory → Nat → Byte
  | [], _ => Config.erasedByte
  | (b, v) :: rest, a => if a = b then v else Memory.read rest a

/-- Writes one byte and keeps the canonical form. -/
def Memory.write : Memory → Nat → Byte → Memory
  | [], a, v => if v = Config.erasedByte then [] else [(a, v)]
  | (b, w) :: rest, a, v =>
    if a < b then (if v = Config.erasedByte then (b, w) :: rest else (a, v) :: (b, w) :: rest)
    else if a = b then (if v = Config.erasedByte then rest else (a, v) :: rest)
    else (b, w) :: Memory.write rest a v

/-- Writes bytes at rising addresses. -/
def Memory.writeAll (m : Memory) (a : Nat) : List Byte → Memory
  | [] => m
  | v :: rest => (m.write a v).writeAll (a + 1) rest

/-- `n` bytes from an address on. -/
def Memory.readMany (m : Memory) (a : Nat) : Nat → List Byte
  | 0 => []
  | n + 1 => m.read a :: m.readMany (a + 1) n

/-- Every address of the list lies above `lo`, they rise strictly, and no entry is erased. -/
def Memory.wfFrom : Option Nat → Memory → Bool
  | _, [] => true
  | lo, (a, v) :: rest => lo.all (· < a) && v != Config.erasedByte && Memory.wfFrom (some a) rest

/-- The canonical form of the memory. -/
def Memory.wf (m : Memory) : Bool := Memory.wfFrom none m

/-! ### Time -/

/-- When a timer expires. -/
def Timer.due (t : Timer) : Nat := t.start + t.limit

/-- The time left in whole ms, rounded down (log entry 20). -/
def Timer.leftMs (t : Timer) (now : Nat) : Nat := (t.due - now) / 1000

/-- A timer of `ms` milliseconds started now. -/
def State.timer (s : State) (ms : Nat) : Timer := ⟨s.now, ms * 1000⟩

/-- The time base reaches `t`, unless it has passed it (log entry 2). -/
def State.advanceTo (t : Nat) (s : State) : State := { s with now := max s.now t }

/-- The expiry of a timer comes when it is due (log entry 2). -/
def State.reach (t : Timer) (s : State) : State := s.advanceTo t.due

/-- Milliseconds since a time, saturating at 65535, which also stands for "no such time" (R88, R112). -/
def msSince (now : Nat) : Option Nat → Nat
  | none => 65535
  | some t => min ((now - t) / 1000) 65535

/-! ### Reads and writes of the records of State -/

def State.setLink (l : Link) (s : State) : State := { s with link := l }
def State.setStatus (x : Status) (s : State) : State := { s with status := x }
def State.setProfile (x : Profile) (s : State) : State := { s with profile := x }
def State.setLayout (x : Layout) (s : State) : State := { s with layout := x }
def State.setScreens (x : ScreenController) (s : State) : State := { s with screens := x }
def State.setPointer (x : PointerEngine) (s : State) : State := { s with pointer := x }
def State.setKeyboard (x : KeyboardEngine) (s : State) : State := { s with keyboard := x }
def State.setMatcher (x : Matcher) (s : State) : State := { s with matcher := x }
def State.setLines (x : LineUnit) (s : State) : State := { s with lines := x }
def State.setDesk (x : Desk) (s : State) : State := { s with desk := x }

def State.channel (s : State) (v : InputId) : Channel := s.sync[v]
def State.setChannel (v : InputId) (x : Channel) (s : State) : State := { s with sync := s.sync.set v x }

def State.screenRec (s : State) (i : ScreenId) : ScreenRec := s.screens.recs[i]
def State.setScreenRec (i : ScreenId) (x : ScreenRec) (s : State) : State :=
  s.setScreens { s.screens with recs := s.screens.recs.set i x }

def State.port (s : State) (c : Computer) : Port := s.ports[c]
def State.setPort (c : Computer) (x : Port) (s : State) : State := { s with ports := s.ports.set c x }

def State.powerRec (s : State) (c : Computer) : PowerRec := s.power[c]
def State.setPowerRec (c : Computer) (x : PowerRec) (s : State) : State := { s with power := s.power.set c x }

/-- The power state of a computer as the Power Manager holds it. -/
def State.powerState (s : State) (c : Computer) : PowerState := (s.powerRec c).state

def State.lineRec (s : State) (l : LineId) : LineRec := s.lines.recs[l]
def State.setLineRec (l : LineId) (x : LineRec) (s : State) : State :=
  s.setLines { s.lines with recs := s.lines.recs.set l x }

def State.computer (s : State) (c : Computer) : ComputerEntry := s.layout.computers[c]
def State.setComputerEntry (c : Computer) (x : ComputerEntry) (s : State) : State :=
  s.setLayout { s.layout with computers := s.layout.computers.set c x }

def State.screenRect (s : State) (i : ScreenId) : Option Rect := s.layout.screens[i]
def State.setScreenRect (i : ScreenId) (x : Option Rect) (s : State) : State :=
  s.setLayout { s.layout with screens := s.layout.screens.set i x }

def State.headEntry (s : State) (h : Head) : Option HeadEntry := s.layout.heads[h.computer][h.no]
def State.setHeadEntry (h : Head) (x : Option HeadEntry) (s : State) : State :=
  s.setLayout { s.layout with heads := s.layout.heads.set h.computer (s.layout.heads[h.computer].set h.no x) }

def State.binding (s : State) (v : InputId) : Option Head := s.layout.inputs[v]
def State.setBinding (v : InputId) (x : Option Head) (s : State) : State :=
  s.setLayout { s.layout with inputs := s.layout.inputs.set v x }

def State.setHeld (held : List HeldKey) (s : State) : State := s.setKeyboard { s.keyboard with held := held }

def State.setInFlight (x : Option InFlight) (s : State) : State := s.setScreens { s.screens with inFlight := x }

def State.setSlot (x : Option ReturnSlot) (s : State) : State := s.setMatcher { s.matcher with slot := x }

/-- Hands something on to the outside. -/
def State.emit (o : Output) (s : State) : State := { s with out := s.out ++ [o] }

/-- A command begins with nothing handed on (log entry 26). -/
def State.fresh (s : State) : State := { s with out := [] }

/-- With no command waiting, one tick of the 1 µs time base passes (DESIGN CHOICE, log entry 2). -/
def State.tick (s : State) : State := { s with now := s.now + 1, out := [] }

/-! ### Answering a record -/

/-- Result codes (R188), in the order of their codes (R199). -/
inductive Result where
  | ok
  | accepted
  | badCheck
  | badLength
  | unknownKind
  | outOfRange
  | conflict
  | full
  | notPresent
  | notFound
  | refusedPolicy
  | busy
  deriving DecidableEq, Repr

/-- The code of a result (R199). -/
def Result.code : Result → Byte
  | .ok => 0x00
  | .accepted => 0x01
  | .badCheck => 0x02
  | .badLength => 0x03
  | .unknownKind => 0x04
  | .outOfRange => 0x05
  | .conflict => 0x06
  | .full => 0x07
  | .notPresent => 0x08
  | .notFound => 0x09
  | .refusedPolicy => 0x0A
  | .busy => 0x0B

/-- A result with the values it returns (R188). -/
structure Reply where
  result : Result
  body : List Byte
  deriving DecidableEq, Repr

/-- The state a record leaves, and its reply. -/
abbrev Handled := State × Reply

/-- What a record's owner answers once the BUSY step is past: a refusal, which changes nothing, or the record dealt with. -/
abbrev Judged := Except Result Handled

def ok (s : State) (body : List Byte := []) : Judged := .ok (s, ⟨.ok, body⟩)
def accepted (s : State) : Judged := .ok (s, ⟨.accepted, []⟩)

/-- A refused record leaves every block's state as it was and its reply carries the result alone (R1, R188). -/
def conclude (s : State) : Judged → Handled
  | .ok h => h
  | .error r => (s, ⟨r, []⟩)

/-- The BUSY step of a record that is refused only while LOADING (R194). -/
def whenLoaded (f : State → Judged) (s : State) : Handled :=
  if s.profile.state = .loading then (s, ⟨.busy, []⟩) else conclude s (f s)

/-- The BUSY step of a configuration record, refused while LOADING or SAVING (R194). -/
def whenReady (f : State → Judged) (s : State) : Handled :=
  if s.profile.state = .ready then conclude s (f s) else (s, ⟨.busy, []⟩)

/-- A record served in every state of the Profile Store (R194). -/
def always (f : State → Judged) (s : State) : Handled := conclude s (f s)

/-- The byte that brings the sum of the bytes and itself to 0 modulo 256 (R199). -/
def checkByte (bytes : List Byte) : Byte := -bytes.foldl (· + ·) 0

/-- A frame on the link: the start byte, the length of kind and body, the kind, the body, the check byte (R199). -/
def frameBytes (kind : Byte) (body : List Byte) : List Byte :=
  let counted := BitVec.ofNat 8 (body.length + 1) :: kind :: body
  0xC5 :: (counted ++ [checkByte counted])

/-- A reply as the bytes that leave on the link (R199). -/
def ReplyFrame.bytes (f : ReplyFrame) : List Byte := frameBytes f.kind f.body

/-- A reply frame begins to leave (R187, R188, R199). -/
def State.sendFrame (f : ReplyFrame) (s : State) : State :=
  (s.setLink { s.link with replies := s.link.replies ++ [f] }).emit (.reply f.bytes)

/-- The reply to a record of kind `kind`: kind plus 0x80, the result, the values (R188, R199). -/
def State.sendReply (kind : Nat) (r : Reply) (s : State) : State :=
  s.sendFrame ⟨BitVec.ofNat 8 (kind + 0x80), r.result.code :: r.body⟩

/-- A record command: the record is taken, dealt with by its owner and its reply begins to leave (log entry 1). -/
def answerRecord (kind : Nat) (f : State → Handled) (s : State) : Host.Outcome State Fault Refusal :=
  .next ((f s.fresh).1.sendReply kind (f s.fresh).2)

/-- An event command: it has its effect and a next state. -/
def onEvent (f : State → State) (s : State) : Host.Outcome State Fault Refusal := .next (f s.fresh)

end Sys2Proof.Machine
end

