-- ==== Sys2Proof/Machine/Flags.lean ====
section
/-!
DEFINITION. The flags of the part: the Status Unit's event flags and the attention line (R189, R190, R192), the level of each
output line that follows them and other state (R141), and the level conditions.
-/
namespace Sys2Proof.Machine
open Sys2Proof

/-! ### Outputs that follow state -/

/-- The level a source gives (R141); for MANUAL the configured level. -/
def sourceLevel (s : State) : OutputSource → Bool
  | .manual level => level
  | .keyFocus c => s.keyboard.focus == c
  | .awake c => s.powerState c == .awake
  | .attention => s.status.attention
  | .deskActive => s.desk.state == .active

/-- Whether a source is the part's own state, and not MANUAL. -/
def OutputSource.follows : OutputSource → Bool
  | .manual _ => false
  | _ => true

/-- The record of a line whose owner reports a change (R141). -/
def LineRec.follow (s : State) (r : LineRec) : LineRec :=
  if r.config.mode = .output ∧ r.config.source.follows then { r with driven := some (sourceLevel s r.config.source) } else r

/-- Each OUTPUT line takes the level its source gives now (R141). A line whose source did not change keeps its level. -/
def followOutputs (s : State) : State :=
  s.setLines { s.lines with recs := Vector.ofFn fun l => (s.lineRec l).follow s }

/-! ### Event records -/

/-- The kind of an event (R189). -/
def Event.kind : Event → EventKind
  | .focusChanged _ _ => .focusChanged
  | .computerState _ => .computerState
  | .wakeFailed _ => .wakeFailed
  | .keysDropped _ => .keysDropped
  | .stuckKey _ => .stuckKey
  | .hotkey _ _ => .hotkey
  | .screenState _ => .screenState
  | .screenFault _ => .screenFault
  | .sceneDone _ _ _ => .sceneDone
  | .syncChange _ => .syncChange
  | .deskPort _ _ => .deskPort
  | .lineEdge _ _ => .lineEdge
  | .deskPower _ => .deskPower
  | .linkError _ => .linkError
  | .profileDone _ => .profileDone

/-- The row of a kind in the table of R189, counted from 0 (R200). -/
def EventKind.row : EventKind → Fin 15
  | .focusChanged => 0
  | .computerState => 1
  | .wakeFailed => 2
  | .keysDropped => 3
  | .stuckKey => 4
  | .hotkey => 5
  | .screenState => 6
  | .screenFault => 7
  | .sceneDone => 8
  | .syncChange => 9
  | .deskPort => 10
  | .lineEdge => 11
  | .deskPower => 12
  | .linkError => 13
  | .profileDone => 14

/-- All kinds, in the order of R189. -/
def allKinds : List EventKind :=
  [.focusChanged, .computerState, .wakeFailed, .keysDropped, .stuckKey, .hotkey, .screenState, .screenFault, .sceneDone,
   .syncChange, .deskPort, .lineEdge, .deskPower, .linkError, .profileDone]

def State.event (s : State) (k : EventKind) : EventRec := s.status.events[k.row]

def State.setEvent (k : EventKind) (x : EventRec) (s : State) : State :=
  s.setStatus { s.status with events := s.status.events.set k.row x }

/-- At least one kind is both pending and enabled (R190). -/
def State.wantsAttention (s : State) : Bool := allKinds.any fun k => (s.event k).isPending && (s.event k).enabled

/-- The attention line is judged again, and a change is reported to the Line Unit (R190). -/
def judgeAttention (s : State) : State :=
  if s.status.attention = s.wantsAttention then s
  else followOutputs (s.setStatus { s.status with attention := s.wantsAttention })

/-- A raise sets the pending flag, whatever the enable flag, and replaces the latest detail (R189). -/
def raise (e : Event) (s : State) : State :=
  judgeAttention (s.setEvent e.kind { s.event e.kind with isPending := true, detail := some e })

/-- The condition of a level kind, as its owner last reported it; an occurrence kind has none (R189). -/
def State.levelHolds (s : State) : EventKind → Bool
  | .wakeFailed => s.status.wakeHolds
  | .screenFault => s.status.faultHolds
  | _ => false

/-- One kind is cleared, unless it is a level kind whose condition holds (R192, R197). -/
def clearKind (k : EventKind) (s : State) : State :=
  if s.levelHolds k then s else s.setEvent k { s.event k with isPending := false, detail := none }

/-- The named kinds are cleared and the attention line is judged again (R192). -/
def clearKinds (ks : List EventKind) (s : State) : State := judgeAttention (ks.foldl (fun s k => clearKind k s) s)

/-- The enable set is replaced and the attention line is judged again (R191). -/
def enableKinds (set : Nat) (s : State) : State :=
  judgeAttention (allKinds.foldl (fun s k => s.setEvent k { s.event k with enabled := set.testBit k.row }) s)

/-- The Screen Controller reports whether some screen is in FAULT (R189). -/
def reportFault (s : State) : State :=
  s.setStatus { s.status with faultHolds := allScreens.any fun i => (s.screenRec i).state == .fault }

/-- The Power Manager reports whether some computer is UNRESPONSIVE (R189). -/
def reportWake (s : State) : State :=
  s.setStatus { s.status with wakeHolds := allComputers.any fun c => s.powerState c == .unresponsive }

/-! ### Event sets and details as bytes (R200) -/

/-- The kinds for which `p` holds, as the two-byte set of R200. -/
def eventSet (p : EventKind → Bool) : Nat := (allKinds.map fun k => if p k then 2 ^ k.row.val else 0).sum

def State.pendingSet (s : State) : Nat := eventSet fun k => (s.event k).isPending
def State.enableSet (s : State) : Nat := eventSet fun k => (s.event k).enabled

/-- The kinds a two-byte set names. -/
def kindsOf (n : Nat) : List EventKind := allKinds.filter fun k => n.testBit k.row

end Sys2Proof.Machine
end

