-- ==== Sys2Proof/Machine/Operands.lean ====
section
/-!
DEFINITION. Every operand form and every coding of spec/12_record_layouts.md: numbers and identifiers as bytes (R198), the range
step of each record's fields (R198, R201, R204), the entries as bytes for replies and for the profile image, and the reports
of the computer ports (R202).
-/
namespace Sys2Proof.Machine
open Sys2Proof

/-! ### Field forms (R198) -/

def byte (n : Nat) : Byte := BitVec.ofNat 8 n

/-- Most significant byte first. -/
def word (n : Nat) : List Byte := [byte (n / 256), byte n]

/-- Least significant byte first, at the computer ports only (R202). -/
def wordLow (n : Nat) : List Byte := [byte n, byte (n / 256)]

/-- A signed byte, two's complement. -/
def signed (n : Int) : Byte := BitVec.ofInt 8 n

def flag (b : Bool) : Byte := if b then 1 else 0

/-- An identifier that may be absent, 0xFF. -/
def optId {n : Nat} : Option (Fin n) → Byte
  | none => 0xFF
  | some i => byte i

/-- A source as two bytes, computer then head, NONE as 0xFF, 0xFF. -/
def sourceBytes : Option Head → List Byte
  | none => [0xFF, 0xFF]
  | some h => [byte h.computer, byte h.no]

/-- A yes/no field, a level or an edge. -/
def yesNo? : Nat → Option Bool
  | 0 => some false
  | 1 => some true
  | _ => none

/-- An identifier that may be absent: 0xFF, or a member. -/
def optFin? (n k : Nat) : Option (Option (Fin n)) :=
  if k = 255 then some none else (fin? n k).map some

def head? (c h : Nat) : Option Head := do
  let c ← fin? 6 c
  let h ← fin? 4 h
  pure ⟨c, h⟩

/-- A source that may be NONE. -/
def source? (c h : Nat) : Option (Option Head) :=
  if c = 255 ∧ h = 255 then some none else (head? c h).map some

/-- An ordinary key code, 2–223 (00 §0.8). -/
def ordinary (k : Nat) : Bool := decide (2 ≤ k) && decide (k ≤ 223)

def ordinary? (k : Nat) : Option Nat := if ordinary k then some k else none

/-- A modifier code, 224–231. -/
def isModifier (k : Nat) : Bool := decide (224 ≤ k) && decide (k ≤ 231)

/-- The bit of a modifier code in a modifier set. -/
def modBit (k : Nat) : ModSet := (1 : BitVec 8) <<< (k - 224)

/-- The kind of a modifier code: a key of either side satisfies its kind (00 §0.8). -/
def kindBit (k : Nat) : KindSet := (1 : BitVec 4) <<< ((k - 224) % 4)

/-! ### Layout entries (R201) -/

def rectBytes (r : Rect) : List Byte := word r.x ++ word r.y ++ word r.w ++ word r.h

def Rect.zero : Rect := ⟨0, 0, 0, 0⟩

/-- A screen entry in the form of SET_SCREEN without the screen; an unconfigured one holds 0 (R2). -/
def screenBytes (e : Option Rect) : List Byte := flag e.isSome :: rectBytes (e.getD .zero)

/-- A head entry in the form of SET_HEAD without its identifiers; an undefined one holds 0 (R8). -/
def headBytes : Option HeadEntry → List Byte
  | none => flag false :: flag false :: 0 :: rectBytes .zero
  | some e => flag true :: flag e.isPrivate :: e.allowed :: rectBytes e.rect

def InputWake.code : InputWake → Byte
  | .off => 0
  | .once => 1
  | .always => 2

def inputWake? : Nat → Option InputWake
  | 0 => some .off
  | 1 => some .once
  | 2 => some .always
  | _ => none

/-- The flags byte of SET_COMPUTER (R201). -/
def ComputerEntry.flags (e : ComputerEntry) : Byte :=
  flag e.guarded ||| flag e.takeClickSwallow <<< 1 ||| flag e.holdDrop <<< 2 ||| flag e.wakeOnFocus <<< 3
    ||| flag e.wakeLine <<< 4 ||| flag e.activeHigh <<< 5

/-- The label's length and twelve bytes, padded with 0. -/
def labelBytes (label : List Nat) : List Byte :=
  byte label.length :: (label.map byte ++ List.replicate (12 - label.length) 0)

/-- A computer entry in the form of SET_COMPUTER without the computer. -/
def computerBytes (e : ComputerEntry) : List Byte :=
  e.flags :: e.inputWake.code :: (word e.pulseWidth ++ byte e.maxAttempts :: (word e.timeout ++ optId e.keymap ::
    (word e.w ++ word e.h ++ labelBytes e.label)))

/-- The range step of SET_COMPUTER (R6, R198): every field in its range, the pad of the label 0, the spare flag bits 0. -/
def ComputerEntry.ofRaw (r : RawComputer) : Option ComputerEntry := do
  let mode ← inputWake? r.inputWake
  let keymap ← optFin? 4 r.keymap
  if r.flags < 64 ∧ 50 ≤ r.pulseWidth ∧ r.pulseWidth ≤ 2000 ∧ 1 ≤ r.maxAttempts ∧ r.maxAttempts ≤ 5
      ∧ 1000 ≤ r.timeout ∧ r.timeout ≤ 30000 ∧ 1 ≤ r.w ∧ r.w ≤ 16384 ∧ 1 ≤ r.h ∧ r.h ≤ 16384 ∧ r.labelLength ≤ 12
      ∧ (r.label.take r.labelLength).all (fun ch => decide (0x20 ≤ ch) && decide (ch ≤ 0x7E))
      ∧ (r.label.drop r.labelLength).all (· == 0) then
    pure { label := r.label.take r.labelLength, guarded := r.flags.testBit 0, takeClickSwallow := r.flags.testBit 1,
           holdDrop := r.flags.testBit 2, inputWake := mode, wakeOnFocus := r.flags.testBit 3,
           wakeLine := r.flags.testBit 4, pulseWidth := r.pulseWidth, activeHigh := r.flags.testBit 5,
           maxAttempts := r.maxAttempts, timeout := r.timeout, keymap := keymap, w := r.w, h := r.h }
  else none

/-! ### Scenes (R201) -/

/-- The range step of one scene item. -/
def SceneItem.ofRaw (r : RawItem) : Option SceneItem := do
  let i ← fin? 8 r.screen
  let src ← source? r.computer r.head
  pure ⟨i, src⟩

def itemBytes (i : SceneItem) : List Byte := byte i.screen :: sourceBytes i.source

/-- A scene in the form of STORE_SCENE; an empty entry has item count 0, key focus 0xFF and wake flag 0 (R204). -/
def sceneBytes (n : SceneNo) : Option Scene → List Byte
  | none => [byte n, 0, 0xFF, 0]
  | some sc => byte n :: byte sc.items.length :: optId sc.keyFocus :: flag sc.wake :: sc.items.flatMap itemBytes

/-! ### Hotkeys (R115, R201) -/

/-- The range step of a trigger's four bytes. -/
def Trigger.ofRaw (kind a b c : Nat) : Option Trigger :=
  match kind with
  | 1 => if a < 16 ∧ ordinary b ∧ c = 0 then some (.chord (BitVec.ofNat 4 a) b) else none
  | 2 =>
    if a = 1 ∧ ordinary b ∧ c = 0 then some (.one b)
    else if a = 2 ∧ ordinary b ∧ ordinary c then some (.two b c) else none
  | 3 => if c = 0 then (do let l ← fin? 8 a; let e ← yesNo? b; pure (.line l e)) else none
  | _ => none

/-- The range step of an action's three bytes. -/
def Action.ofRaw (kind a b : Nat) : Option Action :=
  match kind with
  | 1 => do let c ← fin? 6 a; let both ← yesNo? b; pure (.focus c both)
  | 2 => if b = 0 then (yesNo? a).map .cycle else none
  | 3 => if b = 0 then (fin? 6 a).map .momentary else none
  | 4 => if b = 0 then (fin? 16 a).map .scene else none
  | 5 => if b = 0 then (fin? 6 a).map .wake else none
  | 6 => if a = 0 ∧ b = 0 then some .glideLock else none
  | 7 => if a = 0 ∧ b = 0 then some .deskStandby else none
  | 8 => if a = 0 ∧ b = 0 then some .report else none
  | _ => none

def Hotkey.ofRaw (r : RawHotkey) : Option Hotkey := do
  let t ← Trigger.ofRaw r.trigger r.t1 r.t2 r.t3
  let a ← Action.ofRaw r.action r.a1 r.a2
  let e ← yesNo? r.enabled
  pure ⟨t, a, e⟩

def triggerBytes : Trigger → List Byte
  | .chord kinds code => [1, byte kinds.toNat, byte code, 0]
  | .one k => [2, 1, byte k, 0]
  | .two k1 k2 => [2, 2, byte k1, byte k2]
  | .line l active => [3, byte l, flag active, 0]

def actionBytes : Action → List Byte
  | .focus c both => [1, byte c, flag both]
  | .cycle previous => [2, flag previous, 0]
  | .momentary c => [3, byte c, 0]
  | .scene n => [4, byte n, 0]
  | .wake c => [5, byte c, 0]
  | .glideLock => [6, 0, 0]
  | .deskStandby => [7, 0, 0]
  | .report => [8, 0, 0]

def hotkeyBytes (h : Hotkey) : List Byte := triggerBytes h.trigger ++ actionBytes h.action ++ [flag h.enabled]

/-! ### Lines (R135, R204) -/

def LineMode.code : LineMode → Byte
  | .off => 0
  | .input => 1
  | .output => 2
  | .dial => 3

/-- An output source's kind and argument; the argument is 0 where there is none. -/
def OutputSource.ofRaw (kind arg : Nat) : Option OutputSource :=
  match kind with
  | 0 => (yesNo? arg).map .manual
  | 1 => (fin? 6 arg).map .keyFocus
  | 2 => (fin? 6 arg).map .awake
  | 3 => if arg = 0 then some .attention else none
  | 4 => if arg = 0 then some .deskActive else none
  | _ => none

def outputBytes : OutputSource → List Byte
  | .manual level => [0, flag level]
  | .keyFocus c => [1, byte c]
  | .awake c => [2, byte c]
  | .attention => [3, 0]
  | .deskActive => [4, 0]

/-- The range step of SET_LINE (R135): only the fields the mode uses are examined, and the others are stored at their power-on
values. DIAL is for L6 and L7 alone. -/
def LineConfig.ofRaw (l : LineId) (r : RawLine) : Option LineConfig := do
  let low ← yesNo? r.polarity
  match r.mode with
  | 0 => pure { LineConfig.reset with mode := .off, activeLow := low }
  | 1 =>
    let wake ← yesNo? r.wake
    let report ← yesNo? r.report
    if r.filter < 256 then
      pure { LineConfig.reset with mode := .input, activeLow := low, filter := r.filter, wake := wake, report := report }
    else none
  | 2 =>
    let source ← OutputSource.ofRaw r.sourceKind r.sourceArg
    pure { LineConfig.reset with mode := .output, activeLow := low, source := source }
  | 3 =>
    if (l = 6 ∨ l = 7) ∧ r.filter < 256 ∧ (r.counts = 1 ∨ r.counts = 2 ∨ r.counts = 4) then
      pure { LineConfig.reset with mode := .dial, activeLow := low, filter := r.filter, counts := r.counts }
    else none
  | _ => none

/-- A line's configuration in the form of SET_LINE without the line. -/
def lineConfigBytes (c : LineConfig) : List Byte :=
  [c.mode.code, flag c.activeLow, byte c.filter, flag c.wake, flag c.report] ++ outputBytes c.source ++ [byte c.counts]

/-! ### States as bytes, each coded in the order the manual lists its values (R198) -/

def ChannelState.code : ChannelState → Byte
  | .lost => 0
  | .acquiring => 1
  | .alive => 2

def ScreenState.code : ScreenState → Byte
  | .unused => 0
  | .blank => 1
  | .linking => 2
  | .showing => 3
  | .dark => 4
  | .fault => 5
  | .standby => 6
  | .powering => 7
  | .off => 8

def DeskPortState.code : DeskPortState → Byte
  | .absent => 0
  | .present => 1
  | .disabled => 2

def MatcherState.code : MatcherState → Byte
  | .idle => 0
  | .leaderDown => 1
  | .armed => 2
  | .second => 3

def PortState.code : PortState → Byte
  | .detached => 0
  | .attached => 1
  | .attachedSuspended => 2
  | .configured => 3
  | .suspended => 4

def PowerState.code : PowerState → Byte
  | .absent => 0
  | .starting => 1
  | .awake => 2
  | .asleep => 3
  | .waking => 4
  | .unresponsive => 5

/-- The attempt method: none, LINK, LINE (R163; log entry 22). -/
def methodCode : Option Method → Byte
  | none => 0
  | some .link => 1
  | some .line => 2

def DeskState.code : DeskState → Byte
  | .active => 0
  | .standby => 1
  | .off => 2

def StoreState.code : StoreState → Byte
  | .loading => 0
  | .ready => 1
  | .saving => 2

/-- The reported rate in hundredths of a hertz (R28). -/
def reportedRate (average : Nat) : Nat := (100000000 + average / 2) / average

/-- A channel state as four bytes: state, count, reported rate or 0xFFFF (R201). -/
def channelBytes (c : Channel) : List Byte :=
  c.state.code :: byte c.window.length :: word ((c.average.map reportedRate).getD 65535)

/-- The detail of an event (R200). -/
def detailBytes : Event → List Byte
  | .focusChanged key ptr => [byte key, optId ptr]
  | .computerState c => [byte c]
  | .wakeFailed c => [byte c]
  | .keysDropped c => [byte c]
  | .stuckKey code => [byte code]
  | .hotkey n fired => [byte n, flag (!fired)]
  | .screenState i => [byte i]
  | .screenFault i => [byte i]
  | .sceneDone n inc sup => [byte n, flag inc ||| flag sup <<< 1]
  | .syncChange v => [byte v]
  | .deskPort p cause =>
      [match p with | .keyboard => 0 | .pointer => 1,
       match cause with | .attach => 0 | .detach => 1 | .malformed => 2]
  | .lineEdge l active => [byte l, flag active]
  | .deskPower d => [d.code]
  | .linkError f => [match f with | .gap => 0 | .check => 1 | .overrun => 2]
  | .profileDone o => [match o with | .loaded => 0 | .defaults => 1 | .badImage => 2 | .saved => 3 | .saveFailed => 4]

/-! ### Reports at the computer ports (R202) -/

/-- A key state as the seven bytes of the keyboard function report. -/
def keyStateBytes (k : KeyState) : List Byte :=
  k.mods :: ((k.keys.take 6).map byte ++ List.replicate (6 - k.keys.length) 0)

def buttonByte (b : ButtonSet) : Byte := b.setWidth 8

/-- The six bytes of the pointer function report. -/
def pointerBytes (x y : Nat) (buttons : ButtonSet) (wheel : Int) : List Byte :=
  buttonByte buttons :: (wordLow x ++ wordLow y ++ [signed wheel])

end Sys2Proof.Machine
end

