-- ==== Sys2Proof/Machine/Held.lean ====
section
/-!
DEFINITION. Key states and hold queues as data (R96, R150), the desk held set's marks (R93), the desk keyboard's lamps (R110), and
the emptying of a computer's port with the notices it makes (R105, R148, R160).
-/
namespace Sys2Proof.Machine
open Sys2Proof

/-! ### Key states -/

/-- Every modifier and code of `a` is in `b`. -/
def KeyState.sub (a b : KeyState) : Bool := subBits a.mods b.mods && a.keys.all (b.keys.contains ·)

/-- The same modifiers and the same codes (log entry 12). -/
def KeyState.same (a b : KeyState) : Bool := a.sub b && b.sub a

def KeyState.isEmpty (a : KeyState) : Bool := a.mods == 0 && a.keys.isEmpty

/-! ### Committed states (R150) -/

def Entry.keys? : Entry → Option KeyState
  | .keyboard k => some k
  | .pointer .. => none

def Entry.isPointer : Entry → Bool
  | .keyboard _ => false
  | .pointer .. => true

/-- Position and buttons of a pointer entry. -/
def Entry.pointer? : Entry → Option (Nat × Nat × ButtonSet)
  | .keyboard _ => none
  | .pointer x y b _ => some (x, y, b)

/-- The key state of the newest keyboard entry, or the presented key state. -/
def Port.committedKeys (p : Port) : KeyState := (p.queue.reverse.findSome? Entry.keys?).getD p.keys

/-- Position and buttons of the newest pointer entry, or of the presented pointer state. -/
def Port.committedPointer (p : Port) : Nat × Nat × ButtonSet :=
  (p.queue.reverse.findSome? Entry.pointer?).getD (p.x, p.y, p.buttons)

def Port.committedButtons (p : Port) : ButtonSet := p.committedPointer.2.2

def State.committedKeys (s : State) (c : Computer) : KeyState := (s.port c).committedKeys
def State.committedButtons (s : State) (c : Computer) : ButtonSet := (s.port c).committedButtons

/-! ### The desk held set (R93) -/

/-- None of the four flags is set. -/
def HeldKey.delivering (k : HeldKey) : Bool := !(k.suppressed || k.swallowed || k.stuck || k.deferred)

/-- A record that gains a flag stops its stuck timer (R107). -/
def HeldKey.suppress (k : HeldKey) : HeldKey := { k with suppressed := true, timer := none }
def HeldKey.swallow (k : HeldKey) : HeldKey := { k with swallowed := true, timer := none }
def HeldKey.markStuck (k : HeldKey) : HeldKey := { k with stuck := true, timer := none }
def HeldKey.defer (k : HeldKey) : HeldKey := { k with deferred := true, timer := none }

/-- Every record that `p` picks is changed by `f`. -/
def markHeld (p : HeldKey → Bool) (f : HeldKey → HeldKey) (s : State) : State :=
  s.setHeld (s.keyboard.held.map fun k => if p k then f k else k)

/-- The record of a code, if it is held. -/
def State.heldKey (s : State) (code : Nat) : Option HeldKey := s.keyboard.held.find? (·.code == code)

def markCode (code : Nat) (f : HeldKey → HeldKey) (s : State) : State := markHeld (·.code == code) f s

/-! ### Lamps (R110, R111) -/

/-- A lamp set as the one byte of a lamp write: bits 0 to 4, and 0 in the other three (R202). -/
def lampByte (lamps : LampSet) : Byte := lamps.setWidth 8

/-- The key-focus computer's lamp state is written to the desk keyboard, if the port is PRESENT. -/
def showLamps (s : State) : State :=
  if s.keyboard.kbPort.state = .present then
    (s.setKeyboard { s.keyboard with shown := some s.keyboard.lamps[s.keyboard.focus] }).emit
      (.deskLamps (lampByte s.keyboard.lamps[s.keyboard.focus]))
  else s

/-- A computer's lamp state is replaced, and shown when it holds key focus. -/
def setLamps (c : Computer) (lamps : LampSet) (s : State) : State :=
  let s := s.setKeyboard { s.keyboard with lamps := s.keyboard.lamps.set c lamps }
  if s.keyboard.focus = c then showLamps s else s

/-! ### Emptying a port -/

/-- The Port Unit tells the Keyboard Engine that it emptied a queue: when the computer holds key focus, every delivering record is
suppressed (R105). -/
def queueEmptied (c : Computer) (s : State) : State :=
  if s.keyboard.focus = c then markHeld HeldKey.delivering HeldKey.suppress s else s

/-- The queue of a computer that becomes UNRESPONSIVE is discarded: no key and no button stays presented, and what changed is owed
(R160). -/
def Port.discard (p : Port) : Port :=
  { p with queue := [], keys := .empty, kbOwed := p.kbOwed || !p.keys.isEmpty, buttons := 0,
           ptrOwed := p.ptrOwed || p.buttons != 0 }

def discardQueue (c : Computer) (s : State) : State := queueEmptied c (s.setPort c (s.port c).discard)

/-- A detach, a bus reset and a deselected configuration clear the port record (R148 steps 1–5). -/
def Port.clear (p : Port) (observed : PortState) : Port :=
  { p with queue := [], keys := .empty, x := 16384, y := 16384, buttons := 0, kbOwed := false, ptrOwed := false,
           permission := false, observed := observed }

end Sys2Proof.Machine
end

