-- ==== Sys2Proof/Machine/Wake.lean ====
section
/-!
DEFINITION. The computers' power states and wakes (spec/09_computer_power_and_wake.md): requests, attempts, pulses, the failure of
a wake, input notices, and the port observations.
-/
namespace Sys2Proof.Machine
open Sys2Proof

/-- The resting level of a wake line, `true` for high: the inactive level of its polarity (R5). -/
def ComputerEntry.restHigh (e : ComputerEntry) : Bool := !e.activeHigh

/-- A computer's power state, with what follows it: the level condition (R189) and the AWAKE outputs (R141). -/
def setPowerState (c : Computer) (st : PowerState) (s : State) : State :=
  followOutputs (reportWake (s.setPowerRec c { s.powerRec c with state := st }))

/-- A change of power state raises COMPUTER_STATE (R165). -/
def changePower (c : Computer) (st : PowerState) (s : State) : State := raise (.computerState c) (setPowerState c st s)

/-- Attempt number 0, timer stopped, method none (R163). -/
def PowerRec.noAttempt (r : PowerRec) : PowerRec := { r with attempt := 0, timer := none, method := none }

/-- The pulse ends and the wake line returns to its resting level (R169). -/
def endPulse (c : Computer) (s : State) : State :=
  s.setPowerRec c { s.powerRec c with pulse := none, wakeHigh := (s.computer c).restHigh }

/-- The end of a wake (R164): no attempt, and a running pulse ends at once. -/
def endWake (c : Computer) (s : State) : State := endPulse c (s.setPowerRec c (s.powerRec c).noAttempt)

/-- A computer goes to UNRESPONSIVE (R170): state, discard of its queue, then WAKE_FAILED and COMPUTER_STATE. -/
def enterUnresponsive (c : Computer) (s : State) : State :=
  raise (.computerState c) (raise (.wakeFailed c) (discardQueue c
    (setPowerState c .unresponsive (s.setPowerRec c (s.powerRec c).noAttempt))))

/-- A computer has a wake method while its remote-wake permission is yes or its wake line is enabled (R166). -/
def State.hasMethod (s : State) (c : Computer) : Bool := (s.port c).permission || (s.computer c).wakeLine

/-- The method of attempt `k` (R167). -/
def attemptMethod (s : State) (c : Computer) (k : Nat) : Option Method :=
  if k = (s.computer c).maxAttempts ∧ (s.computer c).wakeLine then some .line
  else if (s.port c).permission then some .link
  else if (s.computer c).wakeLine then some .line
  else none

/-- R171: a port observation of a computer comes together with the command being taken: the act on the bus that ends SUSPENDED is the
next command waiting, so the port has left SUSPENDED while the Power Manager has not yet taken the observation. That "together" is
the very next command is the model's choice (DESIGN CHOICE, log entry 39). -/
def State.leftSuspended (s : State) (c : Computer) : Bool :=
  decide (s.pending.head? ∈ [some (Instr.busActivity c), some (.busReset c), some (.busPowerDisappears c)])

/-- The Port Unit takes a link-wake request (R149): resume signalling if the port is SUSPENDED, and has not `left` that state
(R171), with the permission yes; else the request is dropped. -/
def linkWake (left : Bool) (c : Computer) (s : State) : State :=
  if left = false ∧ (s.port c).observed = .suspended ∧ (s.port c).permission then s.emit (.resumeSignal c) else s

/-- A LINE attempt starts a pulse when the pulse is idle (R169). -/
def startPulse (c : Computer) (s : State) : State :=
  if (s.powerRec c).pulse.isSome then s
  else s.setPowerRec c { s.powerRec c with pulse := some (s.timer (s.computer c).pulseWidth), wakeHigh := (s.computer c).activeHigh }

/-- An attempt's signal by its method (R168, R169). -/
def signalWake (m : Method) (left : Bool) (c : Computer) (s : State) : State :=
  match m with
  | .link => linkWake left c s
  | .line => startPulse c s

/-- Attempt `k` starts (R167): the method, the number, the timer, then the signal; without a method the wake fails. `left` says that
the port has left SUSPENDED meanwhile (R171). -/
def startAttempt (left : Bool) (c : Computer) (k : Nat) (s : State) : State :=
  match attemptMethod s c k with
  | none => enterUnresponsive c s
  | some m =>
    signalWake m left c (s.setPowerRec c
      { s.powerRec c with attempt := k, method := some m, timer := some (s.timer (s.computer c).timeout) })

/-- A wake request is taken by the computer's power state (R166). Its first attempt finds the port as it stands: a request taken
before a resume is signalled (R149). -/
def wakeRequest (c : Computer) (s : State) : State :=
  match s.powerState c with
  | .asleep => if s.hasMethod c then startAttempt false c 1 (changePower c .waking s) else enterUnresponsive c s
  | .unresponsive => if s.hasMethod c then startAttempt false c 1 (changePower c .waking s) else raise (.wakeFailed c) s
  | .waking => s
  | .awake => s
  | .starting => s
  | .absent => s

/-- ASLEEP or UNRESPONSIVE: the states from which a request starts a wake. -/
def PowerState.down : PowerState → Bool
  | .asleep => true
  | .unresponsive => true
  | _ => false

/-- An input notice is judged by the input-wake mode and the arming (R172). -/
def inputNotice (c : Computer) (s : State) : State :=
  if (s.powerState c).down && s.hasMethod c then
    match (s.computer c).inputWake with
    | .off => s
    | .always => wakeRequest c s
    | .once =>
      if (s.powerRec c).armed then wakeRequest c (s.setPowerRec c { s.powerRec c with armed := false }) else s
  else s

/-- The attempt timer of a WAKING computer expires (R170); an expiry taken before an observation that comes together with it starts
an attempt whose LINK request is dropped (R171). -/
def attemptExpiry (c : Computer) (s : State) : State :=
  match (s.powerRec c).timer with
  | none => s
  | some t =>
    if s.powerState c = .waking then
      if (s.powerRec c).attempt < (s.computer c).maxAttempts then
        startAttempt (s.leftSuspended c) c ((s.powerRec c).attempt + 1) (s.reach t)
      else enterUnresponsive c (s.reach t)
    else s

/-- The pulse width passes (R169). -/
def pulseExpiry (c : Computer) (s : State) : State :=
  match (s.powerRec c).pulse with
  | none => s
  | some t => endPulse c (s.reach t)

/-- What the Port Unit hands the Power Manager (R147). -/
inductive Observation where
  | attached
  | configured
  | suspended
  | resumed
  | busReset
  | detached
  deriving DecidableEq, Repr

/-- A computer falls asleep armed (R164, R172). -/
def fallAsleep (c : Computer) (s : State) : State :=
  changePower c .asleep (s.setPowerRec c { s.powerRec c with armed := true })

/-- A port observation changes the power state (R164). -/
def observe (c : Computer) (o : Observation) (s : State) : State :=
  match o, s.powerState c with
  | .detached, .absent => s
  | .detached, _ => changePower c .absent (endWake c s)
  | .attached, .absent => changePower c .starting s
  | .configured, .starting => changePower c .awake s
  | .suspended, .awake => fallAsleep c s
  | .resumed, .asleep => changePower c .awake (endWake c s)
  | .resumed, .waking => changePower c .awake (endWake c s)
  | .resumed, .unresponsive => changePower c .awake (endWake c s)
  | .busReset, .awake => changePower c .starting (endWake c s)
  | .busReset, .asleep => changePower c .starting (endWake c s)
  | .busReset, .waking => changePower c .starting (endWake c s)
  | .busReset, .unresponsive => changePower c .starting (endWake c s)
  | _, _ => s

/-- The Power Manager at a soft reset (R176): WAKING and UNRESPONSIVE become ASLEEP and armed, and a running pulse ends. No
COMPUTER_STATE is raised. -/
def softResetPower (c : Computer) (s : State) : State :=
  let s := if (s.powerRec c).pulse.isSome then endPulse c s else s
  if s.powerState c = .waking ∨ s.powerState c = .unresponsive then
    setPowerState c .asleep (s.setPowerRec c { (s.powerRec c).noAttempt with armed := true })
  else s

end Sys2Proof.Machine
end

