-- ==== Sys2Proof/Machine/Ports.lean ====
section
/-!
DEFINITION. The Port Unit (spec/08_computer_ports_and_hold_queues.md): taking an entry, polls and refreshes, the acts of the
computers on their buses, and the commands of that chapter.
-/
namespace Sys2Proof.Machine
open Sys2Proof

/-! ### Taking an entry (R151 to R156) -/

/-- The depth below which any entry is appended; the four places above are for releases (R151). -/
def reserveDepth : Nat := 28
/-- The most a hold queue holds (R146). -/
def queueDepth : Nat := 32

def Port.append (p : Port) (e : Entry) : Port := { p with queue := p.queue ++ [e] }

/-- The tail of a full queue takes the key state (R153). A tail that is no keyboard entry, which no run reaches, is left. -/
def Port.mergeTailKeys (p : Port) (k : KeyState) : Port :=
  match p.queue.getLast? with
  | some (.keyboard _) => { p with queue := p.queue.dropLast ++ [.keyboard k] }
  | _ => p

/-- A wheel sum, held to −127..127 (R154). -/
def wheelSum (a b : Int) : Int := max (-127) (min 127 (a + b))

/-- The first pointer entry of a list takes a new position and button set, and the wheel is summed. -/
def mergeFirstPointer (x y : Nat) (b : ButtonSet) (w : Int) : List Entry → List Entry
  | [] => []
  | .keyboard k :: rest => .keyboard k :: mergeFirstPointer x y b w rest
  | .pointer _ _ _ w0 :: rest => .pointer x y b (wheelSum w0 w) :: rest

/-- The newest pointer entry of the queue takes the entry (R154). -/
def Port.mergePointer (p : Port) (x y : Nat) (b : ButtonSet) (w : Int) : Port :=
  { p with queue := (mergeFirstPointer x y b w p.queue.reverse).reverse }

/-- The buttons R155 refuses: those the presented button set lacks. -/
def Port.refusedButtons (p : Port) (b : ButtonSet) : ButtonSet := b &&& ~~~p.buttons

/-- A pointer entry taken against the presented pointer state (R155). -/
def Port.takeDirect (p : Port) (x y : Nat) (b : ButtonSet) : Port :=
  { p with x := x, y := y, buttons := p.buttons &&& b,
           ptrOwed := p.ptrOwed || (x != p.x || y != p.y || (p.buttons &&& b) != p.buttons) }

/-- What becomes of a keyboard entry. -/
inductive Taken where
  | taken
  | refused
  deriving DecidableEq, Repr

/-- A keyboard entry is placed by the committed state and the depth (R150, R152, R153). -/
def placeKeys (c : Computer) (k : KeyState) (s : State) : State × Taken :=
  let p := s.port c
  if k.same p.committedKeys then (s, .taken)
  else if k.sub p.committedKeys then
    if p.queue.length < queueDepth then (s.setPort c (p.append (.keyboard k)), .taken)
    else (s.setPort c (p.mergeTailKeys k), .taken)
  else if p.queue.length < reserveDepth then (s.setPort c (p.append (.keyboard k)), .taken)
  else (raise (.keysDropped c) s, .refused)

/-- A keyboard entry for a computer that takes none (R151): a press-bearing one is refused with KEYS_DROPPED. -/
def discardKeys (c : Computer) (k : KeyState) (s : State) : State × Taken :=
  if k.sub (s.committedKeys c) then (s, .taken) else (raise (.keysDropped c) s, .refused)

/-- A keyboard entry handed for a computer is judged by its power state (R151). -/
def takeKeys (c : Computer) (k : KeyState) (s : State) : State × Taken :=
  match s.powerState c with
  | .awake => placeKeys c k s
  | .starting => placeKeys c k s
  | .asleep => placeKeys c k (if k.sub (s.committedKeys c) then s else inputNotice c s)
  | .waking => placeKeys c k (if k.sub (s.committedKeys c) then s else inputNotice c s)
  | .unresponsive =>
    let s := if k.sub (s.committedKeys c) then s else inputNotice c s
    if s.powerState c = .waking then placeKeys c k s else discardKeys c k s
  | .absent => discardKeys c k s

/-- Buttons the Port Unit refuses join the swallow set, with KEYS_DROPPED (R155, R156). -/
def refuseButtons (c : Computer) (b : ButtonSet) (s : State) : State :=
  if b = 0 then s
  else raise (.keysDropped c) (s.setPointer { s.pointer with swallow := s.pointer.swallow ||| b })

/-- The tail is a pointer entry with this button set (R154). -/
def Port.tailHasButtons (p : Port) (b : ButtonSet) : Bool :=
  match p.queue.getLast? with
  | some (.pointer _ _ b0 _) => b0 == b
  | _ => false

/-- A pointer entry is placed by the tail and the depth (R154, R155). -/
def placePointer (c : Computer) (x y : Nat) (b : ButtonSet) (w : Int) (s : State) : State :=
  let p := s.port c
  if p.tailHasButtons b then s.setPort c (p.mergePointer x y b w)
  else if p.queue.length < reserveDepth then s.setPort c (p.append (.pointer x y b w))
  else if p.queue.any Entry.isPointer then s.setPort c (p.mergePointer x y b w)
  else refuseButtons c (p.refusedButtons b) (s.setPort c (p.takeDirect x y b))

/-- A pointer entry is release-only when it only takes buttons away (R150). -/
def pointerReleaseOnly (p : Port) (x y : Nat) (b : ButtonSet) (w : Int) : Bool :=
  subBits b p.committedButtons && x == p.committedPointer.1 && y == p.committedPointer.2.1 && w == 0

/-- A pointer entry handed for a computer is judged by its power state (R151). -/
def takePointer (c : Computer) (x y : Nat) (b : ButtonSet) (w : Int) (s : State) : State :=
  match s.powerState c with
  | .awake => placePointer c x y b w s
  | .starting => placePointer c x y b w s
  | .asleep => placePointer c x y b w (if pointerReleaseOnly (s.port c) x y b w then s else inputNotice c s)
  | .waking => placePointer c x y b w (if pointerReleaseOnly (s.port c) x y b w then s else inputNotice c s)
  | .unresponsive =>
    let s := if pointerReleaseOnly (s.port c) x y b w then s else inputNotice c s
    if s.powerState c = .waking then placePointer c x y b w s else s
  | .absent => s

/-! ### Polls (R157, R158) -/

def answerKeys (c : Computer) (k : KeyState) (s : State) : State := s.emit (.keyboardReport c (keyStateBytes k))

def answerPointer (c : Computer) (x y : Nat) (b : ButtonSet) (w : Int) (s : State) : State :=
  s.emit (.pointerReport c (pointerBytes x y b w))

/-- An owed refresh of the keyboard function is answered with the presented state, unless a keyboard entry waits (R158). -/
def refreshKeys (c : Computer) (s : State) : State :=
  let p := s.port c
  if p.kbOwed ∧ p.queue.all Entry.isPointer then answerKeys c p.keys (s.setPort c { p with kbOwed := false })
  else s.emit (.noChange c .keyboard)

def refreshPointer (c : Computer) (s : State) : State :=
  let p := s.port c
  if p.ptrOwed ∧ !p.queue.any Entry.isPointer then
    answerPointer c p.x p.y p.buttons 0 (s.setPort c { p with ptrOwed := false })
  else s.emit (.noChange c .pointer)

/-- The keyboard function is polled (R157). -/
def pollKeys (c : Computer) (s : State) : State :=
  let p := s.port c
  if p.observed = .configured then
    match p.queue with
    | .keyboard k :: rest => answerKeys c k (s.setPort c { p with queue := rest, keys := k, kbOwed := false })
    | _ => refreshKeys c s
  else s

/-- The pointer function is polled (R157). -/
def pollPointer (c : Computer) (s : State) : State :=
  let p := s.port c
  if p.observed = .configured then
    match p.queue with
    | .pointer x y b w :: rest =>
      answerPointer c x y b w (s.setPort c { p with queue := rest, x := x, y := y, buttons := b, ptrOwed := false })
    | _ => refreshPointer c s
  else s

/-- A request for the current state of a function (R158). -/
def currentState (c : Computer) (f : PortFunction) (s : State) : State :=
  let p := s.port c
  match f with
  | .keyboard => answerKeys c p.keys (s.setPort c { p with kbOwed := false })
  | .pointer => answerPointer c p.x p.y p.buttons 0 (s.setPort c { p with ptrOwed := false })

/-! ### The acts of a computer on its bus (R147 to R149) -/

def setObserved (c : Computer) (o : PortState) (s : State) : State := s.setPort c { s.port c with observed := o }

/-- R148: the port is cleared, then the Power Manager and the Keyboard Engine are told. -/
def clearPort (c : Computer) (observed : PortState) (o : Observation) (s : State) : State :=
  setLamps c 0 (queueEmptied c (observe c o (s.setPort c ((s.port c).clear observed))))

def busPowerAppears (c : Computer) (s : State) : State :=
  if (s.port c).observed = .detached then observe c .attached (setObserved c .attached s) else s

def configurationSelected (c : Computer) (s : State) : State :=
  if (s.port c).observed = .attached then observe c .configured (setObserved c .configured s) else s

def busIdle (c : Computer) (s : State) : State :=
  match (s.port c).observed with
  | .attached => setObserved c .attachedSuspended s
  | .configured => observe c .suspended (setObserved c .suspended s)
  | _ => s

/-- Bus activity (R147): the observation is handed on in the same step; an attempt expiry taken right before it finds the port already
out of SUSPENDED (R171; log entry 39). -/
def busActivity (c : Computer) (s : State) : State :=
  match (s.port c).observed with
  | .attachedSuspended => setObserved c .attached s
  | .suspended => observe c .resumed (setObserved c .configured s)
  | _ => s

def configurationDeselected (c : Computer) (s : State) : State :=
  if (s.port c).observed = .configured then clearPort c .attached .busReset s else s

def busReset (c : Computer) (s : State) : State :=
  if (s.port c).observed = .detached then s else clearPort c .attached .busReset s

def busPowerDisappears (c : Computer) (s : State) : State :=
  if (s.port c).observed = .detached then s else clearPort c .detached .detached s

/-- Grant or withdrawal of the remote-wake permission, at a CONFIGURED port (R149). -/
def remoteWakeChange (c : Computer) (granted : Bool) (s : State) : State :=
  if (s.port c).observed = .configured then s.setPort c { s.port c with permission := granted } else s

/-- A lamp write at a CONFIGURED port; bits that stand for no lamp are dropped (R159, R202, log entry 24). -/
def lampWrite (c : Computer) (lamps : Byte) (s : State) : State :=
  if (s.port c).observed = .configured then setLamps c (lamps.setWidth 5) s else s

/-! ### The commands -/

/-- BUS_POWER_APPEARS (R147). -/
def execBusPowerAppears (c : Computer) (s : State) := onEvent (busPowerAppears c) s
/-- CONFIGURATION_SELECTED (R147). -/
def execConfigurationSelected (c : Computer) (s : State) := onEvent (configurationSelected c) s
/-- BUS_IDLE: the bus is idle for the suspend time (R147). -/
def execBusIdle (c : Computer) (s : State) := onEvent (busIdle c) s
/-- BUS_ACTIVITY (R147). -/
def execBusActivity (c : Computer) (s : State) := onEvent (busActivity c) s
/-- CONFIGURATION_DESELECTED (R147, R148). -/
def execConfigurationDeselected (c : Computer) (s : State) := onEvent (configurationDeselected c) s
/-- BUS_RESET (R147, R148). -/
def execBusReset (c : Computer) (s : State) := onEvent (busReset c) s
/-- BUS_POWER_DISAPPEARS (R147, R148). -/
def execBusPowerDisappears (c : Computer) (s : State) := onEvent (busPowerDisappears c) s
/-- KEYBOARD_POLL (R157, R158). -/
def execKeyboardPoll (c : Computer) (s : State) := onEvent (pollKeys c) s
/-- POINTER_POLL (R157, R158). -/
def execPointerPoll (c : Computer) (s : State) := onEvent (pollPointer c) s
/-- CURRENT_STATE_REQUEST (R158). -/
def execCurrentStateRequest (c : Computer) (f : PortFunction) (s : State) := onEvent (currentState c f) s
/-- LAMP_WRITE (R159, R110). -/
def execLampWrite (c : Computer) (lamps : Byte) (s : State) := onEvent (lampWrite c lamps) s
/-- REMOTE_WAKE_CHANGE (R149). -/
def execRemoteWakeChange (c : Computer) (granted : Bool) (s : State) := onEvent (remoteWakeChange c granted) s
/-- ATTEMPT_TIMER_EXPIRY (R170). -/
def execAttemptTimerExpiry (c : Computer) (s : State) := onEvent (attemptExpiry c) s
/-- WAKE_PULSE_EXPIRY (R169). -/
def execWakePulseExpiry (c : Computer) (s : State) := onEvent (pulseExpiry c) s

end Sys2Proof.Machine
end

