-- ==== Sys2Proof/Machine/Focus.lean ====
section
/-!
DEFINITION. The target key state and its entries (R96, R97), and the one sequence by which key focus changes (R100, R101).
-/
namespace Sys2Proof.Machine
open Sys2Proof

/-! ### The target key state (R96) -/

/-- A code looked up once in a key translation map; `none` when it is dropped (R98). -/
def lookupCode (pairs : List (Nat × Nat)) (k : Nat) : Option Nat :=
  match pairs.find? (·.1 == k) with
  | some p => if p.2 = 0 then none else some p.2
  | none => some k

/-- An ordinary code through the map that the computer's keymap field names (R96 step 2). -/
def State.translate (s : State) (c : Computer) (k : Nat) : Option Nat :=
  match (s.computer c).keymap with
  | none => some k
  | some m => lookupCode s.keyboard.maps[m] k

/-- A code equal to one already taken collapses into it, at the earlier position (R96 step 3). -/
def collapse (ks : List Nat) : List Nat := ks.foldl (fun acc k => if acc.contains k then acc else acc ++ [k]) []

def State.deliveringCodes (s : State) : List Nat := (s.keyboard.held.filter HeldKey.delivering).map (·.code)

/-- The target key state of the key-focus computer, with the code of a replayed tap after the held codes (R96, R99). -/
def State.targetWith (s : State) (tap : Option Nat) : KeyState :=
  { mods := (s.deliveringCodes.filter isModifier).foldl (fun m k => m ||| modBit k) 0,
    keys := (collapse ((s.deliveringCodes.filter (!isModifier ·)).filterMap (s.translate s.keyboard.focus)
      ++ (tap.bind (s.translate s.keyboard.focus)).toList)).take 6 }

def State.target (s : State) : KeyState := s.targetWith none

/-- A refused entry with key state `t` would have added this held code to the committed state (R97). -/
def addedBy (s : State) (t committed : KeyState) (k : HeldKey) : Bool :=
  if isModifier k.code then !subBits (modBit k.code) committed.mods
  else
    match s.translate s.keyboard.focus k.code with
    | some x => t.keys.contains x && !committed.keys.contains x
    | none => false

def suppressAdded (t committed : KeyState) (s : State) : State :=
  markHeld (fun k => k.delivering && addedBy s t committed k) HeldKey.suppress s

/-- The target is compared with the committed key state and handed on; after a refusal the keys concerned are suppressed and the
target is compared again (R97). Each refusal suppresses a key, so the held keys bound the rounds. -/
def handTarget : Nat → State → State
  | 0, s => s
  | n + 1, s =>
    let t := s.target
    let committed := s.committedKeys s.keyboard.focus
    if t.same committed then s
    else
      match takeKeys s.keyboard.focus t s with
      | (s', .taken) => s'
      | (s', .refused) => handTarget n (suppressAdded t committed s')

/-- The target key state of the key-focus computer is recomputed, and any difference is handed on (R97). -/
def retarget (s : State) : State := handTarget (s.keyboard.held.length + 1) s

/-- A replayed tap (R99 step 2): under DROP at a computer that is not AWAKE it is discarded (log entry 13); otherwise the target
with the code added, then the target without it. -/
def replayTap (k : Nat) (s : State) : State :=
  let c := s.keyboard.focus
  if s.powerState c ≠ .awake ∧ (s.computer c).holdDrop then raise (.keysDropped c) s
  else
    let t := s.targetWith (some k)
    retarget (if t.same (s.committedKeys c) then s else (takeKeys c t s).1)

/-! ### Key focus -/

/-- A computer is handed a pointer entry with no buttons, at its last absolute position, with wheel 0. -/
def releaseButtons (c : Computer) (s : State) : State :=
  takePointer c s.pointer.lastAbs[c].1 s.pointer.lastAbs[c].2 0 0 s

/-- Every button held on the desk joins the swallow set (R73, R77, R80). -/
def swallowHeld (s : State) : State := s.setPointer { s.pointer with swallow := s.pointer.swallow ||| s.pointer.buttons }

/-- Step 1 of R101: the computer that is left is handed an empty key state. -/
def releaseKeys (a : Computer) (s : State) : State :=
  if (s.committedKeys a).isEmpty then s else (takeKeys a .empty s).1

/-- Step 2 of R101, with R80: the buttons are released, and swallowed; while the pointer is parked the stand-in computer changes,
so they are swallowed in any case (log entry 23). -/
def releaseAtFocus (a : Computer) (s : State) : State :=
  if s.committedButtons a ≠ 0 then swallowHeld (releaseButtons a s)
  else if s.pointer.place.isNone then swallowHeld s
  else s

/-- Step 9 of R101. -/
def focusWake (b : Computer) (s : State) : State :=
  if (s.powerState b).down ∧ (s.computer b).wakeOnFocus then wakeRequest b s else s

/-- Steps 3 to 6 of R101: held keys are suppressed, key focus becomes `b`, the lamps and the lines follow. -/
def moveKeyFocus (b : Computer) (s : State) : State :=
  let s := markHeld (fun _ => true) HeldKey.suppress s
  followOutputs (showLamps (s.setKeyboard { s.keyboard with focus := b }))

def raiseFocus (s : State) : State := raise (.focusChanged s.keyboard.focus s.pointer.focus) s

/-- The focus change sequence (R101). `momentary` marks the change that sets the return slot (step 8). -/
def focusChange (momentary : Bool) (b : Computer) (s : State) : State :=
  let s := raiseFocus (moveKeyFocus b (releaseAtFocus s.keyboard.focus (releaseKeys s.keyboard.focus s)))
  focusWake b (if momentary then s else s.setSlot none)

/-- A focus request naming the computer that holds key focus runs no sequence (R100). -/
def focusRequest (momentary : Bool) (c : Computer) (s : State) : State :=
  if s.keyboard.focus = c then s else focusChange momentary c s

end Sys2Proof.Machine
end

