-- ==== Sys2Proof/Machine/Pointer.lean ====
section
/-!
DEFINITION. Where the pointer is and how it moves (spec/04_pointer_ballistics_and_glide.md): ballistics, mapping, pointer entries,
pointer focus, warp and re-home, and glide. Desk pointer reports are in Report.lean.
-/
namespace Sys2Proof.Machine
open Sys2Proof

/-! ### Screens as the pointer sees them -/

/-- An eligible screen is configured and its current source is a head (R59): its rectangle and its source head. -/
def State.eligible (s : State) (i : ScreenId) : Option (Rect × Head) :=
  match s.screenRect i, (s.screenRec i).current with
  | some r, some h => some (r, h)
  | _, _ => none

def Rect.contains (r : Rect) (x y : Int) : Bool :=
  decide ((r.x : Int) ≤ x) && decide (x < r.x + r.w) && decide ((r.y : Int) ≤ y) && decide (y < r.y + r.h)

/-- The center of a screen (R14). -/
def Rect.center (r : Rect) : Nat × Nat := (r.x + r.w / 2, r.y + r.h / 2)

/-- The eligible screen whose rectangle holds a point (R65). -/
def State.screenAt (s : State) (x y : Int) : Option ScreenId :=
  allScreens.find? fun i => match s.eligible i with | some (r, _) => r.contains x y | none => false

/-- The lowest-numbered eligible screen (R82). -/
def State.lowestEligible (s : State) : Option ScreenId := allScreens.find? fun i => (s.eligible i).isSome

/-- The computer owning a screen's current source, if the screen is eligible. -/
def State.sourceComputer (s : State) (i : ScreenId) : Option Computer := (s.eligible i).map fun e => e.2.computer

/-- The home screen of a computer (R14). -/
def State.homeScreen (s : State) (c : Computer) : Option ScreenId := allScreens.find? fun i => s.sourceComputer i == some c

/-- The computer that receives button and wheel input: the pointer focus, or the key focus while parked (04 §4.7). -/
def State.standIn (s : State) : Computer :=
  match s.pointer.place, s.pointer.focus with
  | some _, some c => c
  | _, _ => s.keyboard.focus

/-- The desk button set less the swallow set (R73). -/
def State.delivered (s : State) : ButtonSet := s.pointer.buttons &&& ~~~s.pointer.swallow

/-! ### Ballistics (R63, R64) -/

/-- Counts per 8 ms reference (R63); `t` is the interval in µs. -/
def speed (dx dy : Int) (t : Nat) : Nat := (dx.natAbs + dy.natAbs) * 8000 / t

def PointerEngine.gain (p : PointerEngine) (v : Nat) : Nat :=
  if v < p.t1 then p.g0 else if v < p.t2 then p.g1 else if v < p.t3 then p.g2 else p.g3

/-- A remainder that points against the new direction is dropped (R64 step 1). -/
def reversal (d r : Int) : Int := if d * r < 0 then 0 else r

/-- v of R64 step 2. -/
def scaled (d r : Int) (g : Nat) : Int := d * g + reversal d r

/-- The motion of one axis (R64 step 3). -/
def axisMotion (d r : Int) (g : Nat) : Int := (scaled d r g).tdiv 16

/-- The new remainder of one axis (R64 step 4). -/
def axisRest (d r : Int) (g : Nat) : Int := (scaled d r g).tmod 16

/-! ### Mapping (R72) -/

/-- One axis: a local offset `l` on a screen of size `sw` through a head at `hx0` of size `hw`, in a desktop of size `w`. -/
def mapAxis (l sw hx0 hw w : Nat) : Nat := min 32767 ((hx0 + l * hw / sw) * 32768 / w)

/-- A position on a screen in the absolute coordinates of the computer that owns its source head. -/
def State.mapPlace (s : State) (p : Place) : Option (Nat × Nat) := do
  let (r, h) ← s.eligible p.screen
  let e ← s.headEntry h
  let c := s.computer h.computer
  pure (mapAxis (p.x - r.x) r.w e.rect.x e.rect.w c.w, mapAxis (p.y - r.y) r.h e.rect.y e.rect.h c.h)

/-! ### Pointer entries (R74, R77 step 5) -/

/-- An entry is handed when the position, the button set or the wheel calls for it, and its position becomes the computer's last
absolute position (R74). -/
def handEntry (c : Computer) (x y : Nat) (b : ButtonSet) (w : Int) (s : State) : State :=
  if s.pointer.lastAbs[c] ≠ (x, y) ∨ b ≠ s.committedButtons c ∨ w ≠ 0 then
    takePointer c x y b w (s.setPointer { s.pointer with lastAbs := s.pointer.lastAbs.set c (x, y) })
  else s

/-- The pointer focus is handed an entry for the pointer's position with a wheel (R74). -/
def handPlace (w : Int) (s : State) : State :=
  match s.pointer.place, s.pointer.focus with
  | some p, some c =>
    match s.mapPlace p with
    | some (x, y) => handEntry c x y s.delivered w s
    | none => s
  | _, _ => s

/-! ### Pointer focus (R77) -/

def setPlace (p : Option Place) (s : State) : State := s.setPointer { s.pointer with place := p }

def setPush (p : Option Push) (s : State) : State := s.setPointer { s.pointer with push := p }

/-- Steps 1 and 2 of R77: the stand-in that is left is released, and every held button is swallowed. -/
def leaveStandIn (a : Computer) (s : State) : State :=
  swallowHeld (if s.committedButtons a ≠ 0 then releaseButtons a s else s)

/-- A pointer focus change (R77), `a` being the stand-in before it. Steps 1 and 2 are left out when the stand-in stays. -/
def pointerFocusChange (a : Computer) (new : Option Computer) (s : State) : State :=
  let s := if a = new.getD s.keyboard.focus then s else leaveStandIn a s
  handPlace 0 (raiseFocus (s.setPointer { s.pointer with focus := new }))

/-- The pointer moves to a place on an eligible screen, by warp or re-home (R81, R82). -/
def movePointer (p : Place) (s : State) : State :=
  let new := s.sourceComputer p.screen
  let s' := setPlace (some p) (setPush none s)
  if s.pointer.focus = new then handPlace 0 s' else pointerFocusChange s.standIn new s'

/-- The pointer parks (R82). -/
def parkPointer (s : State) : State :=
  let s' := setPlace none (setPush none s)
  if s.pointer.focus = none then s' else pointerFocusChange s.standIn none s'

/-- The place at the center of a screen. -/
def State.centerOf (s : State) (i : ScreenId) : Option Place :=
  (s.screenRect i).map fun r => ⟨i, r.center.1, r.center.2⟩

/-- Re-home onto the lowest-numbered eligible screen, or park (R82). -/
def reHome (s : State) : State :=
  match s.lowestEligible.bind s.centerOf with
  | some p => movePointer p s
  | none => parkPointer s

/-- A parked pointer re-homes as soon as an eligible screen exists (R82). -/
def unpark (s : State) : State := if s.lowestEligible.isSome then reHome s else s

/-- A push record naming the screen is cleared (R69). -/
def dropPushOn (i : ScreenId) (s : State) : State :=
  match s.pointer.push with
  | some p => if p.screen = i then setPush none s else s
  | none => s

/-- A screen-changed notice (R4, R82). -/
def screenChanged (i : ScreenId) (s : State) : State :=
  let s := dropPushOn i s
  match s.pointer.place with
  | none => unpark s
  | some p => if p.screen = i then reHome s else s

/-- The source under the pointer changed to a head or to NONE (R82). -/
def sourceUnderPointer (i : ScreenId) (s : State) : State :=
  match (s.screenRec i).current with
  | none => reHome s
  | some h =>
    if s.pointer.focus = some h.computer then s else pointerFocusChange s.standIn (some h.computer) s

/-- A source-changed notice (R44, R82). -/
def sourceChanged (i : ScreenId) (s : State) : State :=
  let s := dropPushOn i s
  match s.pointer.place with
  | none => unpark s
  | some p => if p.screen = i then sourceUnderPointer i s else s

/-- A warp request for a computer (R81): nothing when the pointer is on a screen of it, or when it has no home screen. -/
def warpRequest (c : Computer) (s : State) : State :=
  if s.pointer.place.isSome ∧ s.pointer.focus = some c then s
  else
    match (s.homeScreen c).bind s.centerOf with
    | some p => movePointer p s
    | none => s

/-- A focus request with its scope: BOTH asks for the warp after the sequence, and also when there is no sequence (R100, R101). -/
def focusWithScope (c : Computer) (both : Bool) (s : State) : State :=
  if both then warpRequest c (focusRequest false c s) else focusRequest false c s

/-! ### Glide (R65 to R70) -/

/-- A coordinate moved to the nearest value in `x0 .. x0 + w − 1`. -/
def clampAxis (x0 w : Nat) (t : Int) : Nat := (max (x0 : Int) (min t (x0 + w - 1))).toNat

/-- The pointer goes to the target clamped to the current rectangle. -/
def clampTo (i : ScreenId) (r : Rect) (tx ty : Int) (s : State) : State :=
  setPlace (some ⟨i, clampAxis r.x r.w tx, clampAxis r.y r.h ty⟩) s

/-- The distance of a coordinate outside `x0 .. x0 + w − 1` (R68). -/
def outside (x0 w : Nat) (t : Int) : Nat :=
  if t < x0 then (x0 - t).toNat else if (x0 + w - 1 : Int) < t then (t - (x0 + w - 1)).toNat else 0

/-- The push after an accrual (R68): added to a record naming the screen, saturating at 65535, or a fresh one. -/
def accrued (old : Option Push) (i : ScreenId) (excess : Nat) : Nat :=
  match old with
  | some p => if p.screen = i then min 65535 (p.amount + excess) else min 65535 excess
  | none => min 65535 excess

/-- A glide notice (R103): key focus follows into an unguarded computer that is not ABSENT. -/
def glideNotice (c : Computer) (s : State) : State :=
  if (s.computer c).guarded ∨ s.powerState c = .absent then s else focusRequest false c s

/-- A crossing is blocked by a held button, glide lock or an ABSENT computer (R67). -/
def crossingBlocked (c : Computer) (s : State) : Bool :=
  s.pointer.buttons != 0 || s.pointer.glideLock || s.powerState c == .absent

/-- The pointer crosses into another computer's screen (R68, R77, R78). R78 leaves the glide notice and the pointer entry of R77
step 5 in no order: that the Port Unit takes the entry, with its input notice (R172), before the Keyboard Engine deals with the
glide notice is the model's choice (DESIGN CHOICE, log entry 44). -/
def cross (i : ScreenId) (c : Computer) (tx ty : Int) (s : State) : State :=
  let a := s.standIn
  glideNotice c (pointerFocusChange a (some c) (setPlace (some ⟨i, tx.toNat, ty.toNat⟩) (setPush none s)))

/-- Case 3 of R65: blocked (R67), or push against the barrier (R68). `i0` and `r` are the pointer's screen and its rectangle. -/
def pushAcross (i0 : ScreenId) (r : Rect) (i : ScreenId) (c : Computer) (tx ty : Int) (s : State) : State :=
  if crossingBlocked c s then clampTo i0 r tx ty s
  else
    let amount := accrued s.pointer.push i (max (outside r.x r.w tx) (outside r.y r.h ty))
    if s.pointer.barrier ≤ amount then cross i c tx ty s
    else clampTo i0 r tx ty (setPush (some ⟨i, amount, s.timer 300⟩) s)

/-- The pointer moves to a point of a screen of its own computer; the push record is cleared (R66). -/
def glideWithin (i : ScreenId) (tx ty : Int) (s : State) : State :=
  setPlace (some ⟨i, tx.toNat, ty.toNat⟩) (setPush none s)

/-- The four cases of R65 for a target point. -/
def glide (tx ty : Int) (s : State) : State :=
  match s.pointer.place with
  | none => s
  | some p =>
    match s.screenRect p.screen with
    | none => s
    | some r =>
      if r.contains tx ty then glideWithin p.screen tx ty s
      else
        match s.screenAt tx ty with
        | none => clampTo p.screen r tx ty s
        | some i =>
          match s.sourceComputer i with
          | none => clampTo p.screen r tx ty s
          | some c => if s.pointer.focus = some c then glideWithin i tx ty s else pushAcross p.screen r i c tx ty s

/-- Ballistics and glide of one report, `t` being its interval (R62 step 2). A parked pointer's motion is discarded (R76). -/
def moveBy (dx dy : Int) (t : Nat) (s : State) : State :=
  match s.pointer.place with
  | none => s
  | some p =>
    let g := s.pointer.gain (speed dx dy t)
    glide (p.x + axisMotion dx s.pointer.rx g) (p.y + axisMotion dy s.pointer.ry g)
      (s.setPointer { s.pointer with rx := axisRest dx s.pointer.rx g, ry := axisRest dy s.pointer.ry g })

/-- The push decay timer expires (R69). -/
def pushExpiry (s : State) : State :=
  match s.pointer.push with
  | none => s
  | some p => setPush none (s.reach p.timer)

end Sys2Proof.Machine
end

