-- ==== Sys2Proof/Machine/Screens.lean ====
section
/-!
DEFINITION. The Screen Controller (spec/03_screens_sharing_and_scenes.md): matrix selections, the screen states, sources and
sharing, the desk's low-power states, scenes, and the commands of that chapter.
-/
namespace Sys2Proof.Machine
open Sys2Proof

/-! ### Heads (R13) -/

/-- The input bound to a head, resolved through the map. -/
def State.headInput (s : State) (h : Head) : Option InputId := allInputs.find? fun v => s.binding v == some h

/-- The state of a head: of its input's channel, LOST without one (R13). -/
def State.headState (s : State) (h : Head) : ChannelState :=
  match s.headInput h with
  | some v => (s.channel v).state
  | none => .lost

def State.headAlive (s : State) (h : Head) : Bool := s.headState h == .alive

/-! ### Sets of screens -/

def screenBit (i : ScreenId) : ScreenSet := (1 : BitVec 8) <<< i.val

/-- A screen is in a set. -/
def inSet (b : ScreenSet) (i : ScreenId) : Bool := b.getLsbD i

/-- The screens for which `p` holds, as a set. -/
def screenSetOf (p : ScreenId → Bool) : ScreenSet := allScreens.foldl (fun b i => if p i then b ||| screenBit i else b) 0

/-! ### Selections, timers and states -/

/-- A selection message for a screen: its lock view becomes absent (R33). -/
def sendSelection (i : ScreenId) (sel : Selection) (s : State) : State :=
  (s.setScreenRec i { s.screenRec i with selected := some sel, lockView := false }).emit (.matrix i sel)

/-- The message for a source: INPUT of its bound input, BLANK without one or for NONE (R33, R36). -/
def State.selectionFor (s : State) (src : Option Head) : Selection :=
  match src.bind s.headInput with
  | some v => .input v
  | none => .blank

/-- A screen enters a state: a change raises SCREEN_STATE, and entering FAULT raises SCREEN_FAULT (R39). -/
def enterScreen (i : ScreenId) (st : ScreenState) (s : State) : State :=
  if (s.screenRec i).state = st then s
  else
    let s := raise (.screenState i) (reportFault (s.setScreenRec i { s.screenRec i with state := st }))
    if st = .fault then raise (.screenFault i) s else s

def setLinkTimer (i : ScreenId) (t : Option Timer) (s : State) : State :=
  s.setScreenRec i { s.screenRec i with linkTimer := t }

def setPowerTimer (i : ScreenId) (t : Option Timer) (s : State) : State :=
  s.setScreenRec i { s.screenRec i with powerTimer := t }

/-- The link timer starts with the link limit. -/
def startLink (i : ScreenId) (s : State) : State := setLinkTimer i (some (s.timer s.screens.linkLimit)) s

/-- The power-on scale codes in ms (R32). -/
def powerScaleMs : Nat → Nat
  | 0 => 2
  | 1 => 10
  | _ => 100

/-- The power-on time in ms (R32). -/
def State.powerOnMs (s : State) : Nat := s.screens.powerValue * powerScaleMs s.screens.powerScale

/-- The source rule with the current source (R36): the message, the link timer, the state entered. -/
def followSource (i : ScreenId) (s : State) : State :=
  let src := (s.screenRec i).current
  let s := setPowerTimer i none (setLinkTimer i none (sendSelection i (s.selectionFor src) s))
  match src with
  | none => enterScreen i .blank s
  | some h => if s.headAlive h then enterScreen i .linking (startLink i s) else enterScreen i .dark s

/-- A source is taken (R36). SCREEN_STATE is raised once, at a change of state or of current source (R39). -/
def takeSource (i : ScreenId) (src : Option Head) (s : State) : State :=
  let old := s.screenRec i
  let s := followSource i (s.setScreenRec i { old with current := src, waiting := none })
  if (s.screenRec i).state = old.state ∧ src ≠ old.current then raise (.screenState i) s else s

/-! ### Settling (R52) -/

def ScreenState.settles : ScreenState → Bool
  | .unused => false
  | .linking => false
  | _ => true

def ScreenRec.settled (r : ScreenRec) : Bool := r.waiting.isNone && r.state.settles

/-- Every settled screen leaves the outstanding set; SCENE_DONE when the set empties (R52). -/
def settleAll (s : State) : State :=
  match s.screens.inFlight with
  | none => s
  | some f =>
    let out := screenSetOf fun i => inSet f.outstanding i && !(s.screenRec i).settled
    if out = 0 then raise (.sceneDone f.scene f.incomplete f.superseded) (s.setInFlight none)
    else s.setInFlight (some { f with outstanding := out })

/-- Source-changed notices for the screens whose current source `f` changed (R44). That they go out only after `f` has dealt with
every screen, lowest screen first, is the model's choice but for R10: DESIGN CHOICE, log entry 37. -/
def withNotices (f : State → State) (s : State) : State :=
  let s' := f s
  allScreens.foldl (fun t i => if (s'.screenRec i).current = (s.screenRec i).current then t else sourceChanged i t) s'

/-- One operation of the controller over screens, with its notices and the settling test. -/
def onScreens (f : State → State) (s : State) : State := settleAll (withNotices f s)

/-- The same operation on every screen. R26, R38, R39, R46 and their like give no order among screens: S0 to S7 is the model's
choice, which shows in the latest SCREEN_STATE (DESIGN CHOICE, log entry 36). -/
def eachScreen (f : ScreenId → State → State) (s : State) : State := allScreens.foldl (fun s i => f i s) s

/-! ### Assigning a source (R41, R49) -/

/-- A source put into the current source at once, without a selection (R46, R49). -/
def takeQuiet (i : ScreenId) (src : Option Head) (s : State) : State :=
  let old := s.screenRec i
  let s := s.setScreenRec i { old with current := src, waiting := none }
  if src = old.current then s else raise (.screenState i) s

/-- R41: the four ways of dealing with a source for a screen that is on. -/
def assignOn (i : ScreenId) (src : Option Head) (s : State) : State :=
  if src = (s.screenRec i).current then s.setScreenRec i { s.screenRec i with waiting := none }
  else
    match src with
    | none => takeSource i none s
    | some h =>
      if s.headAlive h then s.setScreenRec i { s.screenRec i with waiting := some h } else takeSource i (some h) s

/-- A source given to a screen, by its state (R41, R49). -/
def assignSource (i : ScreenId) (src : Option Head) (s : State) : State :=
  match (s.screenRec i).state with
  | .unused => s
  | .standby => takeQuiet i src s
  | .powering => takeQuiet i src s
  | .off => takeQuiet i src s
  | .blank => assignOn i src s
  | .linking => assignOn i src s
  | .showing => assignOn i src s
  | .dark => assignOn i src s
  | .fault => assignOn i src s

/-- A frame boundary of a channel: every screen whose pending source is the head bound to it takes it (R41). -/
def frameBoundary (v : InputId) (s : State) : State :=
  match s.binding v with
  | none => s
  | some h =>
    onScreens (eachScreen fun i s => if (s.screenRec i).waiting = some h then takeSource i (some h) s else s) s

/-! ### Changes of a head (R33, R38, R42) -/

/-- LINKING, SHOWING or FAULT: the states that stand on an ALIVE head (R31). -/
def ScreenState.live : ScreenState → Bool
  | .linking => true
  | .showing => true
  | .fault => true
  | _ => false

/-- The head leaves ALIVE: a screen waiting for it takes it at once (R42), a screen showing it goes to DARK (R38). -/
def headLeaves (h : Head) (i : ScreenId) (s : State) : State :=
  if (s.screenRec i).waiting = some h then takeSource i (some h) s
  else if (s.screenRec i).current = some h ∧ (s.screenRec i).state.live then enterScreen i .dark (setLinkTimer i none s)
  else s

/-- A screen in LINKING whose lock view is present goes on to SHOWING (R34). -/
def linkUp (i : ScreenId) (s : State) : State :=
  if (s.screenRec i).state = .linking ∧ (s.screenRec i).lockView then enterScreen i .showing (setLinkTimer i none s) else s

/-- The head becomes ALIVE: a DARK screen showing it starts linking (R38). -/
def headRises (h : Head) (i : ScreenId) (s : State) : State :=
  if (s.screenRec i).current = some h ∧ (s.screenRec i).state = .dark then
    linkUp i (enterScreen i .linking (startLink i s))
  else s

/-- What a head's state now means to the screens, `wasAlive` being whether it was ALIVE before. -/
def headMoved (wasAlive : Bool) (h : Head) (s : State) : State :=
  if wasAlive ∧ ¬s.headAlive h then eachScreen (headLeaves h) s
  else if ¬wasAlive ∧ s.headAlive h then eachScreen (headRises h) s
  else s

/-- BLANK, LINKING, SHOWING, DARK or FAULT: the states in which a screen is on. -/
def ScreenState.isOn : ScreenState → Bool
  | .blank => true
  | .linking => true
  | .showing => true
  | .dark => true
  | .fault => true
  | _ => false

/-- The head's input changed: its screens are sent its new selection, and a SHOWING one links afresh (R33). -/
def resendFor (h : Head) (i : ScreenId) (s : State) : State :=
  if (s.screenRec i).current = some h ∧ (s.screenRec i).state.isOn then
    let s := sendSelection i (s.selectionFor (some h)) s
    if (s.screenRec i).state = .showing then enterScreen i .linking (startLink i s) else s
  else s

/-- A state change notice of a channel that was ALIVE or not (R26). -/
def channelMoved (wasAlive : Bool) (v : InputId) (s : State) : State :=
  match s.binding v with
  | none => s
  | some h => onScreens (headMoved wasAlive h) s

/-! ### Lock inputs and timers (R34, R37, R48) -/

/-- A change of a screen's lock input (R34). -/
def lockChange (i : ScreenId) (present : Bool) (s : State) : State :=
  let s := s.setScreenRec i { s.screenRec i with lockPin := present, lockView := present }
  match (s.screenRec i).state, present with
  | .linking, true => settleAll (enterScreen i .showing (setLinkTimer i none s))
  | .fault, true => settleAll (enterScreen i .showing s)
  | .showing, false => settleAll (enterScreen i .linking (startLink i s))
  | _, _ => s

/-- The link timer expires (R37). -/
def linkExpiry (i : ScreenId) (s : State) : State :=
  match (s.screenRec i).linkTimer with
  | none => s
  | some t =>
    if (s.screenRec i).state = .linking then settleAll (enterScreen i .fault (setLinkTimer i none (s.reach t))) else s

/-- The power-on timer expires (R48). -/
def powerOnExpiry (i : ScreenId) (s : State) : State :=
  match (s.screenRec i).powerTimer with
  | none => s
  | some t => if (s.screenRec i).state = .powering then onScreens (followSource i) (s.reach t) else s

/-! ### The desk's low-power states (R46 to R48) -/

/-- A screen that is on takes its pending source at once, without a selection (R46). -/
def takeWaiting (i : ScreenId) (s : State) : State :=
  match (s.screenRec i).waiting with
  | some h => takeQuiet i (some h) s
  | none => s

/-- Both timers stop, the message is sent, and the low-power state is entered. -/
def rest (i : ScreenId) (sel : Selection) (st : ScreenState) (s : State) : State :=
  enterScreen i st (sendSelection i sel (setPowerTimer i none (setLinkTimer i none s)))

def screenStandby (i : ScreenId) (s : State) : State :=
  if (s.screenRec i).state.isOn then rest i .standby .standby (takeWaiting i s)
  else if (s.screenRec i).state = .powering then rest i .standby .standby s
  else s

def screenOff (i : ScreenId) (s : State) : State :=
  if (s.screenRec i).state.isOn then rest i .off .off (takeWaiting i s)
  else if (s.screenRec i).state = .standby ∨ (s.screenRec i).state = .powering then rest i .off .off s
  else s

/-- A screen in OFF is powered up (R48); a power-on time of 0 expires at once. -/
def powerUp (i : ScreenId) (s : State) : State :=
  let s := setPowerTimer i (some (s.timer s.powerOnMs)) (enterScreen i .powering (sendSelection i .blank s))
  if s.powerOnMs = 0 then followSource i s else s

def screenResume (i : ScreenId) (s : State) : State :=
  match (s.screenRec i).state with
  | .standby => followSource i s
  | .off => powerUp i s
  | _ => s

/-- The Power Manager tells the controller that the desk enters STANDBY, enters OFF or resumes. -/
def screensFollow (d : DeskState) (s : State) : State :=
  match d with
  | .standby => onScreens (eachScreen screenStandby) s
  | .off => onScreens (eachScreen screenOff) s
  | .active => onScreens (eachScreen screenResume) s

/-! ### Configuring and clearing (R35, R43) -/

/-- A configured notice (R35). -/
def configureScreen (i : ScreenId) (s : State) : State :=
  let s := enterScreen i .blank (sendSelection i .blank s)
  match s.desk.state with
  | .active => s
  | .standby => screenStandby i s
  | .off => screenOff i s

/-- An unconfigured notice (R35); the screen leaves the outstanding set (R56). -/
def unconfigureScreen (i : ScreenId) (s : State) : State :=
  let s := s.setScreenRec i { s.screenRec i with current := none, waiting := none, linkTimer := none, powerTimer := none }
  let s := enterScreen i .unused (sendSelection i .blank s)
  settleAll (match s.screens.inFlight with
    | some f => s.setInFlight (some { f with outstanding := f.outstanding &&& ~~~screenBit i })
    | none => s)

/-- The partial flag is set when an outstanding screen loses its pending source (R43). -/
def lostWaiting (i : ScreenId) (s : State) : State :=
  match s.screens.inFlight with
  | some f => if inSet f.outstanding i then s.setInFlight (some { f with incomplete := true }) else s
  | none => s

/-- A screen's sources that name the head are cleared (R43; log entry 19). -/
def clearHeadOn (h : Head) (i : ScreenId) (s : State) : State :=
  let r := s.screenRec i
  if r.current = some h then
    if r.state.isOn then takeSource i none (if r.waiting.isSome then lostWaiting i s else s)
    else s.setScreenRec i { r with current := none, waiting := if r.waiting = some h then none else r.waiting }
  else if r.waiting = some h then lostWaiting i (s.setScreenRec i { r with waiting := none })
  else s

/-- The sources naming the head are cleared on the screens of a set (R10). -/
def clearHead (h : Head) (on : ScreenSet) (s : State) : State :=
  onScreens (eachScreen fun i s => if inSet on i then clearHeadOn h i s else s) s

/-! ### Scenes (R51 to R55) -/

/-- A head may be shown on a screen: it is not private, or the screen is in its allowed set. -/
def HeadEntry.allows (e : HeadEntry) (i : ScreenId) : Bool := !e.isPrivate || inSet e.allowed i

/-- A source fits a screen: NONE, or a defined head that may be shown there. -/
def State.sourceFits (s : State) (i : ScreenId) : Option Head → Bool
  | none => true
  | some h =>
    match s.headEntry h with
    | some e => e.allows i
    | none => false

/-- An item is skipped (R51 step 2). -/
def State.skips (s : State) (it : SceneItem) : Bool := (s.screenRect it.screen).isNone || !s.sourceFits it.screen it.source

def setIncomplete (s : State) : State :=
  match s.screens.inFlight with
  | some f => s.setInFlight (some { f with incomplete := true })
  | none => s

/-- Step 2 of R51 for one item. -/
def applyItem (s : State) (it : SceneItem) : State :=
  if s.skips it then setIncomplete s else withNotices (assignSource it.screen it.source) s

/-- The screens a scene names. -/
def Scene.named (sc : Scene) : ScreenSet := sc.items.foldl (fun b it => b ||| screenBit it.screen) 0

/-- Step 1 of R51, with R53. -/
def formRecord (n : SceneNo) (sc : Scene) (s : State) : State :=
  let fresh := screenSetOf fun i => inSet sc.named i && (s.screenRect i).isSome
  match s.screens.inFlight with
  | none => s.setInFlight (some ⟨n, fresh, false, false⟩)
  | some f => s.setInFlight (some ⟨n, (f.outstanding &&& ~~~sc.named) ||| fresh, f.incomplete, true⟩)

/-- The key focus of a scene (R54). -/
def sceneFocus (sc : Scene) (s : State) : State :=
  match sc.keyFocus with
  | none => s
  | some c => if s.powerState c = .absent then setIncomplete s else focusRequest false c s

/-- A head of the computer is the source of an item that is not skipped (R54). -/
def State.sceneShows (s : State) (sc : Scene) (c : Computer) : Bool :=
  sc.items.any fun it => !s.skips it && (it.source.map Head.computer) == some c

/-- The wake requests of a scene, one for each computer, in rising order (R54; log entry 18). -/
def sceneWakes (sc : Scene) (s : State) : State :=
  if sc.wake then
    allComputers.foldl (fun s c => if s.sceneShows sc c ∧ (s.powerState c).down then wakeRequest c s else s) s
  else s

/-- The four steps of R51. -/
def applySceneSteps (n : SceneNo) (sc : Scene) (s : State) : State :=
  settleAll (sceneWakes sc (sceneFocus sc (sc.items.foldl applyItem (formRecord n sc s))))

def State.scene (s : State) (n : SceneNo) : Option Scene := s.screens.scenes[n]

/-- A scene requested by a record, an action or the start: nothing for an empty entry. -/
def applySceneNo (n : SceneNo) (s : State) : State :=
  match s.scene n with
  | some sc => applySceneSteps n sc s
  | none => s

/-- The start scene is applied (R55). -/
def applyStart (s : State) : State :=
  match s.screens.startScene with
  | some n => applySceneNo n s
  | none => s

/-- The Screen Controller at a soft reset (R58), one screen: no event is left from it. -/
def softResetScreen (i : ScreenId) (s : State) : State :=
  let r := s.screenRec i
  if r.state = .unused then s
  else
    let s := sendSelection i (s.selectionFor r.current) s
    s.setScreenRec i { s.screenRec i with
      state := if r.current.isSome then .dark else .blank, waiting := none, linkTimer := none, powerTimer := none }

def softResetScreens (s : State) : State := reportFault (eachScreen softResetScreen (s.setInFlight none))

/-! ### The records -/

/-- ASSIGN past its BUSY step (R40). -/
def judgeAssign (screen computer head : Nat) (s : State) : Judged :=
  match fin? 8 screen, source? computer head with
  | some i, some src =>
    if (s.screenRect i).isNone ∨ src.any (fun h => (s.headEntry h).isNone) then .error .notPresent
    else if ¬s.sourceFits i src then .error .refusedPolicy
    else ok (onScreens (assignSource i src) s)
  | _, _ => .error .outOfRange

def handleAssign (screen computer head : Nat) : State → Handled := whenLoaded (judgeAssign screen computer head)

/-- The range step of a scene (R50). -/
def Scene.ofRaw (keyFocus wake : Nat) (items : List RawItem) : Option Scene := do
  let k ← optFin? 6 keyFocus
  let w ← yesNo? wake
  let is ← items.mapM SceneItem.ofRaw
  if items.length ≤ 8 then pure ⟨is, k, w⟩ else none

/-- An item names a private head on a screen outside its allowed set (R50 step 4). -/
def State.breaksPolicy (s : State) (it : SceneItem) : Bool :=
  match it.source.bind s.headEntry with
  | some e => !e.allows it.screen
  | none => false

def State.setScene (n : SceneNo) (x : Option Scene) (s : State) : State :=
  s.setScreens { s.screens with scenes := s.screens.scenes.set n x }

/-- STORE_SCENE past its BUSY step (R50). -/
def judgeStoreScene (scene keyFocus wake : Nat) (items : List RawItem) (s : State) : Judged :=
  match fin? 16 scene, Scene.ofRaw keyFocus wake items with
  | some n, some sc =>
    if ¬(sc.items.map (·.screen)).Nodup then .error .conflict
    else if sc.items.any s.breaksPolicy then .error .refusedPolicy
    else ok (s.setScene n (if sc.items.isEmpty then none else some sc))
  | _, _ => .error .outOfRange

def handleStoreScene (scene keyFocus wake : Nat) (items : List RawItem) : State → Handled :=
  whenReady (judgeStoreScene scene keyFocus wake items)

/-- APPLY_SCENE past its BUSY step (R51). -/
def judgeApplyScene (scene : Nat) (s : State) : Judged :=
  match fin? 16 scene with
  | none => .error .outOfRange
  | some n =>
    match s.scene n with
    | none => .error .notFound
    | some sc => accepted (applySceneSteps n sc s)

def handleApplyScene (scene : Nat) : State → Handled := whenLoaded (judgeApplyScene scene)

/-- SET_START_SCENE past its BUSY step (R55). -/
def judgeSetStartScene (scene : Nat) (s : State) : Judged :=
  match optFin? 16 scene with
  | none => .error .outOfRange
  | some none => ok (s.setScreens { s.screens with startScene := none })
  | some (some n) =>
    if (s.scene n).isNone then .error .notFound else ok (s.setScreens { s.screens with startScene := some n })

def handleSetStartScene (scene : Nat) : State → Handled := whenReady (judgeSetStartScene scene)

/-- The flags of the in-flight record: bit 0 partial, bit 1 superseded (R204). -/
def flightFlags (incomplete superseded : Bool) : Byte := flag incomplete ||| flag superseded <<< 1

/-- The in-flight record as GET_SCREEN returns it. R204 codes only the scene byte of no record: an outstanding set and flags of 0
beside it are the model's choice (DESIGN CHOICE, log entry 38). -/
def flightBytes : Option InFlight → List Byte
  | none => [0xFF, 0, 0]
  | some f => [byte f.scene, f.outstanding, flightFlags f.incomplete f.superseded]

/-- The body of a GET_SCREEN reply for a screen (R57, R204). -/
def screenReply (i : ScreenId) (s : State) : List Byte :=
  let r := s.screenRec i
  r.state.code :: (sourceBytes r.current ++ sourceBytes r.waiting ++
    [flag r.lockView, flag (s.screens.inFlight.any (fun f => inSet f.outstanding i))] ++ flightBytes s.screens.inFlight ++
    word s.screens.linkLimit ++ [byte s.screens.powerValue, byte s.screens.powerScale, optId s.screens.startScene])

/-- GET_SCREEN naming a screen, past its BUSY step (R57). -/
def judgeGetScreen (screen : Nat) (s : State) : Judged :=
  match fin? 8 screen with
  | some i => ok s (screenReply i s)
  | none => .error .outOfRange

def handleGetScreen (screen : Nat) : State → Handled := whenLoaded (judgeGetScreen screen)

/-- GET_SCREEN naming a scene, past its BUSY step (R57). -/
def judgeGetScene (scene : Nat) (s : State) : Judged :=
  match fin? 16 scene with
  | some n => ok s (sceneBytes n (s.scene n))
  | none => .error .outOfRange

def handleGetScreenScene (scene : Nat) : State → Handled := whenLoaded (judgeGetScene scene)

/-- SET_SCREEN_TIMING past its BUSY step (R32). -/
def judgeSetScreenTiming (linkLimit powerValue powerScale : Nat) (s : State) : Judged :=
  if powerScale ≤ 2 ∧ powerValue ≤ 31 then
    ok (s.setScreens { s.screens with
      linkLimit := max 100 (min 10000 linkLimit), powerValue := powerValue, powerScale := powerScale })
  else .error .outOfRange

def handleSetScreenTiming (linkLimit powerValue powerScale : Nat) : State → Handled :=
  whenReady (judgeSetScreenTiming linkLimit powerValue powerScale)

/-! ### The commands -/

/-- LOCK_INPUT_CHANGE (R34). -/
def execLockInputChange (i : ScreenId) (present : Bool) (s : State) := onEvent (lockChange i present) s
/-- LINK_TIMER_EXPIRY (R37). -/
def execLinkTimerExpiry (i : ScreenId) (s : State) := onEvent (linkExpiry i) s
/-- POWER_ON_TIMER_EXPIRY (R48). -/
def execPowerOnTimerExpiry (i : ScreenId) (s : State) := onEvent (powerOnExpiry i) s
/-- ASSIGN (R40). -/
def execAssign (screen computer head : Nat) (s : State) := answerRecord 0x20 (handleAssign screen computer head) s
/-- STORE_SCENE (R50). -/
def execStoreScene (scene keyFocus wake : Nat) (items : List RawItem) (s : State) :=
  answerRecord 0x21 (handleStoreScene scene keyFocus wake items) s
/-- APPLY_SCENE (R51). -/
def execApplyScene (scene : Nat) (s : State) := answerRecord 0x22 (handleApplyScene scene) s
/-- SET_START_SCENE (R55). -/
def execSetStartScene (scene : Nat) (s : State) := answerRecord 0x23 (handleSetStartScene scene) s
/-- GET_SCREEN naming a screen (R57). -/
def execGetScreen (screen : Nat) (s : State) := answerRecord 0x24 (handleGetScreen screen) s
/-- GET_SCREEN naming a scene (R57). -/
def execGetScreenScene (scene : Nat) (s : State) := answerRecord 0x24 (handleGetScreenScene scene) s
/-- SET_SCREEN_TIMING (R32). -/
def execSetScreenTiming (linkLimit powerValue powerScale : Nat) (s : State) :=
  answerRecord 0x25 (handleSetScreenTiming linkLimit powerValue powerScale) s

end Sys2Proof.Machine
end

