-- ==== Sys2Proof/Machine/Desk.lean ====
section
/-!
DEFINITION. Desk idle and resume (spec/10_desk_idle_and_resume.md): thresholds, qualified activity, the motion window, entering and
leaving low power, and the commands of that chapter.
-/
namespace Sys2Proof.Machine
open Sys2Proof

/-! ### Thresholds (R177, R179) -/

/-- The scale codes of a threshold in s. -/
def idleScale : Nat → Nat
  | 0 => 1
  | 1 => 10
  | _ => 60

/-- A threshold in µs, 0 when it is disabled. -/
def threshold (value scale : Nat) : Nat := value * idleScale scale * 1000000

def Desk.standbyAfter (d : Desk) : Nat := threshold d.standbyValue d.standbyScale
def Desk.offAfter (d : Desk) : Nat := threshold d.offValue d.offScale

/-! ### Entering and leaving low power (R181, R182) -/

/-- The desk state changes: the motion window closes, and the change is handed on. -/
def setDeskState (d : DeskState) (s : State) : State :=
  raise (.deskPower d) (screensFollow d (followOutputs (s.setDesk { s.desk with state := d, window := none })))

/-- A request to enter STANDBY (R181). -/
def enterStandby (s : State) : State := if s.desk.state = .active then setDeskState .standby s else s

/-- The desk enters OFF and the idle timer stops (R181). -/
def enterOff (s : State) : State := setDeskState .off (s.setDesk { s.desk with idleStart := none })

/-- The idle timer restarts from 0. -/
def restartIdle (s : State) : State := s.setDesk { s.desk with idleStart := some s.now }

/-- The resume wake of R182. -/
def resumeWake (s : State) : State :=
  if s.desk.resumeWake ∧ (s.powerState s.keyboard.focus).down then wakeRequest s.keyboard.focus s else s

/-- A desk in STANDBY or OFF resumes (R182). -/
def resumeDesk (s : State) : State := resumeWake (setDeskState .active (restartIdle s))

/-! ### Activity (R180) -/

/-- Qualified activity: on an ACTIVE desk it restarts the idle timer; otherwise it is the waking input (`true`) and the desk
resumes. -/
def qualify (s : State) : State × Bool :=
  if s.desk.state = .active then (restartIdle s, false) else (resumeDesk s, true)

/-- The sum of the motion window after a report with motion sum `m`. -/
def Desk.windowSum (d : Desk) (m : Nat) : Nat := (d.window.map MotionWindow.sum).getD 0 + m

/-- The motion window takes a report's motion sum; `true` when the motion qualifies (R180). -/
def takeMotion (m : Nat) (s : State) : State × Bool :=
  if m = 0 then (s, false)
  else if s.desk.deadZone ≤ s.desk.windowSum m then (s.setDesk { s.desk with window := none }, true)
  else
    (s.setDesk { s.desk with
      window := some ⟨s.desk.windowSum m, (s.desk.window.map MotionWindow.timer).getD (s.timer 500)⟩ }, false)

/-- A pointer report is offered whole: it qualifies by a pressed button, a wheel, or its motion (R62, R180; log entry 25). -/
def offerReport (pressed : ButtonSet) (wheel : Int) (m : Nat) (s : State) : State :=
  let moved := takeMotion m s
  if moved.2 ∨ pressed ≠ 0 ∨ wheel ≠ 0 then (qualify moved.1).1 else moved.1

/-! ### Expiries -/

/-- The idle time reaches a threshold (R179). -/
def idleReached (s : State) : State :=
  match s.desk.idleStart with
  | none => s
  | some t =>
    let a := s.desk.standbyAfter
    let f := s.desk.offAfter
    match s.desk.state with
    | .active =>
      if a ≠ 0 ∧ (f = 0 ∨ a < f) then enterStandby (s.advanceTo (t + a))
      else if f ≠ 0 then enterOff (s.advanceTo (t + f))
      else s
    | .standby => if f ≠ 0 then enterOff (s.advanceTo (t + f)) else s
    | .off => s

/-- The motion window's timer expires (R180). -/
def motionExpiry (s : State) : State :=
  match s.desk.window with
  | none => s
  | some w => (s.reach w.timer).setDesk { s.desk with window := none }

/-- The desk power record at a soft reset (R184), with the DESK_ACTIVE outputs (R145). -/
def softResetDesk (s : State) : State :=
  followOutputs (s.setDesk { s.desk with state := .active, idleStart := some s.now, window := none })

/-! ### The records -/

/-- The idle time in units of 100 ms, saturating; 0 while the timer is stopped (R178, R204). -/
def idleUnits (s : State) : Nat := (s.desk.idleStart.map fun t => min 65535 ((s.now - t) / 100000)).getD 0

/-- The motion window: open flag, sum, time left (R204). -/
def windowBytes (s : State) : List Byte :=
  match s.desk.window with
  | none => flag false :: (word 0 ++ word 0)
  | some w => flag true :: (word w.sum ++ word (w.timer.leftMs s.now))

/-- The six desk power settings in the form of SET_DESK_POWER (R204). -/
def deskPowerBytes (d : Desk) : List Byte :=
  [byte d.standbyValue, byte d.standbyScale, byte d.offValue, byte d.offScale, byte d.deadZone, flag d.resumeWake]

/-- The body of every accepted SET_DESK_POWER (R178). -/
def deskReply (s : State) : List Byte :=
  deskPowerBytes s.desk ++ [s.desk.state.code, flag s.desk.idleStart.isSome] ++ word (idleUnits s) ++ windowBytes s

/-- The idle timer restarts after new settings, unless the desk is OFF (R178). -/
def restartForSettings (s : State) : State := if s.desk.state = .off then s else restartIdle s

/-- SET_DESK_POWER with settings, past its BUSY step (R178). -/
def judgeSetDeskPower (sv sc ov oc dz rw : Nat) (s : State) : Judged :=
  match yesNo? rw with
  | none => .error .outOfRange
  | some wake =>
    if sv ≤ 63 ∧ ov ≤ 63 ∧ sc ≤ 2 ∧ oc ≤ 2 ∧ 1 ≤ dz ∧ dz ≤ 255 then
      let s := restartForSettings (s.setDesk { s.desk with
        standbyValue := sv, standbyScale := sc, offValue := ov, offScale := oc, deadZone := dz, resumeWake := wake })
      ok s (deskReply s)
    else .error .outOfRange

def handleSetDeskPower (sv sc ov oc dz rw : Nat) : State → Handled := whenReady (judgeSetDeskPower sv sc ov oc dz rw)

/-- SET_DESK_POWER without settings, past its BUSY step (R178). -/
def judgeReadDeskPower (s : State) : Judged := ok s (deskReply s)

def handleSetDeskPowerRead : State → Handled := whenLoaded judgeReadDeskPower

/-- DESK_STANDBY past its BUSY step (R183). -/
def judgeDeskStandby (s : State) : Judged := ok (enterStandby s) [(enterStandby s).desk.state.code]

def handleDeskStandby : State → Handled := whenLoaded judgeDeskStandby

/-! ### The commands -/

/-- SET_DESK_POWER carrying settings (R178). -/
def execSetDeskPower (sv sc ov oc dz rw : Nat) (s : State) := answerRecord 0x71 (handleSetDeskPower sv sc ov oc dz rw) s
/-- SET_DESK_POWER carrying none (R178). -/
def execSetDeskPowerRead (s : State) := answerRecord 0x71 handleSetDeskPowerRead s
/-- DESK_STANDBY (R183). -/
def execDeskStandby (s : State) := answerRecord 0x72 handleDeskStandby s
/-- IDLE_THRESHOLD_REACHED (R179). -/
def execIdleThresholdReached (s : State) := onEvent idleReached s
/-- MOTION_WINDOW_EXPIRY (R180). -/
def execMotionWindowExpiry (s : State) := onEvent motionExpiry s

end Sys2Proof.Machine
end

