-- ==== Sys2Proof/Machine/Report.lean ====
section
/-!
DEFINITION. Desk pointer reports (spec/04_pointer_ballistics_and_glide.md R61, R62, R73 to R76, R79), dial detents, the pointer
port's leaving effects, the Pointer Engine's soft reset, and the commands of that chapter.
-/
namespace Sys2Proof.Machine
open Sys2Proof

/-! ### Reading a report (R61) -/

/-- A report as it is taken: buttons, counts, wheel. -/
structure PointerReport where
  buttons : ButtonSet
  dx : Int
  dy : Int
  wheel : Int
  deriving DecidableEq, Repr

/-- A signed count; −128 is taken as −127. -/
def count (b : Byte) : Int := max (-127) b.toInt

/-- The four bytes of a report, if it has four and bits 5–7 of the button byte are clear (R61, R202). -/
def PointerReport.parse : List Byte → Option PointerReport
  | [b, x, y, w] => if b &&& 0xE0 = 0 then some ⟨b.setWidth 5, count x, count y, count w⟩ else none
  | _ => none

/-- The interval of a report arriving at `t`: 64000 µs for a first one, else held to 1000..64000 (R61). -/
def interval (last : Option Nat) (t : Nat) : Nat :=
  match last with
  | none => 64000
  | some l => max 1000 (min 64000 (t - l))

/-! ### Buttons (R73) -/

def setButtons (b w : ButtonSet) (s : State) : State := s.setPointer { s.pointer with buttons := b, swallow := w }

/-- The buttons newly pressed by a report. -/
def State.pressedBy (s : State) (b : ButtonSet) : ButtonSet := b &&& ~~~s.pointer.buttons

/-- The delivered buttons that a report releases. -/
def State.releasedBy (s : State) (b : ButtonSet) : ButtonSet := s.delivered &&& ~~~b

/-- The desk button set is replaced; a released button leaves the swallow set. -/
def takeButtons (b : ButtonSet) (s : State) : State := setButtons b (s.pointer.swallow &&& b) s

/-- Buttons join the swallow set. -/
def swallowButtons (b : ButtonSet) (s : State) : State := s.setPointer { s.pointer with swallow := s.pointer.swallow ||| b }

/-! ### Take click (R79) -/

/-- The computer a click takes, if the test of R79 passes. -/
def State.takeClick (s : State) (pressed : ButtonSet) : Option Computer :=
  match s.pointer.place, s.pointer.focus with
  | some _, some c =>
    if (s.computer c).guarded ∧ s.keyboard.focus ≠ c ∧ s.powerState c ≠ .absent ∧ pressed ≠ 0 then some c else none
  | _, _ => none

/-- Key focus moves to the computer clicked, and the click is swallowed or delivered by its flag. -/
def clickTake (pressed : ButtonSet) (s : State) : State :=
  match s.takeClick pressed with
  | none => s
  | some c =>
    let s := focusRequest false c s
    if (s.computer c).takeClickSwallow then swallowButtons pressed s else s

/-! ### A report on an ACTIVE desk and in low power (R62) -/

/-- A parked pointer's entry for the key-focus computer (R76): a change of the delivered buttons, or a wheel. That a committed set
which differs from the delivered one after a discarded entry (R151) calls for no entry by itself while the pointer is parked is the
model's choice (DESIGN CHOICE, log entry 43). -/
def parkedEntry (before : ButtonSet) (w : Int) (s : State) : State :=
  let c := s.keyboard.focus
  if s.delivered ≠ before ∨ w ≠ 0 then handEntry c s.pointer.lastAbs[c].1 s.pointer.lastAbs[c].2 s.delivered w s else s

/-- Step 3 of R62: the entry of the report. -/
def reportEntry (before : ButtonSet) (w : Int) (s : State) : State :=
  if s.pointer.place.isSome then handPlace w s else parkedEntry before w s

/-- The three steps of R62 for a report taken while the desk is ACTIVE. R78 leaves the glide notice and the report's own entry (R74)
in no order: that a crossing's glide notice, with the focus change it may start, is dealt with in step 2, before the entry of step 3
is taken, is the model's choice (DESIGN CHOICE, log entry 45). -/
def activeReport (r : PointerReport) (t : Nat) (s : State) : State :=
  reportEntry s.delivered r.wheel
    (moveBy r.dx r.dy t (clickTake (s.pressedBy r.buttons) (takeButtons r.buttons s)))

/-- A delivered button released in low power is released at the stand-in computer (R62). -/
def lowRelease (released : ButtonSet) (s : State) : State :=
  let c := s.standIn
  if released ≠ 0 ∧ s.delivered ≠ s.committedButtons c then
    takePointer c s.pointer.lastAbs[c].1 s.pointer.lastAbs[c].2 s.delivered 0 s
  else s

/-- A report taken while the desk is STANDBY or OFF is swallowed (R62). -/
def lowReport (r : PointerReport) (s : State) : State :=
  lowRelease (s.releasedBy r.buttons) (swallowButtons (s.pressedBy r.buttons) (takeButtons r.buttons s))

/-- A normalized report is offered as activity and handled by the desk state it found (R62). -/
def takeReport (r : PointerReport) (t : Nat) (s : State) : State :=
  let offered := offerReport (s.pressedBy r.buttons) r.wheel (r.dx.natAbs + r.dy.natAbs) s
  if s.desk.state = .active then activeReport r t offered else lowReport r offered

/-- A report arrives at the desk pointer port (R61). -/
def pointerArrives (bytes : List Byte) (s : State) : State :=
  if s.keyboard.ptrPort.state = .present then
    let s := s.setKeyboard { s.keyboard with ptrPort := { s.keyboard.ptrPort with lastReport := some s.now } }
    match PointerReport.parse bytes with
    | none => raise (.deskPort .pointer .malformed) s
    | some r =>
      takeReport r (interval s.pointer.lastInterval s.now) (s.setPointer { s.pointer with lastInterval := some s.now })
  else s

/-! ### Dial detents (R75) -/

/-- One wheel step of the dial, `w` being +1 or −1. -/
def detent (w : Int) (s : State) : State :=
  match qualify s with
  | (s, true) => s
  | (s, false) =>
    let c := s.standIn
    takePointer c s.pointer.lastAbs[c].1 s.pointer.lastAbs[c].2 s.delivered w s

/-! ### The pointer port leaves PRESENT (R83), and the soft reset (R85) -/

def pointerLeaves (s : State) : State :=
  let s := setButtons 0 0 s
  let s := if s.committedButtons s.standIn ≠ 0 then releaseButtons s.standIn s else s
  s.setPointer { s.pointer with rx := 0, ry := 0, push := none, lastInterval := none }

/-- Step 2 of R85: every port is released of its buttons. -/
def releaseAllButtons (s : State) : State :=
  allComputers.foldl (fun s c => if s.committedButtons c ≠ 0 then releaseButtons c s else s) s

/-- Step 5 of R85: re-home or park, pointer focus set without a second release. -/
def reHomeQuiet (s : State) : State :=
  match s.lowestEligible with
  | some i => handPlace 0 (s.setPointer { s.pointer with place := s.centerOf i, focus := s.sourceComputer i })
  | none => s.setPointer { s.pointer with place := none, focus := none }

/-- The Pointer Engine at a soft reset (R85). -/
def softResetPointer (s : State) : State :=
  let s := releaseAllButtons (swallowHeld s)
  reHomeQuiet (s.setPointer { s.pointer with rx := 0, ry := 0, push := none, glideLock := false, lastInterval := none })

/-! ### The records -/

def judgeSetBallistics (t1 t2 t3 g0 g1 g2 g3 : Nat) (s : State) : Judged :=
  if [t1, t2, t3, g0, g1, g2, g3].all (fun n => decide (1 ≤ n) && decide (n ≤ 255)) ∧ t1 < t2 ∧ t2 < t3 then
    ok (s.setPointer { s.pointer with t1 := t1, t2 := t2, t3 := t3, g0 := g0, g1 := g1, g2 := g2, g3 := g3 })
  else .error .outOfRange

def handleSetBallistics (t1 t2 t3 g0 g1 g2 g3 : Nat) : State → Handled := whenReady (judgeSetBallistics t1 t2 t3 g0 g1 g2 g3)

def judgeSetGlide (barrier : Nat) (s : State) : Judged :=
  if barrier ≤ 255 then ok (s.setPointer { s.pointer with barrier := barrier }) else .error .outOfRange

def handleSetGlide (barrier : Nat) : State → Handled := whenReady (judgeSetGlide barrier)

/-- WARP naming a computer, past its BUSY step (R81). -/
def judgeWarpComputer (computer : Nat) (s : State) : Judged :=
  match fin? 6 computer with
  | none => .error .outOfRange
  | some c =>
    match (s.homeScreen c).bind s.centerOf with
    | some p => ok (movePointer p s)
    | none => .error .notFound

def handleWarpComputer (computer : Nat) : State → Handled := whenLoaded (judgeWarpComputer computer)

/-- WARP naming a position, past its BUSY step (R81). -/
def judgeWarpPosition (x y : Nat) (s : State) : Judged :=
  if x ≤ 16383 ∧ y ≤ 8191 then
    match s.screenAt x y with
    | some i => ok (movePointer ⟨i, x, y⟩ s)
    | none => .error .notFound
  else .error .outOfRange

def handleWarpPosition (x y : Nat) : State → Handled := whenLoaded (judgeWarpPosition x y)

/-- The seven ballistics values in the form of SET_BALLISTICS (R204). -/
def ballisticsBytes (p : PointerEngine) : List Byte :=
  [byte p.t1, byte p.t2, byte p.t3, byte p.g0, byte p.g1, byte p.g2, byte p.g3]

def placeBytes : Option Place → List Byte
  | none => flag true :: (word 65535 ++ word 65535 ++ [0xFF])
  | some p => flag false :: (word p.x ++ word p.y ++ [byte p.screen])

def pushBytes : Option Push → List Byte
  | none => 0xFF :: word 0
  | some p => byte p.screen :: word p.amount

/-- The body of a GET_POINTER reply (R84, R204). -/
def pointerReply (p : PointerEngine) : List Byte :=
  placeBytes p.place ++ [optId p.focus, signed p.rx, signed p.ry] ++ pushBytes p.push ++
    [flag p.glideLock, buttonByte p.buttons, buttonByte p.swallow] ++
    p.lastAbs.toList.flatMap (fun a => word a.1 ++ word a.2) ++ ballisticsBytes p ++ [byte p.barrier]

def judgeGetPointer (s : State) : Judged := ok s (pointerReply s.pointer)

def handleGetPointer : State → Handled := whenLoaded judgeGetPointer

/-! ### The commands -/

/-- SET_BALLISTICS (R60). -/
def execSetBallistics (t1 t2 t3 g0 g1 g2 g3 : Nat) (s : State) :=
  answerRecord 0x30 (handleSetBallistics t1 t2 t3 g0 g1 g2 g3) s
/-- SET_GLIDE (R60). -/
def execSetGlide (barrier : Nat) (s : State) := answerRecord 0x31 (handleSetGlide barrier) s
/-- WARP naming a computer (R81). -/
def execWarpComputer (computer : Nat) (s : State) := answerRecord 0x32 (handleWarpComputer computer) s
/-- WARP naming a position (R81). -/
def execWarpPosition (x y : Nat) (s : State) := answerRecord 0x32 (handleWarpPosition x y) s
/-- GET_POINTER (R84). -/
def execGetPointer (s : State) := answerRecord 0x33 handleGetPointer s
/-- DESK_POINTER_REPORT: a report of these bytes arrives at time `t` (R61, R62). -/
def execDeskPointerReport (bytes : List Byte) (t : Nat) (s : State) :=
  onEvent (fun s => pointerArrives bytes (s.advanceTo t)) s
/-- PUSH_DECAY_TIMER_EXPIRY (R69). -/
def execPushDecayTimerExpiry (s : State) := onEvent pushExpiry s

end Sys2Proof.Machine
end

