-- ==== Sys2Proof/Machine/Actions.lean ====
section
/-!
DEFINITION. What hotkeys do (spec/06_hotkeys_and_actions.md §6.5 to §6.7): the actions, momentary focus, the HOTKEY event, and
RUN_ACTION.
-/
namespace Sys2Proof.Machine
open Sys2Proof

/-! ### Actions (R126, R127) -/

/-- The computer `n` steps on from `c`, wrapping at C5 and C0. -/
def stepFrom (c : Computer) (previous : Bool) (n : Nat) : Computer :=
  if previous then Fin.ofNat 6 (c + 6 - n) else Fin.ofNat 6 (c + n)

/-- The computer CYCLE takes: the first in its direction that is not ABSENT and does not hold key focus (R126). -/
def State.cycleTo (s : State) (previous : Bool) : Option Computer :=
  ([1, 2, 3, 4, 5].map (stepFrom s.keyboard.focus previous)).find? fun c => s.powerState c != .absent

def toggleGlideLock (s : State) : State := s.setPointer { s.pointer with glideLock := !s.pointer.glideLock }

/-- A computer that is ABSENT or STARTING takes no wake. -/
def PowerState.gone : PowerState → Bool
  | .absent => true
  | .starting => true
  | _ => false

/-- An action other than MOMENTARY: the state after its request, or `none` when it is ignored (R126, R127). -/
def request (a : Action) (s : State) : Option State :=
  match a with
  | .focus c both => if s.powerState c = .absent then none else some (focusWithScope c both s)
  | .cycle previous => (s.cycleTo previous).map fun c => focusRequest false c s
  | .momentary _ => none
  | .scene n => (s.scene n).map fun sc => applySceneSteps n sc s
  | .wake c => if (s.powerState c).gone then none else some (wakeRequest c s)
  | .glideLock => some (toggleGlideLock s)
  | .deskStandby => some (enterStandby s)
  | .report => some s

/-- MOMENTARY (R128); the slot is set before the change it marks. -/
def requestMomentary (c : Computer) (n : EntryNo) (t : Trigger) (s : State) : Option State :=
  if s.matcher.slot.isSome then none
  else if s.powerState c = .absent then none
  else if s.keyboard.focus = c then some s
  else some (focusRequest true c (s.setSlot (some ⟨s.keyboard.focus, n, t⟩)))

/-- The action of an entry that fires. -/
def fireRequest (n : EntryNo) (h : Hotkey) (s : State) : Option State :=
  match h.action with
  | .momentary c => requestMomentary c n h.trigger s
  | a => request a s

/-- A request that was made or ignored, then HOTKEY (R130). -/
def reportHotkey (n : EntryNo) (r : Option State) (s : State) : State :=
  match r with
  | some s' => raise (.hotkey n true) s'
  | none => raise (.hotkey n false) s

/-- An entry fires (R126 to R130). -/
def fireEntry (n : EntryNo) (h : Hotkey) (s : State) : State := reportHotkey n (fireRequest n h s) s

/-- The end of a momentary change (R129): the slot empties and key focus returns to its computer. -/
def endMomentary (slot : ReturnSlot) (s : State) : State :=
  let s := s.setSlot none
  if s.powerState slot.computer = .absent then raise (.hotkey slot.entry false) s
  else raise (.hotkey slot.entry true) (focusRequest false slot.computer s)

/-- The release of this code ends the slot's CHORD trigger (R129). -/
def ReturnSlot.endsAtCode (slot : ReturnSlot) (k : Nat) : Bool :=
  match slot.trigger with
  | .chord _ code => code == k
  | _ => false

/-- This edge ends the slot's LINE trigger (R129). -/
def ReturnSlot.endsAtEdge (slot : ReturnSlot) (l : LineId) (active : Bool) : Bool :=
  match slot.trigger with
  | .line l' e => l' == l && e != active
  | _ => false

/-- The slot's trigger is on this line. -/
def ReturnSlot.onLine (slot : ReturnSlot) (l : LineId) : Bool :=
  match slot.trigger with
  | .line l' _ => l' == l
  | _ => false

def ReturnSlot.onChord (slot : ReturnSlot) : Bool :=
  match slot.trigger with
  | .chord _ _ => true
  | _ => false

/-- A momentary change whose slot `p` picks ends here. -/
def endMomentaryIf (p : ReturnSlot → Bool) (s : State) : State :=
  match s.matcher.slot with
  | some slot => if p slot then endMomentary slot s else s
  | none => s

/-- A slot that `p` picks is emptied without a return (R132). -/
def dropSlotIf (p : ReturnSlot → Bool) (s : State) : State :=
  match s.matcher.slot with
  | some slot => if p slot then s.setSlot none else s
  | none => s

/-! ### The table (R115) -/

def State.entry (s : State) (n : EntryNo) : Option Hotkey := s.matcher.table[n]

/-- The enabled entry whose trigger `p` picks, with its number. -/
def State.findEntry (s : State) (p : Trigger → Bool) : Option (EntryNo × Hotkey) :=
  allEntries.findSome? fun n =>
    match s.entry n with
    | some h => if h.enabled && p h.trigger then some (n, h) else none
    | none => none

/-- An edge the Line Unit offers for triggering (R125). -/
def lineTrigger (l : LineId) (active : Bool) (s : State) : State :=
  let s := endMomentaryIf (·.endsAtEdge l active) s
  match s.findEntry (· == .line l active) with
  | some (n, h) => fireEntry n h s
  | none => s

/-! ### RUN_ACTION (R131) -/

/-- What an action that is ignored answers RUN_ACTION (R131 steps 3 and 4). -/
def Action.refusal : Action → Result
  | .focus _ _ => .notPresent
  | .wake _ => .notPresent
  | _ => .notFound

/-- RUN_ACTION past its BUSY step (R131). -/
def judgeRunAction (action a1 a2 : Nat) (s : State) : Judged :=
  match Action.ofRaw action a1 a2 with
  | none => .error .outOfRange
  | some (.momentary _) => .error .outOfRange
  | some a =>
    match request a s with
    | none => .error a.refusal
    | some s' => match a with | .scene _ => accepted s' | _ => ok s'

def handleRunAction (action a1 a2 : Nat) : State → Handled := whenLoaded (judgeRunAction action a1 a2)

/-- RUN_ACTION (R131). -/
def execRunAction (action a1 a2 : Nat) (s : State) := answerRecord 0x53 (handleRunAction action a1 a2) s

end Sys2Proof.Machine
end

