-- ==== Sys2Proof/Machine/Matcher.lean ====
section
/-!
DEFINITION. The Hotkey Matcher (spec/06_hotkeys_and_actions.md): the judgement of presses and releases (R119 to R124) as verdicts
that the Keyboard Engine applies (R99), and the records of the hotkey table.
-/
namespace Sys2Proof.Machine
open Sys2Proof

/-! ### Verdicts -/

/-- What becomes of the event's own key: passed, swallowed, or deferred. -/
inductive Own where
  | pass
  | swallow
  | defer
  deriving DecidableEq, Repr

/-- A late delivery of a held record, or a tap replayed for a code no longer held (R99). -/
inductive Replay where
  | late (code : Nat)
  | tap (code : Nat)
  deriving DecidableEq, Repr

/-- An outcome (R99): the mark of the event's own record, whether the held modifiers are suppressed, the replays in order, and the
entry that fires. -/
structure Verdict where
  own : Own
  suppressMods : Bool
  replays : List Replay
  fires : Option (EntryNo × Hotkey)
  deriving DecidableEq, Repr

def Verdict.passed : Verdict := ⟨.pass, false, [], none⟩
def Verdict.passedAfter (rs : List Replay) : Verdict := ⟨.pass, false, rs, none⟩
def Verdict.swallowedAfter (rs : List Replay) : Verdict := ⟨.swallow, false, rs, none⟩
def Verdict.deferred : Verdict := ⟨.defer, false, [], none⟩
def Verdict.chord (e : EntryNo × Hotkey) : Verdict := ⟨.swallow, true, [], some e⟩
def Verdict.sequence (e : EntryNo × Hotkey) : Verdict := ⟨.swallow, false, [], some e⟩

/-! ### What the matcher looks at -/

/-- The kinds of the modifier records that do not carry suppressed (R120). -/
def State.heldKinds (s : State) : KindSet :=
  (s.keyboard.held.filter fun k => isModifier k.code && !k.suppressed).foldl (fun b k => b ||| kindBit k.code) 0

def Trigger.isSequence : Trigger → Bool
  | .one _ => true
  | .two _ _ => true
  | _ => false

/-- The trigger is a two-code sequence that begins with this code. -/
def Trigger.startsTwo (k : Nat) : Trigger → Bool
  | .two a _ => a == k
  | _ => false

def Matcher.toIdle (m : Matcher) : Matcher := { m with state := .idle, attempt := none, first := none, timer := none }

def goIdle (s : State) : State := s.setMatcher s.matcher.toIdle

/-- The window timer starts with the leader window. -/
def State.windowTimer (s : State) : Option Timer := some (s.timer s.matcher.window)

/-! ### Judging a press (R119 to R123) -/

/-- R119. -/
def judgeIdle (k : Nat) (s : State) : State × Verdict :=
  match (if ordinary k then s.findEntry (· == .chord s.heldKinds k) else none) with
  | some e => (s, .chord e)
  | none =>
    if k = s.matcher.leader ∧ (s.findEntry Trigger.isSequence).isSome ∧ s.heldKinds = 0 then
      (s.setMatcher { s.matcher with state := .leaderDown, attempt := some k }, .deferred)
    else (s, .passed)

/-- R121: another key while the leader is down. -/
def judgeLeaderDown (s : State) : State × Verdict :=
  (goIdle s, .passedAfter (s.matcher.attempt.map Replay.late).toList)

/-- The leader's tap, given back (R122, R123). -/
def leaderTap (s : State) : List Replay := (s.matcher.attempt.map Replay.tap).toList

/-- The first key, given back as a late delivery or a tap (R123, R124). -/
def firstBack (s : State) : List Replay :=
  (s.matcher.first.map fun f => if f.held then Replay.late f.code else Replay.tap f.code).toList

/-- R122. -/
def judgeArmed (k : Nat) (s : State) : State × Verdict :=
  if isModifier k then (s, .passed)
  else if s.matcher.attempt = some k then (goIdle s, .swallowedAfter (leaderTap s))
  else
    match s.findEntry (· == .one k) with
    | some e => (goIdle s, .sequence e)
    | none =>
      if (s.findEntry (Trigger.startsTwo k)).isSome then
        (s.setMatcher { s.matcher with state := .second, first := some ⟨k, true⟩, timer := s.windowTimer }, .deferred)
      else (goIdle s, .passedAfter (leaderTap s))

/-- R123. -/
def judgeSecond (k : Nat) (s : State) : State × Verdict :=
  if isModifier k then (s, .passed)
  else
    match s.matcher.first.bind fun f => s.findEntry (· == .two f.code k) with
    | some e => (goIdle s, .sequence e)
    | none => (goIdle s, .passedAfter (leaderTap s ++ firstBack s))

/-- A press is judged by the matcher state. -/
def judgePress (k : Nat) (s : State) : State × Verdict :=
  match s.matcher.state with
  | .idle => judgeIdle k s
  | .leaderDown => judgeLeaderDown s
  | .armed => judgeArmed k s
  | .second => judgeSecond k s

/-! ### Judging a release (R119, R121, R123) -/

/-- A release moves LEADER_DOWN to ARMED, and notes the first key of SECOND as let go. -/
def judgeRelease (k : Nat) (s : State) : State :=
  match s.matcher.state with
  | .leaderDown =>
    if s.matcher.attempt = some k then s.setMatcher { s.matcher with state := .armed, timer := s.windowTimer } else s
  | .second =>
    match s.matcher.first with
    | some f => if f.code = k then s.setMatcher { s.matcher with first := some { f with held := false } } else s
    | none => s
  | .idle => s
  | .armed => s

/-! ### Applying an outcome (R99) -/

/-- Starts the stuck timer of a delivering record, unless the limit is 0 (R107). -/
def State.withStuckTimer (s : State) (k : HeldKey) : HeldKey :=
  if k.delivering ∧ s.keyboard.stuckLimit ≠ 0 then { k with timer := some (s.timer (s.keyboard.stuckLimit * 1000)) } else k

/-- A late delivery (R99 step 2). -/
def lateDelivery (code : Nat) (s : State) : State :=
  retarget (markHeld (fun k => k.code == code && k.deferred) (fun k => s.withStuckTimer { k with deferred := false }) s)

def applyReplay (s : State) : Replay → State
  | .late k => lateDelivery k s
  | .tap k => replayTap k s

/-- Marks the event's own record. -/
def markOwn (k : Nat) (o : Own) (s : State) : State :=
  match o with
  | .pass => s
  | .swallow => markCode k HeldKey.swallow s
  | .defer => markCode k HeldKey.defer s

/-- Step 1 of R99: the marks, and the recomputation after them. -/
def applyMarks (k : Nat) (v : Verdict) (s : State) : State :=
  if v.own = .pass then s
  else
    let s := markOwn k v.own s
    retarget (if v.suppressMods then markHeld (fun h => isModifier h.code && !h.suppressed) HeldKey.suppress s else s)

/-- Step 2 of R99 with the event's own key still out of every target, so that the replays come before it (R121, R123; log entry
32). -/
def applyReplays (k : Nat) (v : Verdict) (s : State) : State :=
  if v.own = .pass ∧ v.replays ≠ [] then
    markCode k (fun h => { h with deferred := false })
      (v.replays.foldl applyReplay (markCode k (fun h => { h with deferred := true }) s))
  else v.replays.foldl applyReplay s

/-- Step 4 of R99. -/
def applyFire (v : Verdict) (s : State) : State :=
  match v.fires with
  | some (n, h) => fireEntry n h s
  | none => s

/-- The window timer expires (R124). -/
def windowExpiry (s : State) : State :=
  match s.matcher.timer with
  | none => s
  | some t =>
    match s.matcher.state with
    | .armed => (leaderTap s).foldl applyReplay (goIdle (s.reach t))
    | .second => (leaderTap s ++ firstBack s).foldl applyReplay (goIdle (s.reach t))
    | .idle => s
    | .leaderDown => s

/-- The desk keyboard has left PRESENT (R132). -/
def matcherLosesKeyboard (s : State) : State := dropSlotIf ReturnSlot.onChord (goIdle s)

/-- A line has stopped giving edges (R132). -/
def matcherLosesLine (l : LineId) (s : State) : State := dropSlotIf (·.onLine l) s

/-! ### The records -/

/-- Two triggers that may not stand together: equal, or one SEQUENCE the beginning of the other (R116). -/
def Trigger.clashes : Trigger → Trigger → Bool
  | .one a, .two b _ => a == b
  | .two a _, .one b => a == b
  | t, u => t == u

/-- Another entry in use clashes with a trigger (R116 step 4). -/
def State.clashing (s : State) (except : Option EntryNo) (t : Trigger) : Bool :=
  allEntries.any fun n => some n != except && (s.entry n).any fun h => h.trigger.clashes t

def Hotkey.isMomentary (h : Hotkey) : Bool :=
  match h.action with
  | .momentary _ => true
  | _ => false

def State.setHotkey (n : EntryNo) (x : Option Hotkey) (s : State) : State :=
  s.setMatcher { s.matcher with table := s.matcher.table.set n x }

/-- The entry a record is placed in: the one it names, or the lowest-numbered empty one (R116). -/
def State.placeFor (s : State) : Option EntryNo → Option EntryNo
  | some n => some n
  | none => allEntries.find? fun n => (s.entry n).isNone

/-- ADD_HOTKEY past its BUSY step (R116). -/
def judgeAddHotkey (choice : Nat) (r : RawHotkey) (s : State) : Judged :=
  match optFin? 32 choice, Hotkey.ofRaw r with
  | some place, some h =>
    if h.isMomentary ∧ h.trigger.isSequence then .error .outOfRange
    else if s.clashing place h.trigger then .error .conflict
    else
      match s.placeFor place with
      | none => .error .full
      | some n => ok (s.setHotkey n (some h)) [byte n]
  | _, _ => .error .outOfRange

def handleAddHotkey (choice : Nat) (r : RawHotkey) : State → Handled := whenReady (judgeAddHotkey choice r)

/-- REMOVE_HOTKEY past its BUSY step (R117). -/
def judgeRemoveHotkey (entry : Nat) (s : State) : Judged :=
  match fin? 32 entry with
  | none => .error .outOfRange
  | some n => if (s.entry n).isNone then .error .notFound else ok (s.setHotkey n none)

def handleRemoveHotkey (entry : Nat) : State → Handled := whenReady (judgeRemoveHotkey entry)

/-- An entry as GET_HOTKEY returns it (R201). -/
def entryBytes (n : EntryNo) : Option Hotkey → List Byte
  | none => byte n :: flag false :: List.replicate 8 0
  | some h => byte n :: flag true :: hotkeyBytes h

/-- GET_HOTKEY naming an entry, past its BUSY step (R117). -/
def judgeGetHotkey (entry : Nat) (s : State) : Judged :=
  match fin? 32 entry with
  | some n => ok s (entryBytes n (s.entry n))
  | none => .error .outOfRange

def handleGetHotkey (entry : Nat) : State → Handled := whenLoaded (judgeGetHotkey entry)

/-- A code that may be none, coded 0 (R198). -/
def optCode (k : Option Nat) : Byte := byte (k.getD 0)

/-- The return slot: computer, entry number, trigger (R204; an empty slot's entry number by R198, log entry 34). -/
def slotBytes : Option ReturnSlot → List Byte
  | none => [0xFF, 0xFF, 0, 0, 0, 0]
  | some x => byte x.computer :: byte x.entry :: triggerBytes x.trigger

/-- The body of a GET_HOTKEY reply for the matcher (R117, R204). The held flag beside a first key of none is 0 by the model's choice
(DESIGN CHOICE, log entry 38). -/
def matcherReply (s : State) : List Byte :=
  let m := s.matcher
  [m.state.code, optCode m.attempt, optCode (m.first.map FirstKey.code), flag (m.first.any FirstKey.held)] ++
    word ((m.timer.map (·.leftMs s.now)).getD 65535) ++ slotBytes m.slot ++ byte m.leader :: word m.window ++
    [byte (allEntries.countP fun n => (s.entry n).isSome)]

def judgeGetMatcher (s : State) : Judged := ok s (matcherReply s)

def handleGetHotkeyMatcher : State → Handled := whenLoaded judgeGetMatcher

/-! ### The commands -/

/-- ADD_HOTKEY (R116). -/
def execAddHotkey (choice : Nat) (r : RawHotkey) (s : State) := answerRecord 0x50 (handleAddHotkey choice r) s
/-- REMOVE_HOTKEY (R117). -/
def execRemoveHotkey (entry : Nat) (s : State) := answerRecord 0x51 (handleRemoveHotkey entry) s
/-- GET_HOTKEY naming an entry (R117). -/
def execGetHotkey (entry : Nat) (s : State) := answerRecord 0x52 (handleGetHotkey entry) s
/-- GET_HOTKEY naming the matcher (R117). -/
def execGetHotkeyMatcher (s : State) := answerRecord 0x52 handleGetHotkeyMatcher s
/-- WINDOW_TIMER_EXPIRY (R124). -/
def execWindowTimerExpiry (s : State) := onEvent windowExpiry s

end Sys2Proof.Machine
end

