-- ==== Sys2Proof/Machine/Keys.lean ====
section
/-!
DEFINITION. The Keyboard Engine (spec/05_keyboard_path_and_focus.md): desk keyboard reports, presses and releases, the desk ports,
the stuck-key guard, the soft reset of keyboard and matcher, and the commands of that chapter.
-/
namespace Sys2Proof.Machine
open Sys2Proof

/-! ### Presses and releases (R94, R95) -/

/-- A record for a press at the present time (R93). -/
def State.newKey (s : State) (k : Nat) : HeldKey :=
  { code := k, pressed := s.now, suppressed := false, swallowed := false, stuck := false, deferred := false, timer := none }

/-- The DROP policy at step 4 of R94 (R106). -/
def dropPress (k : Nat) (s : State) : State :=
  let c := s.keyboard.focus
  if (s.heldKey k).any HeldKey.delivering ∧ ordinary k ∧ (s.computer c).holdDrop ∧ s.powerState c ≠ .awake then
    raise (.keysDropped c) (markCode k HeldKey.suppress s)
  else s

/-- Steps 4 to 6 of R94. -/
def settlePress (k : Nat) (s : State) : State :=
  let s := dropPress k s
  retarget (markCode k s.withStuckTimer s)

/-- A press event (R94), its outcome applied in the order of R99. A resume wake without a method (R182, R105) meets the waking key's
record before the record is marked swallowed, so that it carries both flags: DESIGN CHOICE, log entry 40. -/
def pressKey (s : State) (k : Nat) : State :=
  match qualify (s.setHeld (s.keyboard.held ++ [s.newKey k])) with
  | (s, true) => markCode k HeldKey.swallow s
  | (s, false) =>
    let (s, v) := judgePress k s
    applyFire v (settlePress k (applyReplays k v (applyMarks k v s)))

/-- A release event (R95); the end of a momentary change is the action of R99 step 4 (R129). -/
def releaseKey (s : State) (k : Nat) : State :=
  endMomentaryIf (·.endsAtCode k)
    (retarget (judgeRelease k (s.setHeld (s.keyboard.held.filter (·.code != k)))))

/-! ### Keyboard reports (R91, R92) -/

/-- The codes of a modifier set, in code order. -/
def modCodes (m : ModSet) : List Nat := ([0, 1, 2, 3, 4, 5, 6, 7].filter fun i => m.getLsbD i).map (· + 224)

/-- How a report is judged (R91). -/
inductive KeyReport where
  | malformed
  | rollover
  | keys (codes : List Nat)
  deriving DecidableEq, Repr

/-- The seven bytes of a report: modifiers, then six slots (R202). The report set is the modifiers in code order, then the slot
codes, a repeated code counting once (R91). -/
def KeyReport.parse : List Byte → KeyReport
  | [m, a, b, c, d, e, f] =>
    let slots := [a, b, c, d, e, f].map BitVec.toNat
    if slots.any (fun k => decide (224 ≤ k)) then .malformed
    else if slots.contains 1 then .rollover
    else .keys (modCodes m ++ collapse (slots.filter (· != 0)))
  | _ => .malformed

/-- A taken report: the releases in press order, then the presses (R92). -/
def takeKeyReport (codes : List Nat) (s : State) : State :=
  let held := s.keyboard.held.map (·.code)
  let s := (held.filter fun k => !codes.contains k).foldl releaseKey s
  (codes.filter fun k => !held.contains k).foldl pressKey s

/-- A report arrives at the desk keyboard port (R91). -/
def keysArrive (bytes : List Byte) (s : State) : State :=
  if s.keyboard.kbPort.state = .present then
    let s := s.setKeyboard { s.keyboard with kbPort := { s.keyboard.kbPort with lastReport := some s.now } }
    match KeyReport.parse bytes with
    | .malformed => raise (.deskPort .keyboard .malformed) s
    | .rollover => s
    | .keys codes => takeKeyReport codes s
  else s

/-- A stuck timer expires (R108). -/
def stuckExpiry (code : Nat) (s : State) : State :=
  match (s.heldKey code).bind HeldKey.timer with
  | none => s
  | some t => retarget (raise (.stuckKey code) (markCode code HeldKey.markStuck (s.reach t)))

/-! ### Desk ports (R87 to R90) -/

def State.deskPort (s : State) : DeskPort → DeskPortRec
  | .keyboard => s.keyboard.kbPort
  | .pointer => s.keyboard.ptrPort

def setDeskPort (p : DeskPort) (x : DeskPortRec) (s : State) : State :=
  match p with
  | .keyboard => s.setKeyboard { s.keyboard with kbPort := x }
  | .pointer => s.setKeyboard { s.keyboard with ptrPort := x }

/-- The desk keyboard leaves PRESENT (R89 steps 1 to 3). -/
def keyboardLeaves (s : State) : State := retarget (matcherLosesKeyboard (s.setHeld []))

/-- The leaving effects of a desk port (R89, R83). -/
def portLeaves (p : DeskPort) (s : State) : State :=
  match p with
  | .keyboard => keyboardLeaves s
  | .pointer => pointerLeaves s

/-- The entry effects of a desk port: the lamps are written (R90); the pointer port has none (R83). -/
def portEnters (p : DeskPort) (s : State) : State :=
  match p with
  | .keyboard => showLamps s
  | .pointer => s

/-- A device attach is observed (R87). -/
def deskAttach (p : DeskPort) (s : State) : State :=
  if (s.deskPort p).attached then s
  else
    raise (.deskPort p .attach) <|
      match (s.deskPort p).state with
      | .absent => portEnters p (setDeskPort p ⟨.present, true, none⟩ s)
      | st => setDeskPort p ⟨st, true, (s.deskPort p).lastReport⟩ s

/-- A device detach is observed (R87); the last report time becomes none when the port leaves PRESENT (R88). -/
def deskDetach (p : DeskPort) (s : State) : State :=
  if (s.deskPort p).attached then
    raise (.deskPort p .detach) <|
      match (s.deskPort p).state with
      | .present => portLeaves p (setDeskPort p ⟨.absent, false, none⟩ s)
      | st => setDeskPort p ⟨st, false, (s.deskPort p).lastReport⟩ s
  else s

/-- DESK_PORT DISABLE (R87). -/
def disablePort (p : DeskPort) (s : State) : State :=
  match (s.deskPort p).state with
  | .absent => setDeskPort p { s.deskPort p with state := .disabled } s
  | .present => portLeaves p (setDeskPort p ⟨.disabled, (s.deskPort p).attached, none⟩ s)
  | .disabled => s

/-- DESK_PORT ENABLE (R87). -/
def enablePort (p : DeskPort) (s : State) : State :=
  match (s.deskPort p).state with
  | .disabled =>
    if (s.deskPort p).attached then portEnters p (setDeskPort p { s.deskPort p with state := .present } s)
    else setDeskPort p { s.deskPort p with state := .absent } s
  | _ => s

/-! ### Soft reset (R113, R133) -/

/-- Step 3 of R113. -/
def releaseAllKeys (s : State) : State := allComputers.foldl (fun s c => releaseKeys c s) s

/-- The Keyboard Engine and the Hotkey Matcher at a soft reset. -/
def softResetKeys (s : State) : State :=
  let s := releaseAllKeys (markHeld (fun _ => true) HeldKey.suppress ((goIdle s).setSlot none))
  followOutputs (showLamps (s.setKeyboard { s.keyboard with focus := 0 }))

/-! ### The records -/

/-- SET_FOCUS past its BUSY step (R102). -/
def judgeSetFocus (computer scope : Nat) (s : State) : Judged :=
  match fin? 6 computer, yesNo? scope with
  | some c, some both => if s.powerState c = .absent then .error .notPresent else ok (focusWithScope c both s)
  | _, _ => .error .outOfRange

def handleSetFocus (computer scope : Nat) : State → Handled := whenLoaded (judgeSetFocus computer scope)

/-- A held-key record: code, time held in ms, flags (R204). -/
def heldBytes (now : Nat) (k : HeldKey) : List Byte :=
  byte k.code :: (word (msSince now (some k.pressed)) ++
    [flag k.suppressed ||| flag k.swallowed <<< 1 ||| flag k.stuck <<< 2 ||| flag k.deferred <<< 3])

def deskPortBytes (p : DeskPortRec) : List Byte := [p.state.code, flag p.attached]

/-- The body of a GET_FOCUS reply for the focus state (R112, R204). -/
def focusReply (s : State) : List Byte :=
  [byte s.keyboard.focus, optId s.pointer.focus, byte s.keyboard.held.length] ++
    s.keyboard.held.flatMap (heldBytes s.now) ++ keyStateBytes s.target ++
    s.keyboard.lamps.toList.map (·.setWidth 8) ++ deskPortBytes s.keyboard.kbPort ++ deskPortBytes s.keyboard.ptrPort ++
    [byte s.keyboard.stuckLimit]

def judgeGetFocus (s : State) : Judged := ok s (focusReply s)

def handleGetFocus : State → Handled := whenLoaded judgeGetFocus

/-- A map in the form of SET_KEYMAP (R204). -/
def mapBytes (m : MapNo) (pairs : List (Nat × Nat)) : List Byte :=
  byte m :: byte pairs.length :: pairs.flatMap fun p => [byte p.1, byte p.2]

/-- GET_FOCUS naming a map, past its BUSY step (R112). -/
def judgeGetFocusMap (map : Nat) (s : State) : Judged :=
  match fin? 4 map with
  | some m => ok s (mapBytes m s.keyboard.maps[m])
  | none => .error .outOfRange

def handleGetFocusMap (map : Nat) : State → Handled := whenLoaded (judgeGetFocusMap map)

/-- A pair put in its place by from code. -/
def insertPair (p : Nat × Nat) : List (Nat × Nat) → List (Nat × Nat)
  | [] => [p]
  | q :: rest => if p.1 ≤ q.1 then p :: q :: rest else q :: insertPair p rest

/-- Pairs in from-code order, as GET_FOCUS returns them (R112). -/
def sortPairs (pairs : List (Nat × Nat)) : List (Nat × Nat) := pairs.foldr insertPair []

/-- A pair of a key translation map: from 2–223, to 0 or 2–223 (R98). -/
def pairFits (p : Nat × Nat) : Bool := ordinary p.1 && (p.2 == 0 || ordinary p.2)

/-- The target is recomputed when the key-focus computer's translation may have changed (R98, R7). -/
def retargetFor (p : ComputerEntry → Bool) (s : State) : State :=
  if p (s.computer s.keyboard.focus) then retarget s else s

/-- SET_KEYMAP past its BUSY step (R98). -/
def judgeSetKeymap (map : Nat) (pairs : List (Nat × Nat)) (s : State) : Judged :=
  match fin? 4 map with
  | none => .error .outOfRange
  | some m =>
    if ¬(pairs.length ≤ 64 ∧ pairs.all pairFits) then .error .outOfRange
    else if ¬(pairs.map (·.1)).Nodup then .error .conflict
    else ok (retargetFor (·.keymap == some m)
      (s.setKeyboard { s.keyboard with maps := s.keyboard.maps.set m (sortPairs pairs) }))

def handleSetKeymap (map : Nat) (pairs : List (Nat × Nat)) : State → Handled := whenReady (judgeSetKeymap map pairs)

/-- The stuck-key limit as stored (R109). -/
def clampLimit (n : Nat) : Nat := if n = 0 then 0 else max 5 (min 120 n)

/-- The stuck timers after a change of the limit (R109). -/
def limitTimers (old new : Nat) (s : State) : State :=
  if new = 0 then markHeld (fun _ => true) (fun k => { k with timer := none }) s
  else if old = 0 then markHeld (fun _ => true) s.withStuckTimer s
  else s

/-- SET_KEY_OPTIONS past its BUSY step (R109, R118). -/
def judgeSetKeyOptions (stuckLimit leader window : Nat) (s : State) : Judged :=
  if ordinary leader then
    let s' := (s.setKeyboard { s.keyboard with stuckLimit := clampLimit stuckLimit }).setMatcher
      { s.matcher with leader := leader, window := max 200 (min 5000 window) }
    ok (limitTimers s.keyboard.stuckLimit (clampLimit stuckLimit) s')
  else .error .outOfRange

def handleSetKeyOptions (stuckLimit leader window : Nat) : State → Handled :=
  whenReady (judgeSetKeyOptions stuckLimit leader window)

/-- The port byte of DESK_PORT (R204). -/
def deskPort? : Nat → Option DeskPort
  | 0 => some .keyboard
  | 1 => some .pointer
  | _ => none

/-- The three values of every accepted DESK_PORT (R88). -/
def deskPortReply (p : DeskPort) (s : State) : List Byte :=
  deskPortBytes (s.deskPort p) ++ word (msSince s.now (s.deskPort p).lastReport)

/-- DESK_PORT past its BUSY step, `f` being its operation (R88). -/
def judgeDeskPort (f : DeskPort → State → State) (port : Nat) (s : State) : Judged :=
  match deskPort? port with
  | some p => ok (f p s) (deskPortReply p (f p s))
  | none => .error .outOfRange

def handleDeskPortCheck (port : Nat) : State → Handled := whenLoaded (judgeDeskPort (fun _ s => s) port)
def handleDeskPortEnable (port : Nat) : State → Handled := whenLoaded (judgeDeskPort enablePort port)
def handleDeskPortDisable (port : Nat) : State → Handled := whenLoaded (judgeDeskPort disablePort port)

/-! ### The commands -/

/-- SET_FOCUS (R102). -/
def execSetFocus (computer scope : Nat) (s : State) := answerRecord 0x40 (handleSetFocus computer scope) s
/-- GET_FOCUS naming the focus state (R112). -/
def execGetFocus (s : State) := answerRecord 0x41 handleGetFocus s
/-- GET_FOCUS naming a map (R112). -/
def execGetFocusMap (map : Nat) (s : State) := answerRecord 0x41 (handleGetFocusMap map) s
/-- SET_KEYMAP (R98). -/
def execSetKeymap (map : Nat) (pairs : List (Nat × Nat)) (s : State) := answerRecord 0x42 (handleSetKeymap map pairs) s
/-- SET_KEY_OPTIONS (R109). -/
def execSetKeyOptions (stuckLimit leader window : Nat) (s : State) :=
  answerRecord 0x43 (handleSetKeyOptions stuckLimit leader window) s
/-- DESK_PORT with CHECK (R88). -/
def execDeskPortCheck (port : Nat) (s : State) := answerRecord 0x44 (handleDeskPortCheck port) s
/-- DESK_PORT with ENABLE (R88). -/
def execDeskPortEnable (port : Nat) (s : State) := answerRecord 0x44 (handleDeskPortEnable port) s
/-- DESK_PORT with DISABLE (R88). -/
def execDeskPortDisable (port : Nat) (s : State) := answerRecord 0x44 (handleDeskPortDisable port) s
/-- DESK_DEVICE_ATTACH (R87). -/
def execDeskDeviceAttach (p : DeskPort) (s : State) := onEvent (deskAttach p) s
/-- DESK_DEVICE_DETACH (R87). -/
def execDeskDeviceDetach (p : DeskPort) (s : State) := onEvent (deskDetach p) s
/-- DESK_KEYBOARD_REPORT: a report of these bytes arrives at time `t` (R91, R92). -/
def execDeskKeyboardReport (bytes : List Byte) (t : Nat) (s : State) :=
  onEvent (fun s => keysArrive bytes (s.advanceTo t)) s
/-- STUCK_TIMER_EXPIRY of the record of a code (R108). -/
def execStuckTimerExpiry (code : Nat) (s : State) := onEvent (stuckExpiry code) s

end Sys2Proof.Machine
end

