-- ==== Sys2Proof/Machine/Lines.lean ====
section
/-!
DEFINITION. The Line Unit (spec/07_desk_lines_and_dial.md): input filtering and edges, outputs, the dial, and the commands of that
chapter.
-/
namespace Sys2Proof.Machine
open Sys2Proof

/-! ### Levels (R134, R136) -/

/-- The logical level of the outside electrical level, `true` for ACTIVE. -/
def LineRec.logical (r : LineRec) : Bool := r.pin != r.config.activeLow

/-- The electrical level at the pin, `true` for high: of the driven level on an OUTPUT line, else the outside one (log entry 31). -/
def LineRec.electrical (r : LineRec) : Bool :=
  match r.driven with
  | some level => level != r.config.activeLow
  | none => r.pin

/-! ### Edges (R139, R140, R143) -/

def setSuppressed (l : LineId) (b : Bool) (s : State) : State := s.setLineRec l { s.lineRec l with suppressed := b }

/-- Step 2 of R139. -/
def reportEdge (l : LineId) (active : Bool) (s : State) : State :=
  if (s.lineRec l).config.report then raise (.lineEdge l active) s else s

/-- An ACTIVE edge of a wake-enabled line is qualified activity; `true` when it is swallowed (R139 step 1). -/
def offerEdge (l : LineId) (active : Bool) (s : State) : State × Bool :=
  if active ∧ (s.lineRec l).config.wake then qualify s else (s, false)

/-- An edge of an INPUT line (R139). -/
def inputEdge (l : LineId) (active : Bool) (s : State) : State :=
  match offerEdge l active s with
  | (s, true) => endMomentaryIf (·.endsAtEdge l active) (reportEdge l active (setSuppressed l true s))
  | (s, false) =>
    let s := reportEdge l active s
    if ¬active ∧ (s.lineRec l).suppressed then setSuppressed l false s else lineTrigger l active s

/-- The place of a phase pair in the cycle of R143. -/
def phasePlace (a b : Bool) : Nat :=
  match a, b with
  | false, false => 0
  | true, false => 1
  | true, true => 2
  | false, true => 3

/-- +1 for a move forward in the cycle, −1 for a move backward. -/
def phaseMove (old new : Nat) : Int :=
  match (new + 4 - old) % 4 with
  | 1 => 1
  | 3 => -1
  | _ => 0

def setDial (d : Option Dial) (s : State) : State := s.setLines { s.lines with dial := d }

/-- The pair after an edge of L6 (phase A) or L7 (phase B). -/
def Dial.after (d : Dial) (l : LineId) (active : Bool) : Bool × Bool := if l = 6 then (active, d.b) else (d.a, active)

/-- A filtered edge of the dial (R143). -/
def dialEdge (l : LineId) (active : Bool) (s : State) : State :=
  match s.lines.dial with
  | none => s
  | some d =>
    let p := d.after l active
    let n := d.count + phaseMove (phasePlace d.a d.b) (phasePlace p.1 p.2)
    let limit : Int := (s.lineRec l).config.counts
    if n = limit then detent 1 (setDial (some ⟨p.1, p.2, 0⟩) s)
    else if n = -limit then detent (-1) (setDial (some ⟨p.1, p.2, 0⟩) s)
    else setDial (some ⟨p.1, p.2, n⟩) s

/-- The filtered level takes the logical level and an edge is made (R138). -/
def makeEdge (l : LineId) (s : State) : State :=
  let r := s.lineRec l
  let s := s.setLineRec l { r with filtered := some r.logical, timer := none }
  match r.config.mode with
  | .input => inputEdge l r.logical s
  | .dial => dialEdge l r.logical s
  | .off => s
  | .output => s

/-- INPUT and DIAL lines are filtered. -/
def LineMode.filters : LineMode → Bool
  | .input => true
  | .dial => true
  | _ => false

/-- The filter judges a line whose electrical level changed (R138). -/
def filterLine (l : LineId) (s : State) : State :=
  let r := s.lineRec l
  if r.config.mode.filters then
    if r.filtered = some r.logical then s.setLineRec l { r with timer := none }
    else if r.config.filter = 0 then makeEdge l s
    else s.setLineRec l { r with timer := some (s.timer r.config.filter) }
  else s

/-- The electrical level of a line changes (R138); a level that stays is no change. -/
def lineLevel (l : LineId) (high : Bool) (s : State) : State :=
  if (s.lineRec l).pin = high then s else filterLine l (s.setLineRec l { s.lineRec l with pin := high })

/-- The filter timer expires (R138). -/
def filterExpiry (l : LineId) (s : State) : State :=
  match (s.lineRec l).timer with
  | none => s
  | some t => makeEdge l (s.reach t)

/-! ### Setting a line (R135 to R137) -/

/-- An OUTPUT line's driven level under a new configuration: the same driven level while mode and source stay (R136), so that a level
set by DRIVE_LINE outlasts a change of polarity, else the level the source gives now (R137 step 3). That R142's "SET_LINE with a
MANUAL source sets both" speaks of a record that changes the source is log entry 17. -/
def LineRec.drivenBy (s : State) (r : LineRec) (c : LineConfig) : Option Bool :=
  if r.config.mode = .output ∧ r.config.source = c.source then r.driven else some (sourceLevel s c.source)

/-- The line leaves its setting and enters a configuration (R137). -/
def LineRec.enter (s : State) (r : LineRec) (c : LineConfig) : LineRec :=
  let left : LineRec := { r with config := c, timer := none, suppressed := false }
  match c.mode with
  | .off => { left with filtered := none, driven := none }
  | .input => { left with filtered := some left.logical, driven := none }
  | .dial => { left with filtered := some left.logical, driven := none }
  | .output => { left with filtered := none, driven := r.drivenBy s c }

/-- An unchanged mode and polarity keep the dynamic state (R135; log entry 17), but a new source is followed at once (R136). -/
def LineRec.keep (s : State) (r : LineRec) (c : LineConfig) : LineRec :=
  if c.mode = .output then { r with config := c, driven := r.drivenBy s c } else { r with config := c }

/-- Whether a record makes the line leave its setting (R137). -/
def LineConfig.moves (old new : LineConfig) : Bool := old.mode != new.mode || old.activeLow != new.activeLow

/-- One line takes a configuration (R137). -/
def setLineConfig (l : LineId) (c : LineConfig) (s : State) : State :=
  let r := s.lineRec l
  if r.config.moves c then
    let s := if r.config.mode = .input then matcherLosesLine l s else s
    s.setLineRec l (r.enter s c)
  else s.setLineRec l (r.keep s c)

/-- The phases of L6 and L7 as they are filtered, with count 0. -/
def State.freshDial (s : State) : Dial :=
  ⟨(s.lineRec 6).filtered == some true, (s.lineRec 7).filtered == some true, 0⟩

/-- A DIAL record sets both lines (R135); the decoder starts anew when the pair is entered afresh, and its count becomes 0 at a
change of the counts per detent (R137). -/
def setDialPair (c : LineConfig) (s : State) : State :=
  let old := (s.lineRec 6).config
  let fresh := old.moves c || (s.lineRec 7).config.moves c
  let s := setLineConfig 7 c (setLineConfig 6 c s)
  if fresh then setDial (some s.freshDial) s
  else if old.counts ≠ c.counts then setDial (s.lines.dial.map fun d => { d with count := 0 }) s
  else s

/-- The other line of the pair L6, L7. -/
def otherPhase (l : LineId) : LineId := if l = 6 then 7 else 6

/-- A configuration that passed its checks is applied (R135). -/
def applyLine (l : LineId) (c : LineConfig) (s : State) : State :=
  if c.mode = .dial then setDialPair c s
  else if (s.lineRec l).config.mode = .dial then
    setDial none (setLineConfig (otherPhase l) .reset (setLineConfig l c s))
  else setLineConfig l c s

/-! ### Soft reset (R145) -/

def LineRec.softReset (s : State) (r : LineRec) : LineRec :=
  match r.config.mode with
  | .input => { r with suppressed := r.filtered == some true }
  | .output => { r with driven := some (sourceLevel s r.config.source) }
  | .dial => r
  | .off => r

def softResetLines (s : State) : State :=
  s.setLines { s.lines with recs := Vector.ofFn fun l => (s.lineRec l).softReset s, dial := s.lines.dial.map fun _ => s.freshDial }

/-! ### The records -/

/-- SET_LINE past its BUSY step (R135). -/
def judgeSetLine (line : Nat) (r : RawLine) (s : State) : Judged :=
  match fin? 8 line with
  | none => .error .outOfRange
  | some l =>
    match LineConfig.ofRaw l r with
    | none => .error .outOfRange
    | some c => ok (applyLine l c s)

def handleSetLine (line : Nat) (r : RawLine) : State → Handled := whenReady (judgeSetLine line r)

/-- The line is OUTPUT and its source is MANUAL. -/
def LineConfig.isManual (c : LineConfig) : Bool := c.mode == .output && !c.source.follows

/-- DRIVE_LINE past its BUSY step (R142). -/
def judgeDriveLine (line level : Nat) (s : State) : Judged :=
  match fin? 8 line, yesNo? level with
  | some l, some b =>
    if (s.lineRec l).config.isManual then ok (s.setLineRec l { s.lineRec l with driven := some b }) else .error .conflict
  | _, _ => .error .outOfRange

def handleDriveLine (line level : Nat) : State → Handled := whenLoaded (judgeDriveLine line level)

/-- A level that may be none (R204). -/
def optLevel : Option Bool → Byte
  | none => 0xFF
  | some b => flag b

/-- A line in a GET_LINES reply (R144, R204). -/
def lineBytes (r : LineRec) : List Byte :=
  lineConfigBytes r.config ++ [flag r.electrical, optLevel r.filtered, flag r.timer.isSome, flag r.suppressed, optLevel r.driven]

def dialBytes : Option Dial → List Byte
  | none => [0xFF, 0xFF, 0]
  | some d => [flag d.a, flag d.b, signed d.count]

def judgeGetLines (s : State) : Judged := ok s (s.lines.recs.toList.flatMap lineBytes ++ dialBytes s.lines.dial)

def handleGetLines : State → Handled := whenLoaded judgeGetLines

/-! ### The commands -/

/-- SET_LINE (R135). -/
def execSetLine (line : Nat) (r : RawLine) (s : State) := answerRecord 0x60 (handleSetLine line r) s
/-- DRIVE_LINE (R142). -/
def execDriveLine (line level : Nat) (s : State) := answerRecord 0x61 (handleDriveLine line level) s
/-- GET_LINES (R144). -/
def execGetLines (s : State) := answerRecord 0x62 handleGetLines s
/-- LINE_LEVEL_CHANGE: the electrical level of a line becomes high or low (R138). -/
def execLineLevelChange (l : LineId) (high : Bool) (s : State) := onEvent (lineLevel l high) s
/-- FILTER_TIMER_EXPIRY (R138). -/
def execFilterTimerExpiry (l : LineId) (s : State) := onEvent (filterExpiry l) s

end Sys2Proof.Machine
end

