-- ==== Sys2Proof/Machine/Sync.lean ====
section
/-!
DEFINITION. The Sync Monitor (spec/02_sync_monitor.md): edges, periods, states, the lost timer, binding changes and the commands of
that chapter.
-/
namespace Sys2Proof.Machine
open Sys2Proof

/-- The time below which an edge is a glitch (R19). -/
def glitchLimit : Nat := 2000

/-- A valid period (R21). -/
def validPeriod (p : Nat) : Bool := decide (8000 ≤ p) && decide (p ≤ 50000)

/-- The newest period is appended; a full window loses its oldest first (R21). -/
def pushPeriod (p : Nat) (w : List Nat) : List Nat := (if w.length < 4 then w else w.drop 1) ++ [p]

/-- The mean of four periods, rounded to the nearest with a half up (R23). -/
def meanOf (w : List Nat) : Nat := (w.sum + 2) / 4

/-- The channel after a valid period (R21, R23, R24). -/
def Channel.addPeriod (c : Channel) (p : Nat) : Channel :=
  let w := pushPeriod p c.window
  if w.length = 4 then { c with window := w, state := .alive, average := some (meanOf w) } else { c with window := w }

/-- The channel after an invalid period (R22). -/
def Channel.badPeriod (c : Channel) : Channel := { c with window := [] }

/-- What an accepted edge measures, `last` being the edge before it (R20 to R24). -/
def Channel.measure (c : Channel) (last : Option Nat) (now : Nat) : Channel :=
  match c.state, last with
  | .lost, _ => { c with state := .acquiring }
  | _, some l => if validPeriod (now - l) then c.addPeriod (now - l) else c.badPeriod
  | _, none => c

/-- A running channel accepts an edge (R19). -/
def Channel.accepts (c : Channel) (now : Nat) : Bool := c.running && c.lastEdge.all fun l => decide (glitchLimit ≤ now - l)

/-- The channel after an accepted edge (R19). -/
def Channel.edge (c : Channel) (now : Nat) : Channel :=
  { c with lastEdge := some now, lostTimer := some ⟨now, 100000⟩ }.measure c.lastEdge now

/-- The fields of a channel at LOST (R18, R25). -/
def Channel.cleared (c : Channel) : Channel :=
  { c with state := .lost, window := [], average := none, lastEdge := none, lostTimer := none }

/-- A change of a channel's state raises SYNC_CHANGE (R27). -/
def reportSync (old : ChannelState) (v : InputId) (s : State) : State :=
  if (s.channel v).state = old then s else raise (.syncChange v) s

/-- A rising edge at time `s.now` (R19 to R27): the channel, SYNC_CHANGE, then the notice to the Screen Controller. -/
def syncEdge (v : InputId) (s : State) : State :=
  let c := s.channel v
  if c.accepts s.now then
    let s := reportSync c.state v (s.setChannel v (c.edge s.now))
    if c.state = .alive then frameBoundary v s else channelMoved false v s
  else s

/-- The lost timer expires (R25). -/
def lostExpiry (v : InputId) (s : State) : State :=
  match (s.channel v).lostTimer with
  | none => s
  | some t =>
    let c := s.channel v
    let s := s.reach t
    channelMoved (c.state == .alive) v (reportSync c.state v (s.setChannel v c.cleared))

/-- A binding starts, stops or keeps a channel (R29). -/
def bindChannel (v : InputId) (bound : Bool) (s : State) : State :=
  let c := s.channel v
  if c.running = bound then s
  else reportSync c.state v (s.setChannel v { c.cleared with running := bound })

/-- Every channel at a soft reset (R30): no SYNC_CHANGE is raised. -/
def softResetSync (s : State) : State :=
  { s with sync := Vector.ofFn fun v => if (s.channel v).running then (s.channel v).cleared else s.channel v }

/-! ### The commands -/

/-- SYNC_EDGE: a rising edge on a tap at time `t` (R19). -/
def execSyncEdge (v : InputId) (t : Nat) (s : State) := onEvent (fun s => syncEdge v (s.advanceTo t)) s
/-- LOST_TIMER_EXPIRY (R25). -/
def execLostTimerExpiry (v : InputId) (s : State) := onEvent (lostExpiry v) s

end Sys2Proof.Machine
end

