-- ==== Sys2Proof/Machine/Layout.lean ====
section
/-!
DEFINITION. The Layout Tables (spec/01_desk_layout_and_video_sources.md): the checks of each layout record, the notices an applied
one sends, and the commands of that chapter.
-/
namespace Sys2Proof.Machine
open Sys2Proof

/-! ### SET_SCREEN (R2 to R4) -/

/-- Two rectangles share at least one desk unit (R2). -/
def Rect.overlaps (a b : Rect) : Bool :=
  decide (a.x < b.x + b.w) && decide (b.x < a.x + a.w) && decide (a.y < b.y + b.h) && decide (b.y < a.y + a.h)

/-- The range step of a screen's rectangle (R3). -/
def Rect.fitsPlane (r : Rect) : Bool :=
  decide (64 ≤ r.w) && decide (r.w ≤ 8192) && decide (64 ≤ r.h) && decide (r.h ≤ 8192) && decide (r.x ≤ 16383)
    && decide (r.y ≤ 8191) && decide (r.x + r.w ≤ 16384) && decide (r.y + r.h ≤ 8192)

/-- Another configured screen overlaps the rectangle. -/
def State.overlapsOther (s : State) (i : ScreenId) (r : Rect) : Bool :=
  allScreens.any fun j => j != i && (s.screenRect j).any r.overlaps

/-- An applied SET_SCREEN and its notices (R4). -/
def applyScreen (i : ScreenId) (new : Option Rect) (s : State) : State :=
  let old := s.screenRect i
  if old = new then s
  else
    let s := s.setScreenRect i new
    match old, new with
    | none, some _ => screenChanged i (configureScreen i s)
    | some _, none => screenChanged i (unconfigureScreen i s)
    | _, _ => screenChanged i s

/-- SET_SCREEN past its BUSY step (R3). -/
def judgeSetScreen (screen configured x y w h : Nat) (s : State) : Judged :=
  match fin? 8 screen, yesNo? configured with
  | some i, some false => ok (applyScreen i none s)
  | some i, some true =>
    let r : Rect := ⟨x, y, w, h⟩
    if ¬r.fitsPlane then .error .outOfRange
    else if s.overlapsOther i r then .error .conflict
    else ok (applyScreen i (some r) s)
  | _, _ => .error .outOfRange

def handleSetScreen (screen configured x y w h : Nat) : State → Handled := whenReady (judgeSetScreen screen configured x y w h)

/-! ### SET_COMPUTER (R5 to R7) -/

/-- A head's rectangle lies in a virtual desktop of W × H (R8). -/
def Rect.fitsDesktop (r : Rect) (w h : Nat) : Bool := decide (r.x + r.w ≤ w) && decide (r.y + r.h ≤ h)

/-- A defined head of the computer would leave the new virtual desktop (R6). -/
def State.headsExceed (s : State) (c : Computer) (e : ComputerEntry) : Bool :=
  allHeads.any fun h => (s.headEntry ⟨c, h⟩).any fun d => !d.rect.fitsDesktop e.w e.h

/-- Max attempts below the attempt number of a WAKING computer (R6). -/
def State.attemptsExceed (s : State) (c : Computer) (e : ComputerEntry) : Bool :=
  s.powerState c == .waking && decide (e.maxAttempts < (s.powerRec c).attempt)

/-- A change to ONCE leaves the computer armed (R7). -/
def armOnce (c : Computer) (old new : ComputerEntry) (s : State) : State :=
  if new.inputWake = .once ∧ old.inputWake ≠ .once then s.setPowerRec c { s.powerRec c with armed := true } else s

/-- A polarity moves the resting level at once, unless a pulse is in progress (R7). -/
def moveRest (c : Computer) (s : State) : State :=
  if (s.powerRec c).pulse.isSome then s else s.setPowerRec c { s.powerRec c with wakeHigh := (s.computer c).restHigh }

/-- A keymap change recomputes the key-focus computer's target (R7). -/
def remap (c : Computer) (old new : ComputerEntry) (s : State) : State :=
  if s.keyboard.focus = c ∧ old.keymap ≠ new.keymap then retarget s else s

/-- An applied SET_COMPUTER (R7). R1 orders no notices to different blocks: that the arming and the resting level change before the
keymap's new target is handed on, whose input notice then meets them, is the model's choice (DESIGN CHOICE, log entry 42). -/
def applyComputer (c : Computer) (e : ComputerEntry) (s : State) : State :=
  let old := s.computer c
  remap c old e (moveRest c (armOnce c old e (s.setComputerEntry c e)))

/-- SET_COMPUTER past its BUSY step (R6). -/
def judgeSetComputer (computer : Nat) (r : RawComputer) (s : State) : Judged :=
  match fin? 6 computer, ComputerEntry.ofRaw r with
  | some c, some e => if s.headsExceed c e ∨ s.attemptsExceed c e then .error .conflict else ok (applyComputer c e s)
  | _, _ => .error .outOfRange

def handleSetComputer (computer : Nat) (r : RawComputer) : State → Handled := whenReady (judgeSetComputer computer r)

/-! ### MAP_INPUT (R11, R12) -/

/-- What a change of the input bound to a head, if any, sends to the screens that show it (R33). -/
def resendHead (h : Option Head) (s : State) : State :=
  match h with
  | some h => eachScreen (resendFor h) s
  | none => s

/-- What the change of a head's state means to the screens (R38, R42). -/
def movedHead (wasAlive : Bool) (h : Option Head) (s : State) : State :=
  match h with
  | some h => headMoved wasAlive h s
  | none => s

/-- A head's input changed: the messages first, then the head's change of state (R38). R12 does not order the two heads of a
rebinding: the old head before the new one is the model's choice (DESIGN CHOICE, log entry 36). -/
def rebind (v : InputId) (new : Option Head) (s : State) : State :=
  let old := s.binding v
  movedHead (new.any s.headAlive) new (movedHead (old.any s.headAlive) old
    (resendHead new (resendHead old (bindChannel v new.isSome (s.setBinding v new)))))

/-- An applied MAP_INPUT (R12). -/
def applyInput (v : InputId) (new : Option Head) (s : State) : State :=
  if s.binding v = new then s else onScreens (rebind v new) s

/-- MAP_INPUT past its BUSY step (R11, in the order of R1). -/
def judgeMapInput (input computer head : Nat) (s : State) : Judged :=
  match fin? 16 input, source? computer head with
  | some v, some none => ok (applyInput v none s)
  | some v, some (some h) =>
    if (s.headInput h).any (· != v) then .error .conflict
    else if (s.headEntry h).isNone then .error .notPresent
    else ok (applyInput v (some h) s)
  | _, _ => .error .outOfRange

def handleMapInput (input computer head : Nat) : State → Handled := whenReady (judgeMapInput input computer head)

/-! ### SET_HEAD (R8 to R10) -/

/-- The screens a head may not be shown on. -/
def HeadEntry.forbidden (e : HeadEntry) : ScreenSet := screenSetOf fun i => !e.allows i

/-- A policy is narrowed: private from no to yes, or screens leave the allowed set of a private head (R10). -/
def HeadEntry.narrows (old new : HeadEntry) : Bool := new.isPrivate && (!old.isPrivate || !subBits old.allowed new.allowed)

/-- A head is defined or changed (R10). -/
def defineHead (h : Head) (e : HeadEntry) (s : State) : State :=
  let old := s.headEntry h
  let s := s.setHeadEntry h (some e)
  if old.any (·.narrows e) then clearHead h e.forbidden s else s

/-- A pending source that names the head is cleared, and no other source (log entry 14). -/
def dropWaiting (h : Head) (i : ScreenId) (s : State) : State :=
  let r := s.screenRec i
  if r.waiting = some h then lostWaiting i (s.setScreenRec i { r with waiting := none }) else s

/-- The binding of any input to the head is removed (R10). -/
def unbindHead (h : Head) (s : State) : State :=
  match s.headInput h with
  | some v => rebind v none s
  | none => s

/-- A head is undefined (R10; log entry 14): its pending sources are cleared, its input is unbound, its current sources are cleared,
and the Pointer Engine is told. -/
def undefineHead (h : Head) (s : State) : State :=
  if (s.headEntry h).isNone then s
  else
    onScreens (fun s => eachScreen (clearHeadOn h) (unbindHead h (eachScreen (dropWaiting h) s))) (s.setHeadEntry h none)

/-- The range step of a head's rectangle (R9). -/
def Rect.fitsHead (r : Rect) (e : ComputerEntry) : Bool :=
  decide (r.x ≤ 16383) && decide (r.y ≤ 16383) && decide (1 ≤ r.w) && decide (r.w ≤ 16384) && decide (1 ≤ r.h)
    && decide (r.h ≤ 16384) && r.fitsDesktop e.w e.h

/-- SET_HEAD past its BUSY step (R9). Undefining examines no rectangle (log entry 15). -/
def judgeSetHead (computer head defined priv allowed x y w hh : Nat) (s : State) : Judged :=
  match head? computer head, yesNo? defined, yesNo? priv with
  | some h, some false, some _ => if allowed < 256 then ok (undefineHead h s) else .error .outOfRange
  | some h, some true, some p =>
    let r : Rect := ⟨x, y, w, hh⟩
    if allowed < 256 ∧ r.fitsHead (s.computer h.computer) then ok (defineHead h ⟨r, p, BitVec.ofNat 8 allowed⟩ s)
    else .error .outOfRange
  | _, _, _ => .error .outOfRange

def handleSetHead (computer head defined priv allowed x y w hh : Nat) : State → Handled :=
  whenReady (judgeSetHead computer head defined priv allowed x y w hh)

/-! ### GET_LAYOUT (R15, R201) -/

/-- A screen's center, 0xFFFF twice while it is not configured. -/
def centerBytes : Option Rect → List Byte
  | none => word 65535 ++ word 65535
  | some r => word r.center.1 ++ word r.center.2

def judgeGetLayoutScreen (screen : Nat) (s : State) : Judged :=
  match fin? 8 screen with
  | some i => ok s (screenBytes (s.screenRect i) ++ centerBytes (s.screenRect i))
  | none => .error .outOfRange

def judgeGetLayoutComputer (computer : Nat) (s : State) : Judged :=
  match fin? 6 computer with
  | some c => ok s (computerBytes (s.computer c) ++ [optId (s.homeScreen c)])
  | none => .error .outOfRange

/-- The channel state of a head: of its bound input, or LOST with count 0 and no rate (R28). -/
def headChannel (s : State) (h : Head) : List Byte :=
  match s.headInput h with
  | some v => channelBytes (s.channel v)
  | none => channelBytes Channel.reset

def judgeGetLayoutHead (computer head : Nat) (s : State) : Judged :=
  match head? computer head with
  | some h => ok s (headBytes (s.headEntry h) ++ optId (s.headInput h) :: headChannel s h)
  | none => .error .outOfRange

def judgeGetLayoutInput (input : Nat) (s : State) : Judged :=
  match fin? 16 input with
  | some v => ok s (sourceBytes (s.binding v) ++ channelBytes (s.channel v))
  | none => .error .outOfRange

def handleGetLayoutScreen (screen : Nat) : State → Handled := whenLoaded (judgeGetLayoutScreen screen)
def handleGetLayoutComputer (computer : Nat) : State → Handled := whenLoaded (judgeGetLayoutComputer computer)
def handleGetLayoutHead (computer head : Nat) : State → Handled := whenLoaded (judgeGetLayoutHead computer head)
def handleGetLayoutInput (input : Nat) : State → Handled := whenLoaded (judgeGetLayoutInput input)

/-! ### The commands -/

/-- SET_SCREEN (R3). -/
def execSetScreen (screen configured x y w h : Nat) (s : State) :=
  answerRecord 0x10 (handleSetScreen screen configured x y w h) s
/-- SET_COMPUTER (R6). -/
def execSetComputer (computer : Nat) (r : RawComputer) (s : State) := answerRecord 0x11 (handleSetComputer computer r) s
/-- SET_HEAD (R9). -/
def execSetHead (computer head defined priv allowed x y w hh : Nat) (s : State) :=
  answerRecord 0x12 (handleSetHead computer head defined priv allowed x y w hh) s
/-- MAP_INPUT (R11). -/
def execMapInput (input computer head : Nat) (s : State) := answerRecord 0x13 (handleMapInput input computer head) s
/-- GET_LAYOUT naming a screen (R15). -/
def execGetLayoutScreen (screen : Nat) (s : State) := answerRecord 0x14 (handleGetLayoutScreen screen) s
/-- GET_LAYOUT naming a computer (R15). -/
def execGetLayoutComputer (computer : Nat) (s : State) := answerRecord 0x14 (handleGetLayoutComputer computer) s
/-- GET_LAYOUT naming a head (R15). -/
def execGetLayoutHead (computer head : Nat) (s : State) := answerRecord 0x14 (handleGetLayoutHead computer head) s
/-- GET_LAYOUT naming an input (R15). -/
def execGetLayoutInput (input : Nat) (s : State) := answerRecord 0x14 (handleGetLayoutInput input) s

end Sys2Proof.Machine
end

