-- ==== Sys2Proof/Machine/Computers.lean ====
section
/-!
DEFINITION. The records of the Power Manager and the Port Unit for one computer (spec/09_computer_power_and_wake.md R173, R174,
spec/08_computer_ports_and_hold_queues.md R161): WAKE and GET_COMPUTER.
-/
namespace Sys2Proof.Machine
open Sys2Proof

/-- The result of a WAKE record by the power state before the request (R173). -/
def wakeResult (c : Computer) (s : State) : Result := if (s.powerState c).down ∧ s.hasMethod c then .accepted else .ok

/-- WAKE past its BUSY step (R173). -/
def judgeWake (computer : Nat) (s : State) : Judged :=
  match fin? 6 computer with
  | none => .error .outOfRange
  | some c =>
    if (s.powerState c).gone then .error .notPresent
    else .ok (wakeRequest c s, ⟨wakeResult c s, [((wakeRequest c s).powerState c).code]⟩)

def handleWake (computer : Nat) : State → Handled := whenLoaded (judgeWake computer)

/-- A timer's time left in ms, or a code when it is stopped. -/
def leftBytes (now : Nat) (none_ : Nat) (t : Option Timer) : List Byte := word ((t.map (·.leftMs now)).getD none_)

/-- The Power Manager's part of GET_COMPUTER (R174). -/
def powerBytes (now : Nat) (r : PowerRec) : List Byte :=
  [r.state.code, byte r.attempt, methodCode r.method] ++ leftBytes now 65535 r.timer ++ flag r.pulse.isSome :: leftBytes now 0 r.pulse

/-- The Port Unit's part of GET_COMPUTER (R161). -/
def portBytes (p : Port) : List Byte :=
  [p.observed.code, flag p.permission, byte p.queue.length, byte (p.queue.countP fun e => !e.isPointer),
   byte (p.queue.countP Entry.isPointer)] ++
    keyStateBytes p.committedKeys ++ buttonByte p.committedButtons :: (word p.committedPointer.1 ++ word p.committedPointer.2.1) ++
    keyStateBytes p.keys ++ buttonByte p.buttons :: (word p.x ++ word p.y) ++ [flag p.kbOwed, flag p.ptrOwed]

/-- The body of a GET_COMPUTER reply (R174, R204). -/
def computerReply (c : Computer) (s : State) : List Byte :=
  labelBytes (s.computer c).label ++ powerBytes s.now (s.powerRec c) ++
    [(s.computer c).inputWake.code, flag (s.powerRec c).armed, flag (s.keyboard.focus == c), flag (s.pointer.focus == some c)] ++
    portBytes (s.port c)

/-- GET_COMPUTER past its BUSY step (R174). -/
def judgeGetComputer (computer : Nat) (s : State) : Judged :=
  match fin? 6 computer with
  | some c => ok s (computerReply c s)
  | none => .error .outOfRange

def handleGetComputer (computer : Nat) : State → Handled := whenLoaded (judgeGetComputer computer)

/-- WAKE (R173). -/
def execWake (computer : Nat) (s : State) := answerRecord 0x70 (handleWake computer) s
/-- GET_COMPUTER (R174). -/
def execGetComputer (computer : Nat) (s : State) := answerRecord 0x73 (handleGetComputer computer) s

end Sys2Proof.Machine
end

