-- ==== Sys2Proof/Machine/Profile.lean ====
section
/-!
DEFINITION. The Status Unit's records and the Profile Store (spec/11_control_link_status_and_profile.md §11.3 to §11.5,
spec/12_record_layouts.md R200, R203): the desk profile image, its load, and saves.
-/
namespace Sys2Proof.Machine
open Sys2Proof

/-! ### Status and identification (R191 to R193, R200) -/

/-- The details of the pending kinds, in the order of R189. -/
def State.details (s : State) : List Byte :=
  allKinds.flatMap fun k =>
    if (s.event k).isPending then
      match (s.event k).detail with
      | some e => detailBytes e
      | none => []
    else []

/-- The body of a QUERY_STATUS reply (R191, R200). -/
def statusReply (s : State) : List Byte :=
  word s.pendingSet ++ word s.enableSet ++
    [s.desk.state.code, byte s.keyboard.focus, optId s.pointer.focus, s.profile.state.code] ++ s.details

def judgeQueryStatus (s : State) : Judged := ok s (statusReply s)

def handleQueryStatus : State → Handled := always judgeQueryStatus

/-- CLEAR_EVENTS past its BUSY step (R192); bit 15 stands for no kind (R198). -/
def judgeClearEvents (kinds : Nat) (s : State) : Judged :=
  if kinds < 32768 then
    let s := clearKinds (kindsOf kinds) s
    ok s (word s.pendingSet)
  else .error .outOfRange

def handleClearEvents (kinds : Nat) : State → Handled := whenLoaded (judgeClearEvents kinds)

/-- SET_EVENT_MASK past its BUSY step (R191). -/
def judgeSetEventMask (kinds : Nat) (s : State) : Judged :=
  if kinds < 32768 then
    let s := enableKinds kinds s
    ok s (word s.enableSet ++ word s.pendingSet)
  else .error .outOfRange

def handleSetEventMask (kinds : Nat) : State → Handled := whenReady (judgeSetEventMask kinds)

/-- The largest image the Profile Store writes (R193). -/
def largestImage : Nat := 6144
/-- The receive queue's capacities (R187). -/
def recordCapacity : Nat := 4
def markerCapacity : Nat := 12

/-- The body of an IDENTIFY reply (R193, R204). -/
def identifyReply (s : State) : List Byte :=
  [Config.familyCode, Config.partCode, Config.revision, flag s.link.rateHigh, s.profile.state.code] ++ word largestImage ++
    [byte recordCapacity, byte markerCapacity]

def judgeIdentify (s : State) : Judged := ok s (identifyReply s)

def handleIdentify : State → Handled := always judgeIdentify

/-! ### The image (R203) -/

def computerSection (s : State) : List Byte := allComputers.flatMap fun (c : Computer) => byte c :: computerBytes (s.computer c)

def headSection (s : State) : List Byte :=
  allComputers.flatMap fun (c : Computer) => allHeads.flatMap fun (h : HeadNo) => byte c :: byte h :: headBytes (s.headEntry ⟨c, h⟩)

def inputSection (s : State) : List Byte := allInputs.flatMap fun (v : InputId) => byte v :: sourceBytes (s.binding v)

def screenSection (s : State) : List Byte := allScreens.flatMap fun (i : ScreenId) => byte i :: screenBytes (s.screenRect i)

def timingSection (s : State) : List Byte :=
  word s.screens.linkLimit ++ [byte s.screens.powerValue, byte s.screens.powerScale]

/-- Non-empty scenes only. -/
def sceneSection (s : State) : List Byte :=
  allScenes.flatMap fun (n : SceneNo) => if (s.scene n).isSome then sceneBytes n (s.scene n) else []

def mapSection (s : State) : List Byte := allMaps.flatMap fun (m : MapNo) => mapBytes m s.keyboard.maps[m]

/-- The key options as one SET_KEY_OPTIONS body (R195). -/
def keyOptionSection (s : State) : List Byte := byte s.keyboard.stuckLimit :: byte s.matcher.leader :: word s.matcher.window

/-- Entries in use only, each with its entry number as the choice byte. -/
def hotkeySection (s : State) : List Byte :=
  allEntries.flatMap fun (n : EntryNo) =>
    match s.entry n with
    | some h => byte n :: hotkeyBytes h
    | none => []

def lineSection (s : State) : List Byte := allLines.flatMap fun (l : LineId) => byte l :: lineConfigBytes (s.lineRec l).config

/-- The contents of the fifteen sections, in the order of R195 (log entry 9). The order of the bodies inside a section, by rising
number and heads by computer, and of a map's pairs, by rising code, is the model's choice (DESIGN CHOICE, log entry 41). -/
def sectionContents (s : State) : List (List Byte) :=
  [computerSection s, headSection s, inputSection s, screenSection s, timingSection s, sceneSection s,
   [optId s.screens.startScene], ballisticsBytes s.pointer, [byte s.pointer.barrier], mapSection s, keyOptionSection s,
   hotkeySection s, lineSection s, deskPowerBytes s.desk, word s.enableSet]

/-- Sections numbered from `n`: number, count of bytes, contents. -/
def numbered : Nat → List (List Byte) → List Byte
  | _, [] => []
  | n, c :: rest => byte n :: (word c.length ++ c ++ numbered (n + 1) rest)

def imageBody (s : State) : List Byte := numbered 1 (sectionContents s)

/-- The marker (R203). -/
def marker : List Byte := [0x5E, 0x9A]

/-- The sum of the image length and the body, modulo 65536. -/
def sumOf (bs : List Byte) : Nat := (bs.foldl (fun n b => n + b.toNat) 0) % 65536

/-- Marker, length, body, sum. -/
def image (s : State) : List Byte :=
  let inner := word ((imageBody s).length + 6) ++ imageBody s
  marker ++ inner ++ word (sumOf inner)

/-! ### Loading (R195) -/

/-- How a section's contents divide into record bodies: bodies of one length, scenes, or maps, whose second byte counts items. -/
inductive Shape where
  | fixed (n : Nat)
  | scenes
  | maps
  deriving DecidableEq, Repr

/-- The length of the next body. -/
def Shape.next : Shape → List Nat → Nat
  | .fixed n, _ => n
  | .scenes, bs => 4 + 3 * bs.getD 1 0
  | .maps, bs => 2 + 2 * bs.getD 1 0

/-- Cuts bytes into record bodies; `none` when they do not divide. The first number bounds the cuts. -/
def cut (sh : Shape) : Nat → List Nat → Option (List (List Nat))
  | _, [] => some []
  | 0, _ => none
  | n + 1, bs =>
    if sh.next bs ≤ bs.length then (cut sh n (bs.drop (sh.next bs))).map (bs.take (sh.next bs) :: ·) else none

/-- A section: the kind of the records that would set it, their shape, and how many bodies it must hold (log entry 10). -/
structure SectionForm where
  kind : Nat
  shape : Shape
  count : Option Nat
  deriving DecidableEq, Repr

/-- The fifteen sections in order (log entry 9). -/
def sectionForms : List SectionForm :=
  [⟨0x11, .fixed 26, some 6⟩, ⟨0x12, .fixed 13, some 24⟩, ⟨0x13, .fixed 3, some 16⟩, ⟨0x10, .fixed 10, some 8⟩,
   ⟨0x25, .fixed 4, some 1⟩, ⟨0x21, .scenes, none⟩, ⟨0x23, .fixed 1, some 1⟩, ⟨0x30, .fixed 7, some 1⟩,
   ⟨0x31, .fixed 1, some 1⟩, ⟨0x42, .maps, some 4⟩, ⟨0x43, .fixed 4, some 1⟩, ⟨0x50, .fixed 9, none⟩,
   ⟨0x60, .fixed 9, some 8⟩, ⟨0x71, .fixed 6, some 1⟩, ⟨0x04, .fixed 2, some 1⟩]

/-- A section read at the front of the bytes: its number, its count, its contents (R203). -/
def takeSection (number : Nat) : List Nat → Option (List Nat × List Nat)
  | n :: hi :: lo :: rest =>
    if n = number ∧ word16 hi lo ≤ rest.length then some (rest.take (word16 hi lo), rest.drop (word16 hi lo)) else none
  | _ => none

/-- The bodies of a section by its form. -/
def SectionForm.bodies (f : SectionForm) (contents : List Nat) : Option (List (List Nat)) :=
  match cut f.shape contents.length contents with
  | some bs => if f.count.all (· == bs.length) then some bs else none
  | none => none

/-- The records of an image body, each with its kind, numbering the sections from `number`; `none` when it is malformed. -/
def imageRecords (number : Nat) : List SectionForm → List Nat → Option (List (Nat × List Nat))
  | [], [] => some []
  | [], _ => none
  | f :: fs, bs =>
    match takeSection number bs with
    | none => none
    | some (contents, rest) =>
      match f.bodies contents, imageRecords (number + 1) fs rest with
      | some here, some there => some (here.map (fun b => (f.kind, b)) ++ there)
      | _, _ => none

/-- A configuration record's checks and effect without its BUSY check (R195); a record of another kind is no configuration. -/
def judgeConfiguration (i : Instr) (s : State) : Judged :=
  match i with
  | .setComputer c r => judgeSetComputer c r s
  | .setHead c h d p a x y w hh => judgeSetHead c h d p a x y w hh s
  | .mapInput v c h => judgeMapInput v c h s
  | .setScreen i c x y w h => judgeSetScreen i c x y w h s
  | .setScreenTiming l v c => judgeSetScreenTiming l v c s
  | .storeScene n k w items => judgeStoreScene n k w items s
  | .setStartScene n => judgeSetStartScene n s
  | .setBallistics t1 t2 t3 g0 g1 g2 g3 => judgeSetBallistics t1 t2 t3 g0 g1 g2 g3 s
  | .setGlide b => judgeSetGlide b s
  | .setKeymap m ps => judgeSetKeymap m ps s
  | .setKeyOptions l k w => judgeSetKeyOptions l k w s
  | .addHotkey ch r => judgeAddHotkey ch r s
  | .setLine l r => judgeSetLine l r s
  | .setDeskPower sv sc ov oc dz rw => judgeSetDeskPower sv sc ov oc dz rw s
  | .setEventMask k => judgeSetEventMask k s
  | _ => .error .unknownKind

/-- One record of an image, as though it had been taken; `none` when its checks refuse it. -/
def loadRecord (s : State) (r : Nat × List Nat) : Option State :=
  match parseRecord r.1 r.2 with
  | .command i =>
    match judgeConfiguration i s with
    | .ok h => some h.1
    | .error _ => none
  | _ => none

/-- The records of an image in order, each against what the earlier ones left. -/
def loadRecords : List (Nat × List Nat) → State → Option State
  | [], s => some s
  | r :: rs, s => (loadRecord s r).bind (loadRecords rs)

/-- The image length as the memory holds it. -/
def Memory.imageLength (m : Memory) : Nat := word16 (m.read 2).toNat (m.read 3).toNat

/-- The body of the image in memory, if the length and the sum agree (R195). -/
def Memory.imageBody (m : Memory) : Option (List Nat) :=
  let n := m.imageLength
  if n < 6 ∨ largestImage < n then none
  else
    let inner := m.readMany 2 (n - 4)
    if word (sumOf inner) = m.readMany (n - 2) 2 then some ((inner.drop 2).map BitVec.toNat) else none

/-- What a load finds (R195): no marker, a bad image, or the state with every section taken. -/
inductive Loaded where
  | defaults
  | badImage
  | loaded (s : State)
  deriving DecidableEq, Repr

/-- Every section of a good image taken, in the order of the body (R195). -/
def loadImage (s : State) : Option State :=
  match Memory.imageBody s.profile.memory with
  | none => none
  | some body =>
    match imageRecords 1 sectionForms body with
    | none => none
    | some rs => loadRecords rs s

/-- The memory is judged before any block takes any part of it (R195). A marker that a failed save left unreliable does not make a
load succeed (R196; log entry 8). -/
def judgeImage (answered : Bool) (s : State) : Loaded :=
  if !answered then .badImage
  else if Memory.readMany s.profile.memory 0 2 ≠ marker then .defaults
  else if s.profile.unreliable then .badImage
  else
    match loadImage s with
    | some s' => .loaded s'
    | none => .badImage

def setStore (st : StoreState) (s : State) : State := s.setProfile { s.profile with state := st }

/-- The load ends: READY, then PROFILE_DONE (R195). -/
def endLoad (o : ProfileOutcome) (s : State) : State := raise (.profileDone o) (setStore .ready s)

/-- PROFILE_LOAD_DONE while LOADING (R195): the start scene is applied after a good load. -/
def profileLoad (answered : Bool) (s : State) : State :=
  if s.profile.state = .loading then
    match judgeImage answered s with
    | .loaded s' => endLoad .loaded (applyStart s')
    | .defaults => endLoad .defaults s
    | .badImage => endLoad .badImage s
  else s

/-! ### Saving (R196) -/

/-- SAVE_PROFILE past its BUSY step: the image is formed and SAVING begins (R196). -/
def judgeSaveProfile (s : State) : Judged :=
  accepted (s.setProfile { s.profile with state := .saving, save := some ⟨image s, s.timer 1500⟩ })

def handleSaveProfile : State → Handled := whenReady judgeSaveProfile

/-- A free value is drawn (log entries 8, 33). -/
def countFree (n : Nat) (s : State) : State := { s with freeCount := s.freeCount + n }

/-- What step 1 of a save writes over the marker (R203). -/
def clearedMarker : List Byte := [0, 0]

/-- The memory after step 1 of a save and after `k` bytes of what step 2 writes. -/
def writtenUpTo (img : List Byte) (k : Nat) (m : Memory) : Memory :=
  (m.writeAll 0 clearedMarker).writeAll 2 ((img.drop 2).take k)

/-- The memory after step 1 of a save and a step 2 that step 3 has not confirmed: every byte of the image past the marker is free. -/
def unconfirmed (img : List Byte) (n : Nat) (m : Memory) : Memory :=
  (m.writeAll 0 clearedMarker).writeAll 2 ((List.range (img.length - 2)).map fun k => Config.freeBodyByte n (2 + k))

/-- The memory that a save stopped at a step leaves; `n` numbers the free values (log entry 8). -/
def leftBy (img : List Byte) (st : SaveStep) (n : Nat) (m : Memory) : Memory :=
  match st with
  | .clearMarker => m.writeAll 0 clearedMarker
  | .writeBody => writtenUpTo img (Config.freeWritten n) m
  | .readBody => unconfirmed img n m
  | .writeMarker => (writtenUpTo img img.length m).writeAll 0 [Config.freeMarkerByte n, Config.freeMarkerByte (n + 1)]
  | .readMarker => (writtenUpTo img img.length m).writeAll 0 [Config.freeMarkerByte n, Config.freeMarkerByte (n + 1)]

/-- The memory that a save cut by a power-on reset leaves. In step 1 the marker may be old, new or half written, so its bytes are
free (R196: the next load judges whatever the memory holds; log entry 8). -/
def leftByReset (img : List Byte) (st : SaveStep) (n : Nat) (m : Memory) : Memory :=
  match st with
  | .clearMarker => m.writeAll 0 [Config.freeHalfErased n, Config.freeHalfErased (n + 1)]
  | st => leftBy img st n m

/-- A save stopped at step 4 or 5 leaves the marker unreliable (R196). -/
def spoilsMarker : SaveStep → Bool
  | .writeMarker => true
  | .readMarker => true
  | _ => false

/-- Writing stops at a step, and the store is READY; nothing is raised. -/
def stopSave (sv : Save) (st : SaveStep) (s : State) : State :=
  countFree 2 (s.setProfile
    { state := .ready, memory := leftBy sv.image st s.freeCount s.profile.memory, unreliable := spoilsMarker st, save := none })

/-- A save that fails at a step (R196). -/
def failSave (sv : Save) (st : SaveStep) (s : State) : State := raise (.profileDone .saveFailed) (stopSave sv st s)

/-- A save is stopped where it stands, which is a free value (log entry 8). -/
def cutSave (sv : Save) (s : State) : State := failSave sv (Config.freeSaveStep s.freeCount) (countFree 1 s)

/-- The memory's work for a save ends (R196). -/
def saveComplete (r : SaveResult) (s : State) : State :=
  match s.profile.save with
  | none => s
  | some sv =>
    match r with
    | .verified =>
      raise (.profileDone .saved) (s.setProfile
        { state := .ready, memory := Memory.writeAll s.profile.memory 0 sv.image, unreliable := false, save := none })
    | .failed st => failSave sv st s

/-- 1500 ms pass from the acceptance of a save (R196). -/
def saveTimeout (s : State) : State :=
  match s.profile.save with
  | none => s
  | some sv => cutSave sv (s.reach sv.timer)

/-! ### The commands -/

/-- IDENTIFY (R193). -/
def execIdentify (s : State) := answerRecord 0x01 handleIdentify s
/-- QUERY_STATUS (R191). -/
def execQueryStatus (s : State) := answerRecord 0x02 handleQueryStatus s
/-- CLEAR_EVENTS (R192). -/
def execClearEvents (kinds : Nat) (s : State) := answerRecord 0x03 (handleClearEvents kinds) s
/-- SET_EVENT_MASK (R191). -/
def execSetEventMask (kinds : Nat) (s : State) := answerRecord 0x04 (handleSetEventMask kinds) s
/-- SAVE_PROFILE (R196). -/
def execSaveProfile (s : State) := answerRecord 0x06 handleSaveProfile s
/-- SAVE_COMPLETE: the memory's work for the save ended like this (R196). -/
def execSaveComplete (r : SaveResult) (s : State) := onEvent (saveComplete r) s
/-- SAVE_TIMEOUT (R196). -/
def execSaveTimeout (s : State) := onEvent saveTimeout s
/-- PROFILE_LOAD_DONE: the read of the memory ended, answered or not (R195). -/
def execProfileLoadDone (answered : Bool) (s : State) := onEvent (profileLoad answered) s

end Sys2Proof.Machine
end

