-- ==== Sys2Proof/Machine/Link.lean ====
section
/-!
DEFINITION. The Link Interface and the resets (spec/11_control_link_status_and_profile.md §11.1, §11.2, §11.6): framing, the receive
queue, answering its items, RESTART, the soft reset and the power-on reset.
-/
namespace Sys2Proof.Machine
open Sys2Proof

/-! ### Answering a record by its kind (R188, R194) -/

/-- RESTART past its BUSY step: the soft reset is due once the reply has been sent (R197). -/
def judgeRestart (s : State) : Judged := ok (s.setLink { s.link with resetDue := true })

def handleRestart : State → Handled := whenLoaded judgeRestart

/-- The owner of a record deals with it. A command that is no record is never read from a frame. -/
def handleRecord (i : Instr) (s : State) : Handled :=
  match i with
  | .identify => handleIdentify s
  | .queryStatus => handleQueryStatus s
  | .clearEvents k => handleClearEvents k s
  | .setEventMask k => handleSetEventMask k s
  | .restart => handleRestart s
  | .saveProfile => handleSaveProfile s
  | .setScreen i c x y w h => handleSetScreen i c x y w h s
  | .setComputer c r => handleSetComputer c r s
  | .setHead c h d p a x y w hh => handleSetHead c h d p a x y w hh s
  | .mapInput v c h => handleMapInput v c h s
  | .getLayoutScreen i => handleGetLayoutScreen i s
  | .getLayoutComputer c => handleGetLayoutComputer c s
  | .getLayoutHead c h => handleGetLayoutHead c h s
  | .getLayoutInput v => handleGetLayoutInput v s
  | .assign i c h => handleAssign i c h s
  | .storeScene n k w items => handleStoreScene n k w items s
  | .applyScene n => handleApplyScene n s
  | .setStartScene n => handleSetStartScene n s
  | .getScreen i => handleGetScreen i s
  | .getScreenScene n => handleGetScreenScene n s
  | .setScreenTiming l v c => handleSetScreenTiming l v c s
  | .setBallistics t1 t2 t3 g0 g1 g2 g3 => handleSetBallistics t1 t2 t3 g0 g1 g2 g3 s
  | .setGlide b => handleSetGlide b s
  | .warpComputer c => handleWarpComputer c s
  | .warpPosition x y => handleWarpPosition x y s
  | .getPointer => handleGetPointer s
  | .setFocus c sc => handleSetFocus c sc s
  | .getFocus => handleGetFocus s
  | .getFocusMap m => handleGetFocusMap m s
  | .setKeymap m ps => handleSetKeymap m ps s
  | .setKeyOptions l k w => handleSetKeyOptions l k w s
  | .deskPortCheck p => handleDeskPortCheck p s
  | .deskPortEnable p => handleDeskPortEnable p s
  | .deskPortDisable p => handleDeskPortDisable p s
  | .addHotkey ch r => handleAddHotkey ch r s
  | .removeHotkey n => handleRemoveHotkey n s
  | .getHotkey n => handleGetHotkey n s
  | .getHotkeyMatcher => handleGetHotkeyMatcher s
  | .runAction k a b => handleRunAction k a b s
  | .setLine l r => handleSetLine l r s
  | .driveLine l v => handleDriveLine l v s
  | .getLines => handleGetLines s
  | .wake c => handleWake c s
  | .getComputer c => handleGetComputer c s
  | .setDeskPower sv sc ov oc dz rw => handleSetDeskPower sv sc ov oc dz rw s
  | .setDeskPowerRead => handleSetDeskPowerRead s
  | .deskStandby => handleDeskStandby s
  | _ => (s, ⟨.unknownKind, []⟩)

/-- A record whose selector or pad byte R198 refuses: BUSY first, then OUT_OF_RANGE. -/
def handleOutOfRange : State → Handled := whenLoaded fun _ => .error .outOfRange

/-- A record of a kind in 0x01–0x7E (R188). -/
def handleParsed (p : Parsed) (s : State) : Handled :=
  match p with
  | .unknownKind => (s, ⟨.unknownKind, []⟩)
  | .badLength => (s, ⟨.badLength, []⟩)
  | .outOfRange => handleOutOfRange s
  | .command i => handleRecord i s

/-- A kind byte that a record may have (R188). -/
def kindInRange (kind : Byte) : Bool := decide (0x01 ≤ kind.toNat) && decide (kind.toNat ≤ 0x7E)

/-- A reply of kind 0xFF with a result alone (R188). -/
def markReply (r : Result) (s : State) : State := s.sendFrame ⟨0xFF, [r.code]⟩

/-- An item taken from the receive queue is answered (R188). -/
def answerItem (it : RxItem) (s : State) : State :=
  match it with
  | .check => markReply .badCheck s
  | .overrun kind =>
    if kindInRange kind then s.sendReply kind.toNat ⟨.busy, []⟩ else markReply .busy s
  | .record kind body =>
    if kindInRange kind then
      let h := handleParsed (parseRecord kind.toNat (body.map BitVec.toNat)) s
      h.1.sendReply kind.toNat h.2
    else markReply .unknownKind s

/-- The oldest item is taken when no reply is leaving and no soft reset is due (R187, R197). -/
def serve (s : State) : State :=
  if s.link.replies = [] ∧ s.link.resetDue = false then
    match s.link.queue with
    | [] => s
    | it :: rest => answerItem it (s.setLink { s.link with queue := rest })
  else s

/-! ### The receive queue (R186, R187) -/

def RxItem.isRecord : RxItem → Bool
  | .record _ _ => true
  | _ => false

def Link.records (l : Link) : Nat := l.queue.countP RxItem.isRecord
def Link.markers (l : Link) : Nat := l.queue.countP fun i => !i.isRecord

def enqueue (it : RxItem) (s : State) : State := s.setLink { s.link with queue := s.link.queue ++ [it] }

/-- A marker is appended while fewer than 12 wait. -/
def enqueueMarker (it : RxItem) (s : State) : State := if s.link.markers < markerCapacity then enqueue it s else s

/-- A complete record is placed (R187). -/
def placeRecord (kind : Byte) (body : List Byte) (s : State) : State :=
  if s.link.records < recordCapacity then enqueue (.record kind body) s
  else raise (.linkError .overrun) (enqueueMarker (.overrun kind) s)

/-- A frame that failed its check (R186, R187). -/
def placeCheck (s : State) : State := raise (.linkError .check) (enqueueMarker .check s)

/-- A frame passes when length, kind, body and check sum to 0 modulo 256 (R186). -/
def frameSum (length : Nat) (bytes : List Byte) (check : Byte) : Nat :=
  (length + (bytes.map BitVec.toNat).sum + check.toNat) % 256

/-- A complete frame is judged (R186). -/
def judgeFrame (length : Nat) (bytes : List Byte) (check : Byte) (s : State) : State :=
  match bytes with
  | kind :: body => if frameSum length bytes check = 0 then placeRecord kind body s else placeCheck s
  | [] => placeCheck s

/-! ### Assembly (R185) -/

/-- HUNTING with nothing kept and the gap timer stopped. -/
def Link.hunt (l : Link) : Link := { l with assembly := .hunting, length := 0, bytes := [], gapTimer := none }

/-- The gap timer runs 10 ms from now. -/
def State.gap (s : State) : Option Timer := some (s.timer 10)

/-- A byte that reaches the assembly (R185). -/
def assemble (b : Byte) (s : State) : State :=
  match s.link.assembly with
  | .hunting => if b = 0xC5 then s.setLink { s.link with assembly := .length, gapTimer := s.gap } else s
  | .length =>
    if 1 ≤ b.toNat ∧ b.toNat ≤ 200 then
      s.setLink { s.link with assembly := .body, length := b.toNat, bytes := [], gapTimer := s.gap }
    else raise (.linkError .gap) (s.setLink s.link.hunt)
  | .body =>
    s.setLink { s.link with
      assembly := if s.link.bytes.length + 1 = s.link.length then .check else .body,
      bytes := s.link.bytes ++ [b], gapTimer := s.gap }
  | .check => serve (judgeFrame s.link.length s.link.bytes b (s.setLink s.link.hunt))

/-- A byte with a bad stop bit is dropped (R185). -/
def byteArrives (b : Byte) (stopGood : Bool) (s : State) : State := if stopGood then assemble b s else s

/-- The gap timer expires (R185). -/
def gapExpiry (s : State) : State :=
  match s.link.gapTimer with
  | none => s
  | some t => raise (.linkError .gap) ((s.reach t).setLink s.link.hunt)

/-- The oldest reply has been sent (R187); the next item waits for a soft reset that is due (R197). -/
def replySent (s : State) : State :=
  match s.link.replies with
  | [] => s
  | _ :: rest => serve (s.setLink { s.link with replies := rest })

/-! ### Soft reset (R197) -/

/-- Step 1: each block's dynamic state, in the order of R197 (log entry 21). The Layout Tables and the ports keep theirs (R17,
R162). -/
def softResetBlocks (s : State) : State :=
  let s := softResetLines (softResetKeys (softResetPointer (softResetScreens (softResetSync s))))
  softResetDesk (allComputers.foldl (fun s c => softResetPower c s) s)

/-- Step 3: a save is stopped (R197). -/
def softResetSave (s : State) : State :=
  match s.profile.save with
  | some sv => cutSave sv s
  | none => s

/-- The soft reset takes effect: the reply to RESTART has left (log entry 4), and the next item is taken after step 4 (R197). -/
def softReset (s : State) : State :=
  let s := softResetBlocks (s.setLink { s.link with replies := [] })
  let s := applyStart (softResetSave (clearKinds allKinds s))
  serve (s.setLink { s.link with resetDue := false })

/-! ### Power-on reset -/

/-- The memory a power-on reset finds, and whether its marker is unreliable: a save under way is stopped where it stood (R196; log
entry 8). -/
def memoryAtReset (s : State) : List Host.Cell × Bool :=
  match s.profile.save with
  | some sv => (leftByReset sv.image (Config.freeSaveStep s.freeCount) (s.freeCount + 1) s.profile.memory, false)
  | none => (s.profile.memory, s.profile.unreliable)

/-- Every block at its power-on values; what is outside the part is kept: the time, the pins, the memory, the waiting commands
(log entry 5). -/
def powerOnState (rateHigh : Bool) (s : State) : State :=
  { State.reset with
    now := s.now, link := .resetAt rateHigh, profile := .resetAt (memoryAtReset s).1 (memoryAtReset s).2,
    screens := { ScreenController.reset with
      recs := Vector.ofFn fun i => { ScreenRec.reset with lockPin := (s.screenRec i).lockPin } },
    lines := { LineUnit.reset with recs := Vector.ofFn fun l => { LineRec.reset with pin := (s.lineRec l).pin } },
    desk := .resetAt s.now, freeCount := s.freeCount + 3, out := s.out, pending := s.pending }

/-- What is attached across the reset is observed as an attach when it ends (R146, R87). -/
def observeAttach (s : State) : Attach → State
  | .computer c => busPowerAppears c s
  | .desk p => deskAttach p s

/-- A power-on reset ends (R16, R31, R146, R185). -/
def powerOnReset (rateHigh : Bool) (observed : List Attach) (s : State) : State :=
  observed.foldl observeAttach (powerOnState rateHigh s)

/-! ### The commands -/

/-- POWER_ON_RESET: the reset line is released, the RATE strap is sampled, and what is attached is observed in this order. -/
def execPowerOnReset (rateHigh : Bool) (observed : List Attach) (s : State) := onEvent (powerOnReset rateHigh observed) s
/-- BYTE_RECEIVED: a byte with a good or a bad stop bit (R185). -/
def execByteReceived (b : Byte) (stopGood : Bool) (s : State) := onEvent (byteArrives b stopGood) s
/-- GAP_TIMER_EXPIRY (R185). -/
def execGapTimerExpiry (s : State) := onEvent gapExpiry s
/-- REPLY_SENT (R187). -/
def execReplySent (s : State) := onEvent replySent s
/-- RESTART (R197). -/
def execRestart (s : State) := answerRecord 0x05 handleRestart s
/-- SOFT_RESET: the soft reset takes effect (R197). -/
def execSoftReset (s : State) := onEvent softReset s

end Sys2Proof.Machine
end

