-- ==== Sys2Proof/Machine/Dispatch.lean ====
section
/-! DEFINITION. One arm per command, each one call of its meaning. -/
namespace Sys2Proof.Machine
open Sys2Proof

/-- The effect of a command on everything but the queue. -/
def exec (i : Instr) (s : State) : Host.Outcome State Fault Refusal :=
  match i with
  | .powerOnReset rateHigh observed => Sys2Proof.Machine.execPowerOnReset rateHigh observed s
  | .profileLoadDone answered => Sys2Proof.Machine.execProfileLoadDone answered s
  | .byteReceived byte stopGood => Sys2Proof.Machine.execByteReceived byte stopGood s
  | .gapTimerExpiry => Sys2Proof.Machine.execGapTimerExpiry s
  | .replySent => Sys2Proof.Machine.execReplySent s
  | .identify => Sys2Proof.Machine.execIdentify s
  | .queryStatus => Sys2Proof.Machine.execQueryStatus s
  | .clearEvents kinds => Sys2Proof.Machine.execClearEvents kinds s
  | .setEventMask kinds => Sys2Proof.Machine.execSetEventMask kinds s
  | .restart => Sys2Proof.Machine.execRestart s
  | .softReset => Sys2Proof.Machine.execSoftReset s
  | .saveProfile => Sys2Proof.Machine.execSaveProfile s
  | .saveComplete result => Sys2Proof.Machine.execSaveComplete result s
  | .saveTimeout => Sys2Proof.Machine.execSaveTimeout s
  | .setScreen screen configured x y w h => Sys2Proof.Machine.execSetScreen screen configured x y w h s
  | .setComputer computer fields => Sys2Proof.Machine.execSetComputer computer fields s
  | .setHead computer head defined priv allowed x y w h => Sys2Proof.Machine.execSetHead computer head defined priv allowed x y w h s
  | .mapInput input computer head => Sys2Proof.Machine.execMapInput input computer head s
  | .getLayoutScreen screen => Sys2Proof.Machine.execGetLayoutScreen screen s
  | .getLayoutComputer computer => Sys2Proof.Machine.execGetLayoutComputer computer s
  | .getLayoutHead computer head => Sys2Proof.Machine.execGetLayoutHead computer head s
  | .getLayoutInput input => Sys2Proof.Machine.execGetLayoutInput input s
  | .syncEdge input time => Sys2Proof.Machine.execSyncEdge input time s
  | .lostTimerExpiry input => Sys2Proof.Machine.execLostTimerExpiry input s
  | .lockInputChange screen present => Sys2Proof.Machine.execLockInputChange screen present s
  | .linkTimerExpiry screen => Sys2Proof.Machine.execLinkTimerExpiry screen s
  | .powerOnTimerExpiry screen => Sys2Proof.Machine.execPowerOnTimerExpiry screen s
  | .assign screen computer head => Sys2Proof.Machine.execAssign screen computer head s
  | .storeScene scene keyFocus wake items => Sys2Proof.Machine.execStoreScene scene keyFocus wake items s
  | .applyScene scene => Sys2Proof.Machine.execApplyScene scene s
  | .setStartScene scene => Sys2Proof.Machine.execSetStartScene scene s
  | .getScreen screen => Sys2Proof.Machine.execGetScreen screen s
  | .getScreenScene scene => Sys2Proof.Machine.execGetScreenScene scene s
  | .setScreenTiming linkLimit powerValue powerScale => Sys2Proof.Machine.execSetScreenTiming linkLimit powerValue powerScale s
  | .setBallistics t1 t2 t3 g0 g1 g2 g3 => Sys2Proof.Machine.execSetBallistics t1 t2 t3 g0 g1 g2 g3 s
  | .setGlide barrier => Sys2Proof.Machine.execSetGlide barrier s
  | .warpComputer computer => Sys2Proof.Machine.execWarpComputer computer s
  | .warpPosition x y => Sys2Proof.Machine.execWarpPosition x y s
  | .getPointer => Sys2Proof.Machine.execGetPointer s
  | .deskPointerReport bytes time => Sys2Proof.Machine.execDeskPointerReport bytes time s
  | .pushDecayTimerExpiry => Sys2Proof.Machine.execPushDecayTimerExpiry s
  | .setFocus computer scope => Sys2Proof.Machine.execSetFocus computer scope s
  | .getFocus => Sys2Proof.Machine.execGetFocus s
  | .getFocusMap map => Sys2Proof.Machine.execGetFocusMap map s
  | .setKeymap map pairs => Sys2Proof.Machine.execSetKeymap map pairs s
  | .setKeyOptions stuckLimit leader window => Sys2Proof.Machine.execSetKeyOptions stuckLimit leader window s
  | .deskPortCheck port => Sys2Proof.Machine.execDeskPortCheck port s
  | .deskPortEnable port => Sys2Proof.Machine.execDeskPortEnable port s
  | .deskPortDisable port => Sys2Proof.Machine.execDeskPortDisable port s
  | .deskDeviceAttach port => Sys2Proof.Machine.execDeskDeviceAttach port s
  | .deskDeviceDetach port => Sys2Proof.Machine.execDeskDeviceDetach port s
  | .deskKeyboardReport bytes time => Sys2Proof.Machine.execDeskKeyboardReport bytes time s
  | .stuckTimerExpiry code => Sys2Proof.Machine.execStuckTimerExpiry code s
  | .windowTimerExpiry => Sys2Proof.Machine.execWindowTimerExpiry s
  | .addHotkey choice entry => Sys2Proof.Machine.execAddHotkey choice entry s
  | .removeHotkey entry => Sys2Proof.Machine.execRemoveHotkey entry s
  | .getHotkey entry => Sys2Proof.Machine.execGetHotkey entry s
  | .getHotkeyMatcher => Sys2Proof.Machine.execGetHotkeyMatcher s
  | .runAction action a1 a2 => Sys2Proof.Machine.execRunAction action a1 a2 s
  | .setLine line fields => Sys2Proof.Machine.execSetLine line fields s
  | .driveLine line level => Sys2Proof.Machine.execDriveLine line level s
  | .getLines => Sys2Proof.Machine.execGetLines s
  | .lineLevelChange line high => Sys2Proof.Machine.execLineLevelChange line high s
  | .filterTimerExpiry line => Sys2Proof.Machine.execFilterTimerExpiry line s
  | .busPowerAppears computer => Sys2Proof.Machine.execBusPowerAppears computer s
  | .configurationSelected computer => Sys2Proof.Machine.execConfigurationSelected computer s
  | .busIdle computer => Sys2Proof.Machine.execBusIdle computer s
  | .busActivity computer => Sys2Proof.Machine.execBusActivity computer s
  | .configurationDeselected computer => Sys2Proof.Machine.execConfigurationDeselected computer s
  | .busReset computer => Sys2Proof.Machine.execBusReset computer s
  | .busPowerDisappears computer => Sys2Proof.Machine.execBusPowerDisappears computer s
  | .keyboardPoll computer => Sys2Proof.Machine.execKeyboardPoll computer s
  | .pointerPoll computer => Sys2Proof.Machine.execPointerPoll computer s
  | .currentStateRequest computer function => Sys2Proof.Machine.execCurrentStateRequest computer function s
  | .lampWrite computer lamps => Sys2Proof.Machine.execLampWrite computer lamps s
  | .remoteWakeChange computer granted => Sys2Proof.Machine.execRemoteWakeChange computer granted s
  | .wake computer => Sys2Proof.Machine.execWake computer s
  | .attemptTimerExpiry computer => Sys2Proof.Machine.execAttemptTimerExpiry computer s
  | .wakePulseExpiry computer => Sys2Proof.Machine.execWakePulseExpiry computer s
  | .getComputer computer => Sys2Proof.Machine.execGetComputer computer s
  | .setDeskPower standbyValue standbyScale offValue offScale deadZone resumeWake => Sys2Proof.Machine.execSetDeskPower standbyValue standbyScale offValue offScale deadZone resumeWake s
  | .setDeskPowerRead => Sys2Proof.Machine.execSetDeskPowerRead s
  | .deskStandby => Sys2Proof.Machine.execDeskStandby s
  | .idleThresholdReached => Sys2Proof.Machine.execIdleThresholdReached s
  | .motionWindowExpiry => Sys2Proof.Machine.execMotionWindowExpiry s

end Sys2Proof.Machine
end

