-- ==== Sys2Proof/Safety.lean ====
section
/-!
DEFINITION. What a safe state is, in the terms the claims use: the laws the manual says its blocks keep, and the agreements between
fields that its state tables give. A safe run is one in which every step leads from a state with a law to a state with it. Then
the terms that statements about one command are written with: its reply, what it raises, and what it leaves as it was.
-/
namespace Sys2Proof.Safety
open Sys2Proof Sys2Proof.Machine

/-- A law is kept by every step. -/
def Kept (law : State → Prop) : Prop := ∀ s t : State, law s → step s = .next t → law t

/-- The serial memory is in its canonical form. -/
def CanonicalMemory (s : State) : Prop := Memory.wf s.profile.memory = true

/-- R187: at most 4 records and at most 12 markers wait in the receive queue. -/
def ReceiveQueueFits (s : State) : Prop := s.link.records ≤ 4 ∧ s.link.markers ≤ 12

/-- R185: what the assembly keeps agrees with its state. -/
def AssemblyAgrees (s : State) : Prop :=
  match s.link.assembly with
  | .hunting => s.link.bytes = [] ∧ s.link.gapTimer = none
  | .length => s.link.bytes = [] ∧ s.link.gapTimer.isSome
  | .body => s.link.bytes.length < s.link.length ∧ s.link.length ≤ 200 ∧ s.link.gapTimer.isSome
  | .check => s.link.bytes.length = s.link.length ∧ 1 ≤ s.link.length ∧ s.link.length ≤ 200 ∧ s.link.gapTimer.isSome

/-- R190: the attention line is asserted while at least one kind is both pending and enabled, and only then. -/
def AttentionFollows (s : State) : Prop :=
  s.status.attention = true ↔ ∃ k : EventKind, (s.event k).isPending = true ∧ (s.event k).enabled = true

/-- R146, R150: a hold queue holds at most 32 entries. -/
def HoldQueuesFit (s : State) : Prop := ∀ c : Computer, (s.port c).queue.length ≤ 32

/-- R2: every configured rectangle lies in the desk plane, and no two of them overlap. -/
def ScreensApart (s : State) : Prop :=
  (∀ (i : ScreenId) (r : Rect), s.screenRect i = some r → r.fitsPlane = true) ∧
  ∀ (i j : ScreenId) (a b : Rect), i ≠ j → s.screenRect i = some a → s.screenRect j = some b → a.overlaps b = false

/-- R8: the rectangle of a defined head lies inside its computer's virtual desktop. -/
def HeadsInside (s : State) : Prop :=
  ∀ (h : Head) (e : HeadEntry), s.headEntry h = some e → e.rect.fitsHead (s.computer h.computer) = true

/-- R11: every input is unbound or bound to a defined head, and no two inputs are bound to the same head. -/
def BindingsAgree (s : State) : Prop :=
  (∀ (v : InputId) (h : Head), s.binding v = some h → (s.headEntry h).isSome = true) ∧
  ∀ (v w : InputId) (h : Head), s.binding v = some h → s.binding w = some h → v = w

/-- R18: the fields of one channel agree with its state. -/
def ChannelAgrees (c : Channel) : Prop :=
  (∀ p ∈ c.window, 8000 ≤ p ∧ p ≤ 50000) ∧ c.window.length ≤ 4 ∧
  match c.state with
  | .lost => c.window = [] ∧ c.average = none ∧ c.lastEdge = none ∧ c.lostTimer = none
  | .acquiring => c.average = none ∧ c.lastEdge.isSome ∧ c.lostTimer.isSome ∧ c.running = true ∧ c.window.length ≤ 3
  | .alive =>
    (∃ a, c.average = some a ∧ 8000 ≤ a ∧ a ≤ 50000) ∧ c.lastEdge.isSome ∧ c.lostTimer.isSome ∧ c.running = true

/-- R18: every channel's fields agree, and a channel runs while its input is bound. -/
def ChannelsAgree (s : State) : Prop :=
  ∀ v : InputId, ChannelAgrees (s.channel v) ∧ ((s.channel v).running = true ↔ (s.binding v).isSome = true)

/-- R10: a private head is never the current or pending source of a screen outside its allowed set; a source is defined. -/
def PolicyKept (s : State) : Prop :=
  ∀ (i : ScreenId) (h : Head), (s.screenRec i).current = some h ∨ (s.screenRec i).waiting = some h →
    s.sourceFits i (some h) = true

/-- R31, R34: the fields of one screen record agree, with the head states and the screen table as they stand. A screen in SHOWING
has an ALIVE source and a lock input that is present. -/
def ScreenAgrees (s : State) (i : ScreenId) : Prop :=
  ((s.screenRec i).state = .unused ↔ s.screenRect i = none) ∧
  ((s.screenRec i).state = .unused ∨ (s.screenRec i).state = .blank → (s.screenRec i).current = none) ∧
  ((s.screenRec i).state.live = true → ∃ h, (s.screenRec i).current = some h ∧ s.headState h = .alive) ∧
  ((s.screenRec i).state = .dark → ∃ h, (s.screenRec i).current = some h ∧ s.headState h ≠ .alive) ∧
  (∀ h, (s.screenRec i).waiting = some h → (s.screenRec i).state.isOn = true ∧ s.headState h = .alive) ∧
  ((s.screenRec i).linkTimer.isSome = true → (s.screenRec i).state = .linking) ∧
  ((s.screenRec i).powerTimer.isSome = true → (s.screenRec i).state = .powering) ∧
  ((s.screenRec i).lockView = true → (s.screenRec i).lockPin = true) ∧
  ((s.screenRec i).state = .showing → (s.screenRec i).lockView = true)

/-- R31 and R34 for every screen, with the agreements of the map and the channels they rest on. -/
def ScreensAgree (s : State) : Prop := BindingsAgree s ∧ ChannelsAgree s ∧ ∀ i : ScreenId, ScreenAgrees s i

/-- R52: while a scene is in flight, some screen is outstanding, and every outstanding screen is configured and has not settled. A
screen is UNUSED while it is not configured, and only then (R31, R35). -/
def SceneUnsettled (s : State) : Prop :=
  (∀ i : ScreenId, (s.screenRec i).state = .unused ↔ s.screenRect i = none) ∧
  ∀ f : InFlight, s.screens.inFlight = some f →
    f.outstanding ≠ 0 ∧ ∀ i : ScreenId, inSet f.outstanding i = true →
      (s.screenRec i).settled = false ∧ (s.screenRec i).state ≠ .unused

/-- R59, R64: each accumulator lies in −15..15. -/
def AccumulatorsFit (s : State) : Prop :=
  -15 ≤ s.pointer.rx ∧ s.pointer.rx ≤ 15 ∧ -15 ≤ s.pointer.ry ∧ s.pointer.ry ≤ 15

/-- R60: the thresholds rise strictly, and every value lies in its range. -/
def BallisticsFit (s : State) : Prop :=
  1 ≤ s.pointer.t1 ∧ s.pointer.t1 < s.pointer.t2 ∧ s.pointer.t2 < s.pointer.t3 ∧ s.pointer.t3 ≤ 255 ∧
  (∀ g ∈ [s.pointer.g0, s.pointer.g1, s.pointer.g2, s.pointer.g3], 1 ≤ g ∧ g ≤ 255) ∧ s.pointer.barrier ≤ 255

/-- R72: an entry's absolute coordinates lie in 0..32767. -/
def EntryInRange : Entry → Prop
  | .keyboard _ => True
  | .pointer x y _ _ => x ≤ 32767 ∧ y ≤ 32767

/-- R72: every absolute coordinate the part places in a pointer entry lies in 0..32767. -/
def CoordinatesFit (s : State) : Prop :=
  (∀ c : Computer, s.pointer.lastAbs[c].1 ≤ 32767 ∧ s.pointer.lastAbs[c].2 ≤ 32767) ∧
  ∀ (c : Computer) (e : Entry), e ∈ (s.port c).queue → EntryInRange e

/-- R59: while the pointer is not parked, its position lies inside the rectangle of its screen, which is configured and has a
source, and the pointer focus is that source's computer; while it is parked, the pointer focus is NONE. The law rests on the screen
table's (R2). -/
def PointerHome (s : State) : Prop :=
  ScreensApart s ∧
  match s.pointer.place with
  | none => s.pointer.focus = none
  | some p =>
    ∃ (r : Rect) (h : Head), s.eligible p.screen = some (r, h) ∧ r.contains p.x p.y = true ∧ s.pointer.focus = some h.computer

/-- R93: the desk held set never holds more than 14 keys and never holds the same code twice. -/
def HeldSetFits (s : State) : Prop := s.keyboard.held.length ≤ 14 ∧ (s.keyboard.held.map (·.code)).Nodup

/-- R116: no two entries in use hold equal triggers, and no SEQUENCE entry begins another. -/
def HotkeysApart (s : State) : Prop :=
  ∀ (n m : EntryNo) (a b : Hotkey), n ≠ m → s.entry n = some a → s.entry m = some b → a.trigger.clashes b.trigger = false

/-- R141: the driven level of an OUTPUT line follows its source. -/
def OutputsFollow (s : State) : Prop :=
  ∀ l : LineId, (s.lineRec l).config.mode = .output → (s.lineRec l).config.source.follows = true →
    (s.lineRec l).driven = some (sourceLevel s (s.lineRec l).config.source)

/-- R163: a WAKING computer has an attempt between 1 and its max attempts, a running timer and a method; any other has none. -/
def AttemptsAgree (s : State) : Prop :=
  ∀ c : Computer, 1 ≤ (s.computer c).maxAttempts ∧
    if s.powerState c = .waking then
      1 ≤ (s.powerRec c).attempt ∧ (s.powerRec c).attempt ≤ (s.computer c).maxAttempts ∧
        (s.powerRec c).timer.isSome = true ∧ (s.powerRec c).method.isSome = true
    else (s.powerRec c).attempt = 0 ∧ (s.powerRec c).timer = none ∧ (s.powerRec c).method = none

/-- R146, R163: the observed port state that a power state stands with. -/
def PortMatches : PowerState → PortState → Prop
  | .absent, o => o = .detached
  | .starting, o => o = .attached ∨ o = .attachedSuspended
  | .awake, o => o = .configured
  | .asleep, o => o = .suspended
  | .waking, o => o = .suspended
  | .unresponsive, o => o = .suspended

/-- R163: the power state always agrees with the observed port state. -/
def PortsAgree (s : State) : Prop := ∀ c : Computer, PortMatches (s.powerState c) (s.port c).observed

/-- R160: a computer in ABSENT or UNRESPONSIVE has an empty hold queue. -/
def AwayQueuesEmpty (s : State) : Prop :=
  ∀ c : Computer, s.powerState c = .absent ∨ s.powerState c = .unresponsive → (s.port c).queue = []

/-- R189: the condition of each level kind is as its owner's state stands. -/
def ConditionsAgree (s : State) : Prop :=
  (s.status.wakeHolds = true ↔ ∃ c : Computer, s.powerState c = .unresponsive) ∧
  (s.status.faultHolds = true ↔ ∃ i : ScreenId, (s.screenRec i).state = .fault)

/-- R177: the idle timer runs while the desk is ACTIVE or STANDBY, and is stopped while the desk is OFF. -/
def IdleTimerRuns (s : State) : Prop := s.desk.idleStart.isSome = true ↔ s.desk.state ≠ .off

/-- A tail above the depth of 28 is a keyboard entry, and a computer that is ABSENT or UNRESPONSIVE has no key committed: what the
law of R101 rests on. -/
def ReleasesFit (s : State) : Prop :=
  ∀ c : Computer, (28 < (s.port c).queue.length → ∃ k, (s.port c).queue.getLast? = some (.keyboard k)) ∧
    (s.powerState c = .absent ∨ s.powerState c = .unresponsive → (s.committedKeys c).isEmpty = true)

/-- R101: every computer port other than the key-focus port has an empty committed key state. -/
def KeysHome (s : State) : Prop :=
  ReleasesFit s ∧ ∀ c : Computer, c ≠ s.keyboard.focus → (s.committedKeys c).isEmpty = true

/-- R77: every computer port other than the stand-in computer's has an empty committed button set. -/
def ButtonsHome (s : State) : Prop :=
  (s.pointer.place.isSome = s.pointer.focus.isSome) ∧
  (∀ c : Computer, s.powerState c = .absent ∨ s.powerState c = .unresponsive → s.committedButtons c = 0) ∧
  ∀ c : Computer, c ≠ s.standIn → s.committedButtons c = 0

/-- R73: the swallow set is a subset of the desk button set. -/
def SwallowInside (s : State) : Prop := subBits s.pointer.swallow s.pointer.buttons = true

/-! ### What one command does -/

/-- The parts of State, but for what is handed on, which each command begins afresh. -/
inductive Part where
  | now
  | link
  | status
  | profile
  | layout
  | sync
  | screens
  | pointer
  | keyboard
  | matcher
  | lines
  | ports
  | power
  | desk
  | freeCount
  | pending
  deriving DecidableEq, Repr

/-- A part is the same in two states. -/
def Part.same (s t : State) : Part → Prop
  | .now => t.now = s.now
  | .link => t.link = s.link
  | .status => t.status = s.status
  | .profile => t.profile = s.profile
  | .layout => t.layout = s.layout
  | .sync => t.sync = s.sync
  | .screens => t.screens = s.screens
  | .pointer => t.pointer = s.pointer
  | .keyboard => t.keyboard = s.keyboard
  | .matcher => t.matcher = s.matcher
  | .lines => t.lines = s.lines
  | .ports => t.ports = s.ports
  | .power => t.power = s.power
  | .desk => t.desk = s.desk
  | .freeCount => t.freeCount = s.freeCount
  | .pending => t.pending = s.pending

/-- Every part but the named ones is as it was. -/
def OnlyChanges (ps : List Part) (s t : State) : Prop := ∀ p : Part, p ∉ ps → p.same s t

/-- The reply to a record of a kind: kind plus 0x80, the result code, the values (R188, R199). -/
def replyTo (kind : Nat) (r : Result) (body : List Byte) : ReplyFrame := ⟨BitVec.ofNat 8 (kind + 0x80), r.code :: body⟩

/-- A record is answered: its reply's frame (R199) is the last thing handed on and begins to leave, and the link is otherwise as it
was. -/
def Answers (kind : Nat) (r : Result) (body : List Byte) (s t : State) : Prop :=
  t.link = { s.link with replies := s.link.replies ++ [replyTo kind r body] } ∧
  t.out.getLast? = some (.reply (replyTo kind r body).bytes)

/-- An event is pending with its detail (R189). -/
def Raised (e : Event) (t : State) : Prop := (t.event e.kind).isPending = true ∧ (t.event e.kind).detail = some e

/-- No event record but those of the named kinds has changed, and no enable flag has. -/
def RaisesOnly (ks : List EventKind) (s t : State) : Prop :=
  ∀ k : EventKind, (t.event k).enabled = (s.event k).enabled ∧ (k ∉ ks → t.event k = s.event k)

/-- No line has changed, but that an OUTPUT line which follows the part's own state may be driven at another level (R141). -/
def LinesKept (s t : State) : Prop :=
  t.lines.dial = s.lines.dial ∧
  ∀ l : LineId, t.lineRec l = s.lineRec l ∨
    ((s.lineRec l).config.mode = .output ∧ (s.lineRec l).config.source.follows = true ∧
      ∃ d, t.lineRec l = { s.lineRec l with driven := d })

/-- A command raises these kinds at most, and the lines move at most with the attention line and their other sources. -/
def Quiet (ks : List EventKind) (s t : State) : Prop := RaisesOnly ks s t ∧ LinesKept s t

/-- R6: every field of a SET_COMPUTER record lies in its range; the spare flag bits and the label's pad are 0 (R198). -/
def ComputerFieldsInRange (r : RawComputer) : Prop :=
  r.flags < 64 ∧ r.inputWake ≤ 2 ∧ 50 ≤ r.pulseWidth ∧ r.pulseWidth ≤ 2000 ∧ 1 ≤ r.maxAttempts ∧ r.maxAttempts ≤ 5 ∧
  1000 ≤ r.timeout ∧ r.timeout ≤ 30000 ∧ (r.keymap = 255 ∨ r.keymap < 4) ∧ 1 ≤ r.w ∧ r.w ≤ 16384 ∧ 1 ≤ r.h ∧ r.h ≤ 16384 ∧
  r.labelLength ≤ 12 ∧ (∀ ch ∈ r.label.take r.labelLength, 0x20 ≤ ch ∧ ch ≤ 0x7E) ∧
  ∀ ch ∈ r.label.drop r.labelLength, ch = 0

/-- R198: the two bytes of a source are NONE or a head. -/
def SourceInRange (computer head : Nat) : Prop := (computer = 255 ∧ head = 255) ∨ (computer < 6 ∧ head < 4)

/-- R2: a rectangle lies in the desk plane. -/
def RectInPlane (r : Rect) : Prop :=
  64 ≤ r.w ∧ r.w ≤ 8192 ∧ 64 ≤ r.h ∧ r.h ≤ 8192 ∧ r.x ≤ 16383 ∧ r.y ≤ 8191 ∧ r.x + r.w ≤ 16384 ∧ r.y + r.h ≤ 8192

/-- R2: two rectangles share at least one desk unit. -/
def RectsMeet (a b : Rect) : Prop := ∃ x y : Int, a.contains x y = true ∧ b.contains x y = true

/-- R9: a head's rectangle lies in its bounds and in a virtual desktop. -/
def RectOnDesktop (r : Rect) (e : ComputerEntry) : Prop :=
  r.x ≤ 16383 ∧ r.y ≤ 16383 ∧ 1 ≤ r.w ∧ r.w ≤ 16384 ∧ 1 ≤ r.h ∧ r.h ≤ 16384 ∧ r.x + r.w ≤ e.w ∧ r.y + r.h ≤ e.h

/-- R82: the pointer has re-homed onto the center of the lowest-numbered eligible screen, or is parked. -/
def ReHomed (t : State) : Prop :=
  (t.pointer.place = none ∧ ∀ j : ScreenId, t.eligible j = none) ∨
  ∃ (i : ScreenId) (r : Rect) (h : Head), t.eligible i = some (r, h) ∧ (∀ j : ScreenId, j < i → t.eligible j = none) ∧
    t.pointer.place = some ⟨i, r.x + r.w / 2, r.y + r.h / 2⟩ ∧ t.pointer.focus = some h.computer

/-- What a screen-changed notice for a screen does to the pointer (R69, R82). -/
def PointerFollowsScreen (i : ScreenId) (s t : State) : Prop :=
  (s.pointer.place = none ∨ (∃ p, s.pointer.place = some p ∧ p.screen = i) → ReHomed t) ∧
  ((∃ p, s.pointer.place = some p ∧ p.screen ≠ i) → t.pointer.place = s.pointer.place ∧ t.pointer.focus = s.pointer.focus) ∧
  ((∃ q, s.pointer.push = some q ∧ q.screen = i) → t.pointer.push = none)

/-- R115: a hotkey's trigger bytes lie in their ranges. -/
def TriggerInRange (r : RawHotkey) : Prop :=
  (r.trigger = 1 ∧ r.t1 < 16 ∧ 2 ≤ r.t2 ∧ r.t2 ≤ 223 ∧ r.t3 = 0) ∨
  (r.trigger = 2 ∧ r.t1 = 1 ∧ 2 ≤ r.t2 ∧ r.t2 ≤ 223 ∧ r.t3 = 0) ∨
  (r.trigger = 2 ∧ r.t1 = 2 ∧ 2 ≤ r.t2 ∧ r.t2 ≤ 223 ∧ 2 ≤ r.t3 ∧ r.t3 ≤ 223) ∨
  (r.trigger = 3 ∧ r.t1 < 8 ∧ r.t2 < 2 ∧ r.t3 = 0)

/-- R115: an action's three bytes lie in their ranges. -/
def ActionInRange (kind a b : Nat) : Prop :=
  (kind = 1 ∧ a < 6 ∧ b < 2) ∨ (kind = 2 ∧ a < 2 ∧ b = 0) ∨ (kind = 3 ∧ a < 6 ∧ b = 0) ∨ (kind = 4 ∧ a < 16 ∧ b = 0) ∨
  (kind = 5 ∧ a < 6 ∧ b = 0) ∨ (6 ≤ kind ∧ kind ≤ 8 ∧ a = 0 ∧ b = 0)

/-- R116: a hotkey's bytes lie in their ranges, and a MOMENTARY action has no SEQUENCE trigger. -/
def HotkeyInRange (r : RawHotkey) : Prop :=
  TriggerInRange r ∧ ActionInRange r.action r.a1 r.a2 ∧ r.enabled < 2 ∧ ¬(r.action = 3 ∧ r.trigger = 2)

/-- R116: a stored trigger and the trigger of a record are equal, or one SEQUENCE begins the other. -/
def TriggersMeet : Trigger → RawHotkey → Prop
  | .chord kinds code, r => r.trigger = 1 ∧ r.t1 = kinds.toNat ∧ r.t2 = code
  | .one k, r => r.trigger = 2 ∧ r.t2 = k
  | .two j k, r => r.trigger = 2 ∧ r.t2 = j ∧ (r.t1 = 1 ∨ r.t3 = k)
  | .line l e, r => r.trigger = 3 ∧ r.t1 = l.val ∧ r.t2 = e.toNat

/-- R135: the fields of a SET_LINE record that its mode uses lie in their ranges. -/
def LineFieldsInRange (l : Nat) (r : RawLine) : Prop :=
  r.polarity < 2 ∧
    (r.mode = 0 ∨ (r.mode = 1 ∧ r.filter < 256 ∧ r.wake < 2 ∧ r.report < 2) ∨
      (r.mode = 2 ∧ ((r.sourceKind = 0 ∧ r.sourceArg < 2) ∨ ((r.sourceKind = 1 ∨ r.sourceKind = 2) ∧ r.sourceArg < 6) ∨
        ((r.sourceKind = 3 ∨ r.sourceKind = 4) ∧ r.sourceArg = 0))) ∨
      (r.mode = 3 ∧ (l = 6 ∨ l = 7) ∧ r.filter < 256 ∧ (r.counts = 1 ∨ r.counts = 2 ∨ r.counts = 4)))

/-- R135: the configuration a SET_LINE record leaves, as bytes: what its mode uses, and power-on values for the rest. -/
def lineBytesOf (r : RawLine) : List Byte :=
  match r.mode with
  | 1 => [1, byte r.polarity, byte r.filter, byte r.wake, byte r.report, 0, 0, 4]
  | 2 => [2, byte r.polarity, 10, 0, 0, byte r.sourceKind, byte r.sourceArg, 4]
  | 3 => [3, byte r.polarity, byte r.filter, 0, 0, 0, 0, byte r.counts]
  | _ => [0, byte r.polarity, 10, 0, 0, 0, 0, 4]

/-- R143: the move of a phase pair in the cycle II, AI, AA, IA. -/
def cycleMove (a b a' b' : Bool) : Int :=
  if (a, b, a', b') ∈ [(false, false, true, false), (true, false, true, true), (true, true, false, true),
      (false, true, false, false)] then 1
  else if (a, b, a', b') ∈ [(true, false, false, false), (true, true, true, false), (false, true, true, true),
      (false, false, false, true)] then -1
  else 0

/-- R195, R203: why the body of an image is refused, its sections being numbered from 1 to 15 (log entries 9 and 10): sections are
missing or left over, one is out of order or cut short, the contents of one are not the bodies it must hold, or an entry is refused
by its record against what the earlier ones left. -/
def ImageRefused (s : State) (body : List Nat) : Prop :=
  (∃ (cs : List (List Byte)) (rest : List Nat), (∀ c ∈ cs, c.length < 65536) ∧
    body = (numbered 1 cs).map BitVec.toNat ++ rest ∧
    ((cs.length < 15 ∧ rest.length < 3) ∨ (cs.length = 15 ∧ rest ≠ []) ∨
      (cs.length < 15 ∧ ∃ n r, rest = n :: r ∧ n ≠ cs.length + 1) ∨
      (cs.length < 15 ∧ ∃ n hi lo r, rest = n :: hi :: lo :: r ∧ r.length < hi * 256 + lo))) ∨
  (∃ (cs : List (List Byte)) (j : Nat) (f : SectionForm) (c : List Byte), cs.length = 15 ∧ (∀ d ∈ cs, d.length < 65536) ∧
    body = (numbered 1 cs).map BitVec.toNat ∧ sectionForms[j]? = some f ∧ cs[j]? = some c ∧
    f.bodies (c.map BitVec.toNat) = none) ∨
  ∃ (before after : List (Nat × List Nat)) (r : Nat × List Nat) (u : State),
    imageRecords 1 sectionForms body = some (before ++ r :: after) ∧ loadRecords before s.fresh = some u ∧ loadRecord u r = none

/-- R51, R53: the screens a record in flight holds before any has settled: the configured ones that the scene names, and the
outstanding ones of a superseded record that it does not name. -/
def SceneHolds (sc : Scene) (s : State) (i : ScreenId) : Prop :=
  ((∃ it ∈ sc.items, it.screen = i) ∧ s.screenRect i ≠ none) ∨
  ((∀ it ∈ sc.items, it.screen ≠ i) ∧ ∃ g, s.screens.inFlight = some g ∧ inSet g.outstanding i = true)

/-- R138: a command makes a filtered edge of a line, `pin` being its electrical level then and `n` the time: the filter timer
expires, or the level changes away from the filtered one on a line with a filter of 0. -/
def MakesEdge (i : Instr) (l : LineId) (pin : Bool) (n : Nat) (s : State) : Prop :=
  (i = .lineLevelChange l pin ∧ (s.lineRec l).pin ≠ pin ∧ (s.lineRec l).config.filter = 0 ∧ n = s.now ∧
    (s.lineRec l).filtered ≠ some (pin != (s.lineRec l).config.activeLow)) ∨
  ∃ tm, i = .filterTimerExpiry l ∧ pin = (s.lineRec l).pin ∧ (s.lineRec l).timer = some tm ∧ n = max s.now tm.due

/-- R139: the edge of an INPUT line goes on to the matcher: no waking input, and not the end of a swallowed press. -/
def EdgeOffered (l : LineId) (active : Bool) (s : State) : Prop :=
  (s.lineRec l).config.mode = .input ∧ (active = true → (s.lineRec l).config.wake = true → s.desk.state = .active) ∧
  (active = false → (s.lineRec l).suppressed = false)

/-- R147, R164: an act on the bus that ends SUSPENDED at a computer's port, and the power state that its observation gives. -/
def EndsSuspension (act : Instr) (c : Computer) (st : PowerState) : Prop :=
  (act = .busActivity c ∧ st = .awake) ∨ (act = .busReset c ∧ st = .starting) ∨ (act = .busPowerDisappears c ∧ st = .absent)

/-- R91, R92: a report whose one event is the press of a code, at a PRESENT keyboard port of an ACTIVE desk (R94 step 2). -/
def PressesOnly (bs : List Byte) (k : Nat) (s : State) : Prop :=
  s.keyboard.kbPort.state = .present ∧ s.desk.state = .active ∧ (∀ r ∈ s.keyboard.held, r.code ≠ k) ∧
  ∃ codes, KeyReport.parse bs = .keys codes ∧ codes.Nodup ∧
    ∀ c : Nat, c ∈ codes ↔ c = k ∨ ∃ r ∈ s.keyboard.held, r.code = c

/-- R91, R92: a report whose one event is the release of a code, at a PRESENT keyboard port. -/
def ReleasesOnly (bs : List Byte) (k : Nat) (s : State) : Prop :=
  s.keyboard.kbPort.state = .present ∧ (∃ r ∈ s.keyboard.held, r.code = k) ∧
  ∃ codes, KeyReport.parse bs = .keys codes ∧ codes.Nodup ∧
    ∀ c : Nat, c ∈ codes ↔ c ≠ k ∧ ∃ r ∈ s.keyboard.held, r.code = c

/-- R120: the held modifier kinds are exactly this set; a left or a right key of a kind counts unless it carries suppressed. -/
def KindsHeld (kinds : KindSet) (s : State) : Prop :=
  ∀ i : Fin 4, kinds.getLsbD i = true ↔
    ∃ r ∈ s.keyboard.held, r.suppressed = false ∧ (r.code = 224 + i.val ∨ r.code = 228 + i.val)

/-- An enabled entry of the hotkey table has this trigger (R115). -/
def HasTrigger (t : Trigger) (s : State) : Prop := ∃ (n : EntryNo) (h : Hotkey), s.entry n = some h ∧ h.enabled = true ∧ h.trigger = t

/-- The record of a press at time `n` that carries the named flags (R93). -/
def pressed (k n : Nat) (swallowed deferred : Bool) : HeldKey :=
  { code := k, pressed := n, suppressed := false, swallowed := swallowed, stuck := false, deferred := deferred, timer := none }

/-- The key-focus computer is AWAKE with no key committed, no key translation map and room for seven entries: what a replay needs to
be seen entry by entry (R97, R99). -/
def FocusReady (c : Computer) (s : State) : Prop :=
  s.keyboard.focus = c ∧ s.powerState c = .awake ∧ (s.computer c).keymap = none ∧ (s.committedKeys c).isEmpty = true ∧
  (s.port c).queue.length < 22

/-- Every computer but the named ones has its port and power records as they were. -/
def OthersKept (cs : List Computer) (s t : State) : Prop :=
  ∀ d : Computer, d ∉ cs → t.port d = s.port d ∧ t.powerRec d = s.powerRec d

/-- R166, R167: the power record of a computer whose attempt 1 starts at a time. -/
def firstAttempt (c : Computer) (n : Nat) (s : State) : PowerRec :=
  let m : Method :=
    if (s.port c).permission = true ∧ ¬((s.computer c).maxAttempts = 1 ∧ (s.computer c).wakeLine = true) then .link else .line
  { (s.powerRec c) with
    state := .waking, attempt := 1, method := some m, timer := some ⟨n, (s.computer c).timeout * 1000⟩,
    pulse := if m = .line ∧ (s.powerRec c).pulse = none then some ⟨n, (s.computer c).pulseWidth * 1000⟩
      else (s.powerRec c).pulse,
    wakeHigh := if m = .line ∧ (s.powerRec c).pulse = none then (s.computer c).activeHigh else (s.powerRec c).wakeHigh }

/-- R182: what a resume at a time does to the computers: the wake request for the key-focus computer, by its state and its wake
method, with its signal (R166 to R168, R170). -/
def ResumeWakes (n : Nat) (s t : State) : Prop :=
  let c := s.keyboard.focus
  OthersKept [c] s t ∧
  (s.desk.resumeWake = false ∨ (s.powerState c ≠ .asleep ∧ s.powerState c ≠ .unresponsive) →
    t.port c = s.port c ∧ t.powerRec c = s.powerRec c) ∧
  (s.desk.resumeWake = true → s.powerState c = .asleep ∨ s.powerState c = .unresponsive →
    (s.port c).permission = true ∨ (s.computer c).wakeLine = true →
    t.port c = s.port c ∧ t.powerRec c = firstAttempt c n s ∧ Raised (.computerState c) t ∧
    ((firstAttempt c n s).method = some .link → (s.port c).observed = .suspended → .resumeSignal c ∈ t.out)) ∧
  (s.desk.resumeWake = true → s.powerState c = .asleep → (s.port c).permission = false → (s.computer c).wakeLine = false →
    t.port c = (s.port c).discard ∧
    t.powerRec c = { (s.powerRec c) with state := .unresponsive, attempt := 0, timer := none, method := none } ∧
    Raised (.wakeFailed c) t ∧ Raised (.computerState c) t) ∧
  (s.desk.resumeWake = true → s.powerState c = .unresponsive → (s.port c).permission = false →
    (s.computer c).wakeLine = false → t.port c = s.port c ∧ t.powerRec c = s.powerRec c ∧ Raised (.wakeFailed c) t)

/-- R166, R172: an entry that carries input sends a wake request for this computer. -/
def InputWakes (c : Computer) (s : State) : Prop :=
  (s.powerState c = .asleep ∨ s.powerState c = .unresponsive) ∧
  ((s.port c).permission = true ∨ (s.computer c).wakeLine = true) ∧
  ((s.computer c).inputWake = .always ∨ ((s.computer c).inputWake = .once ∧ (s.powerRec c).armed = true))

/-- R150: a pointer entry that only takes buttons away from a port's committed state. -/
def ReleaseOnly (x y : Nat) (b : ButtonSet) (w : Int) (p : Port) : Prop :=
  b &&& ~~~p.committedButtons = 0 ∧ p.committedPointer.1 = x ∧ p.committedPointer.2.1 = y ∧ w = 0

/-- R154, R155: a port before and after a pointer entry is placed: coalesced into a tail with the same buttons, appended, merged into
the newest pointer entry of a queue of 28 or more, or taken against the presented pointer state. -/
def PointerPlaced (x y : Nat) (b : ButtonSet) (w : Int) (p q : Port) : Prop :=
  (∃ es x0 y0 w0, p.queue = es ++ [.pointer x0 y0 b w0] ∧
    q = { p with queue := es ++ [.pointer x y b (max (-127) (min 127 (w0 + w)))] }) ∨
  ((∀ x0 y0 w0, p.queue.getLast? ≠ some (.pointer x0 y0 b w0)) ∧ p.queue.length < 28 ∧
    q = { p with queue := p.queue ++ [.pointer x y b w] }) ∨
  ((∀ x0 y0 w0, p.queue.getLast? ≠ some (.pointer x0 y0 b w0)) ∧ 28 ≤ p.queue.length ∧
    ∃ es ks x0 y0 b0 w0, p.queue = es ++ .pointer x0 y0 b0 w0 :: ks ∧ (∀ e ∈ ks, e.isPointer = false) ∧
      q = { p with queue := es ++ .pointer x y b (max (-127) (min 127 (w0 + w))) :: ks }) ∨
  (28 ≤ p.queue.length ∧ (∀ e ∈ p.queue, e.isPointer = false) ∧
    q = { p with
      x := x, y := y, buttons := p.buttons &&& b,
      ptrOwed := p.ptrOwed || decide (p.x ≠ x ∨ p.y ≠ y ∨ p.buttons &&& b ≠ p.buttons) })

/-- R155: the buttons of a pointer entry that a port refuses: none, unless its queue of 28 or more holds no pointer entry. -/
def refusedOf (b : ButtonSet) (p : Port) : ButtonSet :=
  if 28 ≤ p.queue.length ∧ ∀ e ∈ p.queue, e.isPointer = false then b &&& ~~~p.buttons else 0

/-- R151, R154 to R156, R172: what handing a pointer entry for a computer at a time does, `swallow` being the swallow set before it:
the input notice, the placing or the discard, and the buttons refused. -/
def PointerTaken (c : Computer) (x y : Nat) (b : ButtonSet) (w : Int) (swallow : ButtonSet) (n : Nat) (s t : State) : Prop :=
  OthersKept [c] s t ∧
  (InputWakes c s → ¬ReleaseOnly x y b w (s.port c) → Raised (.computerState c) t ∧
    t.powerRec c =
      { firstAttempt c n s with armed := (s.powerRec c).armed && decide ((s.computer c).inputWake ≠ .once) } ∧
    ((firstAttempt c n s).method = some .link → (s.port c).observed = .suspended → .resumeSignal c ∈ t.out)) ∧
  (¬InputWakes c s ∨ ReleaseOnly x y b w (s.port c) → t.powerRec c = s.powerRec c) ∧
  (if t.powerState c = .absent ∨ t.powerState c = .unresponsive then
    t.port c = s.port c ∧ t.pointer.swallow = swallow ∧ t.event .keysDropped = s.event .keysDropped
  else
    PointerPlaced x y b w (s.port c) (t.port c) ∧ t.pointer.swallow = swallow ||| refusedOf b (s.port c) ∧
    (refusedOf b (s.port c) ≠ 0 → Raised (.keysDropped c) t) ∧
    (refusedOf b (s.port c) = 0 → t.event .keysDropped = s.event .keysDropped))

/-- Two commands leave the same state but for their replies. -/
def SameButReply (t u : State) : Prop := t = { u with link := t.link, out := t.out }

/-- IDENTIFY and QUERY_STATUS, served in every state of the Profile Store (R194). -/
def servedAlways : Instr → Bool
  | .identify => true
  | .queryStatus => true
  | _ => false

/-- The configuration records of R194, BUSY while LOADING and while SAVING. -/
def isConfiguration : Instr → Bool
  | .setScreen .. => true
  | .setComputer .. => true
  | .setHead .. => true
  | .mapInput .. => true
  | .storeScene .. => true
  | .setStartScene .. => true
  | .setScreenTiming .. => true
  | .setBallistics .. => true
  | .setGlide .. => true
  | .setKeymap .. => true
  | .setKeyOptions .. => true
  | .addHotkey .. => true
  | .removeHotkey .. => true
  | .setLine .. => true
  | .setDeskPower .. => true
  | .setEventMask .. => true
  | .saveProfile => true
  | _ => false

/-- The table of R194: whether a record is BUSY in a state of the Profile Store. -/
def busyIn (i : Instr) : StoreState → Bool
  | .loading => !servedAlways i
  | .ready => false
  | .saving => isConfiguration i

end Sys2Proof.Safety
end

