-- ==== Sys2Proof/WellFormed.lean ====
section
/-!
DEFINITION. When a command's operands fit the fields that carry them: one byte or two bytes each (R198, R201, R204), a label of
twelve bytes, and lists that fit one frame (R185). A well-formed command may still be refused by the record's own checks.
-/
namespace Sys2Proof

/-- A number one byte can carry. -/
def fitsByte (n : Nat) : Bool := decide (n < 256)
/-- A number two bytes can carry. -/
def fitsWord (n : Nat) : Bool := decide (n < 65536)

/-- Every byte of a hotkey entry fits. -/
def RawHotkey.wf (r : RawHotkey) : Bool :=
  [r.trigger, r.t1, r.t2, r.t3, r.action, r.a1, r.a2, r.enabled].all fitsByte

/-- Every byte of a scene item fits. -/
def RawItem.wf (r : RawItem) : Bool := [r.screen, r.computer, r.head].all fitsByte

/-- Every field of SET_COMPUTER fits, and the label field has its twelve bytes. -/
def RawComputer.wf (r : RawComputer) : Bool :=
  [r.flags, r.inputWake, r.maxAttempts, r.keymap, r.labelLength].all fitsByte
    && [r.pulseWidth, r.timeout, r.w, r.h].all fitsWord && r.label.length == 12 && r.label.all fitsByte

/-- Every byte of SET_LINE fits. -/
def RawLine.wf (r : RawLine) : Bool :=
  [r.mode, r.polarity, r.filter, r.wake, r.report, r.sourceKind, r.sourceArg, r.counts].all fitsByte

/-- The operands of a command fit the fields that carry them. -/
def Instr.wf : Instr → Bool
  | .powerOnReset _ observed => observed.Nodup
  | .profileLoadDone _ => true
  | .byteReceived _ _ => true
  | .gapTimerExpiry => true
  | .replySent => true
  | .identify => true
  | .queryStatus => true
  | .clearEvents k => fitsWord k
  | .setEventMask k => fitsWord k
  | .restart => true
  | .softReset => true
  | .saveProfile => true
  | .saveComplete _ => true
  | .saveTimeout => true
  | .setScreen s c x y w h => [s, c].all fitsByte && [x, y, w, h].all fitsWord
  | .setComputer c r => fitsByte c && r.wf
  | .setHead c h d p a x y w hh => [c, h, d, p, a].all fitsByte && [x, y, w, hh].all fitsWord
  | .mapInput v c h => [v, c, h].all fitsByte
  | .getLayoutScreen s => fitsByte s
  | .getLayoutComputer c => fitsByte c
  | .getLayoutHead c h => [c, h].all fitsByte
  | .getLayoutInput v => fitsByte v
  | .syncEdge _ _ => true
  | .lostTimerExpiry _ => true
  | .lockInputChange _ _ => true
  | .linkTimerExpiry _ => true
  | .powerOnTimerExpiry _ => true
  | .assign s c h => [s, c, h].all fitsByte
  | .storeScene n k w items => [n, k, w].all fitsByte && items.all RawItem.wf && decide (items.length ≤ 65)
  | .applyScene n => fitsByte n
  | .setStartScene n => fitsByte n
  | .getScreen s => fitsByte s
  | .getScreenScene n => fitsByte n
  | .setScreenTiming l v c => fitsWord l && [v, c].all fitsByte
  | .setBallistics t1 t2 t3 g0 g1 g2 g3 => [t1, t2, t3, g0, g1, g2, g3].all fitsByte
  | .setGlide b => fitsByte b
  | .warpComputer c => fitsByte c
  | .warpPosition x y => [x, y].all fitsWord
  | .getPointer => true
  | .deskPointerReport _ _ => true
  | .pushDecayTimerExpiry => true
  | .setFocus c sc => [c, sc].all fitsByte
  | .getFocus => true
  | .getFocusMap m => fitsByte m
  | .setKeymap m pairs =>
      fitsByte m && pairs.all (fun p => fitsByte p.1 && fitsByte p.2) && decide (pairs.length ≤ 98)
  | .setKeyOptions l k w => [l, k].all fitsByte && fitsWord w
  | .deskPortCheck p => fitsByte p
  | .deskPortEnable p => fitsByte p
  | .deskPortDisable p => fitsByte p
  | .deskDeviceAttach _ => true
  | .deskDeviceDetach _ => true
  | .deskKeyboardReport _ _ => true
  | .stuckTimerExpiry k => fitsByte k
  | .windowTimerExpiry => true
  | .addHotkey ch r => fitsByte ch && r.wf
  | .removeHotkey n => fitsByte n
  | .getHotkey n => fitsByte n
  | .getHotkeyMatcher => true
  | .runAction k a b => [k, a, b].all fitsByte
  | .setLine l r => fitsByte l && r.wf
  | .driveLine l v => [l, v].all fitsByte
  | .getLines => true
  | .lineLevelChange _ _ => true
  | .filterTimerExpiry _ => true
  | .busPowerAppears _ => true
  | .configurationSelected _ => true
  | .busIdle _ => true
  | .busActivity _ => true
  | .configurationDeselected _ => true
  | .busReset _ => true
  | .busPowerDisappears _ => true
  | .keyboardPoll _ => true
  | .pointerPoll _ => true
  | .currentStateRequest _ _ => true
  | .lampWrite _ _ => true
  | .remoteWakeChange _ _ => true
  | .wake c => fitsByte c
  | .attemptTimerExpiry _ => true
  | .wakePulseExpiry _ => true
  | .getComputer c => fitsByte c
  | .setDeskPower a b c d z r => [a, b, c, d, z, r].all fitsByte
  | .setDeskPowerRead => true
  | .deskStandby => true
  | .idleThresholdReached => true
  | .motionWindowExpiry => true

end Sys2Proof
end

