-- ==== Sys2Proof/Certificates/Slice0/Obligations.lean ====
section
/-!
DEFINITION. The statements for the provers, in the order of OBLIGATIONS.json: the machine and its resets, the link, the status
records, then one block of the manual after another, and the laws that every step keeps.
-/
section
open Sys2Proof Sys2Proof.Machine Sys2Proof.Safety

/-! ### The machine -/

/-- A step runs the command at the front of the queue on the state with the queue's rest. With no command waiting it is one tick
of the 1 µs time base (00 §0.3), which is the model's choice: log entry 2. -/
def Obligations.StepRunsTheFrontCommand : Prop :=
  (∀ (c : Instr) (s : State), step { s with pending := c :: s.pending } = exec c s) ∧
  (∀ s : State, s.pending = [] → ∃ t, step s = .next t ∧ t.now = s.now + 1 ∧ t.out = [] ∧ OnlyChanges [.now] s t)

/-- Every command has its effect in every state: no command stops the part, none touches the waiting commands, and the time base
never runs back (00 §0.3). -/
def Obligations.EveryCommandAnswers : Prop :=
  ∀ (i : Instr) (s : State), ∃ t, exec i s = .next t ∧ t.pending = s.pending ∧ s.now ≤ t.now

/-- Every record gets one reply, of its kind plus 0x80, whose frame leaves as start, length, kind, result, values and check byte
(R199). A result other than OK and ACCEPTED comes alone, and the refused record leaves every block as it was (R1, R188). -/
def Obligations.RefusedRecordsChangeNothing : Prop :=
  ∀ (i : Instr) (k : Nat) (b : List Nat) (s : State), i.record = some (k, b) →
    ∃ (t : State) (r : Result) (body : List Byte), exec i s = .next t ∧
      t.link.replies = s.link.replies ++ [replyTo k r body] ∧
      (∃ check : Byte, t.out.getLast? = some (.reply
          ([0xC5, BitVec.ofNat 8 (body.length + 2), BitVec.ofNat 8 (k + 0x80), r.code] ++ body ++ [check])) ∧
        (body.length + 2 + (k + 0x80) + r.code.toNat + (body.map BitVec.toNat).sum + check.toNat) % 256 = 0) ∧
      (r ≠ .ok → r ≠ .accepted → body = [] ∧ OnlyChanges [.link] s t ∧ Answers k r [] s t ∧
        t.out = [.reply (replyTo k r []).bytes])

/-- The table of R194: a record is answered BUSY in the states of the Profile Store that its row names, and nowhere else. -/
def Obligations.BusyFollowsTheStoreTable : Prop :=
  ∀ (i : Instr) (k : Nat) (b : List Nat) (s : State), i.record = some (k, b) →
    ∃ (t : State) (r : Result) (body : List Byte), exec i s = .next t ∧
      t.link.replies = s.link.replies ++ [replyTo k r body] ∧
      (r = .busy ↔ busyIn i s.profile.state = true) ∧ (r = .busy → body = [] ∧ OnlyChanges [.link] s t)

/-! ### Resets -/

/-- A power-on reset puts every block at its power-on values, and what is attached across it is observed as an attach (R2, R16, R18,
R31, R59, R87, R114, R134, R146, R163, R177, R189, R194). That the pins, the memory, the time and the waiting commands are kept is
log entry 5. -/
def Obligations.PowerOnResetPutsEveryBlockAtItsValues : Prop :=
  ∀ (rateHigh : Bool) (observed : List Attach) (s : State), observed.Nodup →
    ∃ t, exec (.powerOnReset rateHigh observed) s = .next t ∧
      t.now = s.now ∧ t.pending = s.pending ∧
      t.link =
        { rateHigh := rateHigh, assembly := .hunting, length := 0, bytes := [], gapTimer := none, queue := [], replies := [],
          resetDue := false } ∧
      t.profile.state = .loading ∧ t.profile.save = none ∧
      (s.profile.save = none → t.profile.memory = s.profile.memory ∧ t.profile.unreliable = s.profile.unreliable) ∧
      t.layout = Layout.reset ∧ t.sync = Vector.replicate 16 Channel.reset ∧ t.pointer = PointerEngine.reset ∧
      t.matcher = Matcher.reset ∧ t.desk = Desk.resetAt s.now ∧
      t.screens = { ScreenController.reset with recs := t.screens.recs } ∧
      (∀ i : ScreenId, t.screenRec i = { ScreenRec.reset with lockPin := (s.screenRec i).lockPin }) ∧
      t.lines.dial = none ∧ (∀ l : LineId, t.lineRec l = { LineRec.reset with pin := (s.lineRec l).pin }) ∧
      (∀ c : Computer,
        (Attach.computer c ∈ observed → t.port c = { Port.reset with observed := .attached } ∧
          t.powerRec c = { PowerRec.reset with state := .starting }) ∧
        (Attach.computer c ∉ observed → t.port c = Port.reset ∧ t.powerRec c = PowerRec.reset)) ∧
      (∀ p : DeskPort,
        (Attach.desk p ∈ observed → t.deskPort p = { state := .present, attached := true, lastReport := none }) ∧
        (Attach.desk p ∉ observed → t.deskPort p = DeskPortRec.reset)) ∧
      t.keyboard.focus = 0 ∧ t.keyboard.held = [] ∧ t.keyboard.lamps = Vector.replicate 6 0 ∧
      t.keyboard.maps = Vector.replicate 4 [] ∧ t.keyboard.stuckLimit = 30 ∧
      t.status.attention = false ∧
      (∀ k : EventKind, (t.event k).enabled = false ∧
        ((t.event k).isPending = true ↔
          (k = .computerState ∧ ∃ c, Attach.computer c ∈ observed) ∨ (k = .deskPort ∧ ∃ p, Attach.desk p ∈ observed)))

/-- State.reset holds the power-on values that the manual's tables give (R5, R31, R32, R59, R60, R86, R114, R134, R146, R163,
R177, R189), and keeps every law of the blocks that the statements after this one take as a premise or state of every step. -/
def Obligations.ResetHoldsThePowerOnValues : Prop :=
  (∀ c : Computer, State.reset.computer c =
    { label := [], guarded := false, takeClickSwallow := false, holdDrop := false, inputWake := .once, wakeOnFocus := false,
      wakeLine := false, pulseWidth := 200, activeHigh := false, maxAttempts := 3, timeout := 8000, keymap := none, w := 1,
      h := 1 }) ∧
  (∀ i : ScreenId, State.reset.screenRect i = none ∧ (State.reset.screenRec i).state = .unused ∧
    (State.reset.screenRec i).current = none ∧ (State.reset.screenRec i).waiting = none ∧
    (State.reset.screenRec i).lockView = false) ∧
  State.reset.screens.linkLimit = 2000 ∧ State.reset.powerOnMs = 500 ∧ State.reset.screens.startScene = none ∧
  (State.reset.pointer.place = none ∧ State.reset.pointer.focus = none ∧ State.reset.pointer.glideLock = false ∧
    (∀ c : Computer, State.reset.pointer.lastAbs[c] = (16384, 16384)) ∧ State.reset.pointer.t1 = 4 ∧
    State.reset.pointer.t2 = 12 ∧ State.reset.pointer.t3 = 24 ∧ State.reset.pointer.g0 = 16 ∧ State.reset.pointer.g1 = 24 ∧
    State.reset.pointer.g2 = 40 ∧ State.reset.pointer.g3 = 56 ∧ State.reset.pointer.barrier = 16) ∧
  (State.reset.keyboard.focus = 0 ∧ State.reset.keyboard.held = [] ∧ State.reset.keyboard.stuckLimit = 30) ∧
  (State.reset.matcher.leader = 71 ∧ State.reset.matcher.window = 1500 ∧ State.reset.matcher.state = .idle ∧
    State.reset.matcher.slot = none) ∧
  (∀ l : LineId, (State.reset.lineRec l).config =
    { mode := .off, activeLow := false, filter := 10, wake := false, report := false, source := .manual false, counts := 4 }) ∧
  (∀ c : Computer, (State.reset.port c).observed = .detached ∧ (State.reset.port c).permission = false ∧
    (State.reset.port c).queue = [] ∧ ((State.reset.port c).x, (State.reset.port c).y) = (16384, 16384) ∧
    State.reset.powerRec c =
      { state := .absent, attempt := 0, timer := none, method := none, pulse := none, armed := true, wakeHigh := true }) ∧
  (State.reset.desk.state = .active ∧ State.reset.desk.deadZone = 8 ∧ State.reset.desk.standbyAfter = 0 ∧
    State.reset.desk.offAfter = 0) ∧
  (∀ k : EventKind, State.reset.event k = { isPending := false, enabled := false, detail := none }) ∧
  State.reset.status.attention = false ∧ State.reset.link.assembly = .hunting ∧ State.reset.link.queue = [] ∧
  State.reset.profile.state = .loading ∧
  CanonicalMemory State.reset ∧ ReceiveQueueFits State.reset ∧ AssemblyAgrees State.reset ∧ AttentionFollows State.reset ∧
  ConditionsAgree State.reset ∧ HoldQueuesFit State.reset ∧ PortsAgree State.reset ∧ AwayQueuesEmpty State.reset ∧
  ScreensApart State.reset ∧ HeadsInside State.reset ∧ ScreensAgree State.reset ∧ PolicyKept State.reset ∧
  SceneUnsettled State.reset ∧ AccumulatorsFit State.reset ∧ BallisticsFit State.reset ∧ CoordinatesFit State.reset ∧
  PointerHome State.reset ∧ HeldSetFits State.reset ∧ HotkeysApart State.reset ∧ OutputsFollow State.reset ∧
  AttemptsAgree State.reset ∧ IdleTimerRuns State.reset ∧ KeysHome State.reset ∧ ButtonsHome State.reset ∧
  SwallowInside State.reset

/-- RESTART is answered OK and the soft reset is due once its reply has left. The soft reset clears each block's dynamic state and
keeps the configuration (R17, R30, R58, R85, R113, R133, R145, R176, R184, R197). Stated for a part with no record waiting and no
start scene, so that nothing else runs in the same command. The model's choices: a SOFT_RESET command takes effect in every state
and with every reply treated as sent (log entry 4), and the power states it leaves rest on the blocks acting in the order of
R197's list (log entry 21). -/
def Obligations.RestartThenSoftReset : Prop :=
  (∀ s : State, s.profile.state ≠ .loading →
    ∃ t, exec .restart s = .next t ∧
      t.link = { s.link with replies := s.link.replies ++ [replyTo 0x05 .ok []], resetDue := true } ∧
      t.out = [.reply (replyTo 0x05 .ok []).bytes] ∧ OnlyChanges [.link] s t) ∧
  ∀ s : State, s.link.queue = [] → s.screens.startScene = none →
    ∃ t, exec .softReset s = .next t ∧ t.now = s.now ∧ t.pending = s.pending ∧
      t.link = { s.link with replies := [], resetDue := false } ∧ t.layout = s.layout ∧
      (∀ v : InputId, t.channel v = if (s.channel v).running then
        { state := .lost, running := true, lastEdge := none, window := [], average := none, lostTimer := none } else s.channel v) ∧
      t.screens.inFlight = none ∧ t.screens.scenes = s.screens.scenes ∧ t.screens.linkLimit = s.screens.linkLimit ∧
      t.screens.powerValue = s.screens.powerValue ∧ t.screens.powerScale = s.screens.powerScale ∧
      (∀ i : ScreenId, (s.screenRec i).state = .unused → t.screenRec i = s.screenRec i) ∧
      (∀ i : ScreenId, (s.screenRec i).state ≠ .unused →
        (t.screenRec i).state = (if (s.screenRec i).current.isSome then .dark else .blank) ∧
        (t.screenRec i).current = (s.screenRec i).current ∧ (t.screenRec i).waiting = none ∧
        (t.screenRec i).linkTimer = none ∧ (t.screenRec i).powerTimer = none ∧ (t.screenRec i).lockView = false) ∧
      t.pointer.rx = 0 ∧ t.pointer.ry = 0 ∧ t.pointer.push = none ∧ t.pointer.glideLock = false ∧
      t.pointer.lastInterval = none ∧ t.pointer.buttons = s.pointer.buttons ∧ t.pointer.barrier = s.pointer.barrier ∧
      t.pointer.swallow = s.pointer.swallow ||| s.pointer.buttons ∧
      (t.pointer.t1, t.pointer.t2, t.pointer.t3) = (s.pointer.t1, s.pointer.t2, s.pointer.t3) ∧
      (t.pointer.g0, t.pointer.g1, t.pointer.g2, t.pointer.g3) = (s.pointer.g0, s.pointer.g1, s.pointer.g2, s.pointer.g3) ∧
      t.keyboard.focus = 0 ∧ t.keyboard.maps = s.keyboard.maps ∧ t.keyboard.stuckLimit = s.keyboard.stuckLimit ∧
      t.keyboard.lamps = s.keyboard.lamps ∧ t.keyboard.kbPort = s.keyboard.kbPort ∧ t.keyboard.ptrPort = s.keyboard.ptrPort ∧
      t.keyboard.held = s.keyboard.held.map (fun k => { k with suppressed := true, timer := none }) ∧
      t.matcher = { s.matcher with state := .idle, attempt := none, first := none, timer := none, slot := none } ∧
      (∀ l : LineId, (t.lineRec l).config = (s.lineRec l).config ∧ (t.lineRec l).filtered = (s.lineRec l).filtered ∧
        (t.lineRec l).timer = (s.lineRec l).timer ∧ (t.lineRec l).pin = (s.lineRec l).pin ∧
        ((s.lineRec l).config.mode = .input → (t.lineRec l).suppressed = ((s.lineRec l).filtered == some true)) ∧
        (∀ b, (s.lineRec l).config.mode = .output → (s.lineRec l).config.source = .manual b →
          (t.lineRec l).driven = some b)) ∧
      (∀ c : Computer, t.powerState c =
          (if s.powerState c = .waking ∨ s.powerState c = .unresponsive then .asleep else s.powerState c) ∧
        (t.powerRec c).pulse = none ∧
        (s.powerState c = .waking ∨ s.powerState c = .unresponsive →
          (t.powerRec c).attempt = 0 ∧ (t.powerRec c).timer = none ∧ (t.powerRec c).method = none ∧
          (t.powerRec c).armed = true) ∧
        (t.port c).observed = (s.port c).observed ∧ (t.port c).permission = (s.port c).permission) ∧
      t.desk = { s.desk with state := .active, idleStart := some s.now, window := none } ∧
      (∀ k : EventKind, (t.event k).enabled = (s.event k).enabled ∧
        (ConditionsAgree s → (t.event k).isPending = (decide (k = .profileDone) && s.profile.save.isSome))) ∧
      (s.profile.save = none → t.profile = s.profile) ∧
      (s.profile.save ≠ none → t.profile.state = .ready ∧ t.profile.save = none ∧ Raised (.profileDone .saveFailed) t)

/-- A soft reset releases every key and every button that a computer port still holds (R85 step 2, R113 step 3, R162), from a
state that keeps the laws of R77 and R101. Log entries 4 and 21 are as in the statement before this one. -/
def Obligations.SoftResetReleasesEveryPort : Prop :=
  ∀ s : State, KeysHome s → ButtonsHome s → s.link.queue = [] → s.screens.startScene = none →
    ∃ t, exec .softReset s = .next t ∧
      ∀ c : Computer, (t.committedKeys c).isEmpty = true ∧ t.committedButtons c = 0

/-! ### The Profile Store -/

/-- The end of the memory read (R195): no answer, no marker, a wrong sum, a section out of order, cut short or with contents that are
not the bodies it must hold, or an entry that its record refuses leave every item at its power-on value; a good image is taken whole,
and its start scene is then applied (R55). The store is READY and PROFILE_DONE is raised. A marker that a failed save left unreliable
is BAD_IMAGE by R196 and log entry 8; a load outside LOADING changes nothing by log entry 3; the sections' numbers and counts are log
entries 9 and 10. -/
def Obligations.ProfileLoadEnds : Prop :=
  (∀ (answered : Bool) (s : State), s.profile.state ≠ .loading →
    ∃ t, exec (.profileLoadDone answered) s = .next t ∧ OnlyChanges [] s t) ∧
  (∀ s : State, s.profile.state = .loading →
    ∃ t, exec (.profileLoadDone false) s = .next t ∧ t.profile = { s.profile with state := .ready } ∧
      Raised (.profileDone .badImage) t ∧ Quiet [.profileDone] s t ∧ OnlyChanges [.profile, .status, .lines] s t) ∧
  (∀ s : State, s.profile.state = .loading → Memory.readMany s.profile.memory 0 2 ≠ [0x5E, 0x9A] →
    ∃ t, exec (.profileLoadDone true) s = .next t ∧ t.profile = { s.profile with state := .ready } ∧
      Raised (.profileDone .defaults) t ∧ Quiet [.profileDone] s t ∧ OnlyChanges [.profile, .status, .lines] s t) ∧
  (∀ s : State, s.profile.state = .loading → Memory.readMany s.profile.memory 0 2 = [0x5E, 0x9A] →
    Memory.imageBody s.profile.memory = none →
    ∃ t, exec (.profileLoadDone true) s = .next t ∧ t.profile = { s.profile with state := .ready } ∧
      Raised (.profileDone .badImage) t ∧ Quiet [.profileDone] s t ∧ OnlyChanges [.profile, .status, .lines] s t) ∧
  (∀ s u : State, s.profile.state = .loading → s.profile.unreliable = false →
    Memory.readMany s.profile.memory 0 2 = [0x5E, 0x9A] → loadImage s.fresh = some u → u.screens.startScene = none →
    ∃ t, exec (.profileLoadDone true) s = .next t ∧ t.profile = { s.profile with state := .ready } ∧
      Raised (.profileDone .loaded) t ∧ t.layout = u.layout ∧ t.screens = u.screens ∧ t.sync = u.sync ∧
      t.pointer = u.pointer ∧ t.keyboard = u.keyboard ∧ t.matcher = u.matcher ∧ t.desk = u.desk ∧ t.ports = u.ports ∧
      t.power = u.power ∧ Quiet [.profileDone] u t) ∧
  (∀ (s : State) (body : List Nat), s.profile.state = .loading → Memory.readMany s.profile.memory 0 2 = [0x5E, 0x9A] →
    Memory.imageBody s.profile.memory = some body → ImageRefused s body ∨ s.profile.unreliable = true →
    ∃ t, exec (.profileLoadDone true) s = .next t ∧ t.profile = { s.profile with state := .ready } ∧
      Raised (.profileDone .badImage) t ∧ Quiet [.profileDone] s t ∧ OnlyChanges [.profile, .status, .lines] s t) ∧
  (∀ (s u : State) (n : SceneNo) (sc : Scene), s.profile.state = .loading → s.profile.unreliable = false →
    Memory.readMany s.profile.memory 0 2 = [0x5E, 0x9A] → loadImage s.fresh = some u → u.screens.startScene = some n →
    u.scene n = some sc →
    ∃ t v, exec (.profileLoadDone true) s = .next t ∧
      exec (.applyScene n) (u.setProfile { u.profile with state := .ready }) = .next v ∧
      t.profile = { s.profile with state := .ready } ∧ Raised (.profileDone .loaded) t ∧ t.layout = v.layout ∧
      t.screens = v.screens ∧ t.sync = v.sync ∧ t.pointer = v.pointer ∧ t.keyboard = v.keyboard ∧ t.matcher = v.matcher ∧
      t.desk = v.desk ∧ t.ports = v.ports ∧ t.power = v.power ∧ Quiet [.profileDone] v t)

/-- A save from its record to its end (R196): ACCEPTED and SAVING; a verified image stands in the memory, and every other byte of
it is as it was; a failure is reported, and one before step 4 leaves 0x00 0x00 in the marker's place (R203). What a save that
fails or times out has written besides is free (log entry 8). A SAVE_COMPLETE or SAVE_TIMEOUT with no save under way changes
nothing by log entry 3. -/
def Obligations.SavesRunToTheirEnd : Prop :=
  (∀ s : State, s.profile.state = .ready →
    ∃ t, exec .saveProfile s = .next t ∧ Answers 0x06 .accepted [] s t ∧
      t.profile = { s.profile with state := .saving, save := some ⟨image s, ⟨s.now, 1500000⟩⟩ } ∧
      OnlyChanges [.link, .profile] s t) ∧
  (∀ (s : State) (sv : Save), s.profile.save = some sv → CanonicalMemory s →
    ∃ t, exec (.saveComplete .verified) s = .next t ∧ t.profile.state = .ready ∧ t.profile.save = none ∧
      (∀ a : Nat, Memory.read t.profile.memory a = sv.image.getD a (Memory.read s.profile.memory a)) ∧
      Raised (.profileDone .saved) t ∧ Quiet [.profileDone] s t ∧ OnlyChanges [.profile, .status, .lines] s t) ∧
  (∀ (s : State) (sv : Save) (st : SaveStep), s.profile.save = some sv → CanonicalMemory s →
    ∃ t, exec (.saveComplete (.failed st)) s = .next t ∧ t.profile.state = .ready ∧ t.profile.save = none ∧
      (st = .clearMarker ∨ st = .writeBody ∨ st = .readBody → Memory.readMany t.profile.memory 0 2 = [0x00, 0x00]) ∧
      (∀ a : Nat, 2 ≤ a → sv.image.length ≤ a → Memory.read t.profile.memory a = Memory.read s.profile.memory a) ∧
      Raised (.profileDone .saveFailed) t ∧ Quiet [.profileDone] s t ∧
      OnlyChanges [.profile, .status, .lines, .freeCount] s t) ∧
  (∀ (s : State) (sv : Save), s.profile.save = some sv →
    ∃ t, exec .saveTimeout s = .next t ∧ t.now = max s.now sv.timer.due ∧ t.profile.state = .ready ∧ t.profile.save = none ∧
      Raised (.profileDone .saveFailed) t ∧ Quiet [.profileDone] s t ∧
      OnlyChanges [.now, .profile, .status, .lines, .freeCount] s t) ∧
  (∀ (s : State) (i : Instr), s.profile.save = none → (∃ r, i = .saveComplete r) ∨ i = .saveTimeout →
    ∃ t, exec i s = .next t ∧ OnlyChanges [] s t)

/-- The image of any configuration that the tables' own bounds admit stays within 6144 bytes (R5, R50, R98, R196), and begins with
the marker and its own length (R203). -/
def Obligations.ImageFitsTheMemory : Prop :=
  ∀ s : State, (∀ c : Computer, (s.computer c).label.length ≤ 12) →
    (∀ (n : SceneNo) (sc : Scene), s.scene n = some sc → sc.items.length ≤ 8) →
    (∀ m : MapNo, s.keyboard.maps[m].length ≤ 64) →
    (image s).length ≤ 6144 ∧ (image s).take 2 = [0x5E, 0x9A] ∧
      ((image s).getD 2 0).toNat * 256 + ((image s).getD 3 0).toNat = (image s).length

/-! ### The control link -/

/-- The table of R185: what a byte does in HUNTING, LENGTH and BODY, a byte with a bad stop bit, and the gap timer's expiry. A
GAP_TIMER_EXPIRY while the timer is stopped changes nothing by log entry 3. -/
def Obligations.BytesAssembleFrames : Prop :=
  (∀ (s : State) (b : Byte), ∃ t, exec (.byteReceived b false) s = .next t ∧ OnlyChanges [] s t) ∧
  (∀ s : State, s.link.assembly = .hunting →
    ∃ t, exec (.byteReceived 0xC5 true) s = .next t ∧
      t.link = { s.link with assembly := .length, gapTimer := some ⟨s.now, 10000⟩ } ∧ OnlyChanges [.link] s t) ∧
  (∀ (s : State) (b : Byte), s.link.assembly = .hunting → b ≠ 0xC5 →
    ∃ t, exec (.byteReceived b true) s = .next t ∧ OnlyChanges [] s t) ∧
  (∀ (s : State) (b : Byte), s.link.assembly = .length → 1 ≤ b.toNat → b.toNat ≤ 200 →
    ∃ t, exec (.byteReceived b true) s = .next t ∧
      t.link = { s.link with assembly := .body, length := b.toNat, bytes := [], gapTimer := some ⟨s.now, 10000⟩ } ∧
      OnlyChanges [.link] s t) ∧
  (∀ (s : State) (b : Byte), s.link.assembly = .length → b.toNat = 0 ∨ 200 < b.toNat →
    ∃ t, exec (.byteReceived b true) s = .next t ∧
      t.link = { s.link with assembly := .hunting, length := 0, bytes := [], gapTimer := none } ∧
      Raised (.linkError .gap) t ∧ Quiet [.linkError] s t ∧ OnlyChanges [.link, .status, .lines] s t) ∧
  (∀ (s : State) (b : Byte), s.link.assembly = .body →
    ∃ t, exec (.byteReceived b true) s = .next t ∧
      t.link = { s.link with
        assembly := if s.link.bytes.length + 1 = s.link.length then .check else .body, bytes := s.link.bytes ++ [b],
        gapTimer := some ⟨s.now, 10000⟩ } ∧ OnlyChanges [.link] s t) ∧
  (∀ s : State, s.link.gapTimer = none → ∃ t, exec .gapTimerExpiry s = .next t ∧ OnlyChanges [] s t) ∧
  (∀ (s : State) (g : Timer), s.link.gapTimer = some g →
    ∃ t, exec .gapTimerExpiry s = .next t ∧ t.now = max s.now g.due ∧
      t.link = { s.link with assembly := .hunting, length := 0, bytes := [], gapTimer := none } ∧
      Raised (.linkError .gap) t ∧ Quiet [.linkError] s t ∧ OnlyChanges [.now, .link, .status, .lines] s t)

/-- Complete frames are placed in the receive queue (R186, R187) while a reply is leaving; REPLY_SENT lets the oldest reply go and
takes the next item, which is answered by R188 or runs as its command; and on an idle link a frame that fails its check, or whose
record R188 refuses, is answered at once, with the frame of the reply as R199 lays it out. A REPLY_SENT with no reply leaving
changes nothing by log entry 3. -/
def Obligations.FramesQueueInTheirOrder : Prop :=
  (∀ (s : State) (k b : Byte) (body : List Byte), s.link.assembly = .check → s.link.bytes = k :: body → s.link.replies ≠ [] →
    ∃ t, exec (.byteReceived b true) s = .next t ∧
      t.link = { s.link.hunt with queue := s.link.queue ++
        (if (s.link.length + ((k :: body).map BitVec.toNat).sum + b.toNat) % 256 = 0 then
          (if s.link.records < 4 then [.record k body] else if s.link.markers < 12 then [.overrun k] else [])
        else if s.link.markers < 12 then [.check] else []) } ∧
      ((s.link.length + ((k :: body).map BitVec.toNat).sum + b.toNat) % 256 ≠ 0 → Raised (.linkError .check) t) ∧
      ((s.link.length + ((k :: body).map BitVec.toNat).sum + b.toNat) % 256 = 0 → 4 ≤ s.link.records →
        Raised (.linkError .overrun) t) ∧
      ((s.link.length + ((k :: body).map BitVec.toNat).sum + b.toNat) % 256 = 0 → s.link.records < 4 →
        OnlyChanges [.link] s t) ∧
      Quiet [.linkError] s t ∧ OnlyChanges [.link, .status, .lines] s t) ∧
  (∀ (s : State) (r : ReplyFrame) (rest : List ReplyFrame), s.link.replies = r :: rest →
    rest ≠ [] ∨ s.link.queue = [] ∨ s.link.resetDue = true →
    ∃ t, exec .replySent s = .next t ∧ t.link = { s.link with replies := rest } ∧ OnlyChanges [.link] s t) ∧
  (∀ (s : State) (r : ReplyFrame) (q : List RxItem), s.link.replies = [r] → s.link.resetDue = false →
    s.link.queue = .check :: q →
    ∃ t, exec .replySent s = .next t ∧ t.link = { s.link with replies := [⟨0xFF, [0x02]⟩], queue := q } ∧
      OnlyChanges [.link] s t) ∧
  (∀ (s : State) (r : ReplyFrame) (k : Byte) (q : List RxItem), s.link.replies = [r] → s.link.resetDue = false →
    s.link.queue = .overrun k :: q →
    ∃ t, exec .replySent s = .next t ∧
      t.link = { s.link with
        replies := [⟨if 0x01 ≤ k.toNat ∧ k.toNat ≤ 0x7E then k + 0x80 else 0xFF, [0x0B]⟩], queue := q } ∧
      OnlyChanges [.link] s t) ∧
  (∀ (s : State) (r : ReplyFrame) (k : Byte) (body : List Byte) (q : List RxItem), s.link.replies = [r] →
    s.link.resetDue = false → s.link.queue = .record k body :: q →
    (¬(0x01 ≤ k.toNat ∧ k.toNat ≤ 0x7E) →
      ∃ t, exec .replySent s = .next t ∧ t.link = { s.link with replies := [⟨0xFF, [0x04]⟩], queue := q } ∧
        OnlyChanges [.link] s t) ∧
    (0x01 ≤ k.toNat → k.toNat ≤ 0x7E → parseRecord k.toNat (body.map BitVec.toNat) = .unknownKind →
      ∃ t, exec .replySent s = .next t ∧ t.link = { s.link with replies := [⟨k + 0x80, [0x04]⟩], queue := q } ∧
        OnlyChanges [.link] s t) ∧
    (0x01 ≤ k.toNat → k.toNat ≤ 0x7E → parseRecord k.toNat (body.map BitVec.toNat) = .badLength →
      ∃ t, exec .replySent s = .next t ∧ t.link = { s.link with replies := [⟨k + 0x80, [0x03]⟩], queue := q } ∧
        OnlyChanges [.link] s t)) ∧
  (∀ s : State, s.link.replies = [] → ∃ t, exec .replySent s = .next t ∧ OnlyChanges [] s t) ∧
  (∀ (s : State) (r : ReplyFrame) (k : Byte) (body : List Byte) (i : Instr) (q : List RxItem), s.link.replies = [r] →
    s.link.resetDue = false → s.link.queue = .record k body :: q → 0x01 ≤ k.toNat → k.toNat ≤ 0x7E →
    parseRecord k.toNat (body.map BitVec.toNat) = .command i →
    exec .replySent s = exec i (s.setLink { s.link with replies := [], queue := q })) ∧
  (∀ (s : State) (r : ReplyFrame) (k : Byte) (body : List Byte) (q : List RxItem), s.link.replies = [r] →
    s.link.resetDue = false → s.link.queue = .record k body :: q → 0x01 ≤ k.toNat → k.toNat ≤ 0x7E →
    parseRecord k.toNat (body.map BitVec.toNat) = .outOfRange →
    ∃ t, exec .replySent s = .next t ∧
      t.link = { s.link with
        replies := [⟨k + 0x80, [if s.profile.state = .loading then 0x0B else 0x05]⟩], queue := q } ∧
      OnlyChanges [.link] s t) ∧
  (∀ (s : State) (k b : Byte) (body : List Byte), s.link.assembly = .check → s.link.bytes = k :: body → s.link.replies = [] →
    s.link.queue = [] → s.link.resetDue = false →
    ((s.link.length + ((k :: body).map BitVec.toNat).sum + b.toNat) % 256 ≠ 0 →
      ∃ t, exec (.byteReceived b true) s = .next t ∧ t.link = { s.link.hunt with replies := [⟨0xFF, [0x02]⟩] } ∧
        t.out = [.reply [0xC5, 0x02, 0xFF, 0x02, 0xFD]] ∧ Raised (.linkError .check) t ∧ Quiet [.linkError] s t ∧
        OnlyChanges [.link, .status, .lines] s t) ∧
    ((s.link.length + ((k :: body).map BitVec.toNat).sum + b.toNat) % 256 = 0 → ¬(0x01 ≤ k.toNat ∧ k.toNat ≤ 0x7E) →
      ∃ t, exec (.byteReceived b true) s = .next t ∧ t.link = { s.link.hunt with replies := [⟨0xFF, [0x04]⟩] } ∧
        OnlyChanges [.link] s t) ∧
    ((s.link.length + ((k :: body).map BitVec.toNat).sum + b.toNat) % 256 = 0 → 0x01 ≤ k.toNat → k.toNat ≤ 0x7E →
      parseRecord k.toNat (body.map BitVec.toNat) = .unknownKind →
      ∃ t, exec (.byteReceived b true) s = .next t ∧ t.link = { s.link.hunt with replies := [⟨k + 0x80, [0x04]⟩] } ∧
        OnlyChanges [.link] s t) ∧
    ((s.link.length + ((k :: body).map BitVec.toNat).sum + b.toNat) % 256 = 0 → 0x01 ≤ k.toNat → k.toNat ≤ 0x7E →
      parseRecord k.toNat (body.map BitVec.toNat) = .badLength →
      ∃ t, exec (.byteReceived b true) s = .next t ∧ t.link = { s.link.hunt with replies := [⟨k + 0x80, [0x03]⟩] } ∧
        OnlyChanges [.link] s t) ∧
    ((s.link.length + ((k :: body).map BitVec.toNat).sum + b.toNat) % 256 = 0 → 0x01 ≤ k.toNat → k.toNat ≤ 0x7E →
      parseRecord k.toNat (body.map BitVec.toNat) = .outOfRange →
      ∃ t, exec (.byteReceived b true) s = .next t ∧
        t.link = { s.link.hunt with
          replies := [⟨k + 0x80, [if s.profile.state = .loading then 0x0B else 0x05]⟩] } ∧
        OnlyChanges [.link] s t))

/-- The check byte of a good frame that carries a well-formed command's record does what the command does, on an idle link (R185,
R186, R187, R188). -/
def Obligations.FramesRunTheirRecords : Prop :=
  ∀ (i : Instr) (k b : Byte) (body : List Byte) (s : State), i.wf = true →
    i.record = some (k.toNat, body.map BitVec.toNat) → s.link.assembly = .check → s.link.bytes = k :: body →
    s.link.queue = [] → s.link.replies = [] → s.link.resetDue = false →
    (s.link.length + ((k :: body).map BitVec.toNat).sum + b.toNat) % 256 = 0 →
    exec (.byteReceived b true) s = exec i (s.setLink s.link.hunt)

/-- Every well-formed command's record is read back as that command: no field of a layout is dropped or moved (R199, R201, R204). -/
def Obligations.RecordsReadBack : Prop :=
  ∀ (i : Instr) (k : Nat) (b : List Nat), i.wf = true → i.record = some (k, b) → parseRecord k b = .command i

/-! ### Status records -/

/-- R192 whole: CLEAR_EVENTS is BUSY while LOADING; it clears each named kind by its class, leaves every other kind, judges the
attention line again and answers the pending set. Bit 15 stands for no kind (R198, R200). -/
def Obligations.ClearEventsByTheirClass : Prop :=
  (∀ (kinds : Nat) (s : State), s.profile.state ≠ .loading → kinds < 32768 →
    ∃ t, exec (.clearEvents kinds) s = .next t ∧ Answers 0x03 .ok (word t.pendingSet) s t ∧
      (∀ k : EventKind, kinds.testBit k.row.val = true →
        ¬(k = .wakeFailed ∧ s.status.wakeHolds = true) → ¬(k = .screenFault ∧ s.status.faultHolds = true) →
        t.event k = { s.event k with isPending := false, detail := none }) ∧
      (∀ k : EventKind, kinds.testBit k.row.val = false ∨ (k = .wakeFailed ∧ s.status.wakeHolds = true) ∨
        (k = .screenFault ∧ s.status.faultHolds = true) → t.event k = s.event k) ∧
      AttentionFollows t ∧ LinesKept s t ∧ OnlyChanges [.link, .status, .lines] s t) ∧
  (∀ (kinds : Nat) (s : State), s.profile.state ≠ .loading → 32768 ≤ kinds →
    ∃ t, exec (.clearEvents kinds) s = .next t ∧ Answers 0x03 .outOfRange [] s t ∧ OnlyChanges [.link] s t) ∧
  (∀ (kinds : Nat) (s : State), s.profile.state = .loading →
    ∃ t, exec (.clearEvents kinds) s = .next t ∧ Answers 0x03 .busy [] s t ∧ OnlyChanges [.link] s t)

/-- SET_EVENT_MASK replaces the enable set and answers both sets; IDENTIFY and QUERY_STATUS answer in every state of the store and
change nothing (R191, R193, R200, R204). The three identification codes are free (log entry 11). -/
def Obligations.EventMaskAndStatusReads : Prop :=
  (∀ (kinds : Nat) (s : State), s.profile.state = .ready → kinds < 32768 →
    ∃ t, exec (.setEventMask kinds) s = .next t ∧ Answers 0x04 .ok (word kinds ++ word s.pendingSet) s t ∧
      (∀ k : EventKind, t.event k = { s.event k with enabled := kinds.testBit k.row.val }) ∧ AttentionFollows t ∧
      LinesKept s t ∧ OnlyChanges [.link, .status, .lines] s t) ∧
  (∀ (kinds : Nat) (s : State), s.profile.state = .ready → 32768 ≤ kinds →
    ∃ t, exec (.setEventMask kinds) s = .next t ∧ Answers 0x04 .outOfRange [] s t ∧ OnlyChanges [.link] s t) ∧
  (∀ s : State, ∃ t, exec .identify s = .next t ∧
    Answers 0x01 .ok [Config.familyCode, Config.partCode, Config.revision, if s.link.rateHigh then 1 else 0,
      s.profile.state.code, 0x18, 0x00, 4, 12] s t ∧ OnlyChanges [.link] s t) ∧
  (∀ s : State, ∃ t, exec .queryStatus s = .next t ∧ OnlyChanges [.link] s t ∧
    Answers 0x02 .ok (word s.pendingSet ++ word s.enableSet ++
      [s.desk.state.code, byte s.keyboard.focus, optId s.pointer.focus, s.profile.state.code] ++
      allKinds.flatMap (fun k => if (s.event k).isPending then ((s.event k).detail.map detailBytes).getD [] else [])) s t)

/-! ### The layout tables -/

/-- SET_SCREEN: its checks in their order, the entry, and the notices (R1, R3, R4, R35, R82). -/
def Obligations.SetScreenRules : Prop :=
  (∀ (n f x y w h : Nat) (s : State), s.profile.state = .ready →
    8 ≤ n ∨ 2 ≤ f ∨ (f = 1 ∧ ¬RectInPlane ⟨x, y, w, h⟩) →
    ∃ t, exec (.setScreen n f x y w h) s = .next t ∧ Answers 0x10 .outOfRange [] s t ∧ OnlyChanges [.link] s t) ∧
  (∀ (i j : ScreenId) (x y w h : Nat) (r : Rect) (s : State), s.profile.state = .ready → RectInPlane ⟨x, y, w, h⟩ →
    ScreensApart s → j ≠ i → s.screenRect j = some r → RectsMeet ⟨x, y, w, h⟩ r →
    ∃ t, exec (.setScreen i 1 x y w h) s = .next t ∧ Answers 0x10 .conflict [] s t ∧ OnlyChanges [.link] s t) ∧
  (∀ (i : ScreenId) (x y w h : Nat) (s : State), s.profile.state = .ready → RectInPlane ⟨x, y, w, h⟩ → ScreensApart s →
    (∀ (j : ScreenId) (r : Rect), j ≠ i → s.screenRect j = some r → ¬RectsMeet ⟨x, y, w, h⟩ r) →
    ∃ t, exec (.setScreen i 1 x y w h) s = .next t ∧ Answers 0x10 .ok [] s t ∧
      t.layout = { s.layout with screens := s.layout.screens.set i (some ⟨x, y, w, h⟩) } ∧
      (∀ j : ScreenId, j ≠ i → t.screenRec j = s.screenRec j) ∧
      (s.screenRect i = none → s.desk.state = .active → (t.screenRec i).state = .blank ∧
        (t.screenRec i).selected = some .blank ∧ (t.screenRec i).lockView = false) ∧
      (s.screenRect i = none → s.desk.state = .standby → (t.screenRec i).state = .standby ∧
        (t.screenRec i).selected = some .standby) ∧
      (s.screenRect i = none → s.desk.state = .off → (t.screenRec i).state = .off ∧ (t.screenRec i).selected = some .off) ∧
      (s.screenRect i ≠ none → t.screens = s.screens) ∧
      (s.screenRect i = some ⟨x, y, w, h⟩ → OnlyChanges [.link] s t) ∧
      (s.screenRect i ≠ some ⟨x, y, w, h⟩ → PointerHome s → PointerFollowsScreen i s t) ∧
      OnlyChanges [.link, .status, .layout, .screens, .pointer, .lines, .ports, .power] s t) ∧
  (∀ (i : ScreenId) (x y w h : Nat) (s : State), s.profile.state = .ready → s.screenRect i = none →
    ∃ t, exec (.setScreen i 0 x y w h) s = .next t ∧ Answers 0x10 .ok [] s t ∧ OnlyChanges [.link] s t) ∧
  (∀ (i : ScreenId) (x y w h : Nat) (r : Rect) (s : State), s.profile.state = .ready → s.screenRect i = some r →
    ∃ t, exec (.setScreen i 0 x y w h) s = .next t ∧ Answers 0x10 .ok [] s t ∧
      t.layout = { s.layout with screens := s.layout.screens.set i none } ∧
      (∀ j : ScreenId, j ≠ i → t.screenRec j = s.screenRec j) ∧
      t.screenRec i = { (s.screenRec i) with
        state := .unused, current := none, waiting := none, linkTimer := none, powerTimer := none, lockView := false,
        selected := some .blank } ∧
      (∀ g, t.screens.inFlight = some g → inSet g.outstanding i = false) ∧
      (PointerHome s → PointerFollowsScreen i s t) ∧
      OnlyChanges [.link, .status, .layout, .screens, .pointer, .lines, .ports, .power] s t)

/-- SET_COMPUTER: its checks in their order, every field, the arming and the resting level (R1, R6, R7). The target key state is
recomputed only for a key-focus computer whose keymap changes. -/
def Obligations.SetComputerRules : Prop :=
  (∀ (n : Nat) (r : RawComputer) (s : State), s.profile.state = .ready → 6 ≤ n ∨ ¬ComputerFieldsInRange r →
    ∃ t, exec (.setComputer n r) s = .next t ∧ Answers 0x11 .outOfRange [] s t ∧ OnlyChanges [.link] s t) ∧
  (∀ (c : Computer) (r : RawComputer) (s : State), s.profile.state = .ready → ComputerFieldsInRange r →
    (∃ (h : HeadNo) (e : HeadEntry), s.headEntry ⟨c, h⟩ = some e ∧ (r.w < e.rect.x + e.rect.w ∨ r.h < e.rect.y + e.rect.h)) ∨
      (s.powerState c = .waking ∧ r.maxAttempts < (s.powerRec c).attempt) →
    ∃ t, exec (.setComputer c r) s = .next t ∧ Answers 0x11 .conflict [] s t ∧ OnlyChanges [.link] s t) ∧
  (∀ (c : Computer) (r : RawComputer) (s : State), s.profile.state = .ready → ComputerFieldsInRange r →
    (∀ (h : HeadNo) (e : HeadEntry), s.headEntry ⟨c, h⟩ = some e → e.rect.x + e.rect.w ≤ r.w ∧ e.rect.y + e.rect.h ≤ r.h) →
    (s.powerState c = .waking → (s.powerRec c).attempt ≤ r.maxAttempts) →
    ∃ t, exec (.setComputer c r) s = .next t ∧ Answers 0x11 .ok [] s t ∧
      t.layout = { s.layout with computers := s.layout.computers.set c (t.computer c) } ∧
      (t.computer c).label = r.label.take r.labelLength ∧ (t.computer c).guarded = r.flags.testBit 0 ∧
      (t.computer c).takeClickSwallow = r.flags.testBit 1 ∧ (t.computer c).holdDrop = r.flags.testBit 2 ∧
      (t.computer c).wakeOnFocus = r.flags.testBit 3 ∧ (t.computer c).wakeLine = r.flags.testBit 4 ∧
      (t.computer c).activeHigh = r.flags.testBit 5 ∧ (t.computer c).inputWake.code.toNat = r.inputWake ∧
      (t.computer c).pulseWidth = r.pulseWidth ∧ (t.computer c).maxAttempts = r.maxAttempts ∧
      (t.computer c).timeout = r.timeout ∧ (t.computer c).w = r.w ∧ (t.computer c).h = r.h ∧
      (optId (t.computer c).keymap).toNat = r.keymap ∧
      (s.keyboard.focus ≠ c ∨ (s.computer c).keymap = (t.computer c).keymap →
        t.powerRec c = { (s.powerRec c) with
          armed := (s.powerRec c).armed || (r.inputWake == 1 && (s.computer c).inputWake != .once),
          wakeHigh := if (s.powerRec c).pulse.isSome then (s.powerRec c).wakeHigh else !r.flags.testBit 5 } ∧
        (∀ d : Computer, d ≠ c → t.powerRec d = s.powerRec d) ∧ OnlyChanges [.link, .layout, .power] s t) ∧
      (s.keyboard.focus = c → s.powerState c = .awake → (s.port c).queue.length < 28 →
        (s.computer c).keymap ≠ (t.computer c).keymap → t.target.same (t.committedKeys c) = true) ∧
      OnlyChanges [.link, .layout, .power, .ports, .keyboard, .status, .lines] s t)

/-- SET_HEAD: its checks, the entry, a narrowed policy and an undefined head (R1, R9, R10, R12, R43). The order of an undefined
head's steps is log entry 14, and that undefining examines no rectangle is log entry 15. -/
def Obligations.SetHeadRules : Prop :=
  (∀ (c h d p a x y w hh : Nat) (s : State), s.profile.state = .ready →
    6 ≤ c ∨ 4 ≤ h ∨ 2 ≤ d ∨ 2 ≤ p ∨ 256 ≤ a →
    ∃ t, exec (.setHead c h d p a x y w hh) s = .next t ∧ Answers 0x12 .outOfRange [] s t ∧ OnlyChanges [.link] s t) ∧
  (∀ (h : Head) (p : Bool) (a : ScreenSet) (x y w hh : Nat) (s : State), s.profile.state = .ready →
    ¬RectOnDesktop ⟨x, y, w, hh⟩ (s.computer h.computer) →
    ∃ t, exec (.setHead h.computer h.no 1 p.toNat a.toNat x y w hh) s = .next t ∧ Answers 0x12 .outOfRange [] s t ∧
      OnlyChanges [.link] s t) ∧
  (∀ (h : Head) (p : Bool) (a : ScreenSet) (x y w hh : Nat) (s : State), s.profile.state = .ready →
    RectOnDesktop ⟨x, y, w, hh⟩ (s.computer h.computer) →
    ∃ t, exec (.setHead h.computer h.no 1 p.toNat a.toNat x y w hh) s = .next t ∧ Answers 0x12 .ok [] s t ∧
      t.headEntry h = some ⟨⟨x, y, w, hh⟩, p, a⟩ ∧ (∀ g : Head, g ≠ h → t.headEntry g = s.headEntry g) ∧
      t.layout = { s.layout with heads := t.layout.heads } ∧
      ((∀ e, s.headEntry h = some e → p = true → e.isPrivate = true ∧ subBits e.allowed a = true) →
        OnlyChanges [.link, .layout] s t) ∧
      (∀ e, s.headEntry h = some e → p = true → ¬(e.isPrivate = true ∧ subBits e.allowed a = true) →
        (∀ i : ScreenId, inSet a i = false → (t.screenRec i).current ≠ some h ∧ (t.screenRec i).waiting ≠ some h) ∧
        (∀ i : ScreenId, inSet a i = true ∨ ((s.screenRec i).current ≠ some h ∧ (s.screenRec i).waiting ≠ some h) →
          t.screenRec i = s.screenRec i) ∧
        (∀ i : ScreenId, inSet a i = false → (s.screenRec i).current = some h → (t.screenRec i).current = none ∧
          ((s.screenRec i).state.isOn = true → (t.screenRec i).state = .blank ∧ (t.screenRec i).selected = some .blank) ∧
          ((s.screenRec i).state.isOn = false → (t.screenRec i).state = (s.screenRec i).state))) ∧
      OnlyChanges [.link, .status, .layout, .screens, .pointer, .lines, .ports, .power] s t) ∧
  (∀ (h : Head) (p : Bool) (a : ScreenSet) (x y w hh : Nat) (s : State), s.profile.state = .ready → s.headEntry h = none →
    ∃ t, exec (.setHead h.computer h.no 0 p.toNat a.toNat x y w hh) s = .next t ∧ Answers 0x12 .ok [] s t ∧
      OnlyChanges [.link] s t) ∧
  (∀ (h : Head) (p : Bool) (a : ScreenSet) (x y w hh : Nat) (s : State), s.profile.state = .ready → s.headEntry h ≠ none →
    BindingsAgree s → ChannelsAgree s →
    ∃ t, exec (.setHead h.computer h.no 0 p.toNat a.toNat x y w hh) s = .next t ∧ Answers 0x12 .ok [] s t ∧
      t.headEntry h = none ∧ (∀ g : Head, g ≠ h → t.headEntry g = s.headEntry g) ∧
      (∀ v : InputId, t.binding v = (if s.binding v = some h then none else s.binding v) ∧
        (s.binding v = some h → t.channel v = Channel.reset) ∧ (s.binding v ≠ some h → t.channel v = s.channel v)) ∧
      (∀ i : ScreenId, (t.screenRec i).current ≠ some h ∧ (t.screenRec i).waiting ≠ some h) ∧
      (∀ i : ScreenId, (s.screenRec i).current ≠ some h → (s.screenRec i).waiting ≠ some h →
        t.screenRec i = s.screenRec i) ∧
      OnlyChanges [.link, .status, .layout, .sync, .screens, .pointer, .lines, .ports, .power] s t)

/-- MAP_INPUT: its checks in the order of R1, the binding, the channel and the screens that show the head (R11, R12, R29, R33,
R38), from a state that keeps the laws of the map, the channels and the screens. After a rebinding from one head to another, the
screens of the head that lost its input are BLANK and DARK, and a screen that waited for it has taken it (R42). -/
def Obligations.MapInputRules : Prop :=
  (∀ (v c h : Nat) (s : State), s.profile.state = .ready → 16 ≤ v ∨ ¬SourceInRange c h →
    ∃ t, exec (.mapInput v c h) s = .next t ∧ Answers 0x13 .outOfRange [] s t ∧ OnlyChanges [.link] s t) ∧
  (∀ (v w : InputId) (h : Head) (s : State), s.profile.state = .ready → BindingsAgree s → w ≠ v → s.binding w = some h →
    ∃ t, exec (.mapInput v h.computer h.no) s = .next t ∧ Answers 0x13 .conflict [] s t ∧ OnlyChanges [.link] s t) ∧
  (∀ (v : InputId) (h : Head) (s : State), s.profile.state = .ready → (∀ w, s.binding w ≠ some h) → s.headEntry h = none →
    ∃ t, exec (.mapInput v h.computer h.no) s = .next t ∧ Answers 0x13 .notPresent [] s t ∧ OnlyChanges [.link] s t) ∧
  (∀ (v : InputId) (h : Head) (s : State), s.profile.state = .ready → BindingsAgree s → s.binding v = some h →
    ∃ t, exec (.mapInput v h.computer h.no) s = .next t ∧ Answers 0x13 .ok [] s t ∧ OnlyChanges [.link] s t) ∧
  (∀ (v : InputId) (h : Head) (s : State), s.profile.state = .ready → ScreensAgree s → (∀ w, s.binding w ≠ some h) →
    s.headEntry h ≠ none →
    ∃ t, exec (.mapInput v h.computer h.no) s = .next t ∧ Answers 0x13 .ok [] s t ∧
      t.layout = { s.layout with inputs := s.layout.inputs.set v (some h) } ∧
      (s.binding v = none → t.channel v = { Channel.reset with running := true } ∧
        t.event .syncChange = s.event .syncChange) ∧
      (s.binding v ≠ none → t.sync = s.sync ∧ t.event .syncChange = s.event .syncChange) ∧
      (∀ u : InputId, u ≠ v → t.channel u = s.channel u) ∧
      (∀ i : ScreenId, (s.screenRec i).current = some h → (s.screenRec i).state.isOn = true →
        (s.binding v = none ∨ (s.screenRec i).waiting ≠ s.binding v) →
        (t.screenRec i).selected = some (.input v) ∧ (t.screenRec i).lockView = false ∧
        (t.screenRec i).state = if (t.channel v).state = .alive then .linking else .dark) ∧
      OnlyChanges [.link, .status, .layout, .sync, .screens, .pointer, .lines, .ports, .power] s t) ∧
  (∀ (v : InputId) (s : State), s.profile.state = .ready → s.binding v = none →
    ∃ t, exec (.mapInput v 255 255) s = .next t ∧ Answers 0x13 .ok [] s t ∧ OnlyChanges [.link] s t) ∧
  (∀ (v : InputId) (h : Head) (s : State), s.profile.state = .ready → ScreensAgree s → s.binding v = some h →
    ∃ t, exec (.mapInput v 255 255) s = .next t ∧ Answers 0x13 .ok [] s t ∧
      t.layout = { s.layout with inputs := s.layout.inputs.set v none } ∧ t.channel v = Channel.reset ∧
      (∀ u : InputId, u ≠ v → t.channel u = s.channel u) ∧
      ((s.channel v).state ≠ .lost → Raised (.syncChange v) t) ∧
      ((s.channel v).state = .lost → t.event .syncChange = s.event .syncChange) ∧
      (∀ i : ScreenId, (s.screenRec i).current = some h → (s.screenRec i).waiting ≠ some h →
        (s.screenRec i).state.isOn = true →
        (t.screenRec i).state = .dark ∧ (t.screenRec i).current = some h ∧ (t.screenRec i).linkTimer = none ∧
        (t.screenRec i).selected = some .blank) ∧
      (∀ i : ScreenId, (s.screenRec i).waiting = some h →
        (t.screenRec i).current = some h ∧ (t.screenRec i).waiting = none ∧ (t.screenRec i).state = .dark) ∧
      OnlyChanges [.link, .status, .layout, .sync, .screens, .pointer, .lines, .ports, .power] s t) ∧
  (∀ (v : InputId) (a h : Head) (s : State), s.profile.state = .ready → ScreensAgree s → (∀ w, s.binding w ≠ some h) →
    s.headEntry h ≠ none → s.binding v = some a →
    ∃ t, exec (.mapInput v h.computer h.no) s = .next t ∧ Answers 0x13 .ok [] s t ∧ t.sync = s.sync ∧
      (∀ i : ScreenId, (s.screenRec i).current = some a → (s.screenRec i).waiting ≠ some a →
        (s.screenRec i).state.isOn = true →
        t.screenRec i = { (s.screenRec i) with state := .dark, linkTimer := none, lockView := false, selected := some .blank }) ∧
      (∀ i : ScreenId, (s.screenRec i).waiting = some a →
        t.screenRec i = { (s.screenRec i) with
          state := .dark, current := some a, waiting := none, linkTimer := none, powerTimer := none, lockView := false,
          selected := some .blank }) ∧
      (∀ i : ScreenId, (s.screenRec i).current ≠ some a → (s.screenRec i).waiting ≠ some a →
        (s.screenRec i).current ≠ some h → t.screenRec i = s.screenRec i))

/-- GET_LAYOUT answers the stored fields in the form of their records, and the derived value of each kind of entry: the center, the
home screen, the bound input, the channel's state with its reported rate (R14, R15, R28, R201). -/
def Obligations.LayoutReadsBack : Prop :=
  (∀ (i : ScreenId) (r : Rect) (s : State), s.profile.state ≠ .loading → s.screenRect i = some r →
    ∃ t, exec (.getLayoutScreen i) s = .next t ∧ OnlyChanges [.link] s t ∧
      Answers 0x14 .ok (1 :: (word r.x ++ word r.y ++ word r.w ++ word r.h ++ word (r.x + r.w / 2) ++ word (r.y + r.h / 2))) s t) ∧
  (∀ (i : ScreenId) (s : State), s.profile.state ≠ .loading → s.screenRect i = none →
    ∃ t, exec (.getLayoutScreen i) s = .next t ∧ OnlyChanges [.link] s t ∧
      Answers 0x14 .ok [0, 0, 0, 0, 0, 0, 0, 0, 0, 0xFF, 0xFF, 0xFF, 0xFF] s t) ∧
  (∀ (c : Computer) (r : RawComputer) (s : State), s.profile.state ≠ .loading → r.wf = true →
    ComputerEntry.ofRaw r = some (s.computer c) →
    ∃ t, exec (.getLayoutComputer c) s = .next t ∧ OnlyChanges [.link] s t ∧
      Answers 0x14 .ok (r.bytes.map byte ++ [optId (s.homeScreen c)]) s t) ∧
  (∀ (c : Computer) (i : ScreenId) (s : State), s.homeScreen c = some i ↔
    s.sourceComputer i = some c ∧ ∀ j : ScreenId, j < i → s.sourceComputer j ≠ some c) ∧
  (∀ (h : Head) (e : HeadEntry) (s : State), s.profile.state ≠ .loading → s.headEntry h = some e →
    ∃ t, exec (.getLayoutHead h.computer h.no) s = .next t ∧ OnlyChanges [.link] s t ∧
      Answers 0x14 .ok ([1, if e.isPrivate then 1 else 0, e.allowed] ++ word e.rect.x ++ word e.rect.y ++ word e.rect.w ++
        word e.rect.h ++ optId (s.headInput h) :: channelBytes (((s.headInput h).map s.channel).getD Channel.reset)) s t) ∧
  (∀ (h : Head) (s : State), s.profile.state ≠ .loading → s.headEntry h = none → (∀ v, s.binding v ≠ some h) →
    ∃ t, exec (.getLayoutHead h.computer h.no) s = .next t ∧ OnlyChanges [.link] s t ∧
      Answers 0x14 .ok [0, 0, 0, 0, 0, 0, 0, 0, 0, 0, 0, 0xFF, 0, 0, 0xFF, 0xFF] s t) ∧
  (∀ (v : InputId) (s : State), s.profile.state ≠ .loading →
    ∃ t, exec (.getLayoutInput v) s = .next t ∧ OnlyChanges [.link] s t ∧
      Answers 0x14 .ok ((match s.binding v with | none => [0xFF, 0xFF] | some h => [byte h.computer, byte h.no]) ++
        channelBytes (s.channel v)) s t) ∧
  (∀ (c : Channel) (a : Nat), c.average = some a → 8000 ≤ a → a ≤ 50000 → c.window.length ≤ 4 →
    channelBytes c = [c.state.code, BitVec.ofNat 8 c.window.length] ++ word ((100000000 + a / 2) / a) ∧
      2000 ≤ (100000000 + a / 2) / a ∧ (100000000 + a / 2) / a ≤ 12500) ∧
  (∀ (n m : Nat) (s : State), s.profile.state ≠ .loading →
    (8 ≤ n → ∃ t, exec (.getLayoutScreen n) s = .next t ∧ Answers 0x14 .outOfRange [] s t ∧ OnlyChanges [.link] s t) ∧
    (6 ≤ n → ∃ t, exec (.getLayoutComputer n) s = .next t ∧ Answers 0x14 .outOfRange [] s t ∧ OnlyChanges [.link] s t) ∧
    (6 ≤ n ∨ 4 ≤ m → ∃ t, exec (.getLayoutHead n m) s = .next t ∧ Answers 0x14 .outOfRange [] s t ∧ OnlyChanges [.link] s t) ∧
    (16 ≤ n → ∃ t, exec (.getLayoutInput n) s = .next t ∧ Answers 0x14 .outOfRange [] s t ∧ OnlyChanges [.link] s t))

/-! ### The sync monitor -/

/-- An edge on a tap: ignored, first from LOST, or measured, with SYNC_CHANGE at a change of state and the take of pending sources
at a frame boundary; the lost timer's expiry; and a head that becomes ALIVE, whose DARK screens link, or show at once with their
lock present (R19 to R27, R34, R38, R41). A LOST_TIMER_EXPIRY while the timer is stopped changes nothing by log entry 3. -/
def Obligations.SyncEdgesAreJudged : Prop :=
  (∀ (v : InputId) (t0 : Nat) (s : State),
    (s.channel v).running = false ∨ (∃ l, (s.channel v).lastEdge = some l ∧ max s.now t0 - l < 2000) →
    ∃ t, exec (.syncEdge v t0) s = .next t ∧ t.now = max s.now t0 ∧ OnlyChanges [.now] s t) ∧
  (∀ (v : InputId) (t0 : Nat) (s : State), (s.channel v).running = true → (s.channel v).state = .lost →
    (∀ l, (s.channel v).lastEdge = some l → 2000 ≤ max s.now t0 - l) →
    ∃ t, exec (.syncEdge v t0) s = .next t ∧ t.now = max s.now t0 ∧
      t.channel v = { (s.channel v) with
        state := .acquiring, lastEdge := some (max s.now t0), lostTimer := some ⟨max s.now t0, 100000⟩ } ∧
      (∀ u : InputId, u ≠ v → t.channel u = s.channel u) ∧ Raised (.syncChange v) t ∧
      OnlyChanges [.now, .sync, .status, .lines, .screens, .pointer, .ports, .power] s t) ∧
  (∀ (v : InputId) (t0 l : Nat) (s : State), ChannelAgrees (s.channel v) → (s.channel v).running = true →
    (s.channel v).state ≠ .lost → (s.channel v).lastEdge = some l → 2000 ≤ max s.now t0 - l →
    ∃ t, exec (.syncEdge v t0) s = .next t ∧ t.now = max s.now t0 ∧
      (t.channel v).lastEdge = some (max s.now t0) ∧ (t.channel v).lostTimer = some ⟨max s.now t0, 100000⟩ ∧
      (t.channel v).running = true ∧ (∀ u : InputId, u ≠ v → t.channel u = s.channel u) ∧
      (max s.now t0 - l < 8000 ∨ 50000 < max s.now t0 - l →
        (t.channel v).window = [] ∧ (t.channel v).average = (s.channel v).average ∧
        (t.channel v).state = (s.channel v).state) ∧
      (8000 ≤ max s.now t0 - l → max s.now t0 - l ≤ 50000 →
        (t.channel v).window = ((s.channel v).window ++ [max s.now t0 - l]).drop ((s.channel v).window.length + 1 - 4) ∧
        ((s.channel v).window.length < 3 →
          (t.channel v).state = (s.channel v).state ∧ (t.channel v).average = (s.channel v).average) ∧
        (3 ≤ (s.channel v).window.length →
          (t.channel v).state = .alive ∧ (t.channel v).average = some (((t.channel v).window.sum + 2) / 4))) ∧
      ((t.channel v).state ≠ (s.channel v).state → Raised (.syncChange v) t) ∧
      ((t.channel v).state = (s.channel v).state → t.event .syncChange = s.event .syncChange) ∧
      ((s.channel v).state = .alive → BindingsAgree s → ∀ (h : Head) (i : ScreenId), s.binding v = some h →
        (s.screenRec i).waiting = some h →
        (t.screenRec i).current = some h ∧ (t.screenRec i).waiting = none ∧ (t.screenRec i).state = .linking ∧
        (t.screenRec i).selected = some (.input v) ∧
        (t.screenRec i).linkTimer = some ⟨max s.now t0, s.screens.linkLimit * 1000⟩) ∧
      OnlyChanges [.now, .sync, .status, .lines, .screens, .pointer, .ports, .power] s t) ∧
  (∀ (v : InputId) (s : State), (s.channel v).lostTimer = none →
    ∃ t, exec (.lostTimerExpiry v) s = .next t ∧ OnlyChanges [] s t) ∧
  (∀ (v : InputId) (tm : Timer) (s : State), ScreensAgree s → (s.channel v).lostTimer = some tm →
    ∃ t, exec (.lostTimerExpiry v) s = .next t ∧ t.now = max s.now tm.due ∧
      t.channel v = { Channel.reset with running := true } ∧ (∀ u : InputId, u ≠ v → t.channel u = s.channel u) ∧
      Raised (.syncChange v) t ∧
      (∀ (h : Head) (i : ScreenId), s.binding v = some h → (s.screenRec i).current = some h →
        (s.screenRec i).waiting ≠ some h → (s.screenRec i).state.live = true →
        t.screenRec i = { (s.screenRec i) with state := .dark, linkTimer := none }) ∧
      (∀ (h : Head) (i : ScreenId), s.binding v = some h → (s.screenRec i).waiting = some h →
        (t.screenRec i).current = some h ∧ (t.screenRec i).waiting = none ∧ (t.screenRec i).state = .dark) ∧
      OnlyChanges [.now, .sync, .status, .lines, .screens, .pointer, .ports, .power] s t) ∧
  (∀ (v : InputId) (t0 l : Nat) (h : Head) (i : ScreenId) (s : State), BindingsAgree s → (s.channel v).running = true →
    (s.channel v).state = .acquiring → (s.channel v).lastEdge = some l → (s.channel v).window.length = 3 →
    8000 ≤ max s.now t0 - l → max s.now t0 - l ≤ 50000 → s.binding v = some h → (s.screenRec i).current = some h →
    (s.screenRec i).state = .dark →
    ∃ t, exec (.syncEdge v t0) s = .next t ∧ (t.channel v).state = .alive ∧ Raised (.syncChange v) t ∧
      t.screenRec i = (if (s.screenRec i).lockView then { (s.screenRec i) with state := .showing, linkTimer := none }
        else { (s.screenRec i) with state := .linking, linkTimer := some ⟨max s.now t0, s.screens.linkLimit * 1000⟩ }) ∧
      (∀ j : ScreenId, (s.screenRec j).current ≠ some h ∨ (s.screenRec j).state ≠ .dark → t.screenRec j = s.screenRec j) ∧
      (t.event .screenState).isPending = true)

/-! ### Screens and scenes -/

/-- A lock change, a link timer's expiry and a power-on timer's expiry (R34, R36, R37, R39, R48). That a lock input event which
repeats the level is judged too is log entry 35; that an expiry of a stopped timer changes nothing is log entry 3. -/
def Obligations.ScreenLinksAndTimers : Prop :=
  (∀ (i : ScreenId) (b : Bool) (s : State), ∃ t, exec (.lockInputChange i b) s = .next t ∧
    (t.screenRec i).lockPin = b ∧ (t.screenRec i).lockView = b ∧ (t.screenRec i).current = (s.screenRec i).current ∧
    (t.screenRec i).waiting = (s.screenRec i).waiting ∧ (t.screenRec i).selected = (s.screenRec i).selected ∧
    (∀ j : ScreenId, j ≠ i → t.screenRec j = s.screenRec j) ∧
    ((s.screenRec i).state = .linking → b = true → (t.screenRec i).state = .showing ∧ (t.screenRec i).linkTimer = none ∧
      Raised (.screenState i) t) ∧
    ((s.screenRec i).state = .fault → b = true → (t.screenRec i).state = .showing ∧ Raised (.screenState i) t) ∧
    ((s.screenRec i).state = .showing → b = false → (t.screenRec i).state = .linking ∧
      (t.screenRec i).linkTimer = some ⟨s.now, s.screens.linkLimit * 1000⟩ ∧ Raised (.screenState i) t) ∧
    (((s.screenRec i).state ≠ .linking ∧ (s.screenRec i).state ≠ .fault ∨ b = false) →
      ((s.screenRec i).state ≠ .showing ∨ b = true) →
      t.screenRec i = { (s.screenRec i) with lockPin := b, lockView := b } ∧ OnlyChanges [.screens] s t) ∧
    OnlyChanges [.screens, .status, .lines] s t) ∧
  (∀ (i : ScreenId) (s : State), (s.screenRec i).linkTimer = none →
    ∃ t, exec (.linkTimerExpiry i) s = .next t ∧ OnlyChanges [] s t) ∧
  (∀ (i : ScreenId) (tm : Timer) (s : State), (s.screenRec i).linkTimer = some tm → (s.screenRec i).state = .linking →
    ∃ t, exec (.linkTimerExpiry i) s = .next t ∧ t.now = max s.now tm.due ∧
      t.screenRec i = { (s.screenRec i) with state := .fault, linkTimer := none } ∧
      (∀ j : ScreenId, j ≠ i → t.screenRec j = s.screenRec j) ∧ Raised (.screenState i) t ∧ Raised (.screenFault i) t ∧
      t.status.faultHolds = true ∧ OnlyChanges [.now, .screens, .status, .lines] s t) ∧
  (∀ (i : ScreenId) (s : State), (s.screenRec i).powerTimer = none →
    ∃ t, exec (.powerOnTimerExpiry i) s = .next t ∧ OnlyChanges [] s t) ∧
  (∀ (i : ScreenId) (tm : Timer) (s : State), (s.screenRec i).powerTimer = some tm → (s.screenRec i).state = .powering →
    ∃ t, exec (.powerOnTimerExpiry i) s = .next t ∧ t.now = max s.now tm.due ∧ (t.screenRec i).powerTimer = none ∧
      (t.screenRec i).current = (s.screenRec i).current ∧ (t.screenRec i).lockView = false ∧
      (t.screenRec i).selected = some (s.selectionFor (s.screenRec i).current) ∧
      ((s.screenRec i).current = none → (t.screenRec i).state = .blank ∧ (t.screenRec i).linkTimer = none) ∧
      (∀ h, (s.screenRec i).current = some h → s.headState h = .alive → (t.screenRec i).state = .linking ∧
        (t.screenRec i).linkTimer = some ⟨t.now, s.screens.linkLimit * 1000⟩) ∧
      (∀ h, (s.screenRec i).current = some h → s.headState h ≠ .alive → (t.screenRec i).state = .dark ∧
        (t.screenRec i).linkTimer = none) ∧
      (∀ j : ScreenId, j ≠ i → t.screenRec j = s.screenRec j) ∧ Raised (.screenState i) t ∧
      OnlyChanges [.now, .screens, .status, .lines] s t)

/-- ASSIGN: its checks in their order, the four ways of R41 for a screen that is on, and R49 in a low-power state (R36, R40). -/
def Obligations.AssignBySourceAndState : Prop :=
  (∀ (n c h : Nat) (s : State), s.profile.state ≠ .loading → 8 ≤ n ∨ ¬SourceInRange c h →
    ∃ t, exec (.assign n c h) s = .next t ∧ Answers 0x20 .outOfRange [] s t ∧ OnlyChanges [.link] s t) ∧
  (∀ (i : ScreenId) (h : Head) (s : State), s.profile.state ≠ .loading → s.screenRect i = none ∨ s.headEntry h = none →
    ∃ t, exec (.assign i h.computer h.no) s = .next t ∧ Answers 0x20 .notPresent [] s t ∧ OnlyChanges [.link] s t) ∧
  (∀ (i : ScreenId) (h : Head) (e : HeadEntry) (s : State), s.profile.state ≠ .loading → s.screenRect i ≠ none →
    s.headEntry h = some e → e.isPrivate = true → inSet e.allowed i = false →
    ∃ t, exec (.assign i h.computer h.no) s = .next t ∧ Answers 0x20 .refusedPolicy [] s t ∧ OnlyChanges [.link] s t) ∧
  (∀ (i : ScreenId) (h : Head) (e : HeadEntry) (s : State), s.profile.state ≠ .loading → s.screenRect i ≠ none →
    s.headEntry h = some e → (e.isPrivate = true → inSet e.allowed i = true) →
    ∃ t, exec (.assign i h.computer h.no) s = .next t ∧ Answers 0x20 .ok [] s t ∧
      (∀ j : ScreenId, j ≠ i → t.screenRec j = s.screenRec j) ∧
      ((s.screenRec i).state.isOn = true → (s.screenRec i).current = some h →
        t.screenRec i = { (s.screenRec i) with waiting := none }) ∧
      ((s.screenRec i).state.isOn = true → (s.screenRec i).current ≠ some h → s.headState h = .alive →
        t.screenRec i = { (s.screenRec i) with waiting := some h }) ∧
      ((s.screenRec i).state.isOn = true → (s.screenRec i).current ≠ some h → s.headState h ≠ .alive →
        (t.screenRec i).current = some h ∧ (t.screenRec i).waiting = none ∧ (t.screenRec i).state = .dark ∧
        (t.screenRec i).linkTimer = none ∧ (t.screenRec i).selected = some (s.selectionFor (some h)) ∧
        Raised (.screenState i) t) ∧
      ((s.screenRec i).state = .standby ∨ (s.screenRec i).state = .powering ∨ (s.screenRec i).state = .off →
        t.screenRec i = { (s.screenRec i) with current := some h, waiting := none }) ∧
      OnlyChanges [.link, .status, .screens, .pointer, .lines, .ports, .power] s t) ∧
  (∀ (i : ScreenId) (s : State), s.profile.state ≠ .loading → s.screenRect i = none →
    ∃ t, exec (.assign i 255 255) s = .next t ∧ Answers 0x20 .notPresent [] s t ∧ OnlyChanges [.link] s t) ∧
  (∀ (i : ScreenId) (s : State), s.profile.state ≠ .loading → s.screenRect i ≠ none →
    ∃ t, exec (.assign i 255 255) s = .next t ∧ Answers 0x20 .ok [] s t ∧
      (∀ j : ScreenId, j ≠ i → t.screenRec j = s.screenRec j) ∧
      ((s.screenRec i).state.isOn = true → (s.screenRec i).current = none →
        t.screenRec i = { (s.screenRec i) with waiting := none }) ∧
      ((s.screenRec i).state.isOn = true → (s.screenRec i).current ≠ none →
        (t.screenRec i).current = none ∧ (t.screenRec i).waiting = none ∧ (t.screenRec i).state = .blank ∧
        (t.screenRec i).linkTimer = none ∧ (t.screenRec i).selected = some .blank ∧ Raised (.screenState i) t) ∧
      ((s.screenRec i).state = .standby ∨ (s.screenRec i).state = .powering ∨ (s.screenRec i).state = .off →
        t.screenRec i = { (s.screenRec i) with current := none, waiting := none }) ∧
      OnlyChanges [.link, .status, .screens, .pointer, .lines, .ports, .power] s t)

/-- R32 whole: the screen timing settings at power-on, SET_SCREEN_TIMING with its checks and clamps, when a timer reads them, and
that a soft reset leaves them. -/
def Obligations.ScreenTimingSettings : Prop :=
  (State.reset.screens.linkLimit = 2000 ∧ State.reset.screens.powerValue = 5 ∧ State.reset.screens.powerScale = 2 ∧
    State.reset.powerOnMs = 500) ∧
  (∀ s : State, (s.screens.powerScale = 0 → s.powerOnMs = s.screens.powerValue * 2) ∧
    (s.screens.powerScale = 1 → s.powerOnMs = s.screens.powerValue * 10) ∧
    (s.screens.powerScale = 2 → s.powerOnMs = s.screens.powerValue * 100)) ∧
  (∀ (l v c : Nat) (s : State), s.profile.state = .loading ∨ s.profile.state = .saving →
    ∃ t, exec (.setScreenTiming l v c) s = .next t ∧ Answers 0x25 .busy [] s t ∧ OnlyChanges [.link] s t) ∧
  (∀ (l v c : Nat) (s : State), s.profile.state = .ready → 3 ≤ c ∨ 31 < v →
    ∃ t, exec (.setScreenTiming l v c) s = .next t ∧ Answers 0x25 .outOfRange [] s t ∧ OnlyChanges [.link] s t) ∧
  (∀ (l v c : Nat) (s : State), s.profile.state = .ready → c ≤ 2 → v ≤ 31 →
    ∃ t, exec (.setScreenTiming l v c) s = .next t ∧ Answers 0x25 .ok [] s t ∧
      t.screens = { s.screens with
        linkLimit := if l < 100 then 100 else if 10000 < l then 10000 else l, powerValue := v, powerScale := c } ∧
      OnlyChanges [.link, .screens] s t) ∧
  (∀ (i : ScreenId) (s : State), (s.screenRec i).state = .showing →
    ∃ t, exec (.lockInputChange i false) s = .next t ∧
      (t.screenRec i).linkTimer = some ⟨s.now, s.screens.linkLimit * 1000⟩) ∧
  (∀ (i : ScreenId) (s : State), (s.screenRec i).state = .off → s.powerOnMs ≠ 0 →
    ((screenResume i s).screenRec i).powerTimer = some ⟨s.now, s.powerOnMs * 1000⟩) ∧
  (∀ s : State, s.link.queue = [] → ∃ t, exec .softReset s = .next t ∧ t.screens.linkLimit = s.screens.linkLimit ∧
    t.screens.powerValue = s.screens.powerValue ∧ t.screens.powerScale = s.screens.powerScale)

/-- STORE_SCENE with its checks in their order, read back by GET_SCREEN naming the scene, and SET_START_SCENE (R50, R55, R57, R201,
R204). -/
def Obligations.SceneStoreRules : Prop :=
  (∀ (n k w : Nat) (items : List RawItem) (s : State), s.profile.state = .ready →
    16 ≤ n ∨ 8 < items.length ∨ (k ≠ 255 ∧ 6 ≤ k) ∨ 2 ≤ w ∨
      (∃ it ∈ items, 8 ≤ it.screen ∨ ¬SourceInRange it.computer it.head) →
    ∃ t, exec (.storeScene n k w items) s = .next t ∧ Answers 0x21 .outOfRange [] s t ∧ OnlyChanges [.link] s t) ∧
  (∀ (n : SceneNo) (k : Option Computer) (w : Bool) (items : List RawItem) (s : State), s.profile.state = .ready →
    items.length ≤ 8 → (∀ it ∈ items, it.screen < 8 ∧ SourceInRange it.computer it.head) →
    ¬(items.map RawItem.screen).Nodup →
    ∃ t, exec (.storeScene n (optId k).toNat w.toNat items) s = .next t ∧ Answers 0x21 .conflict [] s t ∧
      OnlyChanges [.link] s t) ∧
  (∀ (n : SceneNo) (k : Option Computer) (w : Bool) (items : List RawItem) (s : State), s.profile.state = .ready →
    items.length ≤ 8 → (∀ it ∈ items, it.screen < 8 ∧ SourceInRange it.computer it.head) → (items.map RawItem.screen).Nodup →
    (∃ (it : RawItem) (h : Head) (i : ScreenId) (e : HeadEntry), it ∈ items ∧ it.screen = i.val ∧
      it.computer = h.computer.val ∧ it.head = h.no.val ∧ s.headEntry h = some e ∧ e.isPrivate = true ∧
      inSet e.allowed i = false) →
    ∃ t, exec (.storeScene n (optId k).toNat w.toNat items) s = .next t ∧ Answers 0x21 .refusedPolicy [] s t ∧
      OnlyChanges [.link] s t) ∧
  (∀ (n : SceneNo) (k : Option Computer) (w : Bool) (items : List RawItem) (s : State), s.profile.state = .ready →
    items.length ≤ 8 → (∀ it ∈ items, it.screen < 8 ∧ SourceInRange it.computer it.head) → (items.map RawItem.screen).Nodup →
    (∀ (it : RawItem) (h : Head) (i : ScreenId) (e : HeadEntry), it ∈ items → it.screen = i.val →
      it.computer = h.computer.val → it.head = h.no.val → s.headEntry h = some e → e.isPrivate = true →
      inSet e.allowed i = true) →
    ∃ t u, exec (.storeScene n (optId k).toNat w.toNat items) s = .next t ∧ Answers 0x21 .ok [] s t ∧
      t.screens = { s.screens with scenes := t.screens.scenes } ∧ (∀ m : SceneNo, m ≠ n → t.scene m = s.scene m) ∧
      OnlyChanges [.link, .screens] s t ∧ exec (.getScreenScene n) t = .next u ∧
      Answers 0x24 .ok (if items = [] then [byte n, 0, 0xFF, 0] else
        [byte n, byte items.length, optId k, if w then 1 else 0] ++
          items.flatMap fun it => [byte it.screen, byte it.computer, byte it.head]) t u) ∧
  (∀ (n : Nat) (s : State), s.profile.state ≠ .loading → 16 ≤ n →
    ∃ t, exec (.getScreenScene n) s = .next t ∧ Answers 0x24 .outOfRange [] s t ∧ OnlyChanges [.link] s t) ∧
  (∀ (n : Nat) (s : State), s.profile.state = .ready → 16 ≤ n → n ≠ 255 →
    ∃ t, exec (.setStartScene n) s = .next t ∧ Answers 0x23 .outOfRange [] s t ∧ OnlyChanges [.link] s t) ∧
  (∀ (n : SceneNo) (s : State), s.profile.state = .ready → s.scene n = none →
    ∃ t, exec (.setStartScene n) s = .next t ∧ Answers 0x23 .notFound [] s t ∧ OnlyChanges [.link] s t) ∧
  (∀ (n : SceneNo) (s : State), s.profile.state = .ready → s.scene n ≠ none →
    ∃ t, exec (.setStartScene n) s = .next t ∧ Answers 0x23 .ok [] s t ∧
      t.screens = { s.screens with startScene := some n } ∧ OnlyChanges [.link, .screens] s t) ∧
  (∀ s : State, s.profile.state = .ready →
    ∃ t, exec (.setStartScene 255) s = .next t ∧ Answers 0x23 .ok [] s t ∧
      t.screens = { s.screens with startScene := none } ∧ OnlyChanges [.link, .screens] s t)

/-- APPLY_SCENE: its checks; the record in flight, whose outstanding set is exactly the configured screens the scene names, and
those left from a superseded record, that have not settled, or SCENE_DONE with both flags when there are none (R51, R52, R53);
each item as an ASSIGN (R41, R49); the key focus, and the wake of the computers it shows (R54). -/
def Obligations.ApplySceneFormsOneRecord : Prop :=
  (∀ (n : Nat) (s : State), s.profile.state ≠ .loading → 16 ≤ n →
    ∃ t, exec (.applyScene n) s = .next t ∧ Answers 0x22 .outOfRange [] s t ∧ OnlyChanges [.link] s t) ∧
  (∀ (n : SceneNo) (s : State), s.profile.state ≠ .loading → s.scene n = none →
    ∃ t, exec (.applyScene n) s = .next t ∧ Answers 0x22 .notFound [] s t ∧ OnlyChanges [.link] s t) ∧
  (∀ (n : SceneNo) (sc : Scene) (s : State), s.profile.state ≠ .loading → s.scene n = some sc →
    (sc.items.map SceneItem.screen).Nodup →
    ∃ t inc, exec (.applyScene n) s = .next t ∧ Answers 0x22 .accepted [] s t ∧
      (inc = true ↔ (∃ it ∈ sc.items, s.screenRect it.screen = none ∨ s.sourceFits it.screen it.source = false) ∨
        (∃ c, sc.keyFocus = some c ∧ s.powerState c = .absent) ∨
        (∃ g, s.screens.inFlight = some g ∧ g.incomplete = true)) ∧
      ((∃ i : ScreenId, SceneHolds sc s i ∧ (t.screenRec i).settled = false) →
        ∃ g, t.screens.inFlight = some g ∧ g.scene = n ∧ g.incomplete = inc ∧ g.superseded = s.screens.inFlight.isSome ∧
          ∀ i : ScreenId, inSet g.outstanding i = true ↔ SceneHolds sc s i ∧ (t.screenRec i).settled = false) ∧
      ((∀ i : ScreenId, SceneHolds sc s i → (t.screenRec i).settled = true) →
        t.screens.inFlight = none ∧ Raised (.sceneDone n inc s.screens.inFlight.isSome) t) ∧
      (sc.wake = true → ∀ (c : Computer) (it : SceneItem) (h : Head), it ∈ sc.items → s.screenRect it.screen ≠ none →
        s.sourceFits it.screen it.source = true → it.source = some h → h.computer = c →
        s.powerState c = .asleep ∨ s.powerState c = .unresponsive →
        t.powerState c = if (s.port c).permission || (s.computer c).wakeLine then .waking else .unresponsive) ∧
      (∀ i : ScreenId, (∀ it ∈ sc.items, it.screen ≠ i) → t.screenRec i = s.screenRec i) ∧
      (∀ it ∈ sc.items, s.screenRect it.screen ≠ none → s.sourceFits it.screen it.source = true →
        ((s.screenRec it.screen).state = .standby ∨ (s.screenRec it.screen).state = .powering ∨
          (s.screenRec it.screen).state = .off → (t.screenRec it.screen).current = it.source ∧
          (t.screenRec it.screen).state = (s.screenRec it.screen).state) ∧
        ((s.screenRec it.screen).state.isOn = true → it.source = none ∨ (∃ h, it.source = some h ∧ s.headState h ≠ .alive) →
          (t.screenRec it.screen).current = it.source ∧ (t.screenRec it.screen).waiting = none) ∧
        ((s.screenRec it.screen).state.isOn = true → ∀ h, it.source = some h → s.headState h = .alive →
          (t.screenRec it.screen).current = (s.screenRec it.screen).current ∧
          (t.screenRec it.screen).waiting = if (s.screenRec it.screen).current = some h then none else some h)) ∧
      t.keyboard.focus = (match sc.keyFocus with
        | some c => if s.powerState c = .absent then s.keyboard.focus else c
        | none => s.keyboard.focus) ∧
      OnlyChanges [.link, .status, .screens, .pointer, .keyboard, .matcher, .lines, .ports, .power] s t)

/-! ### The pointer -/

/-- R60 whole: the ballistics settings and the barrier at power-on, SET_BALLISTICS and SET_GLIDE with their checks, what they leave as
it was, when new values are read, and that a soft reset leaves them. -/
def Obligations.BallisticsSettings : Prop :=
  ((State.reset.pointer.t1, State.reset.pointer.t2, State.reset.pointer.t3) = (4, 12, 24) ∧
    (State.reset.pointer.g0, State.reset.pointer.g1, State.reset.pointer.g2, State.reset.pointer.g3) = (16, 24, 40, 56) ∧
    State.reset.pointer.barrier = 16) ∧
  (∀ (t1 t2 t3 g0 g1 g2 g3 b : Nat) (s : State), s.profile.state = .loading ∨ s.profile.state = .saving →
    (∃ t, exec (.setBallistics t1 t2 t3 g0 g1 g2 g3) s = .next t ∧ Answers 0x30 .busy [] s t ∧ OnlyChanges [.link] s t) ∧
    ∃ t, exec (.setGlide b) s = .next t ∧ Answers 0x31 .busy [] s t ∧ OnlyChanges [.link] s t) ∧
  (∀ (t1 t2 t3 g0 g1 g2 g3 : Nat) (s : State), s.profile.state = .ready →
    t1 = 0 ∨ t2 = 0 ∨ t3 = 0 ∨ g0 = 0 ∨ g1 = 0 ∨ g2 = 0 ∨ g3 = 0 ∨ t2 ≤ t1 ∨ t3 ≤ t2 →
    ∃ t, exec (.setBallistics t1 t2 t3 g0 g1 g2 g3) s = .next t ∧ Answers 0x30 .outOfRange [] s t ∧ OnlyChanges [.link] s t) ∧
  (∀ (t1 t2 t3 g0 g1 g2 g3 : Nat) (s : State), s.profile.state = .ready →
    (Instr.setBallistics t1 t2 t3 g0 g1 g2 g3).wf = true → 1 ≤ t1 → t1 < t2 → t2 < t3 → 1 ≤ g0 → 1 ≤ g1 → 1 ≤ g2 → 1 ≤ g3 →
    ∃ t, exec (.setBallistics t1 t2 t3 g0 g1 g2 g3) s = .next t ∧ Answers 0x30 .ok [] s t ∧
      t.pointer = { s.pointer with t1 := t1, t2 := t2, t3 := t3, g0 := g0, g1 := g1, g2 := g2, g3 := g3 } ∧
      OnlyChanges [.link, .pointer] s t) ∧
  (∀ (b : Nat) (s : State), s.profile.state = .ready → b ≤ 255 →
    ∃ t, exec (.setGlide b) s = .next t ∧ Answers 0x31 .ok [] s t ∧ t.pointer = { s.pointer with barrier := b } ∧
      OnlyChanges [.link, .pointer] s t) ∧
  (∀ (p : PointerEngine) (v : Nat), p.t1 < p.t2 → p.t2 < p.t3 →
    (v < p.t1 → p.gain v = p.g0) ∧ (p.t1 ≤ v → v < p.t2 → p.gain v = p.g1) ∧ (p.t2 ≤ v → v < p.t3 → p.gain v = p.g2) ∧
    (p.t3 ≤ v → p.gain v = p.g3)) ∧
  (∀ (i0 i : ScreenId) (r : Rect) (c : Computer) (tx ty : Int) (s : State), crossingBlocked c s = false →
    accrued s.pointer.push i (max (outside r.x r.w tx) (outside r.y r.h ty)) < s.pointer.barrier →
    (pushAcross i0 r i c tx ty s).pointer.push =
      some ⟨i, accrued s.pointer.push i (max (outside r.x r.w tx) (outside r.y r.h ty)), ⟨s.now, 300000⟩⟩) ∧
  (∀ (i0 i : ScreenId) (r : Rect) (c : Computer) (tx ty : Int) (s : State), crossingBlocked c s = false →
    s.pointer.barrier ≤ accrued s.pointer.push i (max (outside r.x r.w tx) (outside r.y r.h ty)) →
    (pushAcross i0 r i c tx ty s).pointer.push = none ∧
      (pushAcross i0 r i c tx ty s).pointer.place = some ⟨i, tx.toNat, ty.toNat⟩ ∧
      (pushAcross i0 r i c tx ty s).pointer.focus = some c) ∧
  (∀ s : State, s.link.queue = [] → ∃ t, exec .softReset s = .next t ∧
    (t.pointer.t1, t.pointer.t2, t.pointer.t3) = (s.pointer.t1, s.pointer.t2, s.pointer.t3) ∧
    (t.pointer.g0, t.pointer.g1, t.pointer.g2, t.pointer.g3) = (s.pointer.g0, s.pointer.g1, s.pointer.g2, s.pointer.g3) ∧
    t.pointer.barrier = s.pointer.barrier ∧ (s.screens.startScene = none → t.pointer.glideLock = false))

/-- WARP: its checks, where the pointer goes, whose pointer focus it takes, and the absolute position that the computer is handed
(R14, R72, R74, R77, R81). -/
def Obligations.WarpMovesThePointer : Prop :=
  (∀ (n : Nat) (s : State), s.profile.state ≠ .loading → 6 ≤ n →
    ∃ t, exec (.warpComputer n) s = .next t ∧ Answers 0x32 .outOfRange [] s t ∧ OnlyChanges [.link] s t) ∧
  (∀ (c : Computer) (s : State), s.profile.state ≠ .loading → s.homeScreen c = none →
    ∃ t, exec (.warpComputer c) s = .next t ∧ Answers 0x32 .notFound [] s t ∧ OnlyChanges [.link] s t) ∧
  (∀ (x y : Nat) (s : State), s.profile.state ≠ .loading → 16383 < x ∨ 8191 < y →
    ∃ t, exec (.warpPosition x y) s = .next t ∧ Answers 0x32 .outOfRange [] s t ∧ OnlyChanges [.link] s t) ∧
  (∀ (x y : Nat) (s : State), s.profile.state ≠ .loading → x ≤ 16383 → y ≤ 8191 →
    (∀ (i : ScreenId) (r : Rect) (h : Head), s.eligible i = some (r, h) → r.contains x y = false) →
    ∃ t, exec (.warpPosition x y) s = .next t ∧ Answers 0x32 .notFound [] s t ∧ OnlyChanges [.link] s t) ∧
  (∀ (n : Instr) (x y : Nat) (i : ScreenId) (r : Rect) (h : Head) (e : HeadEntry) (s : State), s.profile.state ≠ .loading →
    ScreensApart s → s.eligible i = some (r, h) → s.headEntry h = some e →
    (n = .warpPosition x y ∧ r.contains x y = true) ∨
      (n = .warpComputer h.computer ∧ s.homeScreen h.computer = some i ∧ x = r.x + r.w / 2 ∧ y = r.y + r.h / 2) →
    ∃ t, exec n s = .next t ∧ Answers 0x32 .ok [] s t ∧ t.pointer.place = some ⟨i, x, y⟩ ∧
      t.pointer.focus = some h.computer ∧ t.pointer.push = none ∧ t.pointer.rx = s.pointer.rx ∧ t.pointer.ry = s.pointer.ry ∧
      t.pointer.lastAbs[h.computer] =
        (min 32767 ((e.rect.x + (x - r.x) * e.rect.w / r.w) * 32768 / (s.computer h.computer).w),
          min 32767 ((e.rect.y + (y - r.y) * e.rect.h / r.h) * 32768 / (s.computer h.computer).h)) ∧
      (s.pointer.focus ≠ some h.computer → Raised (.focusChanged s.keyboard.focus (some h.computer)) t) ∧
      OnlyChanges [.link, .status, .pointer, .lines, .ports, .power] s t)

/-- R63 and R64 whole: the speed and the gain of a report taken on an ACTIVE desk with the pointer not parked, and each axis's motion
and remainder, whatever glide decides. -/
def Obligations.SpeedGainAndMotion : Prop :=
  (∀ v : Nat, State.reset.pointer.gain v = if v ≤ 3 then 16 else if v ≤ 11 then 24 else if v ≤ 23 then 40 else 56) ∧
  ∀ (b x y w : Byte) (t0 iv g : Nat) (dx dy : Int) (p : Place) (s : State), s.keyboard.ptrPort.state = .present →
    s.desk.state = .active → s.pointer.place = some p → b &&& 0xE0 = 0 →
    dx = max (-127) x.toInt → dy = max (-127) y.toInt →
    iv = (match s.pointer.lastInterval with | none => 64000 | some l => max 1000 (min 64000 (max s.now t0 - l))) →
    (let v := (dx.natAbs + dy.natAbs) * 8000 / iv
     g = if v < s.pointer.t1 then s.pointer.g0 else if v < s.pointer.t2 then s.pointer.g1
       else if v < s.pointer.t3 then s.pointer.g2 else s.pointer.g3) →
    (dx.natAbs + dy.natAbs) * 8000 / iv ≤ 2032 ∧
    ∃ (t : State) (rx ry mx my : Int), exec (.deskPointerReport [b, x, y, w] t0) s = .next t ∧
      rx = (if (0 < dx ∧ s.pointer.rx < 0) ∨ (dx < 0 ∧ 0 < s.pointer.rx) then 0 else s.pointer.rx) ∧
      ry = (if (0 < dy ∧ s.pointer.ry < 0) ∨ (dy < 0 ∧ 0 < s.pointer.ry) then 0 else s.pointer.ry) ∧
      mx = (dx * g + rx).tdiv 16 ∧ my = (dy * g + ry).tdiv 16 ∧
      t.pointer.rx = dx * g + rx - 16 * mx ∧ t.pointer.ry = dy * g + ry - 16 * my ∧
      (-15 ≤ t.pointer.rx ∧ t.pointer.rx ≤ 15 ∧ -15 ≤ t.pointer.ry ∧ t.pointer.ry ≤ 15) ∧
      t.pointer.lastInterval = some (max s.now t0) ∧
      (∀ r, s.screenRect p.screen = some r → r.contains (p.x + mx) (p.y + my) = true →
        t.pointer.place = some ⟨p.screen, (p.x + mx).toNat, (p.y + my).toNat⟩ ∧ t.pointer.push = none)

/-- Glide against a gap and within one computer (R65, R66, R67, R69, R70): a target in no eligible screen is clamped to the pointer's
rectangle and leaves the push record; a target on another screen of the same computer is reached. Then the buttons and the entry of
any report on an ACTIVE desk whose pointer is not parked (R62, R72, R73, R74, R75): the button set becomes the report's, a released
button leaves the swallow set, and unless the pointer focus or the key focus moves, the pointer focus is handed the mapped position,
the delivered buttons and the wheel when one of them calls for it, and nothing otherwise; the entry is taken by R151, R154 to R156
and R172. -/
def Obligations.GlideAtGapsAndOwnScreens : Prop :=
  (∀ (b x y w : Byte) (t0 : Nat) (tx ty : Int) (p : Place) (r : Rect) (s : State), s.keyboard.ptrPort.state = .present →
    s.desk.state = .active → s.pointer.place = some p → b &&& 0xE0 = 0 → s.screenRect p.screen = some r →
    (let g := s.pointer.gain (speed (count x) (count y) (interval s.pointer.lastInterval (max s.now t0)))
     tx = p.x + axisMotion (count x) s.pointer.rx g ∧ ty = p.y + axisMotion (count y) s.pointer.ry g) →
    r.contains tx ty = false →
    ∃ t, exec (.deskPointerReport [b, x, y, w] t0) s = .next t ∧
      ((∀ (i : ScreenId) (q : Rect) (h : Head), s.eligible i = some (q, h) → q.contains tx ty = false) →
        t.pointer.place = some ⟨p.screen, (max (r.x : Int) (min tx (r.x + r.w - 1))).toNat,
          (max (r.y : Int) (min ty (r.y + r.h - 1))).toNat⟩ ∧
        t.pointer.push = s.pointer.push ∧ t.pointer.focus = s.pointer.focus) ∧
      (∀ (i : ScreenId) (q : Rect) (h : Head), ScreensApart s → s.eligible i = some (q, h) → q.contains tx ty = true →
        s.pointer.focus = some h.computer →
        t.pointer.place = some ⟨i, tx.toNat, ty.toNat⟩ ∧ t.pointer.push = none ∧ t.pointer.focus = s.pointer.focus) ∧
      (∀ (i : ScreenId) (q : Rect) (h : Head), ScreensApart s → s.eligible i = some (q, h) → q.contains tx ty = true →
        s.pointer.focus ≠ some h.computer →
        b &&& 0x1F ≠ 0 ∨ s.pointer.glideLock = true ∨ s.powerState h.computer = .absent →
        t.pointer.place = some ⟨p.screen, (max (r.x : Int) (min tx (r.x + r.w - 1))).toNat,
          (max (r.y : Int) (min ty (r.y + r.h - 1))).toNat⟩ ∧
        t.pointer.push = s.pointer.push ∧ t.pointer.focus = s.pointer.focus)) ∧
  (∀ (b x y w : Byte) (t0 : Nat) (c : Computer) (b5 : ButtonSet) (wheel : Int) (s : State),
    s.keyboard.ptrPort.state = .present → s.desk.state = .active → s.pointer.place.isSome = true → s.pointer.focus = some c →
    b &&& 0xE0 = 0 → b5 = b.setWidth 5 → wheel = max (-127) w.toInt →
    ∃ t, exec (.deskPointerReport [b, x, y, w] t0) s = .next t ∧ t.pointer.buttons = b5 ∧ t.pointer.swallow &&& ~~~b5 = 0 ∧
      (t.pointer.focus = some c → t.keyboard.focus = s.keyboard.focus → ∀ (p : Place) (ax ay : Nat),
        t.pointer.place = some p → s.mapPlace p = some (ax, ay) →
        (s.pointer.lastAbs[c] = (ax, ay) → b5 &&& ~~~s.pointer.swallow = s.committedButtons c → wheel = 0 →
          t.pointer.lastAbs = s.pointer.lastAbs ∧ t.pointer.swallow = s.pointer.swallow &&& b5 ∧
          OnlyChanges [.now, .desk, .pointer, .keyboard] s t) ∧
        (s.pointer.lastAbs[c] ≠ (ax, ay) ∨ b5 &&& ~~~s.pointer.swallow ≠ s.committedButtons c ∨ wheel ≠ 0 →
          t.pointer.lastAbs = s.pointer.lastAbs.set c (ax, ay) ∧
          PointerTaken c ax ay (b5 &&& ~~~s.pointer.swallow) wheel (s.pointer.swallow &&& b5) (max s.now t0) s t ∧
          OnlyChanges [.now, .desk, .pointer, .keyboard, .ports, .power, .status, .lines] s t)))

/-- A report that pushes across the edge of another computer's screen: the push against the barrier, the crossing with its pointer
focus and the glide notice that key focus follows, and the push decay timer; and a click on a guarded computer, which takes the key
focus (R65, R68, R69, R77, R78, R79, R103, R104). A click that is not swallowed reaches the computer taken in an entry under the
conditions of R74, and where none of them holds nothing reaches its port. A PUSH_DECAY_TIMER_EXPIRY clears the push record (R69); with
no push held it changes nothing by log entry 3. -/
def Obligations.CrossingsAndTakeClicks : Prop :=
  (∀ (x y w : Byte) (t0 excess amount : Nat) (tx ty : Int) (p : Place) (r q : Rect) (i : ScreenId) (h : Head) (s : State),
    s.keyboard.ptrPort.state = .present → s.desk.state = .active → s.pointer.place = some p → s.screenRect p.screen = some r →
    (let g := s.pointer.gain (speed (count x) (count y) (interval s.pointer.lastInterval (max s.now t0)))
     tx = p.x + axisMotion (count x) s.pointer.rx g ∧ ty = p.y + axisMotion (count y) s.pointer.ry g) →
    r.contains tx ty = false → ScreensApart s → s.eligible i = some (q, h) → q.contains tx ty = true →
    s.pointer.focus ≠ some h.computer → s.pointer.glideLock = false → s.powerState h.computer ≠ .absent →
    (excess : Int) = max (max (r.x - tx) (tx - (r.x + r.w - 1))) (max (r.y - ty) (ty - (r.y + r.h - 1))) →
    amount = min 65535 ((match s.pointer.push with | some o => if o.screen = i then o.amount else 0 | none => 0) + excess) →
    ∃ t, exec (.deskPointerReport [0, x, y, w] t0) s = .next t ∧
      (amount < s.pointer.barrier →
        t.pointer.place = some ⟨p.screen, (max (r.x : Int) (min tx (r.x + r.w - 1))).toNat,
          (max (r.y : Int) (min ty (r.y + r.h - 1))).toNat⟩ ∧
        t.pointer.push = some ⟨i, amount, ⟨max s.now t0, 300000⟩⟩ ∧ t.pointer.focus = s.pointer.focus ∧
        t.keyboard.focus = s.keyboard.focus ∧ t.event .focusChanged = s.event .focusChanged) ∧
      (s.pointer.barrier ≤ amount →
        t.pointer.place = some ⟨i, tx.toNat, ty.toNat⟩ ∧ t.pointer.push = none ∧ t.pointer.focus = some h.computer ∧
        t.keyboard.focus = (if (s.computer h.computer).guarded then s.keyboard.focus else h.computer) ∧
        Raised (.focusChanged (if (s.computer h.computer).guarded then s.keyboard.focus else h.computer)
          (some h.computer)) t ∧
        (∀ e, s.headEntry h = some e → t.pointer.lastAbs[h.computer] =
          (min 32767 ((e.rect.x + (tx.toNat - q.x) * e.rect.w / q.w) * 32768 / (s.computer h.computer).w),
            min 32767 ((e.rect.y + (ty.toNat - q.y) * e.rect.h / q.h) * 32768 / (s.computer h.computer).h))) ∧
        (∀ ax ay : Nat, s.mapPlace ⟨i, tx.toNat, ty.toNat⟩ = some (ax, ay) → s.powerState h.computer = .awake →
          s.pointer.lastAbs[h.computer] ≠ (ax, ay) → (t.port h.computer).committedPointer = (ax, ay, 0))) ∧
      OnlyChanges [.now, .desk, .status, .pointer, .keyboard, .matcher, .lines, .ports, .power] s t) ∧
  (∀ (b x y w : Byte) (t0 : Nat) (c : Computer) (new : ButtonSet) (s : State), s.keyboard.ptrPort.state = .present →
    s.desk.state = .active → s.pointer.place.isSome = true → s.pointer.focus = some c → b &&& 0xE0 = 0 →
    new = b.setWidth 5 &&& ~~~s.pointer.buttons → new ≠ 0 →
    ∃ t, exec (.deskPointerReport [b, x, y, w] t0) s = .next t ∧ t.pointer.focus = some c ∧
      ((s.computer c).guarded = true → s.powerState c ≠ .absent → t.keyboard.focus = c) ∧
      ((s.computer c).guarded = true → s.powerState c ≠ .absent → s.keyboard.focus ≠ c →
        Raised (.focusChanged c (some c)) t ∧ t.matcher.slot = none) ∧
      ((s.computer c).guarded = true → s.powerState c ≠ .absent → s.keyboard.focus ≠ c →
        (s.computer c).takeClickSwallow = true → t.pointer.swallow &&& new = new) ∧
      ((s.computer c).guarded = false ∨ s.powerState c = .absent → t.keyboard.focus = s.keyboard.focus)) ∧
  (∀ (b w : Byte) (t0 ax ay : Nat) (c : Computer) (p : Place) (new : ButtonSet) (s : State),
    s.keyboard.ptrPort.state = .present → s.desk.state = .active → s.pointer.place = some p → PointerHome s → ButtonsHome s →
    SwallowInside s → AccumulatorsFit s → s.mapPlace p = some (ax, ay) → s.pointer.focus = some c → b &&& 0xE0 = 0 →
    new = b.setWidth 5 &&& ~~~s.pointer.buttons → new ≠ 0 → (s.computer c).guarded = true → s.keyboard.focus ≠ c →
    s.powerState c = .awake → (s.computer c).takeClickSwallow = false → (s.port c).queue.length < 28 →
    ∃ t, exec (.deskPointerReport [b, 0, 0, w] t0) s = .next t ∧ t.keyboard.focus = c ∧ t.pointer.place = some p ∧
      t.pointer.swallow &&& new = 0 ∧ t.delivered = b.setWidth 5 &&& ~~~s.pointer.swallow ∧
      (s.pointer.lastAbs[c] ≠ (ax, ay) ∨ t.delivered ≠ s.committedButtons c ∨ w ≠ 0 →
        (t.port c).committedPointer = (ax, ay, t.delivered)) ∧
      (s.pointer.lastAbs[c] = (ax, ay) → t.delivered = s.committedButtons c → w = 0 → t.port c = s.port c)) ∧
  (∀ s : State, s.pointer.push = none → ∃ t, exec .pushDecayTimerExpiry s = .next t ∧ OnlyChanges [] s t) ∧
  (∀ (p : Push) (s : State), s.pointer.push = some p →
    ∃ t, exec .pushDecayTimerExpiry s = .next t ∧ t.now = max s.now p.timer.due ∧
      t.pointer = { s.pointer with push := none } ∧ OnlyChanges [.now, .pointer] s t)

/-- A pointer report that moves nothing (R61, R62, R73, R76, R88, R180, R182): at a port that is not PRESENT, malformed, with the
pointer parked, or in low power, where it may be the waking input. A parked pointer's buttons and wheel go to the key-focus computer
at its last absolute position (R76; that an entry needs a change of the delivered buttons or a wheel, whatever is committed, is log
entry 43); in low power the release of a delivered button is handed to the stand-in computer (R62). Last, what any report on an
ACTIVE desk is as activity: the idle timer and the motion window (R180). -/
def Obligations.PointerReportsThatMoveNothing : Prop :=
  (∀ (bs : List Byte) (t0 : Nat) (s : State), s.keyboard.ptrPort.state ≠ .present →
    ∃ t, exec (.deskPointerReport bs t0) s = .next t ∧ t.now = max s.now t0 ∧ OnlyChanges [.now] s t) ∧
  (∀ (bs : List Byte) (t0 : Nat) (s : State), s.keyboard.ptrPort.state = .present →
    bs.length ≠ 4 ∨ (∃ b x y w, bs = [b, x, y, w] ∧ b &&& 0xE0 ≠ 0) →
    ∃ t, exec (.deskPointerReport bs t0) s = .next t ∧ t.now = max s.now t0 ∧
      t.keyboard = { s.keyboard with ptrPort := { s.keyboard.ptrPort with lastReport := some (max s.now t0) } } ∧
      Raised (.deskPort .pointer .malformed) t ∧ Quiet [.deskPort] s t ∧
      OnlyChanges [.now, .keyboard, .status, .lines] s t) ∧
  (∀ (b x y w : Byte) (t0 : Nat) (s : State), s.keyboard.ptrPort.state = .present → s.pointer.place = none →
    b &&& 0xE0 = 0 →
    ∃ t, exec (.deskPointerReport [b, x, y, w] t0) s = .next t ∧ t.pointer.place = none ∧ t.pointer.rx = s.pointer.rx ∧
      t.pointer.ry = s.pointer.ry ∧ t.pointer.push = s.pointer.push ∧ t.pointer.buttons = b.setWidth 5 ∧
      t.pointer.lastInterval = some (max s.now t0) ∧ t.deskPort .pointer =
        { s.keyboard.ptrPort with lastReport := some (max s.now t0) } ∧
      t.pointer.lastAbs = s.pointer.lastAbs ∧
      (let c := s.keyboard.focus
       let d : ButtonSet := b.setWidth 5 &&& ~~~s.pointer.swallow
       let wheel := max (-127) w.toInt
       (s.desk.state = .active → wheel = 0 → d = s.delivered ∨ d = s.committedButtons c →
         t.pointer.swallow = s.pointer.swallow &&& b.setWidth 5 ∧ OnlyChanges [.now, .desk, .pointer, .keyboard] s t) ∧
       (s.desk.state = .active → wheel ≠ 0 ∨ (d ≠ s.delivered ∧ d ≠ s.committedButtons c) →
         PointerTaken c s.pointer.lastAbs[c].1 s.pointer.lastAbs[c].2 d wheel (s.pointer.swallow &&& b.setWidth 5)
           (max s.now t0) s t ∧
         OnlyChanges [.now, .desk, .pointer, .keyboard, .ports, .power, .status, .lines] s t))) ∧
  (∀ (b x y w : Byte) (t0 m : Nat) (s : State), s.keyboard.ptrPort.state = .present → s.desk.state ≠ .active →
    b &&& 0xE0 = 0 → m = (max (-127) x.toInt).natAbs + (max (-127) y.toInt).natAbs →
    ∃ t, exec (.deskPointerReport [b, x, y, w] t0) s = .next t ∧ t.pointer.place = s.pointer.place ∧
      t.pointer.rx = s.pointer.rx ∧ t.pointer.ry = s.pointer.ry ∧ t.pointer.push = s.pointer.push ∧
      t.pointer.focus = s.pointer.focus ∧ t.keyboard.focus = s.keyboard.focus ∧ t.pointer.buttons = b.setWidth 5 ∧
      t.pointer.lastInterval = some (max s.now t0) ∧
      t.pointer.lastAbs = s.pointer.lastAbs ∧
      (let c := s.standIn
       let d : ButtonSet := s.delivered &&& b.setWidth 5
       let swallow : ButtonSet := (s.pointer.swallow &&& b.setWidth 5) ||| (b.setWidth 5 &&& ~~~s.pointer.buttons)
       (d = s.delivered ∨ d = s.committedButtons c → t.pointer.swallow = swallow ∧
         (t.desk.state = .active → ResumeWakes (max s.now t0) s t) ∧
         (t.desk.state ≠ .active → t.ports = s.ports ∧ t.power = s.power)) ∧
       (d ≠ s.delivered → d ≠ s.committedButtons c → s.desk.resumeWake = false ∨ t.desk.state ≠ .active →
         PointerTaken c s.pointer.lastAbs[c].1 s.pointer.lastAbs[c].2 d 0 swallow (max s.now t0) s t)) ∧
      (t.desk.state = .active ↔ (b.setWidth 5 &&& ~~~s.pointer.buttons : ButtonSet) ≠ 0 ∨ max (-127) w.toInt ≠ 0 ∨
        (m ≠ 0 ∧ s.desk.deadZone ≤ m + ((s.desk.window.map MotionWindow.sum).getD 0))) ∧
      (t.desk.state = .active → t.desk.idleStart = some (max s.now t0) ∧ t.desk.window = none ∧
        Raised (.deskPower .active) t) ∧
      (t.desk.state ≠ .active → t.desk.state = s.desk.state ∧ (m ≠ 0 → t.desk.window =
        some ⟨m + ((s.desk.window.map MotionWindow.sum).getD 0),
          (s.desk.window.map MotionWindow.timer).getD ⟨max s.now t0, 500000⟩⟩))) ∧
  (∀ (b x y w : Byte) (t0 m sum : Nat) (s : State), s.keyboard.ptrPort.state = .present → s.desk.state = .active →
    b &&& 0xE0 = 0 → m = (max (-127) x.toInt).natAbs + (max (-127) y.toInt).natAbs →
    sum = m + ((s.desk.window.map MotionWindow.sum).getD 0) →
    ∃ t, exec (.deskPointerReport [b, x, y, w] t0) s = .next t ∧
      t.desk = { s.desk with
        idleStart := if (b.setWidth 5 &&& ~~~s.pointer.buttons : ButtonSet) ≠ 0 ∨ max (-127) w.toInt ≠ 0 ∨
          (m ≠ 0 ∧ s.desk.deadZone ≤ sum) then some (max s.now t0) else s.desk.idleStart,
        window := if m = 0 then s.desk.window else if s.desk.deadZone ≤ sum then none
          else some ⟨sum, (s.desk.window.map MotionWindow.timer).getD ⟨max s.now t0, 500000⟩⟩ })

/-! ### Reading the blocks back -/

/-- GET_SCREEN, GET_POINTER, GET_FOCUS, GET_HOTKEY for the matcher, GET_LINES and GET_COMPUTER answer the state as it stands and
change nothing (R57, R84, R112, R117, R144, R161, R174, R204). The model's choices in the bytes: times left and held are rounded
down (log entry 20), the attempt method's code (22), the level read on an OUTPUT line (31), the entry number of an empty return
slot (34), and zeros beside a record in flight or a first key that is none (38). -/
def Obligations.StateReads : Prop :=
  (∀ (i : ScreenId) (s : State), s.profile.state ≠ .loading →
    ∃ t, exec (.getScreen i) s = .next t ∧ OnlyChanges [.link] s t ∧
      Answers 0x24 .ok ([(s.screenRec i).state.code] ++ sourceBytes (s.screenRec i).current ++
        sourceBytes (s.screenRec i).waiting ++ [if (s.screenRec i).lockView then 1 else 0,
          if ∃ g, s.screens.inFlight = some g ∧ inSet g.outstanding i = true then 1 else 0] ++
        (match s.screens.inFlight with
          | none => [0xFF, 0, 0]
          | some g => [byte g.scene, g.outstanding, byte (g.incomplete.toNat + 2 * g.superseded.toNat)]) ++
        word s.screens.linkLimit ++ [byte s.screens.powerValue, byte s.screens.powerScale, optId s.screens.startScene]) s t) ∧
  (∀ s : State, s.profile.state ≠ .loading →
    ∃ t, exec .getPointer s = .next t ∧ OnlyChanges [.link] s t ∧
      Answers 0x33 .ok ((match s.pointer.place with
          | none => ([1, 0xFF, 0xFF, 0xFF, 0xFF, 0xFF] : List Byte)
          | some p => (0 : Byte) :: (word p.x ++ word p.y ++ [byte p.screen])) ++
        [optId s.pointer.focus, BitVec.ofInt 8 s.pointer.rx, BitVec.ofInt 8 s.pointer.ry] ++
        (match s.pointer.push with | none => [0xFF, 0, 0] | some q => byte q.screen :: word q.amount) ++
        [if s.pointer.glideLock then 1 else 0, s.pointer.buttons.setWidth 8, s.pointer.swallow.setWidth 8] ++
        allComputers.flatMap (fun c : Computer => word s.pointer.lastAbs[c].1 ++ word s.pointer.lastAbs[c].2) ++
        [s.pointer.t1, s.pointer.t2, s.pointer.t3, s.pointer.g0, s.pointer.g1, s.pointer.g2, s.pointer.g3,
          s.pointer.barrier].map (fun n : Nat => byte n)) s t) ∧
  (∀ s : State, s.profile.state ≠ .loading →
    ∃ t, exec .getFocus s = .next t ∧ OnlyChanges [.link] s t ∧
      Answers 0x41 .ok ([byte s.keyboard.focus, optId s.pointer.focus, byte s.keyboard.held.length] ++
        s.keyboard.held.flatMap (fun k => [byte k.code] ++ word (min ((s.now - k.pressed) / 1000) 65535) ++
          [byte (k.suppressed.toNat + 2 * k.swallowed.toNat + 4 * k.stuck.toNat + 8 * k.deferred.toNat)]) ++
        keyStateBytes s.target ++ allComputers.map (fun c : Computer => s.keyboard.lamps[c].setWidth 8) ++
        [s.keyboard.kbPort.state.code, if s.keyboard.kbPort.attached then 1 else 0, s.keyboard.ptrPort.state.code,
          if s.keyboard.ptrPort.attached then 1 else 0, byte s.keyboard.stuckLimit]) s t) ∧
  (∀ (m : MapNo) (s : State), s.profile.state ≠ .loading →
    ∃ t, exec (.getFocusMap m) s = .next t ∧ OnlyChanges [.link] s t ∧
      Answers 0x41 .ok ([byte m, byte s.keyboard.maps[m].length] ++
        s.keyboard.maps[m].flatMap (fun p => [byte p.1, byte p.2])) s t) ∧
  (∀ s : State, s.profile.state ≠ .loading →
    ∃ t, exec .getHotkeyMatcher s = .next t ∧ OnlyChanges [.link] s t ∧
      Answers 0x52 .ok ([s.matcher.state.code, byte (s.matcher.attempt.getD 0),
          byte ((s.matcher.first.map FirstKey.code).getD 0),
          if ∃ f, s.matcher.first = some f ∧ f.held = true then 1 else 0] ++
        word ((s.matcher.timer.map fun tm => (tm.due - s.now) / 1000).getD 65535) ++
        (match s.matcher.slot with
          | none => [0xFF, 0xFF, 0, 0, 0, 0]
          | some x => [byte x.computer, byte x.entry] ++ triggerBytes x.trigger) ++ [byte s.matcher.leader] ++
        word s.matcher.window ++ [byte (allEntries.filter fun n => (s.entry n).isSome).length]) s t) ∧
  (∀ s : State, s.profile.state ≠ .loading →
    ∃ t, exec .getLines s = .next t ∧ OnlyChanges [.link] s t ∧
      Answers 0x62 .ok (allLines.flatMap (fun l => let r := s.lineRec l
        lineConfigBytes r.config ++ [if (match r.driven with | some b => b != r.config.activeLow | none => r.pin) then (1 : Byte) else 0,
          (match r.filtered with | none => 0xFF | some true => 1 | some false => 0), if r.timer.isSome then 1 else 0,
          if r.suppressed then 1 else 0, (match r.driven with | none => 0xFF | some true => 1 | some false => 0)]) ++
        (match s.lines.dial with
          | none => ([0xFF, 0xFF, 0] : List Byte)
          | some d => [if d.a then 1 else 0, if d.b then 1 else 0, BitVec.ofInt 8 d.count])) s t) ∧
  (∀ (c : Computer) (s : State), s.profile.state ≠ .loading →
    ∃ t, exec (.getComputer c) s = .next t ∧ OnlyChanges [.link] s t ∧
      Answers 0x73 .ok (labelBytes (s.computer c).label ++
        [(s.powerRec c).state.code, byte (s.powerRec c).attempt, methodCode (s.powerRec c).method] ++
        word (((s.powerRec c).timer.map fun tm => (tm.due - s.now) / 1000).getD 65535) ++
        [if (s.powerRec c).pulse.isSome then 1 else 0] ++
        word (((s.powerRec c).pulse.map fun tm => (tm.due - s.now) / 1000).getD 0) ++
        [(s.computer c).inputWake.code, if (s.powerRec c).armed then 1 else 0, if s.keyboard.focus = c then 1 else 0,
          if s.pointer.focus = some c then 1 else 0, (s.port c).observed.code, if (s.port c).permission then 1 else 0,
          byte (s.port c).queue.length, byte ((s.port c).queue.filter fun e => !e.isPointer).length,
          byte ((s.port c).queue.filter Entry.isPointer).length] ++
        keyStateBytes (s.committedKeys c) ++ [(s.committedButtons c).setWidth 8] ++
        word (s.port c).committedPointer.1 ++ word (s.port c).committedPointer.2.1 ++
        keyStateBytes (s.port c).keys ++ [(s.port c).buttons.setWidth 8] ++ word (s.port c).x ++ word (s.port c).y ++
        [if (s.port c).kbOwed then 1 else 0, if (s.port c).ptrOwed then 1 else 0]) s t) ∧
  (∀ (n : Nat) (s : State), s.profile.state ≠ .loading →
    (8 ≤ n → ∃ t, exec (.getScreen n) s = .next t ∧ Answers 0x24 .outOfRange [] s t ∧ OnlyChanges [.link] s t) ∧
    (4 ≤ n → ∃ t, exec (.getFocusMap n) s = .next t ∧ Answers 0x41 .outOfRange [] s t ∧ OnlyChanges [.link] s t) ∧
    (6 ≤ n → ∃ t, exec (.getComputer n) s = .next t ∧ Answers 0x73 .outOfRange [] s t ∧ OnlyChanges [.link] s t))

/-! ### The keyboard -/

/-- SET_FOCUS: its checks, and the focus change sequence with either scope (R77, R81, R96, R100, R101, R102). Held buttons being
swallowed while the pointer is parked is log entry 23. -/
def Obligations.SetFocusMovesTheKeys : Prop :=
  (∀ (n sc : Nat) (s : State), s.profile.state ≠ .loading → 6 ≤ n ∨ 2 ≤ sc →
    ∃ t, exec (.setFocus n sc) s = .next t ∧ Answers 0x40 .outOfRange [] s t ∧ OnlyChanges [.link] s t) ∧
  (∀ (c : Computer) (both : Bool) (s : State), s.profile.state ≠ .loading → s.powerState c = .absent →
    ∃ t, exec (.setFocus c both.toNat) s = .next t ∧ Answers 0x40 .notPresent [] s t ∧ OnlyChanges [.link] s t) ∧
  (∀ s : State, s.profile.state ≠ .loading → s.powerState s.keyboard.focus ≠ .absent →
    ∃ t, exec (.setFocus s.keyboard.focus 0) s = .next t ∧ Answers 0x40 .ok [] s t ∧ OnlyChanges [.link] s t) ∧
  (∀ (c : Computer) (s : State), s.profile.state ≠ .loading → s.powerState c ≠ .absent → s.keyboard.focus ≠ c →
    KeysHome s → ButtonsHome s →
    ∃ t, exec (.setFocus c 0) s = .next t ∧ Answers 0x40 .ok [] s t ∧
      t.keyboard = { s.keyboard with
        focus := c, held := s.keyboard.held.map (fun k => { k with suppressed := true, timer := none }),
        shown := if s.keyboard.kbPort.state = .present then some s.keyboard.lamps[c] else s.keyboard.shown } ∧
      (∀ d : Computer, d ≠ c → (t.committedKeys d).isEmpty = true) ∧ t.committedButtons s.keyboard.focus = 0 ∧
      t.pointer = { s.pointer with
        swallow := if s.committedButtons s.keyboard.focus ≠ 0 ∨ s.pointer.place = none then
          s.pointer.swallow ||| s.pointer.buttons else s.pointer.swallow } ∧
      t.matcher = { s.matcher with slot := none } ∧ Raised (.focusChanged c s.pointer.focus) t ∧
      ((s.computer c).wakeOnFocus = false ∨ ¬(s.powerState c = .asleep ∨ s.powerState c = .unresponsive) →
        OthersKept [s.keyboard.focus] s t) ∧
      ((s.computer c).wakeOnFocus = true → s.powerState c = .asleep ∨ s.powerState c = .unresponsive →
        t.powerState c = if (s.port c).permission || (s.computer c).wakeLine then .waking else .unresponsive) ∧
      OthersKept [s.keyboard.focus, c] s t ∧
      OnlyChanges [.link, .status, .pointer, .keyboard, .matcher, .lines, .ports, .power] s t) ∧
  (∀ (c : Computer) (s : State), s.profile.state ≠ .loading → s.powerState c ≠ .absent →
    ∃ t, exec (.setFocus c 1) s = .next t ∧ Answers 0x40 .ok [] s t ∧ t.keyboard.focus = c ∧
      (∀ (i : ScreenId) (r : Rect), s.homeScreen c = some i → s.screenRect i = some r →
        ¬(s.pointer.place.isSome = true ∧ s.pointer.focus = some c) →
        t.pointer.place = some ⟨i, r.x + r.w / 2, r.y + r.h / 2⟩ ∧ t.pointer.focus = some c ∧ t.pointer.push = none) ∧
      (s.homeScreen c = none ∨ (s.pointer.place.isSome = true ∧ s.pointer.focus = some c) →
        t.pointer.place = s.pointer.place ∧ t.pointer.focus = s.pointer.focus ∧ t.pointer.push = s.pointer.push) ∧
      OnlyChanges [.link, .status, .pointer, .keyboard, .matcher, .lines, .ports, .power] s t)

/-- SET_KEYMAP and SET_KEY_OPTIONS: their checks in their order, what is stored, and the stuck timers after a change of the limit
(R96, R98, R109, R118). -/
def Obligations.KeySettings : Prop :=
  (∀ (m : Nat) (pairs : List (Nat × Nat)) (s : State), s.profile.state = .ready →
    4 ≤ m ∨ 64 < pairs.length ∨
      (∃ p ∈ pairs, ¬(2 ≤ p.1 ∧ p.1 ≤ 223) ∨ ¬(p.2 = 0 ∨ (2 ≤ p.2 ∧ p.2 ≤ 223))) →
    ∃ t, exec (.setKeymap m pairs) s = .next t ∧ Answers 0x42 .outOfRange [] s t ∧ OnlyChanges [.link] s t) ∧
  (∀ (m : MapNo) (pairs : List (Nat × Nat)) (s : State), s.profile.state = .ready → pairs.length ≤ 64 →
    (∀ p ∈ pairs, 2 ≤ p.1 ∧ p.1 ≤ 223 ∧ (p.2 = 0 ∨ (2 ≤ p.2 ∧ p.2 ≤ 223))) → ¬(pairs.map Prod.fst).Nodup →
    ∃ t, exec (.setKeymap m pairs) s = .next t ∧ Answers 0x42 .conflict [] s t ∧ OnlyChanges [.link] s t) ∧
  (∀ (m : MapNo) (pairs : List (Nat × Nat)) (s : State), s.profile.state = .ready → pairs.length ≤ 64 →
    (∀ p ∈ pairs, 2 ≤ p.1 ∧ p.1 ≤ 223 ∧ (p.2 = 0 ∨ (2 ≤ p.2 ∧ p.2 ≤ 223))) → (pairs.map Prod.fst).Nodup →
    ∃ t, exec (.setKeymap m pairs) s = .next t ∧ Answers 0x42 .ok [] s t ∧
      (∀ p : Nat × Nat, p ∈ t.keyboard.maps[m] ↔ p ∈ pairs) ∧ (t.keyboard.maps[m].map Prod.fst).Pairwise (· < ·) ∧
      t.keyboard = { s.keyboard with maps := s.keyboard.maps.set m t.keyboard.maps[m], held := t.keyboard.held } ∧
      ((s.computer s.keyboard.focus).keymap ≠ some m → t.keyboard.held = s.keyboard.held ∧
        OnlyChanges [.link, .keyboard] s t) ∧
      ((s.computer s.keyboard.focus).keymap = some m → s.powerState s.keyboard.focus = .awake →
        (s.port s.keyboard.focus).queue.length < 28 → t.keyboard.held = s.keyboard.held ∧
        t.target.same (t.committedKeys s.keyboard.focus) = true ∧ OnlyChanges [.link, .keyboard, .ports] s t) ∧
      OnlyChanges [.link, .keyboard, .ports, .power, .status, .lines] s t) ∧
  (∀ (l k w : Nat) (s : State), s.profile.state = .ready → k < 2 ∨ 223 < k →
    ∃ t, exec (.setKeyOptions l k w) s = .next t ∧ Answers 0x43 .outOfRange [] s t ∧ OnlyChanges [.link] s t) ∧
  (∀ (l k w : Nat) (s : State), s.profile.state = .ready → 2 ≤ k → k ≤ 223 →
    ∃ t, exec (.setKeyOptions l k w) s = .next t ∧ Answers 0x43 .ok [] s t ∧
      t.keyboard.stuckLimit = (if l = 0 then 0 else if l < 5 then 5 else if 120 < l then 120 else l) ∧
      t.matcher = { s.matcher with leader := k, window := if w < 200 then 200 else if 5000 < w then 5000 else w } ∧
      t.keyboard = { s.keyboard with stuckLimit := t.keyboard.stuckLimit, held := t.keyboard.held } ∧
      (l = 0 → t.keyboard.held = s.keyboard.held.map fun r => { r with timer := none }) ∧
      (l ≠ 0 → s.keyboard.stuckLimit ≠ 0 → t.keyboard.held = s.keyboard.held) ∧
      (l ≠ 0 → s.keyboard.stuckLimit = 0 → t.keyboard.held = s.keyboard.held.map fun r =>
        if r.suppressed || r.swallowed || r.stuck || r.deferred then r
        else { r with timer := some ⟨s.now, t.keyboard.stuckLimit * 1000000⟩ }) ∧
      OnlyChanges [.link, .keyboard, .matcher] s t)

/-- A device attached to or detached from a desk port (R83, R87, R88, R89, R90, R132): the port's state, the event, and what a
port that was PRESENT leaves behind; the lamps written to an attached keyboard are one byte (R202). Attaching what is attached and
detaching what is not change nothing by log entry 3. -/
def Obligations.DeskDevicesComeAndGo : Prop :=
  (∀ (p : DeskPort) (s : State), (s.deskPort p).attached = true →
    ∃ t, exec (.deskDeviceAttach p) s = .next t ∧ OnlyChanges [] s t) ∧
  (∀ s : State, s.keyboard.kbPort.attached = false → s.keyboard.kbPort.state = .absent →
    ∃ t, exec (.deskDeviceAttach .keyboard) s = .next t ∧
      t.keyboard = { s.keyboard with
        kbPort := ⟨.present, true, none⟩, shown := some s.keyboard.lamps[s.keyboard.focus] } ∧
      t.out = [.deskLamps (s.keyboard.lamps[s.keyboard.focus].setWidth 8)] ∧
      Raised (.deskPort .keyboard .attach) t ∧ Quiet [.deskPort] s t ∧ OnlyChanges [.keyboard, .status, .lines] s t) ∧
  (∀ s : State, s.keyboard.ptrPort.attached = false → s.keyboard.ptrPort.state = .absent →
    ∃ t, exec (.deskDeviceAttach .pointer) s = .next t ∧
      t.keyboard = { s.keyboard with ptrPort := ⟨.present, true, none⟩ } ∧
      Raised (.deskPort .pointer .attach) t ∧ Quiet [.deskPort] s t ∧ OnlyChanges [.keyboard, .status, .lines] s t) ∧
  (∀ (p : DeskPort) (s : State), (s.deskPort p).attached = false → (s.deskPort p).state = .disabled →
    ∃ t, exec (.deskDeviceAttach p) s = .next t ∧ t.deskPort p = { (s.deskPort p) with attached := true } ∧
      (∀ q : DeskPort, q ≠ p → t.deskPort q = s.deskPort q) ∧
      Raised (.deskPort p .attach) t ∧ Quiet [.deskPort] s t ∧ OnlyChanges [.keyboard, .status, .lines] s t) ∧
  (∀ (p : DeskPort) (s : State), (s.deskPort p).attached = false →
    ∃ t, exec (.deskDeviceDetach p) s = .next t ∧ OnlyChanges [] s t) ∧
  (∀ (p : DeskPort) (s : State), (s.deskPort p).attached = true → (s.deskPort p).state = .disabled →
    ∃ t, exec (.deskDeviceDetach p) s = .next t ∧ t.deskPort p = { (s.deskPort p) with attached := false } ∧
      (∀ q : DeskPort, q ≠ p → t.deskPort q = s.deskPort q) ∧
      Raised (.deskPort p .detach) t ∧ Quiet [.deskPort] s t ∧ OnlyChanges [.keyboard, .status, .lines] s t) ∧
  (∀ s : State, KeysHome s → s.keyboard.kbPort.attached = true → s.keyboard.kbPort.state = .present →
    ∃ t, exec (.deskDeviceDetach .keyboard) s = .next t ∧
      t.keyboard = { s.keyboard with kbPort := ⟨.absent, false, none⟩, held := [] } ∧
      t.matcher = { s.matcher with
        state := .idle, attempt := none, first := none, timer := none,
        slot := match s.matcher.slot with
          | some x => (match x.trigger with | .chord _ _ => none | _ => some x)
          | none => none } ∧
      (∀ c : Computer, (t.committedKeys c).isEmpty = true) ∧ OthersKept [s.keyboard.focus] s t ∧
      Raised (.deskPort .keyboard .detach) t ∧ Quiet [.deskPort] s t ∧
      OnlyChanges [.keyboard, .matcher, .ports, .status, .lines] s t) ∧
  (∀ s : State, ButtonsHome s → s.keyboard.ptrPort.attached = true → s.keyboard.ptrPort.state = .present →
    ∃ t, exec (.deskDeviceDetach .pointer) s = .next t ∧
      t.keyboard = { s.keyboard with ptrPort := ⟨.absent, false, none⟩ } ∧
      t.pointer = { s.pointer with
        buttons := 0, swallow := 0, rx := 0, ry := 0, push := none, lastInterval := none } ∧
      (∀ c : Computer, t.committedButtons c = 0) ∧ OthersKept [s.standIn] s t ∧
      Raised (.deskPort .pointer .detach) t ∧ Quiet [.deskPort, .computerState] s t ∧
      OnlyChanges [.keyboard, .pointer, .ports, .power, .status, .lines] s t)

/-- DESK_PORT with its three operations, and its reply: state, attached flag, time since the last report (R87, R88, R90, R204), which
is rounded down to whole ms by log entry 20. Where DISABLE takes a port out of PRESENT, what it leaves behind is stated for each
port, as at a detach but that the port is DISABLED and keeps its attached flag, and that no DESK_PORT event is raised: for the
keyboard port an empty held set, the matcher in IDLE without a CHORD return slot, and no key committed at any computer, with every
port but the key-focus computer's as it was (R89, R132); for the pointer port an empty button set and the cleared accumulators, push
record and interval, and no button committed at any computer, with every port but the stand-in computer's as it was (R83). -/
def Obligations.DeskPortRecords : Prop :=
  (∀ (n : Nat) (s : State), s.profile.state ≠ .loading → 2 ≤ n →
    (∃ t, exec (.deskPortCheck n) s = .next t ∧ Answers 0x44 .outOfRange [] s t ∧ OnlyChanges [.link] s t) ∧
    (∃ t, exec (.deskPortEnable n) s = .next t ∧ Answers 0x44 .outOfRange [] s t ∧ OnlyChanges [.link] s t) ∧
    ∃ t, exec (.deskPortDisable n) s = .next t ∧ Answers 0x44 .outOfRange [] s t ∧ OnlyChanges [.link] s t) ∧
  (∀ (n : Nat) (p : DeskPort) (s : State), s.profile.state ≠ .loading → (n = 0 ∧ p = .keyboard) ∨ (n = 1 ∧ p = .pointer) →
    (∃ t, exec (.deskPortCheck n) s = .next t ∧ OnlyChanges [.link] s t ∧
      Answers 0x44 .ok ([(s.deskPort p).state.code, if (s.deskPort p).attached then 1 else 0] ++
        word (match (s.deskPort p).lastReport with | none => 65535 | some u => min ((s.now - u) / 1000) 65535)) s t) ∧
    (∃ t, exec (.deskPortEnable n) s = .next t ∧
      Answers 0x44 .ok ([(t.deskPort p).state.code, if (t.deskPort p).attached then 1 else 0] ++
        word (match (t.deskPort p).lastReport with | none => 65535 | some u => min ((t.now - u) / 1000) 65535)) s t ∧
      t.deskPort p = { (s.deskPort p) with
        state := if (s.deskPort p).state = .disabled then (if (s.deskPort p).attached then .present else .absent)
          else (s.deskPort p).state } ∧
      (∀ q : DeskPort, q ≠ p → t.deskPort q = s.deskPort q) ∧
      t.keyboard = { s.keyboard with
        kbPort := t.keyboard.kbPort, ptrPort := t.keyboard.ptrPort,
        shown := if p = .keyboard ∧ s.keyboard.kbPort.state = .disabled ∧ s.keyboard.kbPort.attached = true then
          some s.keyboard.lamps[s.keyboard.focus] else s.keyboard.shown } ∧
      OnlyChanges [.link, .keyboard] s t) ∧
    ((s.deskPort p).state ≠ .present →
      ∃ t, exec (.deskPortDisable n) s = .next t ∧
        Answers 0x44 .ok ((2 : Byte) :: (if (s.deskPort p).attached then 1 else 0) ::
          word (match (s.deskPort p).lastReport with | none => 65535 | some u => min ((s.now - u) / 1000) 65535)) s t ∧
        t.deskPort p = { (s.deskPort p) with state := .disabled } ∧
        (∀ q : DeskPort, q ≠ p → t.deskPort q = s.deskPort q) ∧ OnlyChanges [.link, .keyboard] s t)) ∧
  (∀ s : State, s.profile.state ≠ .loading → KeysHome s → s.keyboard.kbPort.state = .present →
    ∃ t, exec (.deskPortDisable 0) s = .next t ∧
      Answers 0x44 .ok [2, if s.keyboard.kbPort.attached then 1 else 0, 0xFF, 0xFF] s t ∧
      t.keyboard = { s.keyboard with kbPort := ⟨.disabled, s.keyboard.kbPort.attached, none⟩, held := [] } ∧
      t.matcher = { s.matcher with
        state := .idle, attempt := none, first := none, timer := none,
        slot := match s.matcher.slot with
          | some x => (match x.trigger with | .chord _ _ => none | _ => some x)
          | none => none } ∧
      (∀ c : Computer, (t.committedKeys c).isEmpty = true) ∧ OthersKept [s.keyboard.focus] s t ∧
      OnlyChanges [.link, .keyboard, .matcher, .ports] s t) ∧
  (∀ s : State, s.profile.state ≠ .loading → ButtonsHome s → s.keyboard.ptrPort.state = .present →
    ∃ t, exec (.deskPortDisable 1) s = .next t ∧
      Answers 0x44 .ok [2, if s.keyboard.ptrPort.attached then 1 else 0, 0xFF, 0xFF] s t ∧
      t.keyboard = { s.keyboard with ptrPort := ⟨.disabled, s.keyboard.ptrPort.attached, none⟩ } ∧
      t.pointer = { s.pointer with
        buttons := 0, swallow := 0, rx := 0, ry := 0, push := none, lastInterval := none } ∧
      (∀ c : Computer, t.committedButtons c = 0) ∧ OthersKept [s.standIn] s t ∧ Quiet [.computerState] s t ∧
      OnlyChanges [.link, .keyboard, .pointer, .ports, .power, .status, .lines] s t)

/-- A keyboard report (R91, R92, R93, R94, R95): how its seven bytes are judged, and that after a taken report the held set is the
report's codes, the keys held before in their order and then the new ones in the report's order: the modifiers from code 224 to
231, then the slots' codes in slot order. -/
def Obligations.KeyReportsDefineTheHeldSet : Prop :=
  (∀ bs : List Byte, KeyReport.parse bs = .malformed ↔ bs.length ≠ 7 ∨ ∃ k ∈ bs.drop 1, 224 ≤ k.toNat) ∧
  (∀ bs : List Byte, KeyReport.parse bs = .rollover ↔
    bs.length = 7 ∧ (∀ k ∈ bs.drop 1, k.toNat < 224) ∧ (1 : Byte) ∈ bs.drop 1) ∧
  (∀ (m : Byte) (slots : List Byte), slots.length = 6 → (∀ k ∈ slots, k.toNat < 224 ∧ k ≠ 1) →
    ∃ codes, KeyReport.parse (m :: slots) = .keys codes ∧ codes.Nodup ∧
      codes = ((List.range 8).filter fun i => m.getLsbD i).map (224 + ·) ++
        ((slots.map BitVec.toNat).filter (· ≠ 0)).eraseDups ∧
      ∀ k : Nat, k ∈ codes ↔ (224 ≤ k ∧ k ≤ 231 ∧ m.getLsbD (k - 224) = true) ∨
        (k ≠ 0 ∧ ∃ b ∈ slots, b.toNat = k)) ∧
  (∀ (bs : List Byte) (t0 : Nat) (s : State), s.keyboard.kbPort.state ≠ .present →
    ∃ t, exec (.deskKeyboardReport bs t0) s = .next t ∧ t.now = max s.now t0 ∧ OnlyChanges [.now] s t) ∧
  (∀ (bs : List Byte) (t0 : Nat) (s : State), s.keyboard.kbPort.state = .present → KeyReport.parse bs = .malformed →
    ∃ t, exec (.deskKeyboardReport bs t0) s = .next t ∧ t.now = max s.now t0 ∧
      t.keyboard = { s.keyboard with kbPort := { s.keyboard.kbPort with lastReport := some (max s.now t0) } } ∧
      Raised (.deskPort .keyboard .malformed) t ∧ Quiet [.deskPort] s t ∧
      OnlyChanges [.now, .keyboard, .status, .lines] s t) ∧
  (∀ (bs : List Byte) (t0 : Nat) (s : State), s.keyboard.kbPort.state = .present → KeyReport.parse bs = .rollover →
    ∃ t, exec (.deskKeyboardReport bs t0) s = .next t ∧ t.now = max s.now t0 ∧
      t.keyboard = { s.keyboard with kbPort := { s.keyboard.kbPort with lastReport := some (max s.now t0) } } ∧
      OnlyChanges [.now, .keyboard] s t) ∧
  (∀ (bs : List Byte) (codes : List Nat) (t0 : Nat) (s : State), s.keyboard.kbPort.state = .present →
    KeyReport.parse bs = .keys codes →
    ∃ t, exec (.deskKeyboardReport bs t0) s = .next t ∧ t.now = max s.now t0 ∧
      t.keyboard.kbPort = { s.keyboard.kbPort with lastReport := some (max s.now t0) } ∧
      t.keyboard.held.map (fun r => (r.code, r.pressed)) =
        (s.keyboard.held.map (fun r => (r.code, r.pressed))).filter (fun p => codes.contains p.1) ++
          (codes.filter fun k => !(s.keyboard.held.map HeldKey.code).contains k).map (fun k => (k, max s.now t0)) ∧
      t.keyboard.maps = s.keyboard.maps ∧ t.keyboard.stuckLimit = s.keyboard.stuckLimit ∧
      t.keyboard.ptrPort = s.keyboard.ptrPort ∧ t.matcher.table = s.matcher.table ∧
      OnlyChanges [.now, .status, .screens, .pointer, .keyboard, .matcher, .lines, .ports, .power, .desk] s t)

/-- One key pressed and let go with no hotkey and no key translation map in the way (R94 to R97, R106, R107, R151, R152): where the
press goes by the key-focus computer's power state, its hold policy and the depth of its queue, and its release; and the same press
as the waking input of a desk in low power, with the resume wake of the key-focus computer (R48, R166, R167, R170, R180,
R182). That a resume wake without a wake method also marks the waking key's record suppressed is log entry 40. -/
def Obligations.PressReachesTheFocusComputer : Prop :=
  (∀ (k : Byte) (t0 : Nat) (c : Computer) (s : State), s.keyboard.kbPort.state = .present → s.desk.state = .active →
    s.keyboard.held = [] → s.matcher.state = .idle → (∀ n, s.entry n = none) → s.keyboard.focus = c →
    (s.computer c).keymap = none → (s.committedKeys c).isEmpty = true → 2 ≤ k.toNat → k.toNat ≤ 223 →
    ∃ t, exec (.deskKeyboardReport [0, k, 0, 0, 0, 0, 0] t0) s = .next t ∧ t.desk.idleStart = some (max s.now t0) ∧
      OthersKept [c] s t ∧
      (s.powerState c = .awake → (s.port c).queue.length < 28 →
        t.port c = { (s.port c) with queue := (s.port c).queue ++ [.keyboard ⟨0, [k.toNat]⟩] } ∧
        t.keyboard.held = [{
          code := k.toNat, pressed := max s.now t0, suppressed := false, swallowed := false, stuck := false, deferred := false,
          timer := if s.keyboard.stuckLimit = 0 then none else some ⟨max s.now t0, s.keyboard.stuckLimit * 1000000⟩ }] ∧
        OnlyChanges [.now, .desk, .keyboard, .ports] s t) ∧
      ((s.powerState c = .awake ∧ 28 ≤ (s.port c).queue.length) ∨ (s.powerState c ≠ .awake ∧ (s.computer c).holdDrop = true) ∨
        s.powerState c = .absent →
        t.port c = s.port c ∧ t.powerRec c = s.powerRec c ∧ Raised (.keysDropped c) t ∧ Quiet [.keysDropped] s t ∧
        t.keyboard.held = [{
          code := k.toNat, pressed := max s.now t0, suppressed := true, swallowed := false, stuck := false, deferred := false,
          timer := none }] ∧
        OnlyChanges [.now, .desk, .keyboard, .status, .lines] s t) ∧
      (s.powerState c = .asleep → (s.computer c).holdDrop = false → (s.port c).queue.length < 28 →
        t.port c = { (s.port c) with queue := (s.port c).queue ++ [.keyboard ⟨0, [k.toNat]⟩] } ∧
        t.powerState c = (if ((s.port c).permission = true ∨ (s.computer c).wakeLine = true) ∧
            ((s.computer c).inputWake = .always ∨ ((s.computer c).inputWake = .once ∧ (s.powerRec c).armed = true)) then
          .waking else .asleep))) ∧
  (∀ (t0 : Nat) (r : HeldKey) (c : Computer) (s : State), s.keyboard.kbPort.state = .present → s.keyboard.held = [r] →
    s.matcher.state = .idle → s.matcher.slot = none → s.keyboard.focus = c → s.powerState c = .awake →
    (s.committedKeys c).isEmpty = false → (s.port c).queue.length < 32 →
    ∃ t, exec (.deskKeyboardReport [0, 0, 0, 0, 0, 0, 0] t0) s = .next t ∧
      t.port c = { (s.port c) with queue := (s.port c).queue ++ [.keyboard ⟨0, []⟩] } ∧ t.keyboard.held = [] ∧
      OthersKept [c] s t ∧ OnlyChanges [.now, .keyboard, .ports] s t) ∧
  (∀ (k : Byte) (t0 : Nat) (s : State), s.keyboard.kbPort.state = .present → s.desk.state ≠ .active →
    s.keyboard.held = [] → 2 ≤ k.toNat → k.toNat ≤ 223 →
    ∃ t, exec (.deskKeyboardReport [0, k, 0, 0, 0, 0, 0] t0) s = .next t ∧
      t.desk = { s.desk with state := .active, idleStart := some (max s.now t0), window := none } ∧
      Raised (.deskPower .active) t ∧ ResumeWakes (max s.now t0) s t ∧ t.matcher = s.matcher ∧ t.pointer = s.pointer ∧
      t.keyboard.focus = s.keyboard.focus ∧
      t.keyboard.held = [{ pressed k.toNat (max s.now t0) true false with
        suppressed := decide (s.desk.resumeWake = true ∧ s.powerState s.keyboard.focus = .asleep ∧
          (s.port s.keyboard.focus).permission = false ∧ (s.computer s.keyboard.focus).wakeLine = false) }] ∧
      (∀ i : ScreenId, (s.screenRec i).state = .standby → (t.screenRec i).state = match (s.screenRec i).current with
        | none => .blank
        | some h => if s.headState h = .alive then .linking else .dark) ∧
      (∀ i : ScreenId, (s.screenRec i).state = .off → s.powerOnMs ≠ 0 → (t.screenRec i).state = .powering ∧
        (t.screenRec i).powerTimer = some ⟨max s.now t0, s.powerOnMs * 1000⟩ ∧ (t.screenRec i).selected = some .blank) ∧
      (∀ i : ScreenId, (s.screenRec i).state ≠ .standby → (s.screenRec i).state ≠ .off → t.screenRec i = s.screenRec i) ∧
      OnlyChanges [.now, .desk, .keyboard, .screens, .status, .lines, .ports, .power] s t)

/-- The stuck timer of a held key and the window timer of the matcher (R99, R107, R108, R123, R124), with the replays of an expiry in
ARMED (the leader's tap) and in SECOND (the leader's tap, then the first key as a late delivery while it is held, else as a tap).
An expiry while the timer is stopped changes nothing by log entry 3. -/
def Obligations.StuckAndWindowTimers : Prop :=
  (∀ (k : Nat) (s : State), (∀ r ∈ s.keyboard.held, r.code = k → r.timer = none) →
    ∃ t, exec (.stuckTimerExpiry k) s = .next t ∧ OnlyChanges [] s t) ∧
  (∀ (k : Nat) (r : HeldKey) (tm : Timer) (s : State), HeldSetFits s → r ∈ s.keyboard.held → r.code = k →
    r.timer = some tm →
    ∃ t, exec (.stuckTimerExpiry k) s = .next t ∧ t.now = max s.now tm.due ∧ Raised (.stuckKey k) t ∧
      t.keyboard.held.map HeldKey.code = s.keyboard.held.map HeldKey.code ∧
      (∀ q ∈ t.keyboard.held, q.code = k → q.stuck = true ∧ q.timer = none) ∧
      (s.powerState s.keyboard.focus = .awake → (s.port s.keyboard.focus).queue.length < 28 →
        t.keyboard.held = s.keyboard.held.map (fun q => if q.code = k then { q with stuck := true, timer := none } else q) ∧
        t.target.same (t.committedKeys s.keyboard.focus) = true ∧
        OnlyChanges [.now, .keyboard, .status, .lines, .ports] s t) ∧
      OthersKept [s.keyboard.focus] s t ∧ OnlyChanges [.now, .keyboard, .status, .lines, .ports, .power] s t) ∧
  (∀ s : State, s.matcher.timer = none → ∃ t, exec .windowTimerExpiry s = .next t ∧ OnlyChanges [] s t) ∧
  (∀ (tm : Timer) (s : State), s.matcher.timer = some tm → s.matcher.state = .armed ∨ s.matcher.state = .second →
    ∃ t, exec .windowTimerExpiry s = .next t ∧ t.now = max s.now tm.due ∧
      t.matcher = { s.matcher with state := .idle, attempt := none, first := none, timer := none } ∧
      OthersKept [s.keyboard.focus] s t ∧ OnlyChanges [.now, .matcher, .keyboard, .status, .lines, .ports, .power] s t) ∧
  (∀ (tm : Timer) (k : Nat) (c : Computer) (s : State), s.matcher.timer = some tm → s.matcher.state = .armed →
    s.matcher.attempt = some k → s.keyboard.focus = c → s.powerState c = .awake → (s.computer c).keymap = none →
    s.keyboard.held = [] → (s.committedKeys c).isEmpty = true → (s.port c).queue.length < 28 →
    ∃ t, exec .windowTimerExpiry s = .next t ∧
      t.port c = { (s.port c) with queue := (s.port c).queue ++ [.keyboard ⟨0, [k]⟩, .keyboard ⟨0, []⟩] } ∧
      OnlyChanges [.now, .matcher, .ports] s t) ∧
  (∀ (tm : Timer) (k k1 : Nat) (c : Computer) (s : State), s.matcher.timer = some tm → s.matcher.state = .second →
    s.matcher.attempt = some k → s.matcher.first = some ⟨k1, false⟩ → FocusReady c s →
    (∀ q ∈ s.keyboard.held, q.delivering = false) →
    ∃ t, exec .windowTimerExpiry s = .next t ∧ t.keyboard = s.keyboard ∧
      t.port c = { (s.port c) with queue := (s.port c).queue ++
        [.keyboard ⟨0, [k]⟩, .keyboard ⟨0, []⟩, .keyboard ⟨0, [k1]⟩, .keyboard ⟨0, []⟩] } ∧
      OnlyChanges [.now, .matcher, .ports] s t) ∧
  (∀ (tm : Timer) (k k1 : Nat) (r : HeldKey) (before after : List HeldKey) (c : Computer) (s : State),
    s.matcher.timer = some tm → s.matcher.state = .second → s.matcher.attempt = some k →
    s.matcher.first = some ⟨k1, true⟩ → FocusReady c s → 2 ≤ k1 → k1 ≤ 223 → s.keyboard.held = before ++ r :: after →
    r = pressed k1 r.pressed false true → (∀ q ∈ before ++ after, q.code ≠ k1 ∧ q.delivering = false) →
    ∃ t, exec .windowTimerExpiry s = .next t ∧
      t.port c = { (s.port c) with queue := (s.port c).queue ++
        [.keyboard ⟨0, [k]⟩, .keyboard ⟨0, []⟩, .keyboard ⟨0, [k1]⟩] } ∧
      t.keyboard.held = before ++ { pressed k1 r.pressed false false with
        timer := if s.keyboard.stuckLimit = 0 then none
          else some ⟨max s.now tm.due, s.keyboard.stuckLimit * 1000000⟩ } :: after ∧
      OnlyChanges [.now, .matcher, .keyboard, .ports] s t)

/-! ### Hotkeys -/

/-- ADD_HOTKEY, REMOVE_HOTKEY and GET_HOTKEY: the checks in their order, where an entry is placed, and that its eight bytes are read
back as they were written (R115, R116, R117, R201). -/
def Obligations.HotkeyTableRules : Prop :=
  (∀ (n : Nat) (r : RawHotkey) (s : State), s.profile.state = .ready → (32 ≤ n ∧ n ≠ 255) ∨ ¬HotkeyInRange r →
    ∃ t, exec (.addHotkey n r) s = .next t ∧ Answers 0x50 .outOfRange [] s t ∧ OnlyChanges [.link] s t) ∧
  (∀ (n : Nat) (m : EntryNo) (a : Hotkey) (r : RawHotkey) (s : State), s.profile.state = .ready → n < 32 ∨ n = 255 →
    HotkeyInRange r → s.entry m = some a → n ≠ m.val → TriggersMeet a.trigger r →
    ∃ t, exec (.addHotkey n r) s = .next t ∧ Answers 0x50 .conflict [] s t ∧ OnlyChanges [.link] s t) ∧
  (∀ (r : RawHotkey) (s : State), s.profile.state = .ready → HotkeyInRange r →
    (∀ m : EntryNo, ∃ a, s.entry m = some a ∧ ¬TriggersMeet a.trigger r) →
    ∃ t, exec (.addHotkey 255 r) s = .next t ∧ Answers 0x50 .full [] s t ∧ OnlyChanges [.link] s t) ∧
  (∀ (n : Nat) (m : EntryNo) (r : RawHotkey) (s : State), s.profile.state = .ready → HotkeyInRange r →
    n = m.val ∨ (n = 255 ∧ s.entry m = none ∧ ∀ k : EntryNo, k < m → s.entry k ≠ none) →
    (∀ (k : EntryNo) (a : Hotkey), s.entry k = some a → n ≠ k.val → ¬TriggersMeet a.trigger r) →
    ∃ t u, exec (.addHotkey n r) s = .next t ∧ Answers 0x50 .ok [byte m] s t ∧ t.entry m ≠ none ∧
      t.matcher = { s.matcher with table := s.matcher.table.set m (t.entry m) } ∧ OnlyChanges [.link, .matcher] s t ∧
      exec (.getHotkey m) t = .next u ∧ Answers 0x52 .ok (byte m :: 1 :: r.bytes.map byte) t u) ∧
  (∀ (n : Nat) (s : State), 32 ≤ n →
    (s.profile.state = .ready →
      ∃ t, exec (.removeHotkey n) s = .next t ∧ Answers 0x51 .outOfRange [] s t ∧ OnlyChanges [.link] s t) ∧
    (s.profile.state ≠ .loading →
      ∃ t, exec (.getHotkey n) s = .next t ∧ Answers 0x52 .outOfRange [] s t ∧ OnlyChanges [.link] s t)) ∧
  (∀ (m : EntryNo) (s : State), s.profile.state = .ready → s.entry m = none →
    (∃ t, exec (.removeHotkey m) s = .next t ∧ Answers 0x51 .notFound [] s t ∧ OnlyChanges [.link] s t) ∧
    ∃ t, exec (.getHotkey m) s = .next t ∧ Answers 0x52 .ok [byte m, 0, 0, 0, 0, 0, 0, 0, 0, 0] s t ∧
      OnlyChanges [.link] s t) ∧
  (∀ (m : EntryNo) (s : State), s.profile.state = .ready → s.entry m ≠ none →
    ∃ t, exec (.removeHotkey m) s = .next t ∧ Answers 0x51 .ok [] s t ∧
      t.matcher = { s.matcher with table := s.matcher.table.set m none } ∧ OnlyChanges [.link, .matcher] s t)

/-- RUN_ACTION makes the request that the like record makes, and answers for it; it raises no HOTKEY (R71, R126, R127, R131). -/
def Obligations.RunActionRequests : Prop :=
  (∀ (k a b : Nat) (s : State), ∃ t, exec (.runAction k a b) s = .next t ∧ t.event .hotkey = s.event .hotkey) ∧
  (∀ (k a b : Nat) (s : State), s.profile.state ≠ .loading → k = 3 ∨ ¬ActionInRange k a b →
    ∃ t, exec (.runAction k a b) s = .next t ∧ Answers 0x53 .outOfRange [] s t ∧ OnlyChanges [.link] s t) ∧
  (∀ (c : Computer) (both : Bool) (s : State), s.profile.state ≠ .loading →
    (s.powerState c = .absent →
      ∃ t, exec (.runAction 1 c both.toNat) s = .next t ∧ Answers 0x53 .notPresent [] s t ∧ OnlyChanges [.link] s t) ∧
    (s.powerState c ≠ .absent →
      ∃ t u, exec (.runAction 1 c both.toNat) s = .next t ∧ exec (.setFocus c both.toNat) s = .next u ∧
        Answers 0x53 .ok [] s t ∧ SameButReply t u)) ∧
  (∀ (previous : Bool) (s : State), s.profile.state ≠ .loading →
    (∀ c : Computer, c ≠ s.keyboard.focus → s.powerState c = .absent) →
    ∃ t, exec (.runAction 2 previous.toNat 0) s = .next t ∧ Answers 0x53 .notFound [] s t ∧ OnlyChanges [.link] s t) ∧
  (∀ (previous : Bool) (n : Nat) (c : Computer) (s : State), s.profile.state ≠ .loading → 1 ≤ n → n ≤ 5 →
    c.val = (if previous then s.keyboard.focus.val + 6 - n else s.keyboard.focus.val + n) % 6 → s.powerState c ≠ .absent →
    (∀ (m : Nat) (d : Computer), 1 ≤ m → m < n →
      d.val = (if previous then s.keyboard.focus.val + 6 - m else s.keyboard.focus.val + m) % 6 → s.powerState d = .absent) →
    ∃ t u, exec (.runAction 2 previous.toNat 0) s = .next t ∧ exec (.setFocus c 0) s = .next u ∧
      Answers 0x53 .ok [] s t ∧ SameButReply t u) ∧
  (∀ (n : SceneNo) (s : State), s.profile.state ≠ .loading →
    (s.scene n = none →
      ∃ t, exec (.runAction 4 n 0) s = .next t ∧ Answers 0x53 .notFound [] s t ∧ OnlyChanges [.link] s t) ∧
    (s.scene n ≠ none →
      ∃ t u, exec (.runAction 4 n 0) s = .next t ∧ exec (.applyScene n) s = .next u ∧
        Answers 0x53 .accepted [] s t ∧ SameButReply t u)) ∧
  (∀ (c : Computer) (s : State), s.profile.state ≠ .loading →
    (s.powerState c = .absent ∨ s.powerState c = .starting →
      ∃ t, exec (.runAction 5 c 0) s = .next t ∧ Answers 0x53 .notPresent [] s t ∧ OnlyChanges [.link] s t) ∧
    (s.powerState c ≠ .absent → s.powerState c ≠ .starting →
      ∃ t u, exec (.runAction 5 c 0) s = .next t ∧ exec (.wake c) s = .next u ∧
        Answers 0x53 .ok [] s t ∧ SameButReply t u)) ∧
  (∀ s : State, s.profile.state ≠ .loading →
    (∃ t, exec (.runAction 6 0 0) s = .next t ∧ Answers 0x53 .ok [] s t ∧
      t.pointer = { s.pointer with glideLock := !s.pointer.glideLock } ∧ OnlyChanges [.link, .pointer] s t) ∧
    (∃ t u, exec (.runAction 7 0 0) s = .next t ∧ exec .deskStandby s = .next u ∧ Answers 0x53 .ok [] s t ∧
      SameButReply t u) ∧
    ∃ t, exec (.runAction 8 0 0) s = .next t ∧ Answers 0x53 .ok [] s t ∧ OnlyChanges [.link] s t)

/-- The Hotkey Matcher's judgement of a press or a release that comes in a keyboard report: a chord by the held modifier kinds, the
leader key, ARMED and SECOND with a sequence or the replays of an attempt that ends, and a key no entry matches (R99, R119, R120,
R121, R122, R123, R130). That the replays come before the key which ends the attempt is log entry 32. -/
def Obligations.MatcherJudgesKeys : Prop :=
  (∀ (bs : List Byte) (t0 k : Nat) (kinds : KindSet) (m : EntryNo) (h : Hotkey) (s : State), PressesOnly bs k s →
    HotkeysApart s → s.matcher.state = .idle → 2 ≤ k → k ≤ 223 → KindsHeld kinds s → s.entry m = some h →
    h.enabled = true → h.trigger = .chord kinds k →
    ∃ t ok, exec (.deskKeyboardReport bs t0) s = .next t ∧ Raised (.hotkey m ok) t ∧ t.matcher.state = .idle ∧
      (∃ r ∈ t.keyboard.held, r.code = k ∧ r.swallowed = true) ∧
      (h.action = .report → ok = true ∧ t.matcher = s.matcher ∧
        (s.target.same (s.committedKeys s.keyboard.focus) = true → t.keyboard.held = s.keyboard.held.map (fun r =>
          if 224 ≤ r.code ∧ r.code ≤ 231 ∧ r.suppressed = false then { r with suppressed := true, timer := none } else r) ++
            [pressed k (max s.now t0) true false]) ∧
        (s.powerState s.keyboard.focus = .awake → (s.port s.keyboard.focus).queue.length < 28 →
          t.target.same (t.committedKeys s.keyboard.focus) = true) ∧
        OnlyChanges [.now, .desk, .keyboard, .status, .lines, .ports, .power] s t)) ∧
  (∀ (bs : List Byte) (t0 k : Nat) (s : State), PressesOnly bs k s → s.matcher.state = .idle → 2 ≤ k → k ≤ 231 →
    (∀ kinds, KindsHeld kinds s → ¬HasTrigger (.chord kinds k) s) →
    k ≠ s.matcher.leader ∨ ¬KindsHeld 0 s ∨ (∀ n h, s.entry n = some h → h.enabled = true → h.trigger.isSequence = false) →
    ∃ t, exec (.deskKeyboardReport bs t0) s = .next t ∧ t.matcher = s.matcher ∧ t.event .hotkey = s.event .hotkey ∧
      OnlyChanges [.now, .desk, .keyboard, .status, .lines, .ports, .power, .pointer] s t) ∧
  (∀ (bs : List Byte) (t0 k : Nat) (s : State), PressesOnly bs k s → s.matcher.state = .idle → k = s.matcher.leader →
    2 ≤ k → k ≤ 223 → KindsHeld 0 s → ¬HasTrigger (.chord 0 k) s →
    (∃ n h, s.entry n = some h ∧ h.enabled = true ∧ h.trigger.isSequence = true) →
    s.target.same (s.committedKeys s.keyboard.focus) = true →
    ∃ t, exec (.deskKeyboardReport bs t0) s = .next t ∧
      t.matcher = { s.matcher with state := .leaderDown, attempt := some k } ∧
      t.keyboard.held = s.keyboard.held ++ [pressed k (max s.now t0) false true] ∧ OnlyChanges [.now, .desk, .keyboard, .matcher] s t) ∧
  (∀ (bs : List Byte) (t0 k : Nat) (s : State), ReleasesOnly bs k s → s.matcher.state = .leaderDown →
    s.matcher.attempt = some k → s.matcher.slot = none →
    (∀ r ∈ s.keyboard.held, r.code = k → r.delivering = false) →
    s.target.same (s.committedKeys s.keyboard.focus) = true →
    ∃ t, exec (.deskKeyboardReport bs t0) s = .next t ∧
      t.matcher = { s.matcher with state := .armed, timer := some ⟨max s.now t0, s.matcher.window * 1000⟩ } ∧
      t.keyboard.held = s.keyboard.held.filter (fun r => r.code != k) ∧ OnlyChanges [.now, .keyboard, .matcher] s t) ∧
  (∀ (bs : List Byte) (t0 k l : Nat) (r : HeldKey) (c : Computer) (s : State), PressesOnly bs k s → FocusReady c s →
    s.matcher.state = .leaderDown → s.matcher.attempt = some l → s.keyboard.held = [r] → r = pressed l r.pressed false true →
    2 ≤ k → k ≤ 223 → 2 ≤ l → l ≤ 223 →
    ∃ t, exec (.deskKeyboardReport bs t0) s = .next t ∧
      t.matcher = { s.matcher with state := .idle, attempt := none, first := none, timer := none } ∧
      t.keyboard.held.map (fun q => (q.code, q.delivering)) = [(l, true), (k, true)] ∧
      t.port c = { (s.port c) with queue := (s.port c).queue ++ [.keyboard ⟨0, [l]⟩, .keyboard ⟨0, [l, k]⟩] } ∧
      OnlyChanges [.now, .desk, .keyboard, .matcher, .ports] s t) ∧
  (∀ (bs : List Byte) (t0 k : Nat) (s : State), PressesOnly bs k s → s.matcher.state = .armed ∨ s.matcher.state = .second →
    224 ≤ k → k ≤ 231 →
    ∃ t, exec (.deskKeyboardReport bs t0) s = .next t ∧ t.matcher = s.matcher ∧ t.event .hotkey = s.event .hotkey) ∧
  (∀ (bs : List Byte) (t0 k l : Nat) (c : Computer) (s : State), PressesOnly bs k s → FocusReady c s →
    s.matcher.state = .armed → s.matcher.attempt = some l → s.keyboard.held = [] → 2 ≤ k → k ≤ 223 →
    (k = l →
      ∃ t, exec (.deskKeyboardReport bs t0) s = .next t ∧ t.matcher = s.matcher.toIdle ∧
        t.keyboard.held = [pressed k (max s.now t0) true false] ∧
        t.port c = { (s.port c) with queue := (s.port c).queue ++ [.keyboard ⟨0, [l]⟩, .keyboard ⟨0, []⟩] } ∧
        OnlyChanges [.now, .desk, .keyboard, .matcher, .ports] s t) ∧
    (k ≠ l → ¬HasTrigger (.one k) s → (∃ k2, HasTrigger (.two k k2) s) →
      ∃ t, exec (.deskKeyboardReport bs t0) s = .next t ∧
        t.matcher = { s.matcher with
          state := .second, first := some ⟨k, true⟩, timer := some ⟨max s.now t0, s.matcher.window * 1000⟩ } ∧
        t.keyboard.held = [pressed k (max s.now t0) false true] ∧ OnlyChanges [.now, .desk, .keyboard, .matcher] s t) ∧
    (k ≠ l → ¬HasTrigger (.one k) s → (∀ k2, ¬HasTrigger (.two k k2) s) →
      ∃ t, exec (.deskKeyboardReport bs t0) s = .next t ∧ t.matcher = s.matcher.toIdle ∧
        t.port c = { (s.port c) with
          queue := (s.port c).queue ++ [.keyboard ⟨0, [l]⟩, .keyboard ⟨0, []⟩, .keyboard ⟨0, [k]⟩] } ∧
        OnlyChanges [.now, .desk, .keyboard, .matcher, .ports] s t)) ∧
  (∀ (bs : List Byte) (t0 k : Nat) (m : EntryNo) (h : Hotkey) (s : State), PressesOnly bs k s → HotkeysApart s →
    2 ≤ k → k ≤ 223 → s.entry m = some h → h.enabled = true →
    (s.matcher.state = .armed ∧ s.matcher.attempt ≠ some k ∧ h.trigger = .one k) ∨
      (s.matcher.state = .second ∧ ∃ f, s.matcher.first = some f ∧ h.trigger = .two f.code k) →
    ∃ t ok, exec (.deskKeyboardReport bs t0) s = .next t ∧ Raised (.hotkey m ok) t ∧ t.matcher.state = .idle ∧
      t.matcher.attempt = none ∧ t.matcher.first = none ∧ t.matcher.timer = none ∧
      (∃ r ∈ t.keyboard.held, r.code = k ∧ r.swallowed = true) ∧
      (h.action = .report → ok = true ∧ (s.target.same (s.committedKeys s.keyboard.focus) = true →
        t.keyboard.held = s.keyboard.held ++ [pressed k (max s.now t0) true false]))) ∧
  (∀ (bs : List Byte) (t0 k l k1 : Nat) (c : Computer) (s : State), PressesOnly bs k s → FocusReady c s →
    s.matcher.state = .second → s.matcher.attempt = some l → ¬HasTrigger (.two k1 k) s → 2 ≤ k → k ≤ 223 →
    2 ≤ k1 → k1 ≤ 223 →
    (∀ r : HeldKey, s.matcher.first = some ⟨k1, true⟩ → s.keyboard.held = [r] → r = pressed k1 r.pressed false true → l ≠ k1 →
      ∃ t, exec (.deskKeyboardReport bs t0) s = .next t ∧ t.matcher = s.matcher.toIdle ∧
        t.port c = { (s.port c) with
          queue := (s.port c).queue ++
            [.keyboard ⟨0, [l]⟩, .keyboard ⟨0, []⟩, .keyboard ⟨0, [k1]⟩, .keyboard ⟨0, [k1, k]⟩] } ∧
        OnlyChanges [.now, .desk, .keyboard, .matcher, .ports] s t) ∧
    (s.matcher.first = some ⟨k1, false⟩ → s.keyboard.held = [] →
      ∃ t, exec (.deskKeyboardReport bs t0) s = .next t ∧ t.matcher = s.matcher.toIdle ∧
        t.port c = { (s.port c) with
          queue := (s.port c).queue ++ [.keyboard ⟨0, [l]⟩, .keyboard ⟨0, []⟩, .keyboard ⟨0, [k1]⟩, .keyboard ⟨0, []⟩,
            .keyboard ⟨0, [k]⟩] } ∧
        OnlyChanges [.now, .desk, .keyboard, .matcher, .ports] s t)) ∧
  (∀ (bs : List Byte) (t0 k : Nat) (s : State), ReleasesOnly bs k s → s.matcher.state = .second →
    s.matcher.first = some ⟨k, true⟩ → s.matcher.slot = none →
    ∃ t, exec (.deskKeyboardReport bs t0) s = .next t ∧ t.matcher = { s.matcher with first := some ⟨k, false⟩ })

/-- What an entry that fires does, shown by the edges of a line: a LINE trigger fires its entry and leaves an attempt as it was; a
focus action and MOMENTARY by their cases; the end of a momentary change by the opposite edge or by the release of a chord's code;
and HOTKEY with FIRED or IGNORED each time (R125, R126, R128, R129, R130, R139). An edge that wakes the desk is swallowed: it fires no
entry, but ends the momentary change that it ends (R139, R182). -/
def Obligations.TriggersFireAndMomentaryEnds : Prop :=
  (∀ (i : Instr) (l : LineId) (pin active : Bool) (n : Nat) (m : EntryNo) (h : Hotkey) (s : State), MakesEdge i l pin n s →
    active = (pin != (s.lineRec l).config.activeLow) → EdgeOffered l active s → HotkeysApart s → s.matcher.slot = none →
    s.entry m = some h → h.enabled = true → h.trigger = .line l active →
    ∃ t ok, exec i s = .next t ∧ Raised (.hotkey m ok) t ∧ t.matcher.state = s.matcher.state ∧
      t.matcher.attempt = s.matcher.attempt ∧ t.matcher.first = s.matcher.first ∧ t.matcher.timer = s.matcher.timer ∧
      (h.action = .report → ok = true ∧ t.matcher = s.matcher ∧ OnlyChanges [.now, .lines, .status, .desk] s t) ∧
      (h.action = .glideLock → ok = true ∧ t.pointer = { s.pointer with glideLock := !s.pointer.glideLock }) ∧
      (∀ c both, h.action = .focus c both →
        (s.powerState c = .absent → ok = false ∧ t.keyboard = s.keyboard ∧ t.pointer = s.pointer) ∧
        (s.powerState c ≠ .absent → ok = true ∧ t.keyboard.focus = c ∧ t.matcher.slot = none)) ∧
      (∀ c, h.action = .momentary c →
        (s.powerState c = .absent → ok = false ∧ t.matcher = s.matcher ∧ t.keyboard = s.keyboard) ∧
        (s.powerState c ≠ .absent → s.keyboard.focus = c → ok = true ∧ t.matcher = s.matcher ∧ t.keyboard = s.keyboard) ∧
        (s.powerState c ≠ .absent → s.keyboard.focus ≠ c → ok = true ∧ t.keyboard.focus = c ∧
          t.matcher = { s.matcher with slot := some ⟨s.keyboard.focus, m, .line l active⟩ }))) ∧
  (∀ (i : Instr) (l : LineId) (pin active : Bool) (n : Nat) (m : EntryNo) (h : Hotkey) (c : Computer) (x : ReturnSlot)
    (s : State), MakesEdge i l pin n s → active = (pin != (s.lineRec l).config.activeLow) → EdgeOffered l active s →
    HotkeysApart s → s.matcher.slot = some x → x.trigger ≠ .line l (!active) → s.entry m = some h → h.enabled = true →
    h.trigger = .line l active → h.action = .momentary c →
    ∃ t, exec i s = .next t ∧ Raised (.hotkey m false) t ∧ t.matcher = s.matcher ∧ t.keyboard = s.keyboard) ∧
  (∀ (i : Instr) (l : LineId) (pin active : Bool) (n : Nat) (s : State), MakesEdge i l pin n s →
    active = (pin != (s.lineRec l).config.activeLow) → EdgeOffered l active s → ¬HasTrigger (.line l active) s →
    (∀ x, s.matcher.slot = some x → x.trigger ≠ .line l (!active)) →
    ∃ t, exec i s = .next t ∧ t.matcher = s.matcher ∧ t.keyboard = s.keyboard ∧ t.event .hotkey = s.event .hotkey) ∧
  (∀ (i : Instr) (x : ReturnSlot) (s : State), s.matcher.slot = some x →
    (∃ (l : LineId) (pin active : Bool) (n : Nat), MakesEdge i l pin n s ∧ active = (pin != (s.lineRec l).config.activeLow) ∧
        EdgeOffered l active s ∧ ¬HasTrigger (.line l active) s ∧ x.trigger = .line l (!active)) ∨
      (∃ (bs : List Byte) (t0 k : Nat) (kinds : KindSet), i = .deskKeyboardReport bs t0 ∧ ReleasesOnly bs k s ∧
        x.trigger = .chord kinds k) →
    ∃ t, exec i s = .next t ∧ t.matcher.slot = none ∧
      (s.powerState x.computer = .absent → t.keyboard.focus = s.keyboard.focus ∧ Raised (.hotkey x.entry false) t) ∧
      (s.powerState x.computer ≠ .absent → t.keyboard.focus = x.computer ∧ Raised (.hotkey x.entry true) t ∧
        (s.keyboard.focus ≠ x.computer → Raised (.focusChanged x.computer s.pointer.focus) t ∧
          ∀ r ∈ t.keyboard.held, r.suppressed = true))) ∧
  (∀ (i : Instr) (l : LineId) (pin : Bool) (n : Nat) (s : State), MakesEdge i l pin n s → (s.lineRec l).config.mode = .input →
    pin ≠ (s.lineRec l).config.activeLow → (s.lineRec l).config.wake = true → s.desk.state ≠ .active →
    ∃ t, exec i s = .next t ∧ t.desk.state = .active ∧ (t.lineRec l).suppressed = true ∧
      ((∀ x, s.matcher.slot = some x → x.trigger ≠ .line l false) → t.matcher = s.matcher ∧
        t.event .hotkey = s.event .hotkey ∧ t.keyboard.focus = s.keyboard.focus ∧ t.pointer = s.pointer ∧ ResumeWakes n s t) ∧
      (∀ x, s.matcher.slot = some x → x.trigger = .line l false → t.matcher = { s.matcher with slot := none } ∧
        (s.powerState x.computer = .absent → t.keyboard.focus = s.keyboard.focus ∧ Raised (.hotkey x.entry false) t) ∧
        (s.powerState x.computer ≠ .absent → t.keyboard.focus = x.computer ∧ Raised (.hotkey x.entry true) t)))

/-! ### Desk lines and the dial -/

/-- SET_LINE with its checks, the configuration it leaves, what entering a mode does and does not do, a change of polarity, and
the pair of a dial; and DRIVE_LINE (R134, R135, R136, R137, R141, R142, R204). That a driven level set by DRIVE_LINE outlasts a
record which names the same MANUAL source is log entry 17; that a source of a line which is no OUTPUT is not examined is log entry
16. -/
def Obligations.LineSettings : Prop :=
  (∀ (n : Nat) (r : RawLine) (s : State), s.profile.state = .ready → 8 ≤ n ∨ ¬LineFieldsInRange n r →
    ∃ t, exec (.setLine n r) s = .next t ∧ Answers 0x60 .outOfRange [] s t ∧ OnlyChanges [.link] s t) ∧
  (∀ (l : LineId) (r : RawLine) (s : State), s.profile.state = .ready → LineFieldsInRange l r → r.mode ≠ 3 →
    (s.lineRec l).config.mode ≠ .dial →
    ∃ t, exec (.setLine l r) s = .next t ∧ Answers 0x60 .ok [] s t ∧
      lineConfigBytes (t.lineRec l).config = lineBytesOf r ∧ (∀ k : LineId, k ≠ l → t.lineRec k = s.lineRec k) ∧
      t.lines.dial = s.lines.dial ∧
      ((s.lineRec l).config.mode.code.toNat ≠ r.mode ∨ (s.lineRec l).config.activeLow.toNat ≠ r.polarity →
        t.lineRec l =
          { config := (t.lineRec l).config, pin := (s.lineRec l).pin, timer := none, suppressed := false,
            filtered := if r.mode = 1 then some ((s.lineRec l).pin != (r.polarity == 1)) else none,
            driven := if r.mode = 2 then
              (if (s.lineRec l).config.mode = .output ∧ (t.lineRec l).config.source = (s.lineRec l).config.source then
                (s.lineRec l).driven else some (sourceLevel s (t.lineRec l).config.source)) else none } ∧
        t.matcher = { s.matcher with
          slot := match s.matcher.slot with
            | some x => if (s.lineRec l).config.mode = .input ∧ ∃ e, x.trigger = .line l e then none else some x
            | none => none }) ∧
      ((s.lineRec l).config.mode.code.toNat = r.mode → (s.lineRec l).config.activeLow.toNat = r.polarity →
        t.lineRec l = { (s.lineRec l) with
          config := (t.lineRec l).config,
          driven := if r.mode = 2 ∧ (t.lineRec l).config.source ≠ (s.lineRec l).config.source then
            some (sourceLevel s (t.lineRec l).config.source) else (s.lineRec l).driven } ∧ t.matcher = s.matcher) ∧
      OnlyChanges [.link, .lines, .matcher] s t) ∧
  (∀ (l : LineId) (r : RawLine) (s : State), s.profile.state = .ready → LineFieldsInRange l r → r.mode = 3 →
    ∃ t, exec (.setLine l r) s = .next t ∧ Answers 0x60 .ok [] s t ∧
      lineConfigBytes (t.lineRec 6).config = lineBytesOf r ∧ lineConfigBytes (t.lineRec 7).config = lineBytesOf r ∧
      (∀ k : LineId, k ≠ 6 → k ≠ 7 → t.lineRec k = s.lineRec k) ∧
      ((s.lineRec 6).config.mode ≠ .dial → (s.lineRec 7).config.mode ≠ .dial →
        (t.lineRec 6).filtered = some ((s.lineRec 6).pin != (r.polarity == 1)) ∧
        (t.lineRec 7).filtered = some ((s.lineRec 7).pin != (r.polarity == 1)) ∧
        (t.lineRec 6).timer = none ∧ (t.lineRec 7).timer = none ∧
        t.lines.dial = some ⟨(s.lineRec 6).pin != (r.polarity == 1), (s.lineRec 7).pin != (r.polarity == 1), 0⟩) ∧
      ((s.lineRec 6).config.mode = .dial → (s.lineRec 7).config = (s.lineRec 6).config →
        (s.lineRec 6).config.activeLow.toNat ≠ r.polarity →
        (t.lineRec 6).filtered = some ((s.lineRec 6).pin != (r.polarity == 1)) ∧
        (t.lineRec 7).filtered = some ((s.lineRec 7).pin != (r.polarity == 1)) ∧
        (t.lineRec 6).timer = none ∧ (t.lineRec 7).timer = none ∧
        t.lines.dial = some ⟨(s.lineRec 6).pin != (r.polarity == 1), (s.lineRec 7).pin != (r.polarity == 1), 0⟩) ∧
      ((s.lineRec 6).config.mode = .dial → (s.lineRec 7).config = (s.lineRec 6).config →
        (s.lineRec 6).config.activeLow.toNat = r.polarity →
        (t.lineRec 6).filtered = (s.lineRec 6).filtered ∧ (t.lineRec 6).timer = (s.lineRec 6).timer ∧
        (t.lineRec 7).filtered = (s.lineRec 7).filtered ∧ (t.lineRec 7).timer = (s.lineRec 7).timer ∧
        t.lines.dial = if (s.lineRec 6).config.counts = r.counts then s.lines.dial
          else s.lines.dial.map fun d => { d with count := 0 }) ∧
      OnlyChanges [.link, .lines, .matcher] s t) ∧
  (∀ (l : LineId) (r : RawLine) (s : State), s.profile.state = .ready → LineFieldsInRange l r → r.mode ≠ 3 → 6 ≤ l.val →
    (s.lineRec 6).config.mode = .dial → (s.lineRec 7).config.mode = .dial →
    ∃ t, exec (.setLine l r) s = .next t ∧ Answers 0x60 .ok [] s t ∧ t.lines.dial = none ∧
      lineConfigBytes (t.lineRec l).config = lineBytesOf r ∧
      (∀ k : LineId, 6 ≤ k.val → k ≠ l → t.lineRec k =
        { config := LineConfig.reset, pin := (s.lineRec k).pin, filtered := none, timer := none, suppressed := false,
          driven := none }) ∧
      (∀ k : LineId, k.val < 6 → t.lineRec k = s.lineRec k) ∧ OnlyChanges [.link, .lines] s t) ∧
  (∀ (n v : Nat) (s : State), s.profile.state ≠ .loading → 8 ≤ n ∨ 2 ≤ v →
    ∃ t, exec (.driveLine n v) s = .next t ∧ Answers 0x61 .outOfRange [] s t ∧ OnlyChanges [.link] s t) ∧
  (∀ (l : LineId) (b : Bool) (s : State), s.profile.state ≠ .loading →
    (s.lineRec l).config.mode ≠ .output ∨ (∀ b', (s.lineRec l).config.source ≠ .manual b') →
    ∃ t, exec (.driveLine l b.toNat) s = .next t ∧ Answers 0x61 .conflict [] s t ∧ OnlyChanges [.link] s t) ∧
  (∀ (l : LineId) (b b' : Bool) (s : State), s.profile.state ≠ .loading → (s.lineRec l).config.mode = .output →
    (s.lineRec l).config.source = .manual b' →
    ∃ t, exec (.driveLine l b.toNat) s = .next t ∧ Answers 0x61 .ok [] s t ∧
      t.lineRec l = { (s.lineRec l) with driven := some b } ∧ (∀ k : LineId, k ≠ l → t.lineRec k = s.lineRec k) ∧
      t.lines.dial = s.lines.dial ∧ OnlyChanges [.link, .lines] s t)

/-- A level change and a filter timer's expiry: the filter, the edges of an INPUT line and of the dial, at once with a filter of 0
(R138, R139, R140, R143). The LINE_EDGE of a line that reports is raised, a wake-enabled line's ACTIVE edge is activity, and a
swallowed edge is held back till the line goes INACTIVE. A detent of the dial is a wheel step for the stand-in computer at its last
absolute position, or, in low power, the waking input that is discarded (R75, R182). A FILTER_TIMER_EXPIRY while the
timer is stopped changes nothing by log entry 3. -/
def Obligations.LineLevelsAreFiltered : Prop :=
  (∀ (l : LineId) (s : State), ∃ t, exec (.lineLevelChange l (s.lineRec l).pin) s = .next t ∧ OnlyChanges [] s t) ∧
  (∀ (l : LineId) (b : Bool) (s : State), (s.lineRec l).pin ≠ b →
    (s.lineRec l).config.mode = .off ∨ (s.lineRec l).config.mode = .output →
    ∃ t, exec (.lineLevelChange l b) s = .next t ∧ t.lineRec l = { (s.lineRec l) with pin := b } ∧
      (∀ k : LineId, k ≠ l → t.lineRec k = s.lineRec k) ∧ t.lines.dial = s.lines.dial ∧ OnlyChanges [.lines] s t) ∧
  (∀ (l : LineId) (b : Bool) (s : State), (s.lineRec l).pin ≠ b →
    (s.lineRec l).config.mode = .input ∨ (s.lineRec l).config.mode = .dial →
    (s.lineRec l).filtered = some (b != (s.lineRec l).config.activeLow) ∨ (s.lineRec l).config.filter ≠ 0 →
    ∃ t, exec (.lineLevelChange l b) s = .next t ∧
      t.lineRec l = { (s.lineRec l) with
        pin := b,
        timer := if (s.lineRec l).filtered = some (b != (s.lineRec l).config.activeLow) then none
          else some ⟨s.now, (s.lineRec l).config.filter * 1000⟩ } ∧
      (∀ k : LineId, k ≠ l → t.lineRec k = s.lineRec k) ∧ t.lines.dial = s.lines.dial ∧ OnlyChanges [.lines] s t) ∧
  (∀ (l : LineId) (s : State), (s.lineRec l).timer = none →
    ∃ t, exec (.filterTimerExpiry l) s = .next t ∧ OnlyChanges [] s t) ∧
  (∀ (i : Instr) (l : LineId) (b : Bool) (n : Nat) (s : State), (s.lineRec l).config.mode = .input →
    (i = .lineLevelChange l b ∧ (s.lineRec l).pin ≠ b ∧ (s.lineRec l).config.filter = 0 ∧ n = s.now ∧
        (s.lineRec l).filtered ≠ some (b != (s.lineRec l).config.activeLow)) ∨
      (∃ tm, i = .filterTimerExpiry l ∧ b = (s.lineRec l).pin ∧ (s.lineRec l).timer = some tm ∧ n = max s.now tm.due) →
    ∃ t, exec i s = .next t ∧ t.now = n ∧ (t.lineRec l).pin = b ∧
      (t.lineRec l).filtered = some (b != (s.lineRec l).config.activeLow) ∧ (t.lineRec l).timer = none ∧
      (t.lineRec l).config = (s.lineRec l).config ∧
      ((s.lineRec l).config.report = true → Raised (.lineEdge l (b != (s.lineRec l).config.activeLow)) t) ∧
      ((s.lineRec l).config.report = false → t.event .lineEdge = s.event .lineEdge) ∧
      (b ≠ (s.lineRec l).config.activeLow → (s.lineRec l).config.wake = true → s.desk.state ≠ .active →
        (t.lineRec l).suppressed = true ∧ t.desk.state = .active ∧ t.desk.idleStart = some n) ∧
      (b = (s.lineRec l).config.activeLow → (t.lineRec l).suppressed = false) ∧
      (b = (s.lineRec l).config.activeLow → (s.lineRec l).suppressed = true →
        t.keyboard = s.keyboard ∧ t.matcher = s.matcher ∧ OnlyChanges [.now, .lines, .status] s t) ∧
      (b ≠ (s.lineRec l).config.activeLow → (s.lineRec l).config.wake = true → s.desk.state = .active →
        (∀ m, s.entry m = none) → s.matcher.slot = none → t.desk = { s.desk with idleStart := some n } ∧
        OnlyChanges [.now, .lines, .status, .desk] s t)) ∧
  (∀ (i : Instr) (l : LineId) (pin : Bool) (n : Nat) (d : Dial) (a b : Bool) (m : Int) (s : State), MakesEdge i l pin n s →
    (s.lineRec l).config.mode = .dial → 6 ≤ l.val → s.lines.dial = some d →
    (a, b) = (if l = 6 then (pin != (s.lineRec l).config.activeLow, d.b)
      else (d.a, pin != (s.lineRec l).config.activeLow)) →
    m = d.count + cycleMove d.a d.b a b →
    ∃ t, exec i s = .next t ∧ t.now = n ∧ (t.lineRec l).pin = pin ∧
      (t.lineRec l).filtered = some (pin != (s.lineRec l).config.activeLow) ∧ (t.lineRec l).timer = none ∧
      t.lines.dial = some ⟨a, b, if m = (s.lineRec l).config.counts ∨ m = -(s.lineRec l).config.counts then 0 else m⟩ ∧
      (m ≠ (s.lineRec l).config.counts → m ≠ -(s.lineRec l).config.counts → OnlyChanges [.now, .lines] s t) ∧
      (m = (s.lineRec l).config.counts ∨ m = -(s.lineRec l).config.counts → s.desk.state ≠ .active →
        t.desk.state = .active ∧ t.desk.idleStart = some n ∧ Raised (.deskPower .active) t ∧ t.pointer = s.pointer ∧
        t.matcher = s.matcher ∧ ResumeWakes n s t) ∧
      (m = (s.lineRec l).config.counts ∨ m = -(s.lineRec l).config.counts → s.desk.state = .active →
        0 < (s.lineRec l).config.counts →
        t.desk = { s.desk with idleStart := some n } ∧ t.pointer.lastAbs = s.pointer.lastAbs ∧
        PointerTaken s.standIn s.pointer.lastAbs[s.standIn].1 s.pointer.lastAbs[s.standIn].2 s.delivered
          (if m = (s.lineRec l).config.counts then 1 else -1) s.pointer.swallow n s t ∧
        OnlyChanges [.now, .lines, .desk, .pointer, .ports, .power, .status] s t))

/-! ### Computer ports -/

/-- The seven acts of a computer on its bus (R147, R148, R164, R165), from a state in which the power states agree with the ports:
the port's state, the power state that follows it, and what a cleared port leaves. An act at a port state for which R147's table
has no row changes nothing by log entry 3. -/
def Obligations.BusActsMoveThePort : Prop :=
  (∀ (c : Computer) (s : State),
    ((s.port c).observed ≠ .detached → ∃ t, exec (.busPowerAppears c) s = .next t ∧ OnlyChanges [] s t) ∧
    ((s.port c).observed ≠ .attached → ∃ t, exec (.configurationSelected c) s = .next t ∧ OnlyChanges [] s t) ∧
    ((s.port c).observed ≠ .attached → (s.port c).observed ≠ .configured →
      ∃ t, exec (.busIdle c) s = .next t ∧ OnlyChanges [] s t) ∧
    ((s.port c).observed ≠ .attachedSuspended → (s.port c).observed ≠ .suspended →
      ∃ t, exec (.busActivity c) s = .next t ∧ OnlyChanges [] s t) ∧
    ((s.port c).observed ≠ .configured → ∃ t, exec (.configurationDeselected c) s = .next t ∧ OnlyChanges [] s t) ∧
    ((s.port c).observed = .detached →
      (∃ t, exec (.busReset c) s = .next t ∧ OnlyChanges [] s t) ∧
      ∃ t, exec (.busPowerDisappears c) s = .next t ∧ OnlyChanges [] s t) ∧
    ((s.port c).observed = .attached →
      ∃ t, exec (.busIdle c) s = .next t ∧ t.port c = { (s.port c) with observed := .attachedSuspended } ∧
        OthersKept [c] s t ∧ OnlyChanges [.ports] s t) ∧
    ((s.port c).observed = .attachedSuspended →
      ∃ t, exec (.busActivity c) s = .next t ∧ t.port c = { (s.port c) with observed := .attached } ∧
        OthersKept [c] s t ∧ OnlyChanges [.ports] s t)) ∧
  (∀ (c : Computer) (i : Instr) (o : PortState) (p : PowerRec) (s : State), PortsAgree s →
    (i = .busPowerAppears c ∧ (s.port c).observed = .detached ∧ o = .attached ∧ p = { (s.powerRec c) with state := .starting }) ∨
    (i = .configurationSelected c ∧ (s.port c).observed = .attached ∧ o = .configured ∧
      p = { (s.powerRec c) with state := .awake }) ∨
    (i = .busIdle c ∧ (s.port c).observed = .configured ∧ o = .suspended ∧
      p = { (s.powerRec c) with state := .asleep, armed := true }) ∨
    (i = .busActivity c ∧ (s.port c).observed = .suspended ∧ o = .configured ∧
      p = {
        state := .awake, attempt := 0, timer := none, method := none, pulse := none, armed := (s.powerRec c).armed,
        wakeHigh := !(s.computer c).activeHigh }) →
    ∃ t, exec i s = .next t ∧ t.port c = { (s.port c) with observed := o } ∧ t.powerRec c = p ∧ OthersKept [c] s t ∧
      Raised (.computerState c) t ∧ Quiet [.computerState] s t ∧ OnlyChanges [.ports, .power, .status, .lines] s t) ∧
  (∀ (c : Computer) (i : Instr) (o : PortState) (st : PowerState) (s : State), PortsAgree s →
    (i = .configurationDeselected c ∧ (s.port c).observed = .configured ∧ o = .attached ∧ st = .starting) ∨
    (i = .busReset c ∧ (s.port c).observed ≠ .detached ∧ o = .attached ∧ st = .starting) ∨
    (i = .busPowerDisappears c ∧ (s.port c).observed ≠ .detached ∧ o = .detached ∧ st = .absent) →
    ∃ t, exec i s = .next t ∧
      t.port c = {
        observed := o, permission := false, queue := [], keys := ⟨0, []⟩, x := 16384, y := 16384, buttons := 0,
        kbOwed := false, ptrOwed := false } ∧
      (s.powerState c = st → t.powerRec c = s.powerRec c ∧ t.event .computerState = s.event .computerState) ∧
      (s.powerState c ≠ st → t.powerRec c =
        {
          state := st, attempt := 0, timer := none, method := none, pulse := none, armed := (s.powerRec c).armed,
          wakeHigh := !(s.computer c).activeHigh } ∧ Raised (.computerState c) t) ∧
      t.keyboard = { s.keyboard with
        lamps := s.keyboard.lamps.set c 0,
        held := if s.keyboard.focus = c then s.keyboard.held.map (fun k =>
          if k.suppressed || k.swallowed || k.stuck || k.deferred then k else { k with suppressed := true, timer := none })
          else s.keyboard.held,
        shown := if s.keyboard.focus = c ∧ s.keyboard.kbPort.state = .present then some 0 else s.keyboard.shown } ∧
      OthersKept [c] s t ∧ Quiet [.computerState] s t ∧ OnlyChanges [.ports, .power, .keyboard, .status, .lines] s t)

/-- Polls of a CONFIGURED port deliver the front entry of their function, or a refresh that is owed, or nothing new; a request for
the current state; lamp writes and the remote-wake permission (R110, R149, R157, R158, R159, R202). A request for the current
state answered in any port state is log entry 28; the spare bits of a lamp write are log entry 24; that a port which is not
CONFIGURED does nothing at a poll, a lamp write or a permission change is log entry 3. -/
def Obligations.PollsDeliver : Prop :=
  (∀ (c : Computer) (s : State), (s.port c).observed ≠ .configured →
    (∃ t, exec (.keyboardPoll c) s = .next t ∧ t.out = [] ∧ OnlyChanges [] s t) ∧
    (∃ t, exec (.pointerPoll c) s = .next t ∧ t.out = [] ∧ OnlyChanges [] s t) ∧
    (∀ b : Byte, ∃ t, exec (.lampWrite c b) s = .next t ∧ OnlyChanges [] s t) ∧
    ∀ b : Bool, ∃ t, exec (.remoteWakeChange c b) s = .next t ∧ OnlyChanges [] s t) ∧
  (∀ (c : Computer) (k : KeyState) (rest : List Entry) (s : State), (s.port c).observed = .configured →
    (s.port c).queue = .keyboard k :: rest →
    ∃ t, exec (.keyboardPoll c) s = .next t ∧
      t.out = [.keyboardReport c (k.mods :: ((k.keys.take 6).map byte ++ List.replicate (6 - k.keys.length) 0))] ∧
      t.port c = { (s.port c) with queue := rest, keys := k, kbOwed := false } ∧
      t.committedKeys c = s.committedKeys c ∧ (t.port c).committedPointer = (s.port c).committedPointer ∧
      OthersKept [c] s t ∧ OnlyChanges [.ports] s t) ∧
  (∀ (c : Computer) (s : State), (s.port c).observed = .configured → (∀ k, (s.port c).queue.head? ≠ some (.keyboard k)) →
    ((s.port c).kbOwed = true → (∀ k, .keyboard k ∉ (s.port c).queue) →
      ∃ t, exec (.keyboardPoll c) s = .next t ∧ t.out = [.keyboardReport c (keyStateBytes (s.port c).keys)] ∧
        t.port c = { (s.port c) with kbOwed := false } ∧ OthersKept [c] s t ∧ OnlyChanges [.ports] s t) ∧
    ((s.port c).kbOwed = false ∨ (∃ k, .keyboard k ∈ (s.port c).queue) →
      ∃ t, exec (.keyboardPoll c) s = .next t ∧ t.out = [.noChange c .keyboard] ∧ OnlyChanges [] s t)) ∧
  (∀ (c : Computer) (x y : Nat) (b : ButtonSet) (w : Int) (rest : List Entry) (s : State),
    (s.port c).observed = .configured → (s.port c).queue = .pointer x y b w :: rest →
    ∃ t, exec (.pointerPoll c) s = .next t ∧
      t.out = [.pointerReport c [b.setWidth 8, byte x, byte (x / 256), byte y, byte (y / 256), BitVec.ofInt 8 w]] ∧
      t.port c = { (s.port c) with queue := rest, x := x, y := y, buttons := b, ptrOwed := false } ∧
      t.committedKeys c = s.committedKeys c ∧ (t.port c).committedPointer = (s.port c).committedPointer ∧
      OthersKept [c] s t ∧ OnlyChanges [.ports] s t) ∧
  (∀ (c : Computer) (s : State), (s.port c).observed = .configured →
    (∀ x y b w, (s.port c).queue.head? ≠ some (.pointer x y b w)) →
    ((s.port c).ptrOwed = true → (∀ x y b w, .pointer x y b w ∉ (s.port c).queue) →
      ∃ t, exec (.pointerPoll c) s = .next t ∧
        t.out = [.pointerReport c (pointerBytes (s.port c).x (s.port c).y (s.port c).buttons 0)] ∧
        t.port c = { (s.port c) with ptrOwed := false } ∧ OthersKept [c] s t ∧ OnlyChanges [.ports] s t) ∧
    ((s.port c).ptrOwed = false ∨ (∃ x y b w, .pointer x y b w ∈ (s.port c).queue) →
      ∃ t, exec (.pointerPoll c) s = .next t ∧ t.out = [.noChange c .pointer] ∧ OnlyChanges [] s t)) ∧
  (∀ (c : Computer) (s : State),
    (∃ t, exec (.currentStateRequest c .keyboard) s = .next t ∧
      t.out = [.keyboardReport c (keyStateBytes (s.port c).keys)] ∧ t.port c = { (s.port c) with kbOwed := false } ∧
      OthersKept [c] s t ∧ OnlyChanges [.ports] s t) ∧
    ∃ t, exec (.currentStateRequest c .pointer) s = .next t ∧
      t.out = [.pointerReport c (pointerBytes (s.port c).x (s.port c).y (s.port c).buttons 0)] ∧
      t.port c = { (s.port c) with ptrOwed := false } ∧ OthersKept [c] s t ∧ OnlyChanges [.ports] s t) ∧
  (∀ (c : Computer) (b : Byte) (s : State), (s.port c).observed = .configured →
    ∃ t, exec (.lampWrite c b) s = .next t ∧
      t.keyboard = { s.keyboard with
        lamps := s.keyboard.lamps.set c (b.setWidth 5),
        shown := if s.keyboard.focus = c ∧ s.keyboard.kbPort.state = .present then some (b.setWidth 5)
          else s.keyboard.shown } ∧
      t.out = (if s.keyboard.focus = c ∧ s.keyboard.kbPort.state = .present then [.deskLamps (b &&& 0x1F)] else []) ∧
      OnlyChanges [.keyboard] s t) ∧
  (∀ (c : Computer) (b : Bool) (s : State), (s.port c).observed = .configured →
    ∃ t, exec (.remoteWakeChange c b) s = .next t ∧ t.port c = { (s.port c) with permission := b } ∧
      OthersKept [c] s t ∧ OnlyChanges [.ports] s t)

/-! ### Power -/

/-- WAKE by the computer's power state, the attempts with each one's method and signal, the attempt timer, and a wake pulse's
width (R149, R160, R165 to R170, R173); and an attempt's expiry that comes together with a resume, a bus reset or a detach, in either
order, where the LINK request of an expiry taken first is dropped (R171). That an observation comes together with the expiry when its
act is the next command waiting is log entry 39. An ATTEMPT_TIMER_EXPIRY or WAKE_PULSE_EXPIRY with nothing running changes nothing by
log entry 3. -/
def Obligations.WakesAndAttempts : Prop :=
  (∀ (n : Nat) (s : State), s.profile.state ≠ .loading → 6 ≤ n →
    ∃ t, exec (.wake n) s = .next t ∧ Answers 0x70 .outOfRange [] s t ∧ OnlyChanges [.link] s t) ∧
  (∀ (c : Computer) (s : State), s.profile.state ≠ .loading → s.powerState c = .absent ∨ s.powerState c = .starting →
    ∃ t, exec (.wake c) s = .next t ∧ Answers 0x70 .notPresent [] s t ∧ OnlyChanges [.link] s t) ∧
  (∀ (c : Computer) (s : State), s.profile.state ≠ .loading → s.powerState c = .awake ∨ s.powerState c = .waking →
    ∃ t, exec (.wake c) s = .next t ∧ Answers 0x70 .ok [(s.powerState c).code] s t ∧ OnlyChanges [.link] s t) ∧
  (∀ (c : Computer) (m : Method) (s : State), s.profile.state ≠ .loading → PortsAgree s →
    s.powerState c = .asleep ∨ s.powerState c = .unresponsive →
    (m = .link ∧ (s.port c).permission = true ∧ ¬((s.computer c).maxAttempts = 1 ∧ (s.computer c).wakeLine = true)) ∨
      (m = .line ∧ (s.computer c).wakeLine = true ∧ ((s.computer c).maxAttempts = 1 ∨ (s.port c).permission = false)) →
    ∃ t, exec (.wake c) s = .next t ∧ Answers 0x70 .accepted [4] s t ∧
      t.powerRec c = { (s.powerRec c) with
        state := .waking, attempt := 1, method := some m, timer := some ⟨s.now, (s.computer c).timeout * 1000⟩,
        pulse := if m = .line ∧ (s.powerRec c).pulse = none then some ⟨s.now, (s.computer c).pulseWidth * 1000⟩
          else (s.powerRec c).pulse,
        wakeHigh := if m = .line ∧ (s.powerRec c).pulse = none then (s.computer c).activeHigh
          else (s.powerRec c).wakeHigh } ∧
      (m = .link → .resumeSignal c ∈ t.out) ∧ OthersKept [c] s t ∧ Raised (.computerState c) t ∧
      Quiet [.computerState] s t ∧ OnlyChanges [.link, .power, .status, .lines] s t) ∧
  (∀ (c : Computer) (s : State), s.profile.state ≠ .loading → s.powerState c = .asleep → (s.port c).permission = false →
    (s.computer c).wakeLine = false →
    ∃ t, exec (.wake c) s = .next t ∧ Answers 0x70 .ok [5] s t ∧
      t.powerRec c = { (s.powerRec c) with state := .unresponsive, attempt := 0, timer := none, method := none } ∧
      t.port c = (s.port c).discard ∧ (t.port c).queue = [] ∧ (t.committedKeys c).isEmpty = true ∧
      t.committedButtons c = 0 ∧ OthersKept [c] s t ∧ Raised (.computerState c) t ∧ Raised (.wakeFailed c) t ∧
      t.status.wakeHolds = true ∧ Quiet [.computerState, .wakeFailed] s t ∧
      OnlyChanges [.link, .power, .ports, .keyboard, .status, .lines] s t) ∧
  (∀ (c : Computer) (s : State), s.profile.state ≠ .loading → s.powerState c = .unresponsive →
    (s.port c).permission = false → (s.computer c).wakeLine = false →
    ∃ t, exec (.wake c) s = .next t ∧ Answers 0x70 .ok [5] s t ∧ Raised (.wakeFailed c) t ∧ Quiet [.wakeFailed] s t ∧
      OnlyChanges [.link, .status, .lines] s t) ∧
  (∀ (c : Computer) (s : State), (s.powerRec c).timer = none →
    ∃ t, exec (.attemptTimerExpiry c) s = .next t ∧ OnlyChanges [] s t) ∧
  (∀ (c : Computer) (tm : Timer) (s : State), (s.powerRec c).timer = some tm → s.powerState c = .waking →
    (s.powerRec c).attempt < (s.computer c).maxAttempts → (s.port c).permission = true ∨ (s.computer c).wakeLine = true →
    ∃ t, exec (.attemptTimerExpiry c) s = .next t ∧ t.now = max s.now tm.due ∧
      (t.powerRec c).state = .waking ∧ (t.powerRec c).attempt = (s.powerRec c).attempt + 1 ∧
      (t.powerRec c).timer = some ⟨max s.now tm.due, (s.computer c).timeout * 1000⟩ ∧
      (t.powerRec c).method = some (if (s.port c).permission = true ∧
        ((s.powerRec c).attempt + 1 ≠ (s.computer c).maxAttempts ∨ (s.computer c).wakeLine = false) then .link else .line) ∧
      OthersKept [c] s t ∧ OnlyChanges [.now, .power] s t) ∧
  (∀ (c : Computer) (tm : Timer) (s : State), (s.powerRec c).timer = some tm → s.powerState c = .waking →
    (s.computer c).maxAttempts ≤ (s.powerRec c).attempt ∨
      ((s.port c).permission = false ∧ (s.computer c).wakeLine = false) →
    ∃ t, exec (.attemptTimerExpiry c) s = .next t ∧ t.now = max s.now tm.due ∧
      t.powerRec c = { (s.powerRec c) with state := .unresponsive, attempt := 0, timer := none, method := none } ∧
      t.port c = (s.port c).discard ∧ OthersKept [c] s t ∧ Raised (.computerState c) t ∧ Raised (.wakeFailed c) t ∧
      OnlyChanges [.now, .power, .ports, .keyboard, .status, .lines] s t) ∧
  (∀ (c : Computer) (tm : Timer) (m : Method) (s : State), PortsAgree s → (s.powerRec c).timer = some tm →
    s.powerState c = .waking → (s.powerRec c).attempt < (s.computer c).maxAttempts →
    (m = .link ∧ (s.port c).permission = true ∧
        ¬((s.powerRec c).attempt + 1 = (s.computer c).maxAttempts ∧ (s.computer c).wakeLine = true)) ∨
      (m = .line ∧ (s.computer c).wakeLine = true ∧
        ((s.powerRec c).attempt + 1 = (s.computer c).maxAttempts ∨ (s.port c).permission = false)) →
    ∃ t, exec (.attemptTimerExpiry c) s = .next t ∧
      t.powerRec c = { (s.powerRec c) with
        attempt := (s.powerRec c).attempt + 1, method := some m,
        timer := some ⟨max s.now tm.due, (s.computer c).timeout * 1000⟩,
        pulse := if m = .line ∧ (s.powerRec c).pulse = none then
          some ⟨max s.now tm.due, (s.computer c).pulseWidth * 1000⟩ else (s.powerRec c).pulse,
        wakeHigh := if m = .line ∧ (s.powerRec c).pulse = none then (s.computer c).activeHigh
          else (s.powerRec c).wakeHigh } ∧
      t.out = (if m = .link ∧ s.pending.head? ≠ some (.busActivity c) ∧ s.pending.head? ≠ some (.busReset c) ∧
        s.pending.head? ≠ some (.busPowerDisappears c) then [.resumeSignal c] else [])) ∧
  (∀ (c : Computer) (tm : Timer) (act : Instr) (st : PowerState) (s : State), PortsAgree s → (s.powerRec c).timer = some tm →
    s.powerState c = .waking → EndsSuspension act c st → s.pending.head? = some act →
    (s.powerRec c).attempt < (s.computer c).maxAttempts → (s.port c).permission = true ∨ (s.computer c).wakeLine = true →
    ∃ t u, exec (.attemptTimerExpiry c) s = .next t ∧ exec act t = .next u ∧ t.out = [] ∧ t.powerState c = .waking ∧
      (t.powerRec c).attempt = (s.powerRec c).attempt + 1 ∧ t.port c = s.port c ∧ t.event .wakeFailed = s.event .wakeFailed ∧
      u.powerRec c = { (s.powerRec c) with
        state := st, attempt := 0, timer := none, method := none, pulse := none, wakeHigh := !(s.computer c).activeHigh } ∧
      Raised (.computerState c) u ∧ .resumeSignal c ∉ u.out ∧
      (st = .awake → u.port c = { (s.port c) with observed := .configured })) ∧
  (∀ (c : Computer) (tm : Timer) (act : Instr) (st : PowerState) (s : State), PortsAgree s → (s.powerRec c).timer = some tm →
    s.powerState c = .waking → EndsSuspension act c st → (s.computer c).maxAttempts ≤ (s.powerRec c).attempt →
    ∃ t u, exec (.attemptTimerExpiry c) s = .next t ∧ exec act t = .next u ∧ t.powerState c = .unresponsive ∧
      Raised (.wakeFailed c) t ∧ u.powerState c = st ∧ (u.powerRec c).pulse = none ∧ (u.event .wakeFailed).isPending = true ∧
      Raised (.computerState c) u ∧
      (st = .awake → u.port c = { (s.port c).discard with observed := .configured })) ∧
  (∀ (c : Computer) (act : Instr) (st : PowerState) (s : State), PortsAgree s → s.powerState c = .waking →
    EndsSuspension act c st →
    ∃ t u, exec act s = .next t ∧ exec (.attemptTimerExpiry c) t = .next u ∧ t.powerState c = st ∧
      (t.powerRec c).timer = none ∧ OnlyChanges [] t u ∧
      (st = .awake → t.port c = { (s.port c) with observed := .configured })) ∧
  (∀ (c : Computer) (s : State), (s.powerRec c).pulse = none →
    ∃ t, exec (.wakePulseExpiry c) s = .next t ∧ OnlyChanges [] s t) ∧
  (∀ (c : Computer) (tm : Timer) (s : State), (s.powerRec c).pulse = some tm →
    ∃ t, exec (.wakePulseExpiry c) s = .next t ∧ t.now = max s.now tm.due ∧
      t.powerRec c = { (s.powerRec c) with pulse := none, wakeHigh := !(s.computer c).activeHigh } ∧
      (∀ d : Computer, d ≠ c → t.powerRec d = s.powerRec d) ∧ OnlyChanges [.now, .power] s t)

/-- SET_DESK_POWER with settings and without, DESK_STANDBY, the idle time that reaches a threshold, with what the screens do as
the desk enters low power, and the motion window's expiry (R46, R47, R177 to R181, R183, R204). A threshold or a window that is
not in force changes nothing by log entry 3; the window time left is rounded down by log entry 20. -/
def Obligations.DeskPowerRules : Prop :=
  (∀ (sv sc ov oc dz rw : Nat) (s : State), s.profile.state = .ready →
    63 < sv ∨ 2 < sc ∨ 63 < ov ∨ 2 < oc ∨ dz = 0 ∨ 255 < dz ∨ 2 ≤ rw →
    ∃ t, exec (.setDeskPower sv sc ov oc dz rw) s = .next t ∧ Answers 0x71 .outOfRange [] s t ∧ OnlyChanges [.link] s t) ∧
  (∀ (sv sc ov oc dz : Nat) (rw : Bool) (s : State), s.profile.state = .ready →
    sv ≤ 63 → sc ≤ 2 → ov ≤ 63 → oc ≤ 2 → 1 ≤ dz → dz ≤ 255 →
    ∃ t u, exec (.setDeskPower sv sc ov oc dz rw.toNat) s = .next t ∧
      t.desk = { s.desk with
        standbyValue := sv, standbyScale := sc, offValue := ov, offScale := oc, deadZone := dz, resumeWake := rw,
        idleStart := if s.desk.state = .off then s.desk.idleStart else some s.now } ∧
      Answers 0x71 .ok (deskReply t) s t ∧ OnlyChanges [.link, .desk] s t ∧
      exec .setDeskPowerRead t = .next u ∧ Answers 0x71 .ok (deskReply t) t u ∧ OnlyChanges [.link] t u) ∧
  (∀ s : State, s.profile.state ≠ .loading →
    ∃ t, exec .setDeskPowerRead s = .next t ∧ OnlyChanges [.link] s t ∧
      Answers 0x71 .ok ([byte s.desk.standbyValue, byte s.desk.standbyScale, byte s.desk.offValue, byte s.desk.offScale,
          byte s.desk.deadZone, if s.desk.resumeWake then 1 else 0, s.desk.state.code,
          if s.desk.idleStart.isSome then 1 else 0] ++
        word (match s.desk.idleStart with | none => 0 | some u => min 65535 ((s.now - u) / 100000)) ++
        (match s.desk.window with
          | none => ([0, 0, 0, 0, 0] : List Byte)
          | some w => (1 : Byte) :: (word w.sum ++ word ((w.timer.due - s.now) / 1000)))) s t) ∧
  (∀ d : Desk, (d.standbyScale = 0 → d.standbyAfter = d.standbyValue * 1000000) ∧
    (d.standbyScale = 1 → d.standbyAfter = d.standbyValue * 10000000) ∧
    (d.standbyScale = 2 → d.standbyAfter = d.standbyValue * 60000000) ∧
    (d.offScale = 0 → d.offAfter = d.offValue * 1000000) ∧ (d.offScale = 1 → d.offAfter = d.offValue * 10000000) ∧
    (d.offScale = 2 → d.offAfter = d.offValue * 60000000)) ∧
  (∀ s : State, s.profile.state ≠ .loading → s.desk.state ≠ .active →
    ∃ t, exec .deskStandby s = .next t ∧ Answers 0x72 .ok [s.desk.state.code] s t ∧ OnlyChanges [.link] s t) ∧
  (∀ (i : Instr) (n : Nat) (s : State), s.desk.state = .active →
    (i = .deskStandby ∧ n = s.now ∧ s.profile.state ≠ .loading) ∨
      (∃ t0, i = .idleThresholdReached ∧ s.desk.idleStart = some t0 ∧ n = max s.now (t0 + s.desk.standbyAfter) ∧
        s.desk.standbyAfter ≠ 0 ∧ (s.desk.offAfter = 0 ∨ s.desk.standbyAfter < s.desk.offAfter)) →
    ∃ t, exec i s = .next t ∧ t.now = n ∧ (i = .deskStandby → Answers 0x72 .ok [1] s t) ∧
      t.desk = { s.desk with state := .standby, window := none } ∧ Raised (.deskPower .standby) t ∧
      (∀ j : ScreenId, (s.screenRec j).state.isOn = true → t.screenRec j = { (s.screenRec j) with
        state := .standby, waiting := none, linkTimer := none, powerTimer := none, lockView := false,
        selected := some .standby,
        current := if (s.screenRec j).waiting.isSome then (s.screenRec j).waiting else (s.screenRec j).current }) ∧
      (∀ j : ScreenId, (s.screenRec j).state = .powering → t.screenRec j = { (s.screenRec j) with
        state := .standby, linkTimer := none, powerTimer := none, lockView := false, selected := some .standby }) ∧
      (∀ j : ScreenId, (s.screenRec j).state = .unused ∨ (s.screenRec j).state = .standby ∨ (s.screenRec j).state = .off →
        t.screenRec j = s.screenRec j) ∧
      OnlyChanges [.link, .now, .desk, .screens, .pointer, .ports, .power, .status, .lines] s t) ∧
  (∀ (t0 : Nat) (s : State), s.desk.idleStart = some t0 → s.desk.offAfter ≠ 0 →
    s.desk.state = .standby ∨
      (s.desk.state = .active ∧ (s.desk.standbyAfter = 0 ∨ s.desk.offAfter ≤ s.desk.standbyAfter)) →
    ∃ t, exec .idleThresholdReached s = .next t ∧ t.now = max s.now (t0 + s.desk.offAfter) ∧
      t.desk = { s.desk with state := .off, idleStart := none, window := none } ∧ Raised (.deskPower .off) t ∧
      (∀ j : ScreenId, (s.screenRec j).state.isOn = true → t.screenRec j = { (s.screenRec j) with
        state := .off, waiting := none, linkTimer := none, powerTimer := none, lockView := false, selected := some .off,
        current := if (s.screenRec j).waiting.isSome then (s.screenRec j).waiting else (s.screenRec j).current }) ∧
      (∀ j : ScreenId, (s.screenRec j).state = .powering ∨ (s.screenRec j).state = .standby →
        t.screenRec j = { (s.screenRec j) with
          state := .off, linkTimer := none, powerTimer := none, lockView := false, selected := some .off }) ∧
      (∀ j : ScreenId, (s.screenRec j).state = .unused ∨ (s.screenRec j).state = .off → t.screenRec j = s.screenRec j) ∧
      OnlyChanges [.now, .desk, .screens, .pointer, .ports, .power, .status, .lines] s t) ∧
  (∀ s : State, s.desk.idleStart = none ∨ s.desk.state = .off ∨
      (s.desk.state = .active ∧ s.desk.standbyAfter = 0 ∧ s.desk.offAfter = 0) ∨
      (s.desk.state = .standby ∧ s.desk.offAfter = 0) →
    ∃ t, exec .idleThresholdReached s = .next t ∧ OnlyChanges [] s t) ∧
  (∀ s : State, s.desk.window = none → ∃ t, exec .motionWindowExpiry s = .next t ∧ OnlyChanges [] s t) ∧
  (∀ (w : MotionWindow) (s : State), s.desk.window = some w →
    ∃ t, exec .motionWindowExpiry s = .next t ∧ t.now = max s.now w.timer.due ∧ t.desk = { s.desk with window := none } ∧
      OnlyChanges [.now, .desk] s t)

/-! ### The laws that every step keeps -/

/-- Every step keeps the memory in its canonical form, the receive queue within its capacities (R187) and the assembly's fields in
agreement with its state (R185). -/
def Obligations.MemoryAndLinkKept : Prop := Kept CanonicalMemory ∧ Kept ReceiveQueueFits ∧ Kept AssemblyAgrees

/-- Every step keeps the attention line at its rule (R190), the level conditions at their owners' states (R189) and the OUTPUT lines
at their sources (R141). -/
def Obligations.StatusLawsKept : Prop := Kept AttentionFollows ∧ Kept ConditionsAgree ∧ Kept OutputsFollow

/-- Every step keeps the layout's laws: screens apart and in the plane (R2), heads inside their desktops (R8), bindings to defined
heads and one to a head (R11), and the hotkey triggers apart (R116). -/
def Obligations.LayoutLawsKept : Prop :=
  Kept ScreensApart ∧ Kept HeadsInside ∧ Kept BindingsAgree ∧ Kept HotkeysApart

/-- Every step keeps the channels (R18), the screens (R31, R34), the policy of private heads (R10) and the scene in flight (R52). -/
def Obligations.ChannelsAndScreensKept : Prop :=
  Kept ChannelsAgree ∧ Kept ScreensAgree ∧ Kept PolicyKept ∧ Kept SceneUnsettled

/-- Every step keeps the pointer on an eligible screen of the computer it focuses, or parked with no focus (R59, R82). -/
def Obligations.PointerHomeKept : Prop := Kept PointerHome

/-- Every step keeps the hold queues within 32 entries (R146), the power states in agreement with the ports (R163), the queues of
absent and unresponsive computers empty (R160) and the attempts with their state (R163). -/
def Obligations.PortLawsKept : Prop :=
  Kept HoldQueuesFit ∧ Kept PortsAgree ∧ Kept AwayQueuesEmpty ∧ Kept AttemptsAgree

/-- Every step keeps the desk held set within 14 distinct keys (R93), no key committed but at the key-focus computer (R101), no button
but at the stand-in computer (R77), and the swallow set inside the button set (R73). -/
def Obligations.HeldAndReleasedKept : Prop :=
  Kept HeldSetFits ∧ Kept KeysHome ∧ Kept ButtonsHome ∧ Kept SwallowInside

/-- Every step keeps the accumulators (R64), the ballistics (R60) and the coordinates (R72) in their ranges, and the idle timer
running while the desk is not OFF (R177). -/
def Obligations.RangesKept : Prop :=
  Kept AccumulatorsFit ∧ Kept BallisticsFit ∧ Kept CoordinatesFit ∧ Kept IdleTimerRuns


end
end

