-- ==== Sys2Proof/Laws/State.lean ====
section
/-!
SUPPORT. One lemma for each field and each update of State, true by unfolding, so that no proof unfolds a record update; and what a
read of one record gives after a write of one.
-/

set_option Elab.async false
namespace Sys2Proof.Machine
open Sys2Proof

/-! ### setLink -/

@[simp] theorem State.setLink_now (x : Link) (s : State) : (s.setLink x).now = s.now := rfl
@[simp] theorem State.setLink_link (x : Link) (s : State) : (s.setLink x).link = x := rfl
@[simp] theorem State.setLink_status (x : Link) (s : State) : (s.setLink x).status = s.status := rfl
@[simp] theorem State.setLink_profile (x : Link) (s : State) : (s.setLink x).profile = s.profile := rfl
@[simp] theorem State.setLink_layout (x : Link) (s : State) : (s.setLink x).layout = s.layout := rfl
@[simp] theorem State.setLink_sync (x : Link) (s : State) : (s.setLink x).sync = s.sync := rfl
@[simp] theorem State.setLink_screens (x : Link) (s : State) : (s.setLink x).screens = s.screens := rfl
@[simp] theorem State.setLink_pointer (x : Link) (s : State) : (s.setLink x).pointer = s.pointer := rfl
@[simp] theorem State.setLink_keyboard (x : Link) (s : State) : (s.setLink x).keyboard = s.keyboard := rfl
@[simp] theorem State.setLink_matcher (x : Link) (s : State) : (s.setLink x).matcher = s.matcher := rfl
@[simp] theorem State.setLink_lines (x : Link) (s : State) : (s.setLink x).lines = s.lines := rfl
@[simp] theorem State.setLink_ports (x : Link) (s : State) : (s.setLink x).ports = s.ports := rfl
@[simp] theorem State.setLink_power (x : Link) (s : State) : (s.setLink x).power = s.power := rfl
@[simp] theorem State.setLink_desk (x : Link) (s : State) : (s.setLink x).desk = s.desk := rfl
@[simp] theorem State.setLink_freeCount (x : Link) (s : State) : (s.setLink x).freeCount = s.freeCount := rfl
@[simp] theorem State.setLink_out (x : Link) (s : State) : (s.setLink x).out = s.out := rfl
@[simp] theorem State.setLink_pending (x : Link) (s : State) : (s.setLink x).pending = s.pending := rfl

/-! ### setStatus -/

@[simp] theorem State.setStatus_now (x : Status) (s : State) : (s.setStatus x).now = s.now := rfl
@[simp] theorem State.setStatus_link (x : Status) (s : State) : (s.setStatus x).link = s.link := rfl
@[simp] theorem State.setStatus_status (x : Status) (s : State) : (s.setStatus x).status = x := rfl
@[simp] theorem State.setStatus_profile (x : Status) (s : State) : (s.setStatus x).profile = s.profile := rfl
@[simp] theorem State.setStatus_layout (x : Status) (s : State) : (s.setStatus x).layout = s.layout := rfl
@[simp] theorem State.setStatus_sync (x : Status) (s : State) : (s.setStatus x).sync = s.sync := rfl
@[simp] theorem State.setStatus_screens (x : Status) (s : State) : (s.setStatus x).screens = s.screens := rfl
@[simp] theorem State.setStatus_pointer (x : Status) (s : State) : (s.setStatus x).pointer = s.pointer := rfl
@[simp] theorem State.setStatus_keyboard (x : Status) (s : State) : (s.setStatus x).keyboard = s.keyboard := rfl
@[simp] theorem State.setStatus_matcher (x : Status) (s : State) : (s.setStatus x).matcher = s.matcher := rfl
@[simp] theorem State.setStatus_lines (x : Status) (s : State) : (s.setStatus x).lines = s.lines := rfl
@[simp] theorem State.setStatus_ports (x : Status) (s : State) : (s.setStatus x).ports = s.ports := rfl
@[simp] theorem State.setStatus_power (x : Status) (s : State) : (s.setStatus x).power = s.power := rfl
@[simp] theorem State.setStatus_desk (x : Status) (s : State) : (s.setStatus x).desk = s.desk := rfl
@[simp] theorem State.setStatus_freeCount (x : Status) (s : State) : (s.setStatus x).freeCount = s.freeCount := rfl
@[simp] theorem State.setStatus_out (x : Status) (s : State) : (s.setStatus x).out = s.out := rfl
@[simp] theorem State.setStatus_pending (x : Status) (s : State) : (s.setStatus x).pending = s.pending := rfl

/-! ### setProfile -/

@[simp] theorem State.setProfile_now (x : Profile) (s : State) : (s.setProfile x).now = s.now := rfl
@[simp] theorem State.setProfile_link (x : Profile) (s : State) : (s.setProfile x).link = s.link := rfl
@[simp] theorem State.setProfile_status (x : Profile) (s : State) : (s.setProfile x).status = s.status := rfl
@[simp] theorem State.setProfile_profile (x : Profile) (s : State) : (s.setProfile x).profile = x := rfl
@[simp] theorem State.setProfile_layout (x : Profile) (s : State) : (s.setProfile x).layout = s.layout := rfl
@[simp] theorem State.setProfile_sync (x : Profile) (s : State) : (s.setProfile x).sync = s.sync := rfl
@[simp] theorem State.setProfile_screens (x : Profile) (s : State) : (s.setProfile x).screens = s.screens := rfl
@[simp] theorem State.setProfile_pointer (x : Profile) (s : State) : (s.setProfile x).pointer = s.pointer := rfl
@[simp] theorem State.setProfile_keyboard (x : Profile) (s : State) : (s.setProfile x).keyboard = s.keyboard := rfl
@[simp] theorem State.setProfile_matcher (x : Profile) (s : State) : (s.setProfile x).matcher = s.matcher := rfl
@[simp] theorem State.setProfile_lines (x : Profile) (s : State) : (s.setProfile x).lines = s.lines := rfl
@[simp] theorem State.setProfile_ports (x : Profile) (s : State) : (s.setProfile x).ports = s.ports := rfl
@[simp] theorem State.setProfile_power (x : Profile) (s : State) : (s.setProfile x).power = s.power := rfl
@[simp] theorem State.setProfile_desk (x : Profile) (s : State) : (s.setProfile x).desk = s.desk := rfl
@[simp] theorem State.setProfile_freeCount (x : Profile) (s : State) : (s.setProfile x).freeCount = s.freeCount := rfl
@[simp] theorem State.setProfile_out (x : Profile) (s : State) : (s.setProfile x).out = s.out := rfl
@[simp] theorem State.setProfile_pending (x : Profile) (s : State) : (s.setProfile x).pending = s.pending := rfl

/-! ### setLayout -/

@[simp] theorem State.setLayout_now (x : Layout) (s : State) : (s.setLayout x).now = s.now := rfl
@[simp] theorem State.setLayout_link (x : Layout) (s : State) : (s.setLayout x).link = s.link := rfl
@[simp] theorem State.setLayout_status (x : Layout) (s : State) : (s.setLayout x).status = s.status := rfl
@[simp] theorem State.setLayout_profile (x : Layout) (s : State) : (s.setLayout x).profile = s.profile := rfl
@[simp] theorem State.setLayout_layout (x : Layout) (s : State) : (s.setLayout x).layout = x := rfl
@[simp] theorem State.setLayout_sync (x : Layout) (s : State) : (s.setLayout x).sync = s.sync := rfl
@[simp] theorem State.setLayout_screens (x : Layout) (s : State) : (s.setLayout x).screens = s.screens := rfl
@[simp] theorem State.setLayout_pointer (x : Layout) (s : State) : (s.setLayout x).pointer = s.pointer := rfl
@[simp] theorem State.setLayout_keyboard (x : Layout) (s : State) : (s.setLayout x).keyboard = s.keyboard := rfl
@[simp] theorem State.setLayout_matcher (x : Layout) (s : State) : (s.setLayout x).matcher = s.matcher := rfl
@[simp] theorem State.setLayout_lines (x : Layout) (s : State) : (s.setLayout x).lines = s.lines := rfl
@[simp] theorem State.setLayout_ports (x : Layout) (s : State) : (s.setLayout x).ports = s.ports := rfl
@[simp] theorem State.setLayout_power (x : Layout) (s : State) : (s.setLayout x).power = s.power := rfl
@[simp] theorem State.setLayout_desk (x : Layout) (s : State) : (s.setLayout x).desk = s.desk := rfl
@[simp] theorem State.setLayout_freeCount (x : Layout) (s : State) : (s.setLayout x).freeCount = s.freeCount := rfl
@[simp] theorem State.setLayout_out (x : Layout) (s : State) : (s.setLayout x).out = s.out := rfl
@[simp] theorem State.setLayout_pending (x : Layout) (s : State) : (s.setLayout x).pending = s.pending := rfl

/-! ### setScreens -/

@[simp] theorem State.setScreens_now (x : ScreenController) (s : State) : (s.setScreens x).now = s.now := rfl
@[simp] theorem State.setScreens_link (x : ScreenController) (s : State) : (s.setScreens x).link = s.link := rfl
@[simp] theorem State.setScreens_status (x : ScreenController) (s : State) : (s.setScreens x).status = s.status := rfl
@[simp] theorem State.setScreens_profile (x : ScreenController) (s : State) : (s.setScreens x).profile = s.profile := rfl
@[simp] theorem State.setScreens_layout (x : ScreenController) (s : State) : (s.setScreens x).layout = s.layout := rfl
@[simp] theorem State.setScreens_sync (x : ScreenController) (s : State) : (s.setScreens x).sync = s.sync := rfl
@[simp] theorem State.setScreens_screens (x : ScreenController) (s : State) : (s.setScreens x).screens = x := rfl
@[simp] theorem State.setScreens_pointer (x : ScreenController) (s : State) : (s.setScreens x).pointer = s.pointer := rfl
@[simp] theorem State.setScreens_keyboard (x : ScreenController) (s : State) : (s.setScreens x).keyboard = s.keyboard := rfl
@[simp] theorem State.setScreens_matcher (x : ScreenController) (s : State) : (s.setScreens x).matcher = s.matcher := rfl
@[simp] theorem State.setScreens_lines (x : ScreenController) (s : State) : (s.setScreens x).lines = s.lines := rfl
@[simp] theorem State.setScreens_ports (x : ScreenController) (s : State) : (s.setScreens x).ports = s.ports := rfl
@[simp] theorem State.setScreens_power (x : ScreenController) (s : State) : (s.setScreens x).power = s.power := rfl
@[simp] theorem State.setScreens_desk (x : ScreenController) (s : State) : (s.setScreens x).desk = s.desk := rfl
@[simp] theorem State.setScreens_freeCount (x : ScreenController) (s : State) : (s.setScreens x).freeCount = s.freeCount := rfl
@[simp] theorem State.setScreens_out (x : ScreenController) (s : State) : (s.setScreens x).out = s.out := rfl
@[simp] theorem State.setScreens_pending (x : ScreenController) (s : State) : (s.setScreens x).pending = s.pending := rfl

/-! ### setPointer -/

@[simp] theorem State.setPointer_now (x : PointerEngine) (s : State) : (s.setPointer x).now = s.now := rfl
@[simp] theorem State.setPointer_link (x : PointerEngine) (s : State) : (s.setPointer x).link = s.link := rfl
@[simp] theorem State.setPointer_status (x : PointerEngine) (s : State) : (s.setPointer x).status = s.status := rfl
@[simp] theorem State.setPointer_profile (x : PointerEngine) (s : State) : (s.setPointer x).profile = s.profile := rfl
@[simp] theorem State.setPointer_layout (x : PointerEngine) (s : State) : (s.setPointer x).layout = s.layout := rfl
@[simp] theorem State.setPointer_sync (x : PointerEngine) (s : State) : (s.setPointer x).sync = s.sync := rfl
@[simp] theorem State.setPointer_screens (x : PointerEngine) (s : State) : (s.setPointer x).screens = s.screens := rfl
@[simp] theorem State.setPointer_pointer (x : PointerEngine) (s : State) : (s.setPointer x).pointer = x := rfl
@[simp] theorem State.setPointer_keyboard (x : PointerEngine) (s : State) : (s.setPointer x).keyboard = s.keyboard := rfl
@[simp] theorem State.setPointer_matcher (x : PointerEngine) (s : State) : (s.setPointer x).matcher = s.matcher := rfl
@[simp] theorem State.setPointer_lines (x : PointerEngine) (s : State) : (s.setPointer x).lines = s.lines := rfl
@[simp] theorem State.setPointer_ports (x : PointerEngine) (s : State) : (s.setPointer x).ports = s.ports := rfl
@[simp] theorem State.setPointer_power (x : PointerEngine) (s : State) : (s.setPointer x).power = s.power := rfl
@[simp] theorem State.setPointer_desk (x : PointerEngine) (s : State) : (s.setPointer x).desk = s.desk := rfl
@[simp] theorem State.setPointer_freeCount (x : PointerEngine) (s : State) : (s.setPointer x).freeCount = s.freeCount := rfl
@[simp] theorem State.setPointer_out (x : PointerEngine) (s : State) : (s.setPointer x).out = s.out := rfl
@[simp] theorem State.setPointer_pending (x : PointerEngine) (s : State) : (s.setPointer x).pending = s.pending := rfl

/-! ### setKeyboard -/

@[simp] theorem State.setKeyboard_now (x : KeyboardEngine) (s : State) : (s.setKeyboard x).now = s.now := rfl
@[simp] theorem State.setKeyboard_link (x : KeyboardEngine) (s : State) : (s.setKeyboard x).link = s.link := rfl
@[simp] theorem State.setKeyboard_status (x : KeyboardEngine) (s : State) : (s.setKeyboard x).status = s.status := rfl
@[simp] theorem State.setKeyboard_profile (x : KeyboardEngine) (s : State) : (s.setKeyboard x).profile = s.profile := rfl
@[simp] theorem State.setKeyboard_layout (x : KeyboardEngine) (s : State) : (s.setKeyboard x).layout = s.layout := rfl
@[simp] theorem State.setKeyboard_sync (x : KeyboardEngine) (s : State) : (s.setKeyboard x).sync = s.sync := rfl
@[simp] theorem State.setKeyboard_screens (x : KeyboardEngine) (s : State) : (s.setKeyboard x).screens = s.screens := rfl
@[simp] theorem State.setKeyboard_pointer (x : KeyboardEngine) (s : State) : (s.setKeyboard x).pointer = s.pointer := rfl
@[simp] theorem State.setKeyboard_keyboard (x : KeyboardEngine) (s : State) : (s.setKeyboard x).keyboard = x := rfl
@[simp] theorem State.setKeyboard_matcher (x : KeyboardEngine) (s : State) : (s.setKeyboard x).matcher = s.matcher := rfl
@[simp] theorem State.setKeyboard_lines (x : KeyboardEngine) (s : State) : (s.setKeyboard x).lines = s.lines := rfl
@[simp] theorem State.setKeyboard_ports (x : KeyboardEngine) (s : State) : (s.setKeyboard x).ports = s.ports := rfl
@[simp] theorem State.setKeyboard_power (x : KeyboardEngine) (s : State) : (s.setKeyboard x).power = s.power := rfl
@[simp] theorem State.setKeyboard_desk (x : KeyboardEngine) (s : State) : (s.setKeyboard x).desk = s.desk := rfl
@[simp] theorem State.setKeyboard_freeCount (x : KeyboardEngine) (s : State) : (s.setKeyboard x).freeCount = s.freeCount := rfl
@[simp] theorem State.setKeyboard_out (x : KeyboardEngine) (s : State) : (s.setKeyboard x).out = s.out := rfl
@[simp] theorem State.setKeyboard_pending (x : KeyboardEngine) (s : State) : (s.setKeyboard x).pending = s.pending := rfl

/-! ### setMatcher -/

@[simp] theorem State.setMatcher_now (x : Matcher) (s : State) : (s.setMatcher x).now = s.now := rfl
@[simp] theorem State.setMatcher_link (x : Matcher) (s : State) : (s.setMatcher x).link = s.link := rfl
@[simp] theorem State.setMatcher_status (x : Matcher) (s : State) : (s.setMatcher x).status = s.status := rfl
@[simp] theorem State.setMatcher_profile (x : Matcher) (s : State) : (s.setMatcher x).profile = s.profile := rfl
@[simp] theorem State.setMatcher_layout (x : Matcher) (s : State) : (s.setMatcher x).layout = s.layout := rfl
@[simp] theorem State.setMatcher_sync (x : Matcher) (s : State) : (s.setMatcher x).sync = s.sync := rfl
@[simp] theorem State.setMatcher_screens (x : Matcher) (s : State) : (s.setMatcher x).screens = s.screens := rfl
@[simp] theorem State.setMatcher_pointer (x : Matcher) (s : State) : (s.setMatcher x).pointer = s.pointer := rfl
@[simp] theorem State.setMatcher_keyboard (x : Matcher) (s : State) : (s.setMatcher x).keyboard = s.keyboard := rfl
@[simp] theorem State.setMatcher_matcher (x : Matcher) (s : State) : (s.setMatcher x).matcher = x := rfl
@[simp] theorem State.setMatcher_lines (x : Matcher) (s : State) : (s.setMatcher x).lines = s.lines := rfl
@[simp] theorem State.setMatcher_ports (x : Matcher) (s : State) : (s.setMatcher x).ports = s.ports := rfl
@[simp] theorem State.setMatcher_power (x : Matcher) (s : State) : (s.setMatcher x).power = s.power := rfl
@[simp] theorem State.setMatcher_desk (x : Matcher) (s : State) : (s.setMatcher x).desk = s.desk := rfl
@[simp] theorem State.setMatcher_freeCount (x : Matcher) (s : State) : (s.setMatcher x).freeCount = s.freeCount := rfl
@[simp] theorem State.setMatcher_out (x : Matcher) (s : State) : (s.setMatcher x).out = s.out := rfl
@[simp] theorem State.setMatcher_pending (x : Matcher) (s : State) : (s.setMatcher x).pending = s.pending := rfl

/-! ### setLines -/

@[simp] theorem State.setLines_now (x : LineUnit) (s : State) : (s.setLines x).now = s.now := rfl
@[simp] theorem State.setLines_link (x : LineUnit) (s : State) : (s.setLines x).link = s.link := rfl
@[simp] theorem State.setLines_status (x : LineUnit) (s : State) : (s.setLines x).status = s.status := rfl
@[simp] theorem State.setLines_profile (x : LineUnit) (s : State) : (s.setLines x).profile = s.profile := rfl
@[simp] theorem State.setLines_layout (x : LineUnit) (s : State) : (s.setLines x).layout = s.layout := rfl
@[simp] theorem State.setLines_sync (x : LineUnit) (s : State) : (s.setLines x).sync = s.sync := rfl
@[simp] theorem State.setLines_screens (x : LineUnit) (s : State) : (s.setLines x).screens = s.screens := rfl
@[simp] theorem State.setLines_pointer (x : LineUnit) (s : State) : (s.setLines x).pointer = s.pointer := rfl
@[simp] theorem State.setLines_keyboard (x : LineUnit) (s : State) : (s.setLines x).keyboard = s.keyboard := rfl
@[simp] theorem State.setLines_matcher (x : LineUnit) (s : State) : (s.setLines x).matcher = s.matcher := rfl
@[simp] theorem State.setLines_lines (x : LineUnit) (s : State) : (s.setLines x).lines = x := rfl
@[simp] theorem State.setLines_ports (x : LineUnit) (s : State) : (s.setLines x).ports = s.ports := rfl
@[simp] theorem State.setLines_power (x : LineUnit) (s : State) : (s.setLines x).power = s.power := rfl
@[simp] theorem State.setLines_desk (x : LineUnit) (s : State) : (s.setLines x).desk = s.desk := rfl
@[simp] theorem State.setLines_freeCount (x : LineUnit) (s : State) : (s.setLines x).freeCount = s.freeCount := rfl
@[simp] theorem State.setLines_out (x : LineUnit) (s : State) : (s.setLines x).out = s.out := rfl
@[simp] theorem State.setLines_pending (x : LineUnit) (s : State) : (s.setLines x).pending = s.pending := rfl

/-! ### setDesk -/

@[simp] theorem State.setDesk_now (x : Desk) (s : State) : (s.setDesk x).now = s.now := rfl
@[simp] theorem State.setDesk_link (x : Desk) (s : State) : (s.setDesk x).link = s.link := rfl
@[simp] theorem State.setDesk_status (x : Desk) (s : State) : (s.setDesk x).status = s.status := rfl
@[simp] theorem State.setDesk_profile (x : Desk) (s : State) : (s.setDesk x).profile = s.profile := rfl
@[simp] theorem State.setDesk_layout (x : Desk) (s : State) : (s.setDesk x).layout = s.layout := rfl
@[simp] theorem State.setDesk_sync (x : Desk) (s : State) : (s.setDesk x).sync = s.sync := rfl
@[simp] theorem State.setDesk_screens (x : Desk) (s : State) : (s.setDesk x).screens = s.screens := rfl
@[simp] theorem State.setDesk_pointer (x : Desk) (s : State) : (s.setDesk x).pointer = s.pointer := rfl
@[simp] theorem State.setDesk_keyboard (x : Desk) (s : State) : (s.setDesk x).keyboard = s.keyboard := rfl
@[simp] theorem State.setDesk_matcher (x : Desk) (s : State) : (s.setDesk x).matcher = s.matcher := rfl
@[simp] theorem State.setDesk_lines (x : Desk) (s : State) : (s.setDesk x).lines = s.lines := rfl
@[simp] theorem State.setDesk_ports (x : Desk) (s : State) : (s.setDesk x).ports = s.ports := rfl
@[simp] theorem State.setDesk_power (x : Desk) (s : State) : (s.setDesk x).power = s.power := rfl
@[simp] theorem State.setDesk_desk (x : Desk) (s : State) : (s.setDesk x).desk = x := rfl
@[simp] theorem State.setDesk_freeCount (x : Desk) (s : State) : (s.setDesk x).freeCount = s.freeCount := rfl
@[simp] theorem State.setDesk_out (x : Desk) (s : State) : (s.setDesk x).out = s.out := rfl
@[simp] theorem State.setDesk_pending (x : Desk) (s : State) : (s.setDesk x).pending = s.pending := rfl

/-! ### setChannel -/

@[simp] theorem State.setChannel_now (v : InputId) (x : Channel) (s : State) : (s.setChannel v x).now = s.now := rfl
@[simp] theorem State.setChannel_link (v : InputId) (x : Channel) (s : State) : (s.setChannel v x).link = s.link := rfl
@[simp] theorem State.setChannel_status (v : InputId) (x : Channel) (s : State) : (s.setChannel v x).status = s.status := rfl
@[simp] theorem State.setChannel_profile (v : InputId) (x : Channel) (s : State) : (s.setChannel v x).profile = s.profile := rfl
@[simp] theorem State.setChannel_layout (v : InputId) (x : Channel) (s : State) : (s.setChannel v x).layout = s.layout := rfl
@[simp] theorem State.setChannel_sync (v : InputId) (x : Channel) (s : State) : (s.setChannel v x).sync = s.sync.set v x := rfl
@[simp] theorem State.setChannel_screens (v : InputId) (x : Channel) (s : State) : (s.setChannel v x).screens = s.screens := rfl
@[simp] theorem State.setChannel_pointer (v : InputId) (x : Channel) (s : State) : (s.setChannel v x).pointer = s.pointer := rfl
@[simp] theorem State.setChannel_keyboard (v : InputId) (x : Channel) (s : State) : (s.setChannel v x).keyboard = s.keyboard := rfl
@[simp] theorem State.setChannel_matcher (v : InputId) (x : Channel) (s : State) : (s.setChannel v x).matcher = s.matcher := rfl
@[simp] theorem State.setChannel_lines (v : InputId) (x : Channel) (s : State) : (s.setChannel v x).lines = s.lines := rfl
@[simp] theorem State.setChannel_ports (v : InputId) (x : Channel) (s : State) : (s.setChannel v x).ports = s.ports := rfl
@[simp] theorem State.setChannel_power (v : InputId) (x : Channel) (s : State) : (s.setChannel v x).power = s.power := rfl
@[simp] theorem State.setChannel_desk (v : InputId) (x : Channel) (s : State) : (s.setChannel v x).desk = s.desk := rfl
@[simp] theorem State.setChannel_freeCount (v : InputId) (x : Channel) (s : State) : (s.setChannel v x).freeCount = s.freeCount := rfl
@[simp] theorem State.setChannel_out (v : InputId) (x : Channel) (s : State) : (s.setChannel v x).out = s.out := rfl
@[simp] theorem State.setChannel_pending (v : InputId) (x : Channel) (s : State) : (s.setChannel v x).pending = s.pending := rfl

/-! ### setScreenRec -/

@[simp] theorem State.setScreenRec_now (i : ScreenId) (x : ScreenRec) (s : State) : (s.setScreenRec i x).now = s.now := rfl
@[simp] theorem State.setScreenRec_link (i : ScreenId) (x : ScreenRec) (s : State) : (s.setScreenRec i x).link = s.link := rfl
@[simp] theorem State.setScreenRec_status (i : ScreenId) (x : ScreenRec) (s : State) : (s.setScreenRec i x).status = s.status := rfl
@[simp] theorem State.setScreenRec_profile (i : ScreenId) (x : ScreenRec) (s : State) : (s.setScreenRec i x).profile = s.profile := rfl
@[simp] theorem State.setScreenRec_layout (i : ScreenId) (x : ScreenRec) (s : State) : (s.setScreenRec i x).layout = s.layout := rfl
@[simp] theorem State.setScreenRec_sync (i : ScreenId) (x : ScreenRec) (s : State) : (s.setScreenRec i x).sync = s.sync := rfl
@[simp] theorem State.setScreenRec_screens (i : ScreenId) (x : ScreenRec) (s : State) : (s.setScreenRec i x).screens = { s.screens with recs := s.screens.recs.set i x } := rfl
@[simp] theorem State.setScreenRec_pointer (i : ScreenId) (x : ScreenRec) (s : State) : (s.setScreenRec i x).pointer = s.pointer := rfl
@[simp] theorem State.setScreenRec_keyboard (i : ScreenId) (x : ScreenRec) (s : State) : (s.setScreenRec i x).keyboard = s.keyboard := rfl
@[simp] theorem State.setScreenRec_matcher (i : ScreenId) (x : ScreenRec) (s : State) : (s.setScreenRec i x).matcher = s.matcher := rfl
@[simp] theorem State.setScreenRec_lines (i : ScreenId) (x : ScreenRec) (s : State) : (s.setScreenRec i x).lines = s.lines := rfl
@[simp] theorem State.setScreenRec_ports (i : ScreenId) (x : ScreenRec) (s : State) : (s.setScreenRec i x).ports = s.ports := rfl
@[simp] theorem State.setScreenRec_power (i : ScreenId) (x : ScreenRec) (s : State) : (s.setScreenRec i x).power = s.power := rfl
@[simp] theorem State.setScreenRec_desk (i : ScreenId) (x : ScreenRec) (s : State) : (s.setScreenRec i x).desk = s.desk := rfl
@[simp] theorem State.setScreenRec_freeCount (i : ScreenId) (x : ScreenRec) (s : State) : (s.setScreenRec i x).freeCount = s.freeCount := rfl
@[simp] theorem State.setScreenRec_out (i : ScreenId) (x : ScreenRec) (s : State) : (s.setScreenRec i x).out = s.out := rfl
@[simp] theorem State.setScreenRec_pending (i : ScreenId) (x : ScreenRec) (s : State) : (s.setScreenRec i x).pending = s.pending := rfl

/-! ### setPort -/

@[simp] theorem State.setPort_now (c : Computer) (x : Port) (s : State) : (s.setPort c x).now = s.now := rfl
@[simp] theorem State.setPort_link (c : Computer) (x : Port) (s : State) : (s.setPort c x).link = s.link := rfl
@[simp] theorem State.setPort_status (c : Computer) (x : Port) (s : State) : (s.setPort c x).status = s.status := rfl
@[simp] theorem State.setPort_profile (c : Computer) (x : Port) (s : State) : (s.setPort c x).profile = s.profile := rfl
@[simp] theorem State.setPort_layout (c : Computer) (x : Port) (s : State) : (s.setPort c x).layout = s.layout := rfl
@[simp] theorem State.setPort_sync (c : Computer) (x : Port) (s : State) : (s.setPort c x).sync = s.sync := rfl
@[simp] theorem State.setPort_screens (c : Computer) (x : Port) (s : State) : (s.setPort c x).screens = s.screens := rfl
@[simp] theorem State.setPort_pointer (c : Computer) (x : Port) (s : State) : (s.setPort c x).pointer = s.pointer := rfl
@[simp] theorem State.setPort_keyboard (c : Computer) (x : Port) (s : State) : (s.setPort c x).keyboard = s.keyboard := rfl
@[simp] theorem State.setPort_matcher (c : Computer) (x : Port) (s : State) : (s.setPort c x).matcher = s.matcher := rfl
@[simp] theorem State.setPort_lines (c : Computer) (x : Port) (s : State) : (s.setPort c x).lines = s.lines := rfl
@[simp] theorem State.setPort_ports (c : Computer) (x : Port) (s : State) : (s.setPort c x).ports = s.ports.set c x := rfl
@[simp] theorem State.setPort_power (c : Computer) (x : Port) (s : State) : (s.setPort c x).power = s.power := rfl
@[simp] theorem State.setPort_desk (c : Computer) (x : Port) (s : State) : (s.setPort c x).desk = s.desk := rfl
@[simp] theorem State.setPort_freeCount (c : Computer) (x : Port) (s : State) : (s.setPort c x).freeCount = s.freeCount := rfl
@[simp] theorem State.setPort_out (c : Computer) (x : Port) (s : State) : (s.setPort c x).out = s.out := rfl
@[simp] theorem State.setPort_pending (c : Computer) (x : Port) (s : State) : (s.setPort c x).pending = s.pending := rfl

/-! ### setPowerRec -/

@[simp] theorem State.setPowerRec_now (c : Computer) (x : PowerRec) (s : State) : (s.setPowerRec c x).now = s.now := rfl
@[simp] theorem State.setPowerRec_link (c : Computer) (x : PowerRec) (s : State) : (s.setPowerRec c x).link = s.link := rfl
@[simp] theorem State.setPowerRec_status (c : Computer) (x : PowerRec) (s : State) : (s.setPowerRec c x).status = s.status := rfl
@[simp] theorem State.setPowerRec_profile (c : Computer) (x : PowerRec) (s : State) : (s.setPowerRec c x).profile = s.profile := rfl
@[simp] theorem State.setPowerRec_layout (c : Computer) (x : PowerRec) (s : State) : (s.setPowerRec c x).layout = s.layout := rfl
@[simp] theorem State.setPowerRec_sync (c : Computer) (x : PowerRec) (s : State) : (s.setPowerRec c x).sync = s.sync := rfl
@[simp] theorem State.setPowerRec_screens (c : Computer) (x : PowerRec) (s : State) : (s.setPowerRec c x).screens = s.screens := rfl
@[simp] theorem State.setPowerRec_pointer (c : Computer) (x : PowerRec) (s : State) : (s.setPowerRec c x).pointer = s.pointer := rfl
@[simp] theorem State.setPowerRec_keyboard (c : Computer) (x : PowerRec) (s : State) : (s.setPowerRec c x).keyboard = s.keyboard := rfl
@[simp] theorem State.setPowerRec_matcher (c : Computer) (x : PowerRec) (s : State) : (s.setPowerRec c x).matcher = s.matcher := rfl
@[simp] theorem State.setPowerRec_lines (c : Computer) (x : PowerRec) (s : State) : (s.setPowerRec c x).lines = s.lines := rfl
@[simp] theorem State.setPowerRec_ports (c : Computer) (x : PowerRec) (s : State) : (s.setPowerRec c x).ports = s.ports := rfl
@[simp] theorem State.setPowerRec_power (c : Computer) (x : PowerRec) (s : State) : (s.setPowerRec c x).power = s.power.set c x := rfl
@[simp] theorem State.setPowerRec_desk (c : Computer) (x : PowerRec) (s : State) : (s.setPowerRec c x).desk = s.desk := rfl
@[simp] theorem State.setPowerRec_freeCount (c : Computer) (x : PowerRec) (s : State) : (s.setPowerRec c x).freeCount = s.freeCount := rfl
@[simp] theorem State.setPowerRec_out (c : Computer) (x : PowerRec) (s : State) : (s.setPowerRec c x).out = s.out := rfl
@[simp] theorem State.setPowerRec_pending (c : Computer) (x : PowerRec) (s : State) : (s.setPowerRec c x).pending = s.pending := rfl

/-! ### setLineRec -/

@[simp] theorem State.setLineRec_now (l : LineId) (x : LineRec) (s : State) : (s.setLineRec l x).now = s.now := rfl
@[simp] theorem State.setLineRec_link (l : LineId) (x : LineRec) (s : State) : (s.setLineRec l x).link = s.link := rfl
@[simp] theorem State.setLineRec_status (l : LineId) (x : LineRec) (s : State) : (s.setLineRec l x).status = s.status := rfl
@[simp] theorem State.setLineRec_profile (l : LineId) (x : LineRec) (s : State) : (s.setLineRec l x).profile = s.profile := rfl
@[simp] theorem State.setLineRec_layout (l : LineId) (x : LineRec) (s : State) : (s.setLineRec l x).layout = s.layout := rfl
@[simp] theorem State.setLineRec_sync (l : LineId) (x : LineRec) (s : State) : (s.setLineRec l x).sync = s.sync := rfl
@[simp] theorem State.setLineRec_screens (l : LineId) (x : LineRec) (s : State) : (s.setLineRec l x).screens = s.screens := rfl
@[simp] theorem State.setLineRec_pointer (l : LineId) (x : LineRec) (s : State) : (s.setLineRec l x).pointer = s.pointer := rfl
@[simp] theorem State.setLineRec_keyboard (l : LineId) (x : LineRec) (s : State) : (s.setLineRec l x).keyboard = s.keyboard := rfl
@[simp] theorem State.setLineRec_matcher (l : LineId) (x : LineRec) (s : State) : (s.setLineRec l x).matcher = s.matcher := rfl
@[simp] theorem State.setLineRec_lines (l : LineId) (x : LineRec) (s : State) : (s.setLineRec l x).lines = { s.lines with recs := s.lines.recs.set l x } := rfl
@[simp] theorem State.setLineRec_ports (l : LineId) (x : LineRec) (s : State) : (s.setLineRec l x).ports = s.ports := rfl
@[simp] theorem State.setLineRec_power (l : LineId) (x : LineRec) (s : State) : (s.setLineRec l x).power = s.power := rfl
@[simp] theorem State.setLineRec_desk (l : LineId) (x : LineRec) (s : State) : (s.setLineRec l x).desk = s.desk := rfl
@[simp] theorem State.setLineRec_freeCount (l : LineId) (x : LineRec) (s : State) : (s.setLineRec l x).freeCount = s.freeCount := rfl
@[simp] theorem State.setLineRec_out (l : LineId) (x : LineRec) (s : State) : (s.setLineRec l x).out = s.out := rfl
@[simp] theorem State.setLineRec_pending (l : LineId) (x : LineRec) (s : State) : (s.setLineRec l x).pending = s.pending := rfl

/-! ### setComputerEntry -/

@[simp] theorem State.setComputerEntry_now (c : Computer) (x : ComputerEntry) (s : State) : (s.setComputerEntry c x).now = s.now := rfl
@[simp] theorem State.setComputerEntry_link (c : Computer) (x : ComputerEntry) (s : State) : (s.setComputerEntry c x).link = s.link := rfl
@[simp] theorem State.setComputerEntry_status (c : Computer) (x : ComputerEntry) (s : State) : (s.setComputerEntry c x).status = s.status := rfl
@[simp] theorem State.setComputerEntry_profile (c : Computer) (x : ComputerEntry) (s : State) : (s.setComputerEntry c x).profile = s.profile := rfl
@[simp] theorem State.setComputerEntry_layout (c : Computer) (x : ComputerEntry) (s : State) : (s.setComputerEntry c x).layout = { s.layout with computers := s.layout.computers.set c x } := rfl
@[simp] theorem State.setComputerEntry_sync (c : Computer) (x : ComputerEntry) (s : State) : (s.setComputerEntry c x).sync = s.sync := rfl
@[simp] theorem State.setComputerEntry_screens (c : Computer) (x : ComputerEntry) (s : State) : (s.setComputerEntry c x).screens = s.screens := rfl
@[simp] theorem State.setComputerEntry_pointer (c : Computer) (x : ComputerEntry) (s : State) : (s.setComputerEntry c x).pointer = s.pointer := rfl
@[simp] theorem State.setComputerEntry_keyboard (c : Computer) (x : ComputerEntry) (s : State) : (s.setComputerEntry c x).keyboard = s.keyboard := rfl
@[simp] theorem State.setComputerEntry_matcher (c : Computer) (x : ComputerEntry) (s : State) : (s.setComputerEntry c x).matcher = s.matcher := rfl
@[simp] theorem State.setComputerEntry_lines (c : Computer) (x : ComputerEntry) (s : State) : (s.setComputerEntry c x).lines = s.lines := rfl
@[simp] theorem State.setComputerEntry_ports (c : Computer) (x : ComputerEntry) (s : State) : (s.setComputerEntry c x).ports = s.ports := rfl
@[simp] theorem State.setComputerEntry_power (c : Computer) (x : ComputerEntry) (s : State) : (s.setComputerEntry c x).power = s.power := rfl
@[simp] theorem State.setComputerEntry_desk (c : Computer) (x : ComputerEntry) (s : State) : (s.setComputerEntry c x).desk = s.desk := rfl
@[simp] theorem State.setComputerEntry_freeCount (c : Computer) (x : ComputerEntry) (s : State) : (s.setComputerEntry c x).freeCount = s.freeCount := rfl
@[simp] theorem State.setComputerEntry_out (c : Computer) (x : ComputerEntry) (s : State) : (s.setComputerEntry c x).out = s.out := rfl
@[simp] theorem State.setComputerEntry_pending (c : Computer) (x : ComputerEntry) (s : State) : (s.setComputerEntry c x).pending = s.pending := rfl

/-! ### setScreenRect -/

@[simp] theorem State.setScreenRect_now (i : ScreenId) (x : Option Rect) (s : State) : (s.setScreenRect i x).now = s.now := rfl
@[simp] theorem State.setScreenRect_link (i : ScreenId) (x : Option Rect) (s : State) : (s.setScreenRect i x).link = s.link := rfl
@[simp] theorem State.setScreenRect_status (i : ScreenId) (x : Option Rect) (s : State) : (s.setScreenRect i x).status = s.status := rfl
@[simp] theorem State.setScreenRect_profile (i : ScreenId) (x : Option Rect) (s : State) : (s.setScreenRect i x).profile = s.profile := rfl
@[simp] theorem State.setScreenRect_layout (i : ScreenId) (x : Option Rect) (s : State) : (s.setScreenRect i x).layout = { s.layout with screens := s.layout.screens.set i x } := rfl
@[simp] theorem State.setScreenRect_sync (i : ScreenId) (x : Option Rect) (s : State) : (s.setScreenRect i x).sync = s.sync := rfl
@[simp] theorem State.setScreenRect_screens (i : ScreenId) (x : Option Rect) (s : State) : (s.setScreenRect i x).screens = s.screens := rfl
@[simp] theorem State.setScreenRect_pointer (i : ScreenId) (x : Option Rect) (s : State) : (s.setScreenRect i x).pointer = s.pointer := rfl
@[simp] theorem State.setScreenRect_keyboard (i : ScreenId) (x : Option Rect) (s : State) : (s.setScreenRect i x).keyboard = s.keyboard := rfl
@[simp] theorem State.setScreenRect_matcher (i : ScreenId) (x : Option Rect) (s : State) : (s.setScreenRect i x).matcher = s.matcher := rfl
@[simp] theorem State.setScreenRect_lines (i : ScreenId) (x : Option Rect) (s : State) : (s.setScreenRect i x).lines = s.lines := rfl
@[simp] theorem State.setScreenRect_ports (i : ScreenId) (x : Option Rect) (s : State) : (s.setScreenRect i x).ports = s.ports := rfl
@[simp] theorem State.setScreenRect_power (i : ScreenId) (x : Option Rect) (s : State) : (s.setScreenRect i x).power = s.power := rfl
@[simp] theorem State.setScreenRect_desk (i : ScreenId) (x : Option Rect) (s : State) : (s.setScreenRect i x).desk = s.desk := rfl
@[simp] theorem State.setScreenRect_freeCount (i : ScreenId) (x : Option Rect) (s : State) : (s.setScreenRect i x).freeCount = s.freeCount := rfl
@[simp] theorem State.setScreenRect_out (i : ScreenId) (x : Option Rect) (s : State) : (s.setScreenRect i x).out = s.out := rfl
@[simp] theorem State.setScreenRect_pending (i : ScreenId) (x : Option Rect) (s : State) : (s.setScreenRect i x).pending = s.pending := rfl

/-! ### setHeadEntry -/

@[simp] theorem State.setHeadEntry_now (h : Head) (x : Option HeadEntry) (s : State) : (s.setHeadEntry h x).now = s.now := rfl
@[simp] theorem State.setHeadEntry_link (h : Head) (x : Option HeadEntry) (s : State) : (s.setHeadEntry h x).link = s.link := rfl
@[simp] theorem State.setHeadEntry_status (h : Head) (x : Option HeadEntry) (s : State) : (s.setHeadEntry h x).status = s.status := rfl
@[simp] theorem State.setHeadEntry_profile (h : Head) (x : Option HeadEntry) (s : State) : (s.setHeadEntry h x).profile = s.profile := rfl
@[simp] theorem State.setHeadEntry_sync (h : Head) (x : Option HeadEntry) (s : State) : (s.setHeadEntry h x).sync = s.sync := rfl
@[simp] theorem State.setHeadEntry_screens (h : Head) (x : Option HeadEntry) (s : State) : (s.setHeadEntry h x).screens = s.screens := rfl
@[simp] theorem State.setHeadEntry_pointer (h : Head) (x : Option HeadEntry) (s : State) : (s.setHeadEntry h x).pointer = s.pointer := rfl
@[simp] theorem State.setHeadEntry_keyboard (h : Head) (x : Option HeadEntry) (s : State) : (s.setHeadEntry h x).keyboard = s.keyboard := rfl
@[simp] theorem State.setHeadEntry_matcher (h : Head) (x : Option HeadEntry) (s : State) : (s.setHeadEntry h x).matcher = s.matcher := rfl
@[simp] theorem State.setHeadEntry_lines (h : Head) (x : Option HeadEntry) (s : State) : (s.setHeadEntry h x).lines = s.lines := rfl
@[simp] theorem State.setHeadEntry_ports (h : Head) (x : Option HeadEntry) (s : State) : (s.setHeadEntry h x).ports = s.ports := rfl
@[simp] theorem State.setHeadEntry_power (h : Head) (x : Option HeadEntry) (s : State) : (s.setHeadEntry h x).power = s.power := rfl
@[simp] theorem State.setHeadEntry_desk (h : Head) (x : Option HeadEntry) (s : State) : (s.setHeadEntry h x).desk = s.desk := rfl
@[simp] theorem State.setHeadEntry_freeCount (h : Head) (x : Option HeadEntry) (s : State) : (s.setHeadEntry h x).freeCount = s.freeCount := rfl
@[simp] theorem State.setHeadEntry_out (h : Head) (x : Option HeadEntry) (s : State) : (s.setHeadEntry h x).out = s.out := rfl
@[simp] theorem State.setHeadEntry_pending (h : Head) (x : Option HeadEntry) (s : State) : (s.setHeadEntry h x).pending = s.pending := rfl

/-! ### setBinding -/

@[simp] theorem State.setBinding_now (v : InputId) (x : Option Head) (s : State) : (s.setBinding v x).now = s.now := rfl
@[simp] theorem State.setBinding_link (v : InputId) (x : Option Head) (s : State) : (s.setBinding v x).link = s.link := rfl
@[simp] theorem State.setBinding_status (v : InputId) (x : Option Head) (s : State) : (s.setBinding v x).status = s.status := rfl
@[simp] theorem State.setBinding_profile (v : InputId) (x : Option Head) (s : State) : (s.setBinding v x).profile = s.profile := rfl
@[simp] theorem State.setBinding_layout (v : InputId) (x : Option Head) (s : State) : (s.setBinding v x).layout = { s.layout with inputs := s.layout.inputs.set v x } := rfl
@[simp] theorem State.setBinding_sync (v : InputId) (x : Option Head) (s : State) : (s.setBinding v x).sync = s.sync := rfl
@[simp] theorem State.setBinding_screens (v : InputId) (x : Option Head) (s : State) : (s.setBinding v x).screens = s.screens := rfl
@[simp] theorem State.setBinding_pointer (v : InputId) (x : Option Head) (s : State) : (s.setBinding v x).pointer = s.pointer := rfl
@[simp] theorem State.setBinding_keyboard (v : InputId) (x : Option Head) (s : State) : (s.setBinding v x).keyboard = s.keyboard := rfl
@[simp] theorem State.setBinding_matcher (v : InputId) (x : Option Head) (s : State) : (s.setBinding v x).matcher = s.matcher := rfl
@[simp] theorem State.setBinding_lines (v : InputId) (x : Option Head) (s : State) : (s.setBinding v x).lines = s.lines := rfl
@[simp] theorem State.setBinding_ports (v : InputId) (x : Option Head) (s : State) : (s.setBinding v x).ports = s.ports := rfl
@[simp] theorem State.setBinding_power (v : InputId) (x : Option Head) (s : State) : (s.setBinding v x).power = s.power := rfl
@[simp] theorem State.setBinding_desk (v : InputId) (x : Option Head) (s : State) : (s.setBinding v x).desk = s.desk := rfl
@[simp] theorem State.setBinding_freeCount (v : InputId) (x : Option Head) (s : State) : (s.setBinding v x).freeCount = s.freeCount := rfl
@[simp] theorem State.setBinding_out (v : InputId) (x : Option Head) (s : State) : (s.setBinding v x).out = s.out := rfl
@[simp] theorem State.setBinding_pending (v : InputId) (x : Option Head) (s : State) : (s.setBinding v x).pending = s.pending := rfl

/-! ### setHeld -/

@[simp] theorem State.setHeld_now (x : List HeldKey) (s : State) : (s.setHeld x).now = s.now := rfl
@[simp] theorem State.setHeld_link (x : List HeldKey) (s : State) : (s.setHeld x).link = s.link := rfl
@[simp] theorem State.setHeld_status (x : List HeldKey) (s : State) : (s.setHeld x).status = s.status := rfl
@[simp] theorem State.setHeld_profile (x : List HeldKey) (s : State) : (s.setHeld x).profile = s.profile := rfl
@[simp] theorem State.setHeld_layout (x : List HeldKey) (s : State) : (s.setHeld x).layout = s.layout := rfl
@[simp] theorem State.setHeld_sync (x : List HeldKey) (s : State) : (s.setHeld x).sync = s.sync := rfl
@[simp] theorem State.setHeld_screens (x : List HeldKey) (s : State) : (s.setHeld x).screens = s.screens := rfl
@[simp] theorem State.setHeld_pointer (x : List HeldKey) (s : State) : (s.setHeld x).pointer = s.pointer := rfl
@[simp] theorem State.setHeld_keyboard (x : List HeldKey) (s : State) : (s.setHeld x).keyboard = { s.keyboard with held := x } := rfl
@[simp] theorem State.setHeld_matcher (x : List HeldKey) (s : State) : (s.setHeld x).matcher = s.matcher := rfl
@[simp] theorem State.setHeld_lines (x : List HeldKey) (s : State) : (s.setHeld x).lines = s.lines := rfl
@[simp] theorem State.setHeld_ports (x : List HeldKey) (s : State) : (s.setHeld x).ports = s.ports := rfl
@[simp] theorem State.setHeld_power (x : List HeldKey) (s : State) : (s.setHeld x).power = s.power := rfl
@[simp] theorem State.setHeld_desk (x : List HeldKey) (s : State) : (s.setHeld x).desk = s.desk := rfl
@[simp] theorem State.setHeld_freeCount (x : List HeldKey) (s : State) : (s.setHeld x).freeCount = s.freeCount := rfl
@[simp] theorem State.setHeld_out (x : List HeldKey) (s : State) : (s.setHeld x).out = s.out := rfl
@[simp] theorem State.setHeld_pending (x : List HeldKey) (s : State) : (s.setHeld x).pending = s.pending := rfl

/-! ### setInFlight -/

@[simp] theorem State.setInFlight_now (x : Option InFlight) (s : State) : (s.setInFlight x).now = s.now := rfl
@[simp] theorem State.setInFlight_link (x : Option InFlight) (s : State) : (s.setInFlight x).link = s.link := rfl
@[simp] theorem State.setInFlight_status (x : Option InFlight) (s : State) : (s.setInFlight x).status = s.status := rfl
@[simp] theorem State.setInFlight_profile (x : Option InFlight) (s : State) : (s.setInFlight x).profile = s.profile := rfl
@[simp] theorem State.setInFlight_layout (x : Option InFlight) (s : State) : (s.setInFlight x).layout = s.layout := rfl
@[simp] theorem State.setInFlight_sync (x : Option InFlight) (s : State) : (s.setInFlight x).sync = s.sync := rfl
@[simp] theorem State.setInFlight_screens (x : Option InFlight) (s : State) : (s.setInFlight x).screens = { s.screens with inFlight := x } := rfl
@[simp] theorem State.setInFlight_pointer (x : Option InFlight) (s : State) : (s.setInFlight x).pointer = s.pointer := rfl
@[simp] theorem State.setInFlight_keyboard (x : Option InFlight) (s : State) : (s.setInFlight x).keyboard = s.keyboard := rfl
@[simp] theorem State.setInFlight_matcher (x : Option InFlight) (s : State) : (s.setInFlight x).matcher = s.matcher := rfl
@[simp] theorem State.setInFlight_lines (x : Option InFlight) (s : State) : (s.setInFlight x).lines = s.lines := rfl
@[simp] theorem State.setInFlight_ports (x : Option InFlight) (s : State) : (s.setInFlight x).ports = s.ports := rfl
@[simp] theorem State.setInFlight_power (x : Option InFlight) (s : State) : (s.setInFlight x).power = s.power := rfl
@[simp] theorem State.setInFlight_desk (x : Option InFlight) (s : State) : (s.setInFlight x).desk = s.desk := rfl
@[simp] theorem State.setInFlight_freeCount (x : Option InFlight) (s : State) : (s.setInFlight x).freeCount = s.freeCount := rfl
@[simp] theorem State.setInFlight_out (x : Option InFlight) (s : State) : (s.setInFlight x).out = s.out := rfl
@[simp] theorem State.setInFlight_pending (x : Option InFlight) (s : State) : (s.setInFlight x).pending = s.pending := rfl

/-! ### setSlot -/

@[simp] theorem State.setSlot_now (x : Option ReturnSlot) (s : State) : (s.setSlot x).now = s.now := rfl
@[simp] theorem State.setSlot_link (x : Option ReturnSlot) (s : State) : (s.setSlot x).link = s.link := rfl
@[simp] theorem State.setSlot_status (x : Option ReturnSlot) (s : State) : (s.setSlot x).status = s.status := rfl
@[simp] theorem State.setSlot_profile (x : Option ReturnSlot) (s : State) : (s.setSlot x).profile = s.profile := rfl
@[simp] theorem State.setSlot_layout (x : Option ReturnSlot) (s : State) : (s.setSlot x).layout = s.layout := rfl
@[simp] theorem State.setSlot_sync (x : Option ReturnSlot) (s : State) : (s.setSlot x).sync = s.sync := rfl
@[simp] theorem State.setSlot_screens (x : Option ReturnSlot) (s : State) : (s.setSlot x).screens = s.screens := rfl
@[simp] theorem State.setSlot_pointer (x : Option ReturnSlot) (s : State) : (s.setSlot x).pointer = s.pointer := rfl
@[simp] theorem State.setSlot_keyboard (x : Option ReturnSlot) (s : State) : (s.setSlot x).keyboard = s.keyboard := rfl
@[simp] theorem State.setSlot_matcher (x : Option ReturnSlot) (s : State) : (s.setSlot x).matcher = { s.matcher with slot := x } := rfl
@[simp] theorem State.setSlot_lines (x : Option ReturnSlot) (s : State) : (s.setSlot x).lines = s.lines := rfl
@[simp] theorem State.setSlot_ports (x : Option ReturnSlot) (s : State) : (s.setSlot x).ports = s.ports := rfl
@[simp] theorem State.setSlot_power (x : Option ReturnSlot) (s : State) : (s.setSlot x).power = s.power := rfl
@[simp] theorem State.setSlot_desk (x : Option ReturnSlot) (s : State) : (s.setSlot x).desk = s.desk := rfl
@[simp] theorem State.setSlot_freeCount (x : Option ReturnSlot) (s : State) : (s.setSlot x).freeCount = s.freeCount := rfl
@[simp] theorem State.setSlot_out (x : Option ReturnSlot) (s : State) : (s.setSlot x).out = s.out := rfl
@[simp] theorem State.setSlot_pending (x : Option ReturnSlot) (s : State) : (s.setSlot x).pending = s.pending := rfl

/-! ### emit -/

@[simp] theorem State.emit_now (o : Output) (s : State) : (s.emit o).now = s.now := rfl
@[simp] theorem State.emit_link (o : Output) (s : State) : (s.emit o).link = s.link := rfl
@[simp] theorem State.emit_status (o : Output) (s : State) : (s.emit o).status = s.status := rfl
@[simp] theorem State.emit_profile (o : Output) (s : State) : (s.emit o).profile = s.profile := rfl
@[simp] theorem State.emit_layout (o : Output) (s : State) : (s.emit o).layout = s.layout := rfl
@[simp] theorem State.emit_sync (o : Output) (s : State) : (s.emit o).sync = s.sync := rfl
@[simp] theorem State.emit_screens (o : Output) (s : State) : (s.emit o).screens = s.screens := rfl
@[simp] theorem State.emit_pointer (o : Output) (s : State) : (s.emit o).pointer = s.pointer := rfl
@[simp] theorem State.emit_keyboard (o : Output) (s : State) : (s.emit o).keyboard = s.keyboard := rfl
@[simp] theorem State.emit_matcher (o : Output) (s : State) : (s.emit o).matcher = s.matcher := rfl
@[simp] theorem State.emit_lines (o : Output) (s : State) : (s.emit o).lines = s.lines := rfl
@[simp] theorem State.emit_ports (o : Output) (s : State) : (s.emit o).ports = s.ports := rfl
@[simp] theorem State.emit_power (o : Output) (s : State) : (s.emit o).power = s.power := rfl
@[simp] theorem State.emit_desk (o : Output) (s : State) : (s.emit o).desk = s.desk := rfl
@[simp] theorem State.emit_freeCount (o : Output) (s : State) : (s.emit o).freeCount = s.freeCount := rfl
@[simp] theorem State.emit_out (o : Output) (s : State) : (s.emit o).out = s.out ++ [o] := rfl
@[simp] theorem State.emit_pending (o : Output) (s : State) : (s.emit o).pending = s.pending := rfl

/-! ### fresh -/

@[simp] theorem State.fresh_now (s : State) : (s.fresh).now = s.now := rfl
@[simp] theorem State.fresh_link (s : State) : (s.fresh).link = s.link := rfl
@[simp] theorem State.fresh_status (s : State) : (s.fresh).status = s.status := rfl
@[simp] theorem State.fresh_profile (s : State) : (s.fresh).profile = s.profile := rfl
@[simp] theorem State.fresh_layout (s : State) : (s.fresh).layout = s.layout := rfl
@[simp] theorem State.fresh_sync (s : State) : (s.fresh).sync = s.sync := rfl
@[simp] theorem State.fresh_screens (s : State) : (s.fresh).screens = s.screens := rfl
@[simp] theorem State.fresh_pointer (s : State) : (s.fresh).pointer = s.pointer := rfl
@[simp] theorem State.fresh_keyboard (s : State) : (s.fresh).keyboard = s.keyboard := rfl
@[simp] theorem State.fresh_matcher (s : State) : (s.fresh).matcher = s.matcher := rfl
@[simp] theorem State.fresh_lines (s : State) : (s.fresh).lines = s.lines := rfl
@[simp] theorem State.fresh_ports (s : State) : (s.fresh).ports = s.ports := rfl
@[simp] theorem State.fresh_power (s : State) : (s.fresh).power = s.power := rfl
@[simp] theorem State.fresh_desk (s : State) : (s.fresh).desk = s.desk := rfl
@[simp] theorem State.fresh_freeCount (s : State) : (s.fresh).freeCount = s.freeCount := rfl
@[simp] theorem State.fresh_out (s : State) : (s.fresh).out = [] := rfl
@[simp] theorem State.fresh_pending (s : State) : (s.fresh).pending = s.pending := rfl

/-! ### tick -/

@[simp] theorem State.tick_now (s : State) : (s.tick).now = s.now + 1 := rfl
@[simp] theorem State.tick_link (s : State) : (s.tick).link = s.link := rfl
@[simp] theorem State.tick_status (s : State) : (s.tick).status = s.status := rfl
@[simp] theorem State.tick_profile (s : State) : (s.tick).profile = s.profile := rfl
@[simp] theorem State.tick_layout (s : State) : (s.tick).layout = s.layout := rfl
@[simp] theorem State.tick_sync (s : State) : (s.tick).sync = s.sync := rfl
@[simp] theorem State.tick_screens (s : State) : (s.tick).screens = s.screens := rfl
@[simp] theorem State.tick_pointer (s : State) : (s.tick).pointer = s.pointer := rfl
@[simp] theorem State.tick_keyboard (s : State) : (s.tick).keyboard = s.keyboard := rfl
@[simp] theorem State.tick_matcher (s : State) : (s.tick).matcher = s.matcher := rfl
@[simp] theorem State.tick_lines (s : State) : (s.tick).lines = s.lines := rfl
@[simp] theorem State.tick_ports (s : State) : (s.tick).ports = s.ports := rfl
@[simp] theorem State.tick_power (s : State) : (s.tick).power = s.power := rfl
@[simp] theorem State.tick_desk (s : State) : (s.tick).desk = s.desk := rfl
@[simp] theorem State.tick_freeCount (s : State) : (s.tick).freeCount = s.freeCount := rfl
@[simp] theorem State.tick_out (s : State) : (s.tick).out = [] := rfl
@[simp] theorem State.tick_pending (s : State) : (s.tick).pending = s.pending := rfl

/-! ### advanceTo -/

@[simp] theorem State.advanceTo_now (t : Nat) (s : State) : (s.advanceTo t).now = max s.now t := rfl
@[simp] theorem State.advanceTo_link (t : Nat) (s : State) : (s.advanceTo t).link = s.link := rfl
@[simp] theorem State.advanceTo_status (t : Nat) (s : State) : (s.advanceTo t).status = s.status := rfl
@[simp] theorem State.advanceTo_profile (t : Nat) (s : State) : (s.advanceTo t).profile = s.profile := rfl
@[simp] theorem State.advanceTo_layout (t : Nat) (s : State) : (s.advanceTo t).layout = s.layout := rfl
@[simp] theorem State.advanceTo_sync (t : Nat) (s : State) : (s.advanceTo t).sync = s.sync := rfl
@[simp] theorem State.advanceTo_screens (t : Nat) (s : State) : (s.advanceTo t).screens = s.screens := rfl
@[simp] theorem State.advanceTo_pointer (t : Nat) (s : State) : (s.advanceTo t).pointer = s.pointer := rfl
@[simp] theorem State.advanceTo_keyboard (t : Nat) (s : State) : (s.advanceTo t).keyboard = s.keyboard := rfl
@[simp] theorem State.advanceTo_matcher (t : Nat) (s : State) : (s.advanceTo t).matcher = s.matcher := rfl
@[simp] theorem State.advanceTo_lines (t : Nat) (s : State) : (s.advanceTo t).lines = s.lines := rfl
@[simp] theorem State.advanceTo_ports (t : Nat) (s : State) : (s.advanceTo t).ports = s.ports := rfl
@[simp] theorem State.advanceTo_power (t : Nat) (s : State) : (s.advanceTo t).power = s.power := rfl
@[simp] theorem State.advanceTo_desk (t : Nat) (s : State) : (s.advanceTo t).desk = s.desk := rfl
@[simp] theorem State.advanceTo_freeCount (t : Nat) (s : State) : (s.advanceTo t).freeCount = s.freeCount := rfl
@[simp] theorem State.advanceTo_out (t : Nat) (s : State) : (s.advanceTo t).out = s.out := rfl
@[simp] theorem State.advanceTo_pending (t : Nat) (s : State) : (s.advanceTo t).pending = s.pending := rfl

/-! ### reach -/

@[simp] theorem State.reach_now (t : Timer) (s : State) : (s.reach t).now = max s.now t.due := rfl
@[simp] theorem State.reach_link (t : Timer) (s : State) : (s.reach t).link = s.link := rfl
@[simp] theorem State.reach_status (t : Timer) (s : State) : (s.reach t).status = s.status := rfl
@[simp] theorem State.reach_profile (t : Timer) (s : State) : (s.reach t).profile = s.profile := rfl
@[simp] theorem State.reach_layout (t : Timer) (s : State) : (s.reach t).layout = s.layout := rfl
@[simp] theorem State.reach_sync (t : Timer) (s : State) : (s.reach t).sync = s.sync := rfl
@[simp] theorem State.reach_screens (t : Timer) (s : State) : (s.reach t).screens = s.screens := rfl
@[simp] theorem State.reach_pointer (t : Timer) (s : State) : (s.reach t).pointer = s.pointer := rfl
@[simp] theorem State.reach_keyboard (t : Timer) (s : State) : (s.reach t).keyboard = s.keyboard := rfl
@[simp] theorem State.reach_matcher (t : Timer) (s : State) : (s.reach t).matcher = s.matcher := rfl
@[simp] theorem State.reach_lines (t : Timer) (s : State) : (s.reach t).lines = s.lines := rfl
@[simp] theorem State.reach_ports (t : Timer) (s : State) : (s.reach t).ports = s.ports := rfl
@[simp] theorem State.reach_power (t : Timer) (s : State) : (s.reach t).power = s.power := rfl
@[simp] theorem State.reach_desk (t : Timer) (s : State) : (s.reach t).desk = s.desk := rfl
@[simp] theorem State.reach_freeCount (t : Timer) (s : State) : (s.reach t).freeCount = s.freeCount := rfl
@[simp] theorem State.reach_out (t : Timer) (s : State) : (s.reach t).out = s.out := rfl
@[simp] theorem State.reach_pending (t : Timer) (s : State) : (s.reach t).pending = s.pending := rfl

/-! ### setEvent -/

@[simp] theorem State.setEvent_now (k : EventKind) (x : EventRec) (s : State) : (s.setEvent k x).now = s.now := rfl
@[simp] theorem State.setEvent_link (k : EventKind) (x : EventRec) (s : State) : (s.setEvent k x).link = s.link := rfl
@[simp] theorem State.setEvent_status (k : EventKind) (x : EventRec) (s : State) : (s.setEvent k x).status = { s.status with events := s.status.events.set k.row x } := rfl
@[simp] theorem State.setEvent_profile (k : EventKind) (x : EventRec) (s : State) : (s.setEvent k x).profile = s.profile := rfl
@[simp] theorem State.setEvent_layout (k : EventKind) (x : EventRec) (s : State) : (s.setEvent k x).layout = s.layout := rfl
@[simp] theorem State.setEvent_sync (k : EventKind) (x : EventRec) (s : State) : (s.setEvent k x).sync = s.sync := rfl
@[simp] theorem State.setEvent_screens (k : EventKind) (x : EventRec) (s : State) : (s.setEvent k x).screens = s.screens := rfl
@[simp] theorem State.setEvent_pointer (k : EventKind) (x : EventRec) (s : State) : (s.setEvent k x).pointer = s.pointer := rfl
@[simp] theorem State.setEvent_keyboard (k : EventKind) (x : EventRec) (s : State) : (s.setEvent k x).keyboard = s.keyboard := rfl
@[simp] theorem State.setEvent_matcher (k : EventKind) (x : EventRec) (s : State) : (s.setEvent k x).matcher = s.matcher := rfl
@[simp] theorem State.setEvent_lines (k : EventKind) (x : EventRec) (s : State) : (s.setEvent k x).lines = s.lines := rfl
@[simp] theorem State.setEvent_ports (k : EventKind) (x : EventRec) (s : State) : (s.setEvent k x).ports = s.ports := rfl
@[simp] theorem State.setEvent_power (k : EventKind) (x : EventRec) (s : State) : (s.setEvent k x).power = s.power := rfl
@[simp] theorem State.setEvent_desk (k : EventKind) (x : EventRec) (s : State) : (s.setEvent k x).desk = s.desk := rfl
@[simp] theorem State.setEvent_freeCount (k : EventKind) (x : EventRec) (s : State) : (s.setEvent k x).freeCount = s.freeCount := rfl
@[simp] theorem State.setEvent_out (k : EventKind) (x : EventRec) (s : State) : (s.setEvent k x).out = s.out := rfl
@[simp] theorem State.setEvent_pending (k : EventKind) (x : EventRec) (s : State) : (s.setEvent k x).pending = s.pending := rfl

/-! ### setScene -/

@[simp] theorem State.setScene_now (n : SceneNo) (x : Option Scene) (s : State) : (s.setScene n x).now = s.now := rfl
@[simp] theorem State.setScene_link (n : SceneNo) (x : Option Scene) (s : State) : (s.setScene n x).link = s.link := rfl
@[simp] theorem State.setScene_status (n : SceneNo) (x : Option Scene) (s : State) : (s.setScene n x).status = s.status := rfl
@[simp] theorem State.setScene_profile (n : SceneNo) (x : Option Scene) (s : State) : (s.setScene n x).profile = s.profile := rfl
@[simp] theorem State.setScene_layout (n : SceneNo) (x : Option Scene) (s : State) : (s.setScene n x).layout = s.layout := rfl
@[simp] theorem State.setScene_sync (n : SceneNo) (x : Option Scene) (s : State) : (s.setScene n x).sync = s.sync := rfl
@[simp] theorem State.setScene_screens (n : SceneNo) (x : Option Scene) (s : State) : (s.setScene n x).screens = { s.screens with scenes := s.screens.scenes.set n x } := rfl
@[simp] theorem State.setScene_pointer (n : SceneNo) (x : Option Scene) (s : State) : (s.setScene n x).pointer = s.pointer := rfl
@[simp] theorem State.setScene_keyboard (n : SceneNo) (x : Option Scene) (s : State) : (s.setScene n x).keyboard = s.keyboard := rfl
@[simp] theorem State.setScene_matcher (n : SceneNo) (x : Option Scene) (s : State) : (s.setScene n x).matcher = s.matcher := rfl
@[simp] theorem State.setScene_lines (n : SceneNo) (x : Option Scene) (s : State) : (s.setScene n x).lines = s.lines := rfl
@[simp] theorem State.setScene_ports (n : SceneNo) (x : Option Scene) (s : State) : (s.setScene n x).ports = s.ports := rfl
@[simp] theorem State.setScene_power (n : SceneNo) (x : Option Scene) (s : State) : (s.setScene n x).power = s.power := rfl
@[simp] theorem State.setScene_desk (n : SceneNo) (x : Option Scene) (s : State) : (s.setScene n x).desk = s.desk := rfl
@[simp] theorem State.setScene_freeCount (n : SceneNo) (x : Option Scene) (s : State) : (s.setScene n x).freeCount = s.freeCount := rfl
@[simp] theorem State.setScene_out (n : SceneNo) (x : Option Scene) (s : State) : (s.setScene n x).out = s.out := rfl
@[simp] theorem State.setScene_pending (n : SceneNo) (x : Option Scene) (s : State) : (s.setScene n x).pending = s.pending := rfl

/-! ### setHotkey -/

@[simp] theorem State.setHotkey_now (n : EntryNo) (x : Option Hotkey) (s : State) : (s.setHotkey n x).now = s.now := rfl
@[simp] theorem State.setHotkey_link (n : EntryNo) (x : Option Hotkey) (s : State) : (s.setHotkey n x).link = s.link := rfl
@[simp] theorem State.setHotkey_status (n : EntryNo) (x : Option Hotkey) (s : State) : (s.setHotkey n x).status = s.status := rfl
@[simp] theorem State.setHotkey_profile (n : EntryNo) (x : Option Hotkey) (s : State) : (s.setHotkey n x).profile = s.profile := rfl
@[simp] theorem State.setHotkey_layout (n : EntryNo) (x : Option Hotkey) (s : State) : (s.setHotkey n x).layout = s.layout := rfl
@[simp] theorem State.setHotkey_sync (n : EntryNo) (x : Option Hotkey) (s : State) : (s.setHotkey n x).sync = s.sync := rfl
@[simp] theorem State.setHotkey_screens (n : EntryNo) (x : Option Hotkey) (s : State) : (s.setHotkey n x).screens = s.screens := rfl
@[simp] theorem State.setHotkey_pointer (n : EntryNo) (x : Option Hotkey) (s : State) : (s.setHotkey n x).pointer = s.pointer := rfl
@[simp] theorem State.setHotkey_keyboard (n : EntryNo) (x : Option Hotkey) (s : State) : (s.setHotkey n x).keyboard = s.keyboard := rfl
@[simp] theorem State.setHotkey_matcher (n : EntryNo) (x : Option Hotkey) (s : State) : (s.setHotkey n x).matcher = { s.matcher with table := s.matcher.table.set n x } := rfl
@[simp] theorem State.setHotkey_lines (n : EntryNo) (x : Option Hotkey) (s : State) : (s.setHotkey n x).lines = s.lines := rfl
@[simp] theorem State.setHotkey_ports (n : EntryNo) (x : Option Hotkey) (s : State) : (s.setHotkey n x).ports = s.ports := rfl
@[simp] theorem State.setHotkey_power (n : EntryNo) (x : Option Hotkey) (s : State) : (s.setHotkey n x).power = s.power := rfl
@[simp] theorem State.setHotkey_desk (n : EntryNo) (x : Option Hotkey) (s : State) : (s.setHotkey n x).desk = s.desk := rfl
@[simp] theorem State.setHotkey_freeCount (n : EntryNo) (x : Option Hotkey) (s : State) : (s.setHotkey n x).freeCount = s.freeCount := rfl
@[simp] theorem State.setHotkey_out (n : EntryNo) (x : Option Hotkey) (s : State) : (s.setHotkey n x).out = s.out := rfl
@[simp] theorem State.setHotkey_pending (n : EntryNo) (x : Option Hotkey) (s : State) : (s.setHotkey n x).pending = s.pending := rfl

/-! ### Reads after writes -/

@[simp] theorem State.channel_setChannel (s : State) (v w : InputId) (x : Channel) :
    (s.setChannel v x).channel w = if v = w then x else s.channel w := by
  simp [State.channel, Vector.getElem_set, Fin.ext_iff]

@[simp] theorem State.screenRec_setScreenRec (s : State) (i j : ScreenId) (x : ScreenRec) :
    (s.setScreenRec i x).screenRec j = if i = j then x else s.screenRec j := by
  simp [State.screenRec, Vector.getElem_set, Fin.ext_iff]

@[simp] theorem State.port_setPort (s : State) (c d : Computer) (x : Port) :
    (s.setPort c x).port d = if c = d then x else s.port d := by
  simp [State.port, Vector.getElem_set, Fin.ext_iff]

@[simp] theorem State.powerRec_setPowerRec (s : State) (c d : Computer) (x : PowerRec) :
    (s.setPowerRec c x).powerRec d = if c = d then x else s.powerRec d := by
  simp [State.powerRec, Vector.getElem_set, Fin.ext_iff]

@[simp] theorem State.powerState_setPowerRec (s : State) (c d : Computer) (x : PowerRec) :
    (s.setPowerRec c x).powerState d = if c = d then x.state else s.powerState d := by
  simp only [State.powerState, State.powerRec_setPowerRec]
  split <;> rfl

@[simp] theorem State.lineRec_setLineRec (s : State) (l m : LineId) (x : LineRec) :
    (s.setLineRec l x).lineRec m = if l = m then x else s.lineRec m := by
  simp [State.lineRec, Vector.getElem_set, Fin.ext_iff]

@[simp] theorem State.computer_setComputerEntry (s : State) (c d : Computer) (x : ComputerEntry) :
    (s.setComputerEntry c x).computer d = if c = d then x else s.computer d := by
  simp [State.computer, Vector.getElem_set, Fin.ext_iff]

@[simp] theorem State.screenRect_setScreenRect (s : State) (i j : ScreenId) (x : Option Rect) :
    (s.setScreenRect i x).screenRect j = if i = j then x else s.screenRect j := by
  simp [State.screenRect, Vector.getElem_set, Fin.ext_iff]

@[simp] theorem State.binding_setBinding (s : State) (v w : InputId) (x : Option Head) :
    (s.setBinding v x).binding w = if v = w then x else s.binding w := by
  simp [State.binding, Vector.getElem_set, Fin.ext_iff]

@[simp] theorem State.headEntry_setHeadEntry (s : State) (g h : Head) (x : Option HeadEntry) :
    (s.setHeadEntry g x).headEntry h = if g = h then x else s.headEntry h := by
  obtain ⟨gc, gn⟩ := g
  obtain ⟨hc, hn⟩ := h
  simp only [State.headEntry, State.setHeadEntry, State.setLayout, Fin.getElem_fin, Vector.getElem_set, Head.mk.injEq, Fin.ext_iff]
  by_cases h1 : gc.val = hc.val <;> by_cases h2 : gn.val = hn.val <;> simp [h1, h2]

@[simp] theorem State.scene_setScene (s : State) (n m : SceneNo) (x : Option Scene) :
    (s.setScene n x).scene m = if n = m then x else s.scene m := by
  simp [State.scene, Vector.getElem_set, Fin.ext_iff]

@[simp] theorem State.entry_setHotkey (s : State) (n m : EntryNo) (x : Option Hotkey) :
    (s.setHotkey n x).entry m = if n = m then x else s.entry m := by
  simp [State.entry, Vector.getElem_set, Fin.ext_iff]

theorem EventKind.row_inj {j k : EventKind} (h : j.row = k.row) : j = k := by
  cases j <;> cases k <;> first | rfl | exact absurd h (by decide)

@[simp] theorem State.event_setEvent (s : State) (j k : EventKind) (x : EventRec) :
    (s.setEvent j x).event k = if j = k then x else s.event k := by
  by_cases h : j = k
  · simp [State.event, h]
  · have h' : (j.row : Nat) ≠ k.row := fun e => h (EventKind.row_inj (Fin.ext e))
    simp [State.event, h, h']

end Sys2Proof.Machine
end

