-- ==== Sys2Proof/Laws/Frames.lean ====
section
/-!
SUPPORT. What each shared operation leaves as it was: one lemma for each, naming the parts of State it never touches.
-/

set_option Elab.async false
namespace Sys2Proof.Machine
open Sys2Proof

/-- A fold leaves what each of its steps leaves. -/
theorem foldl_leaves {α β : Type} (g : State → β) (f : State → α → State) (h : ∀ s x, g (f s x) = g s) (l : List α) (s : State) :
    g (l.foldl f s) = g s := by
  induction l generalizing s with
  | nil => rfl
  | cons x l ih => simp only [List.foldl_cons]; rw [ih, h]

/-! ### Flags -/

@[simp] theorem followOutputs_leaves (s : State) :
    (followOutputs s).now = s.now ∧ (followOutputs s).link = s.link ∧ (followOutputs s).status = s.status ∧
    (followOutputs s).profile = s.profile ∧ (followOutputs s).layout = s.layout ∧ (followOutputs s).sync = s.sync ∧
    (followOutputs s).screens = s.screens ∧ (followOutputs s).pointer = s.pointer ∧ (followOutputs s).keyboard = s.keyboard ∧
    (followOutputs s).matcher = s.matcher ∧ (followOutputs s).ports = s.ports ∧ (followOutputs s).power = s.power ∧
    (followOutputs s).desk = s.desk ∧ (followOutputs s).freeCount = s.freeCount ∧ (followOutputs s).out = s.out ∧
    (followOutputs s).pending = s.pending := by
  simp [followOutputs]

@[simp] theorem judgeAttention_leaves (s : State) :
    (judgeAttention s).now = s.now ∧ (judgeAttention s).link = s.link ∧ (judgeAttention s).profile = s.profile ∧
    (judgeAttention s).layout = s.layout ∧ (judgeAttention s).sync = s.sync ∧ (judgeAttention s).screens = s.screens ∧
    (judgeAttention s).pointer = s.pointer ∧ (judgeAttention s).keyboard = s.keyboard ∧
    (judgeAttention s).matcher = s.matcher ∧ (judgeAttention s).ports = s.ports ∧ (judgeAttention s).power = s.power ∧
    (judgeAttention s).desk = s.desk ∧ (judgeAttention s).freeCount = s.freeCount ∧ (judgeAttention s).out = s.out ∧
    (judgeAttention s).pending = s.pending := by
  unfold judgeAttention
  repeat' split
  all_goals simp

@[simp] theorem raise_leaves (e : Event) (s : State) :
    (raise e s).now = s.now ∧ (raise e s).link = s.link ∧ (raise e s).profile = s.profile ∧ (raise e s).layout = s.layout ∧
    (raise e s).sync = s.sync ∧ (raise e s).screens = s.screens ∧ (raise e s).pointer = s.pointer ∧
    (raise e s).keyboard = s.keyboard ∧ (raise e s).matcher = s.matcher ∧ (raise e s).ports = s.ports ∧
    (raise e s).power = s.power ∧ (raise e s).desk = s.desk ∧ (raise e s).freeCount = s.freeCount ∧ (raise e s).out = s.out ∧
    (raise e s).pending = s.pending := by
  simp [raise]

@[simp] theorem clearKind_leaves (k : EventKind) (s : State) :
    (clearKind k s).now = s.now ∧ (clearKind k s).link = s.link ∧ (clearKind k s).profile = s.profile ∧
    (clearKind k s).layout = s.layout ∧ (clearKind k s).sync = s.sync ∧ (clearKind k s).screens = s.screens ∧
    (clearKind k s).pointer = s.pointer ∧ (clearKind k s).keyboard = s.keyboard ∧ (clearKind k s).matcher = s.matcher ∧
    (clearKind k s).lines = s.lines ∧ (clearKind k s).ports = s.ports ∧ (clearKind k s).power = s.power ∧
    (clearKind k s).desk = s.desk ∧ (clearKind k s).freeCount = s.freeCount ∧ (clearKind k s).out = s.out ∧
    (clearKind k s).pending = s.pending := by
  unfold clearKind
  repeat' split
  all_goals simp

@[simp] theorem clearKinds_leaves (ks : List EventKind) (s : State) :
    (clearKinds ks s).now = s.now ∧ (clearKinds ks s).link = s.link ∧ (clearKinds ks s).profile = s.profile ∧
    (clearKinds ks s).layout = s.layout ∧ (clearKinds ks s).sync = s.sync ∧ (clearKinds ks s).screens = s.screens ∧
    (clearKinds ks s).pointer = s.pointer ∧ (clearKinds ks s).keyboard = s.keyboard ∧ (clearKinds ks s).matcher = s.matcher ∧
    (clearKinds ks s).ports = s.ports ∧ (clearKinds ks s).power = s.power ∧ (clearKinds ks s).desk = s.desk ∧
    (clearKinds ks s).freeCount = s.freeCount ∧ (clearKinds ks s).out = s.out ∧ (clearKinds ks s).pending = s.pending := by
  unfold clearKinds
  refine ⟨?_, ?_, ?_, ?_, ?_, ?_, ?_, ?_, ?_, ?_, ?_, ?_, ?_, ?_, ?_⟩ <;> simp only [judgeAttention_leaves] <;> exact foldl_leaves _ _ (fun s k => by simp) ks s

@[simp] theorem enableKinds_leaves (set : Nat) (s : State) :
    (enableKinds set s).now = s.now ∧ (enableKinds set s).link = s.link ∧ (enableKinds set s).profile = s.profile ∧
    (enableKinds set s).layout = s.layout ∧ (enableKinds set s).sync = s.sync ∧ (enableKinds set s).screens = s.screens ∧
    (enableKinds set s).pointer = s.pointer ∧ (enableKinds set s).keyboard = s.keyboard ∧
    (enableKinds set s).matcher = s.matcher ∧ (enableKinds set s).ports = s.ports ∧ (enableKinds set s).power = s.power ∧
    (enableKinds set s).desk = s.desk ∧ (enableKinds set s).freeCount = s.freeCount ∧ (enableKinds set s).out = s.out ∧
    (enableKinds set s).pending = s.pending := by
  unfold enableKinds
  refine ⟨?_, ?_, ?_, ?_, ?_, ?_, ?_, ?_, ?_, ?_, ?_, ?_, ?_, ?_, ?_⟩ <;> simp only [judgeAttention_leaves] <;> exact foldl_leaves _ _ (fun s k => by simp) _ s

@[simp] theorem reportFault_leaves (s : State) :
    (reportFault s).now = s.now ∧ (reportFault s).link = s.link ∧ (reportFault s).profile = s.profile ∧
    (reportFault s).layout = s.layout ∧ (reportFault s).sync = s.sync ∧ (reportFault s).screens = s.screens ∧
    (reportFault s).pointer = s.pointer ∧ (reportFault s).keyboard = s.keyboard ∧ (reportFault s).matcher = s.matcher ∧
    (reportFault s).lines = s.lines ∧ (reportFault s).ports = s.ports ∧ (reportFault s).power = s.power ∧
    (reportFault s).desk = s.desk ∧ (reportFault s).freeCount = s.freeCount ∧ (reportFault s).out = s.out ∧
    (reportFault s).pending = s.pending := by
  simp [reportFault]

@[simp] theorem reportWake_leaves (s : State) :
    (reportWake s).now = s.now ∧ (reportWake s).link = s.link ∧ (reportWake s).profile = s.profile ∧
    (reportWake s).layout = s.layout ∧ (reportWake s).sync = s.sync ∧ (reportWake s).screens = s.screens ∧
    (reportWake s).pointer = s.pointer ∧ (reportWake s).keyboard = s.keyboard ∧ (reportWake s).matcher = s.matcher ∧
    (reportWake s).lines = s.lines ∧ (reportWake s).ports = s.ports ∧ (reportWake s).power = s.power ∧
    (reportWake s).desk = s.desk ∧ (reportWake s).freeCount = s.freeCount ∧ (reportWake s).out = s.out ∧
    (reportWake s).pending = s.pending := by
  simp [reportWake]

/-! ### Held keys, lamps and queues -/

@[simp] theorem markHeld_leaves (p : HeldKey → Bool) (f : HeldKey → HeldKey) (s : State) :
    (markHeld p f s).now = s.now ∧ (markHeld p f s).link = s.link ∧ (markHeld p f s).status = s.status ∧
    (markHeld p f s).profile = s.profile ∧ (markHeld p f s).layout = s.layout ∧ (markHeld p f s).sync = s.sync ∧
    (markHeld p f s).screens = s.screens ∧ (markHeld p f s).pointer = s.pointer ∧ (markHeld p f s).matcher = s.matcher ∧
    (markHeld p f s).lines = s.lines ∧ (markHeld p f s).ports = s.ports ∧ (markHeld p f s).power = s.power ∧
    (markHeld p f s).desk = s.desk ∧ (markHeld p f s).freeCount = s.freeCount ∧ (markHeld p f s).out = s.out ∧
    (markHeld p f s).pending = s.pending := by
  simp [markHeld]

@[simp] theorem markCode_leaves (code : Nat) (f : HeldKey → HeldKey) (s : State) :
    (markCode code f s).now = s.now ∧ (markCode code f s).link = s.link ∧ (markCode code f s).status = s.status ∧
    (markCode code f s).profile = s.profile ∧ (markCode code f s).layout = s.layout ∧ (markCode code f s).sync = s.sync ∧
    (markCode code f s).screens = s.screens ∧ (markCode code f s).pointer = s.pointer ∧
    (markCode code f s).matcher = s.matcher ∧ (markCode code f s).lines = s.lines ∧ (markCode code f s).ports = s.ports ∧
    (markCode code f s).power = s.power ∧ (markCode code f s).desk = s.desk ∧ (markCode code f s).freeCount = s.freeCount ∧
    (markCode code f s).out = s.out ∧ (markCode code f s).pending = s.pending := by
  simp [markCode]

@[simp] theorem showLamps_leaves (s : State) :
    (showLamps s).now = s.now ∧ (showLamps s).link = s.link ∧ (showLamps s).status = s.status ∧
    (showLamps s).profile = s.profile ∧ (showLamps s).layout = s.layout ∧ (showLamps s).sync = s.sync ∧
    (showLamps s).screens = s.screens ∧ (showLamps s).pointer = s.pointer ∧ (showLamps s).matcher = s.matcher ∧
    (showLamps s).lines = s.lines ∧ (showLamps s).ports = s.ports ∧ (showLamps s).power = s.power ∧
    (showLamps s).desk = s.desk ∧ (showLamps s).freeCount = s.freeCount ∧ (showLamps s).pending = s.pending := by
  unfold showLamps
  repeat' split
  all_goals simp

@[simp] theorem setLamps_leaves (c : Computer) (lamps : LampSet) (s : State) :
    (setLamps c lamps s).now = s.now ∧ (setLamps c lamps s).link = s.link ∧ (setLamps c lamps s).status = s.status ∧
    (setLamps c lamps s).profile = s.profile ∧ (setLamps c lamps s).layout = s.layout ∧ (setLamps c lamps s).sync = s.sync ∧
    (setLamps c lamps s).screens = s.screens ∧ (setLamps c lamps s).pointer = s.pointer ∧
    (setLamps c lamps s).matcher = s.matcher ∧ (setLamps c lamps s).lines = s.lines ∧ (setLamps c lamps s).ports = s.ports ∧
    (setLamps c lamps s).power = s.power ∧ (setLamps c lamps s).desk = s.desk ∧ (setLamps c lamps s).freeCount = s.freeCount ∧
    (setLamps c lamps s).pending = s.pending := by
  simp only [setLamps]
  split <;> simp

@[simp] theorem queueEmptied_leaves (c : Computer) (s : State) :
    (queueEmptied c s).now = s.now ∧ (queueEmptied c s).link = s.link ∧ (queueEmptied c s).status = s.status ∧
    (queueEmptied c s).profile = s.profile ∧ (queueEmptied c s).layout = s.layout ∧ (queueEmptied c s).sync = s.sync ∧
    (queueEmptied c s).screens = s.screens ∧ (queueEmptied c s).pointer = s.pointer ∧ (queueEmptied c s).matcher = s.matcher ∧
    (queueEmptied c s).lines = s.lines ∧ (queueEmptied c s).ports = s.ports ∧ (queueEmptied c s).power = s.power ∧
    (queueEmptied c s).desk = s.desk ∧ (queueEmptied c s).freeCount = s.freeCount ∧ (queueEmptied c s).out = s.out ∧
    (queueEmptied c s).pending = s.pending := by
  unfold queueEmptied
  repeat' split
  all_goals simp

@[simp] theorem discardQueue_leaves (c : Computer) (s : State) :
    (discardQueue c s).now = s.now ∧ (discardQueue c s).link = s.link ∧ (discardQueue c s).status = s.status ∧
    (discardQueue c s).profile = s.profile ∧ (discardQueue c s).layout = s.layout ∧ (discardQueue c s).sync = s.sync ∧
    (discardQueue c s).screens = s.screens ∧ (discardQueue c s).pointer = s.pointer ∧ (discardQueue c s).matcher = s.matcher ∧
    (discardQueue c s).lines = s.lines ∧ (discardQueue c s).power = s.power ∧ (discardQueue c s).desk = s.desk ∧
    (discardQueue c s).freeCount = s.freeCount ∧ (discardQueue c s).out = s.out ∧ (discardQueue c s).pending = s.pending := by
  simp [discardQueue]

/-! ### Power and wakes -/

@[simp] theorem setPowerState_leaves (c : Computer) (st : PowerState) (s : State) :
    (setPowerState c st s).now = s.now ∧ (setPowerState c st s).link = s.link ∧ (setPowerState c st s).profile = s.profile ∧
    (setPowerState c st s).layout = s.layout ∧ (setPowerState c st s).sync = s.sync ∧
    (setPowerState c st s).screens = s.screens ∧ (setPowerState c st s).pointer = s.pointer ∧
    (setPowerState c st s).keyboard = s.keyboard ∧ (setPowerState c st s).matcher = s.matcher ∧
    (setPowerState c st s).ports = s.ports ∧ (setPowerState c st s).desk = s.desk ∧
    (setPowerState c st s).freeCount = s.freeCount ∧ (setPowerState c st s).out = s.out ∧
    (setPowerState c st s).pending = s.pending := by
  simp [setPowerState]

@[simp] theorem changePower_leaves (c : Computer) (st : PowerState) (s : State) :
    (changePower c st s).now = s.now ∧ (changePower c st s).link = s.link ∧ (changePower c st s).profile = s.profile ∧
    (changePower c st s).layout = s.layout ∧ (changePower c st s).sync = s.sync ∧ (changePower c st s).screens = s.screens ∧
    (changePower c st s).pointer = s.pointer ∧ (changePower c st s).keyboard = s.keyboard ∧
    (changePower c st s).matcher = s.matcher ∧ (changePower c st s).ports = s.ports ∧ (changePower c st s).desk = s.desk ∧
    (changePower c st s).freeCount = s.freeCount ∧ (changePower c st s).out = s.out ∧ (changePower c st s).pending = s.pending := by
  simp [changePower]

@[simp] theorem endPulse_leaves (c : Computer) (s : State) :
    (endPulse c s).now = s.now ∧ (endPulse c s).link = s.link ∧ (endPulse c s).status = s.status ∧
    (endPulse c s).profile = s.profile ∧ (endPulse c s).layout = s.layout ∧ (endPulse c s).sync = s.sync ∧
    (endPulse c s).screens = s.screens ∧ (endPulse c s).pointer = s.pointer ∧ (endPulse c s).keyboard = s.keyboard ∧
    (endPulse c s).matcher = s.matcher ∧ (endPulse c s).lines = s.lines ∧ (endPulse c s).ports = s.ports ∧
    (endPulse c s).desk = s.desk ∧ (endPulse c s).freeCount = s.freeCount ∧ (endPulse c s).out = s.out ∧
    (endPulse c s).pending = s.pending := by
  simp [endPulse]

@[simp] theorem endWake_leaves (c : Computer) (s : State) :
    (endWake c s).now = s.now ∧ (endWake c s).link = s.link ∧ (endWake c s).status = s.status ∧
    (endWake c s).profile = s.profile ∧ (endWake c s).layout = s.layout ∧ (endWake c s).sync = s.sync ∧
    (endWake c s).screens = s.screens ∧ (endWake c s).pointer = s.pointer ∧ (endWake c s).keyboard = s.keyboard ∧
    (endWake c s).matcher = s.matcher ∧ (endWake c s).lines = s.lines ∧ (endWake c s).ports = s.ports ∧
    (endWake c s).desk = s.desk ∧ (endWake c s).freeCount = s.freeCount ∧ (endWake c s).out = s.out ∧
    (endWake c s).pending = s.pending := by
  simp [endWake]

@[simp] theorem enterUnresponsive_leaves (c : Computer) (s : State) :
    (enterUnresponsive c s).now = s.now ∧ (enterUnresponsive c s).link = s.link ∧ (enterUnresponsive c s).profile = s.profile ∧
    (enterUnresponsive c s).layout = s.layout ∧ (enterUnresponsive c s).sync = s.sync ∧
    (enterUnresponsive c s).screens = s.screens ∧ (enterUnresponsive c s).pointer = s.pointer ∧
    (enterUnresponsive c s).matcher = s.matcher ∧ (enterUnresponsive c s).desk = s.desk ∧
    (enterUnresponsive c s).freeCount = s.freeCount ∧ (enterUnresponsive c s).out = s.out ∧
    (enterUnresponsive c s).pending = s.pending := by
  simp [enterUnresponsive]

@[simp] theorem linkWake_leaves (left : Bool) (c : Computer) (s : State) :
    (linkWake left c s).now = s.now ∧ (linkWake left c s).link = s.link ∧ (linkWake left c s).status = s.status ∧
    (linkWake left c s).profile = s.profile ∧ (linkWake left c s).layout = s.layout ∧ (linkWake left c s).sync = s.sync ∧
    (linkWake left c s).screens = s.screens ∧ (linkWake left c s).pointer = s.pointer ∧ (linkWake left c s).keyboard = s.keyboard ∧
    (linkWake left c s).matcher = s.matcher ∧ (linkWake left c s).lines = s.lines ∧ (linkWake left c s).ports = s.ports ∧
    (linkWake left c s).power = s.power ∧ (linkWake left c s).desk = s.desk ∧ (linkWake left c s).freeCount = s.freeCount ∧
    (linkWake left c s).pending = s.pending := by
  unfold linkWake
  repeat' split
  all_goals simp

@[simp] theorem startPulse_leaves (c : Computer) (s : State) :
    (startPulse c s).now = s.now ∧ (startPulse c s).link = s.link ∧ (startPulse c s).status = s.status ∧
    (startPulse c s).profile = s.profile ∧ (startPulse c s).layout = s.layout ∧ (startPulse c s).sync = s.sync ∧
    (startPulse c s).screens = s.screens ∧ (startPulse c s).pointer = s.pointer ∧ (startPulse c s).keyboard = s.keyboard ∧
    (startPulse c s).matcher = s.matcher ∧ (startPulse c s).lines = s.lines ∧ (startPulse c s).ports = s.ports ∧
    (startPulse c s).desk = s.desk ∧ (startPulse c s).freeCount = s.freeCount ∧ (startPulse c s).out = s.out ∧
    (startPulse c s).pending = s.pending := by
  unfold startPulse
  repeat' split
  all_goals simp

@[simp] theorem signalWake_leaves (m : Method) (left : Bool) (c : Computer) (s : State) :
    (signalWake m left c s).now = s.now ∧ (signalWake m left c s).link = s.link ∧ (signalWake m left c s).status = s.status ∧
    (signalWake m left c s).profile = s.profile ∧ (signalWake m left c s).layout = s.layout ∧ (signalWake m left c s).sync = s.sync ∧
    (signalWake m left c s).screens = s.screens ∧ (signalWake m left c s).pointer = s.pointer ∧
    (signalWake m left c s).keyboard = s.keyboard ∧ (signalWake m left c s).matcher = s.matcher ∧ (signalWake m left c s).lines = s.lines ∧
    (signalWake m left c s).ports = s.ports ∧ (signalWake m left c s).desk = s.desk ∧ (signalWake m left c s).freeCount = s.freeCount ∧
    (signalWake m left c s).pending = s.pending := by
  cases m <;> simp [signalWake]

@[simp] theorem startAttempt_leaves (left : Bool) (c : Computer) (k : Nat) (s : State) :
    (startAttempt left c k s).now = s.now ∧ (startAttempt left c k s).link = s.link ∧ (startAttempt left c k s).profile = s.profile ∧
    (startAttempt left c k s).layout = s.layout ∧ (startAttempt left c k s).sync = s.sync ∧ (startAttempt left c k s).screens = s.screens ∧
    (startAttempt left c k s).pointer = s.pointer ∧ (startAttempt left c k s).matcher = s.matcher ∧ (startAttempt left c k s).desk = s.desk ∧
    (startAttempt left c k s).freeCount = s.freeCount ∧ (startAttempt left c k s).pending = s.pending := by
  unfold startAttempt
  repeat' split
  all_goals simp

@[simp] theorem wakeRequest_leaves (c : Computer) (s : State) :
    (wakeRequest c s).now = s.now ∧ (wakeRequest c s).link = s.link ∧ (wakeRequest c s).profile = s.profile ∧
    (wakeRequest c s).layout = s.layout ∧ (wakeRequest c s).sync = s.sync ∧ (wakeRequest c s).screens = s.screens ∧
    (wakeRequest c s).pointer = s.pointer ∧ (wakeRequest c s).matcher = s.matcher ∧ (wakeRequest c s).desk = s.desk ∧
    (wakeRequest c s).freeCount = s.freeCount ∧ (wakeRequest c s).pending = s.pending := by
  unfold wakeRequest
  repeat' split
  all_goals simp

@[simp] theorem inputNotice_leaves (c : Computer) (s : State) :
    (inputNotice c s).now = s.now ∧ (inputNotice c s).link = s.link ∧ (inputNotice c s).profile = s.profile ∧
    (inputNotice c s).layout = s.layout ∧ (inputNotice c s).sync = s.sync ∧ (inputNotice c s).screens = s.screens ∧
    (inputNotice c s).pointer = s.pointer ∧ (inputNotice c s).matcher = s.matcher ∧ (inputNotice c s).desk = s.desk ∧
    (inputNotice c s).freeCount = s.freeCount ∧ (inputNotice c s).pending = s.pending := by
  unfold inputNotice
  repeat' split
  all_goals simp

@[simp] theorem attemptExpiry_leaves (c : Computer) (s : State) :
    (attemptExpiry c s).link = s.link ∧ (attemptExpiry c s).profile = s.profile ∧ (attemptExpiry c s).layout = s.layout ∧
    (attemptExpiry c s).sync = s.sync ∧ (attemptExpiry c s).screens = s.screens ∧ (attemptExpiry c s).pointer = s.pointer ∧
    (attemptExpiry c s).matcher = s.matcher ∧ (attemptExpiry c s).desk = s.desk ∧ (attemptExpiry c s).freeCount = s.freeCount ∧
    (attemptExpiry c s).pending = s.pending := by
  unfold attemptExpiry
  repeat' split
  all_goals simp

@[simp] theorem pulseExpiry_leaves (c : Computer) (s : State) :
    (pulseExpiry c s).link = s.link ∧ (pulseExpiry c s).status = s.status ∧ (pulseExpiry c s).profile = s.profile ∧
    (pulseExpiry c s).layout = s.layout ∧ (pulseExpiry c s).sync = s.sync ∧ (pulseExpiry c s).screens = s.screens ∧
    (pulseExpiry c s).pointer = s.pointer ∧ (pulseExpiry c s).keyboard = s.keyboard ∧ (pulseExpiry c s).matcher = s.matcher ∧
    (pulseExpiry c s).lines = s.lines ∧ (pulseExpiry c s).ports = s.ports ∧ (pulseExpiry c s).desk = s.desk ∧
    (pulseExpiry c s).freeCount = s.freeCount ∧ (pulseExpiry c s).out = s.out ∧ (pulseExpiry c s).pending = s.pending := by
  unfold pulseExpiry
  repeat' split
  all_goals simp

@[simp] theorem fallAsleep_leaves (c : Computer) (s : State) :
    (fallAsleep c s).now = s.now ∧ (fallAsleep c s).link = s.link ∧ (fallAsleep c s).profile = s.profile ∧
    (fallAsleep c s).layout = s.layout ∧ (fallAsleep c s).sync = s.sync ∧ (fallAsleep c s).screens = s.screens ∧
    (fallAsleep c s).pointer = s.pointer ∧ (fallAsleep c s).keyboard = s.keyboard ∧ (fallAsleep c s).matcher = s.matcher ∧
    (fallAsleep c s).ports = s.ports ∧ (fallAsleep c s).desk = s.desk ∧ (fallAsleep c s).freeCount = s.freeCount ∧
    (fallAsleep c s).out = s.out ∧ (fallAsleep c s).pending = s.pending := by
  simp [fallAsleep]

@[simp] theorem observe_leaves (c : Computer) (o : Observation) (s : State) :
    (observe c o s).now = s.now ∧ (observe c o s).link = s.link ∧ (observe c o s).profile = s.profile ∧
    (observe c o s).layout = s.layout ∧ (observe c o s).sync = s.sync ∧ (observe c o s).screens = s.screens ∧
    (observe c o s).pointer = s.pointer ∧ (observe c o s).keyboard = s.keyboard ∧ (observe c o s).matcher = s.matcher ∧
    (observe c o s).ports = s.ports ∧ (observe c o s).desk = s.desk ∧ (observe c o s).freeCount = s.freeCount ∧
    (observe c o s).out = s.out ∧ (observe c o s).pending = s.pending := by
  unfold observe
  repeat' split
  all_goals simp

@[simp] theorem softResetPower_leaves (c : Computer) (s : State) :
    (softResetPower c s).now = s.now ∧ (softResetPower c s).link = s.link ∧ (softResetPower c s).profile = s.profile ∧
    (softResetPower c s).layout = s.layout ∧ (softResetPower c s).sync = s.sync ∧ (softResetPower c s).screens = s.screens ∧
    (softResetPower c s).pointer = s.pointer ∧ (softResetPower c s).keyboard = s.keyboard ∧
    (softResetPower c s).matcher = s.matcher ∧ (softResetPower c s).ports = s.ports ∧ (softResetPower c s).desk = s.desk ∧
    (softResetPower c s).freeCount = s.freeCount ∧ (softResetPower c s).out = s.out ∧ (softResetPower c s).pending = s.pending := by
  simp only [softResetPower]
  repeat' split
  all_goals simp

/-! ### Entries, polls and buses -/

@[simp] theorem placeKeys_leaves (c : Computer) (k : KeyState) (s : State) :
    ((placeKeys c k s).1).now = s.now ∧ ((placeKeys c k s).1).link = s.link ∧ ((placeKeys c k s).1).profile = s.profile ∧
    ((placeKeys c k s).1).layout = s.layout ∧ ((placeKeys c k s).1).sync = s.sync ∧ ((placeKeys c k s).1).screens = s.screens ∧
    ((placeKeys c k s).1).pointer = s.pointer ∧ ((placeKeys c k s).1).keyboard = s.keyboard ∧
    ((placeKeys c k s).1).matcher = s.matcher ∧ ((placeKeys c k s).1).power = s.power ∧ ((placeKeys c k s).1).desk = s.desk ∧
    ((placeKeys c k s).1).freeCount = s.freeCount ∧ ((placeKeys c k s).1).out = s.out ∧
    ((placeKeys c k s).1).pending = s.pending := by
  simp only [placeKeys]
  repeat' split
  all_goals simp

@[simp] theorem discardKeys_leaves (c : Computer) (k : KeyState) (s : State) :
    ((discardKeys c k s).1).now = s.now ∧ ((discardKeys c k s).1).link = s.link ∧ ((discardKeys c k s).1).profile = s.profile ∧
    ((discardKeys c k s).1).layout = s.layout ∧ ((discardKeys c k s).1).sync = s.sync ∧
    ((discardKeys c k s).1).screens = s.screens ∧ ((discardKeys c k s).1).pointer = s.pointer ∧
    ((discardKeys c k s).1).keyboard = s.keyboard ∧ ((discardKeys c k s).1).matcher = s.matcher ∧
    ((discardKeys c k s).1).ports = s.ports ∧ ((discardKeys c k s).1).power = s.power ∧ ((discardKeys c k s).1).desk = s.desk ∧
    ((discardKeys c k s).1).freeCount = s.freeCount ∧ ((discardKeys c k s).1).out = s.out ∧
    ((discardKeys c k s).1).pending = s.pending := by
  unfold discardKeys
  repeat' split
  all_goals simp

@[simp] theorem takeKeys_leaves (c : Computer) (k : KeyState) (s : State) :
    ((takeKeys c k s).1).now = s.now ∧ ((takeKeys c k s).1).link = s.link ∧ ((takeKeys c k s).1).profile = s.profile ∧
    ((takeKeys c k s).1).layout = s.layout ∧ ((takeKeys c k s).1).sync = s.sync ∧ ((takeKeys c k s).1).screens = s.screens ∧
    ((takeKeys c k s).1).pointer = s.pointer ∧ ((takeKeys c k s).1).matcher = s.matcher ∧ ((takeKeys c k s).1).desk = s.desk ∧
    ((takeKeys c k s).1).freeCount = s.freeCount ∧ ((takeKeys c k s).1).pending = s.pending := by
  unfold takeKeys
  dsimp only
  repeat' split
  all_goals simp

@[simp] theorem refuseButtons_leaves (c : Computer) (b : ButtonSet) (s : State) :
    (refuseButtons c b s).now = s.now ∧ (refuseButtons c b s).link = s.link ∧ (refuseButtons c b s).profile = s.profile ∧
    (refuseButtons c b s).layout = s.layout ∧ (refuseButtons c b s).sync = s.sync ∧ (refuseButtons c b s).screens = s.screens ∧
    (refuseButtons c b s).keyboard = s.keyboard ∧ (refuseButtons c b s).matcher = s.matcher ∧
    (refuseButtons c b s).ports = s.ports ∧ (refuseButtons c b s).power = s.power ∧ (refuseButtons c b s).desk = s.desk ∧
    (refuseButtons c b s).freeCount = s.freeCount ∧ (refuseButtons c b s).out = s.out ∧
    (refuseButtons c b s).pending = s.pending := by
  unfold refuseButtons
  repeat' split
  all_goals simp

@[simp] theorem placePointer_leaves (c : Computer) (x y : Nat) (b : ButtonSet) (w : Int) (s : State) :
    (placePointer c x y b w s).now = s.now ∧ (placePointer c x y b w s).link = s.link ∧
    (placePointer c x y b w s).profile = s.profile ∧ (placePointer c x y b w s).layout = s.layout ∧
    (placePointer c x y b w s).sync = s.sync ∧ (placePointer c x y b w s).screens = s.screens ∧
    (placePointer c x y b w s).keyboard = s.keyboard ∧ (placePointer c x y b w s).matcher = s.matcher ∧
    (placePointer c x y b w s).power = s.power ∧ (placePointer c x y b w s).desk = s.desk ∧
    (placePointer c x y b w s).freeCount = s.freeCount ∧ (placePointer c x y b w s).out = s.out ∧
    (placePointer c x y b w s).pending = s.pending := by
  simp only [placePointer]
  repeat' split
  all_goals simp

@[simp] theorem takePointer_leaves (c : Computer) (x y : Nat) (b : ButtonSet) (w : Int) (s : State) :
    (takePointer c x y b w s).now = s.now ∧ (takePointer c x y b w s).link = s.link ∧
    (takePointer c x y b w s).profile = s.profile ∧ (takePointer c x y b w s).layout = s.layout ∧
    (takePointer c x y b w s).sync = s.sync ∧ (takePointer c x y b w s).screens = s.screens ∧
    (takePointer c x y b w s).matcher = s.matcher ∧ (takePointer c x y b w s).desk = s.desk ∧
    (takePointer c x y b w s).freeCount = s.freeCount ∧ (takePointer c x y b w s).pending = s.pending := by
  unfold takePointer
  dsimp only
  repeat' split
  all_goals simp

@[simp] theorem answerKeys_leaves (c : Computer) (k : KeyState) (s : State) :
    (answerKeys c k s).now = s.now ∧ (answerKeys c k s).link = s.link ∧ (answerKeys c k s).status = s.status ∧
    (answerKeys c k s).profile = s.profile ∧ (answerKeys c k s).layout = s.layout ∧ (answerKeys c k s).sync = s.sync ∧
    (answerKeys c k s).screens = s.screens ∧ (answerKeys c k s).pointer = s.pointer ∧
    (answerKeys c k s).keyboard = s.keyboard ∧ (answerKeys c k s).matcher = s.matcher ∧ (answerKeys c k s).lines = s.lines ∧
    (answerKeys c k s).ports = s.ports ∧ (answerKeys c k s).power = s.power ∧ (answerKeys c k s).desk = s.desk ∧
    (answerKeys c k s).freeCount = s.freeCount ∧ (answerKeys c k s).pending = s.pending := by
  simp [answerKeys]

@[simp] theorem answerPointer_leaves (c : Computer) (x y : Nat) (b : ButtonSet) (w : Int) (s : State) :
    (answerPointer c x y b w s).now = s.now ∧ (answerPointer c x y b w s).link = s.link ∧
    (answerPointer c x y b w s).status = s.status ∧ (answerPointer c x y b w s).profile = s.profile ∧
    (answerPointer c x y b w s).layout = s.layout ∧ (answerPointer c x y b w s).sync = s.sync ∧
    (answerPointer c x y b w s).screens = s.screens ∧ (answerPointer c x y b w s).pointer = s.pointer ∧
    (answerPointer c x y b w s).keyboard = s.keyboard ∧ (answerPointer c x y b w s).matcher = s.matcher ∧
    (answerPointer c x y b w s).lines = s.lines ∧ (answerPointer c x y b w s).ports = s.ports ∧
    (answerPointer c x y b w s).power = s.power ∧ (answerPointer c x y b w s).desk = s.desk ∧
    (answerPointer c x y b w s).freeCount = s.freeCount ∧ (answerPointer c x y b w s).pending = s.pending := by
  simp [answerPointer]

@[simp] theorem refreshKeys_leaves (c : Computer) (s : State) :
    (refreshKeys c s).now = s.now ∧ (refreshKeys c s).link = s.link ∧ (refreshKeys c s).status = s.status ∧
    (refreshKeys c s).profile = s.profile ∧ (refreshKeys c s).layout = s.layout ∧ (refreshKeys c s).sync = s.sync ∧
    (refreshKeys c s).screens = s.screens ∧ (refreshKeys c s).pointer = s.pointer ∧ (refreshKeys c s).keyboard = s.keyboard ∧
    (refreshKeys c s).matcher = s.matcher ∧ (refreshKeys c s).lines = s.lines ∧ (refreshKeys c s).power = s.power ∧
    (refreshKeys c s).desk = s.desk ∧ (refreshKeys c s).freeCount = s.freeCount ∧ (refreshKeys c s).pending = s.pending := by
  simp only [refreshKeys]
  repeat' split
  all_goals simp

@[simp] theorem refreshPointer_leaves (c : Computer) (s : State) :
    (refreshPointer c s).now = s.now ∧ (refreshPointer c s).link = s.link ∧ (refreshPointer c s).status = s.status ∧
    (refreshPointer c s).profile = s.profile ∧ (refreshPointer c s).layout = s.layout ∧ (refreshPointer c s).sync = s.sync ∧
    (refreshPointer c s).screens = s.screens ∧ (refreshPointer c s).pointer = s.pointer ∧
    (refreshPointer c s).keyboard = s.keyboard ∧ (refreshPointer c s).matcher = s.matcher ∧
    (refreshPointer c s).lines = s.lines ∧ (refreshPointer c s).power = s.power ∧ (refreshPointer c s).desk = s.desk ∧
    (refreshPointer c s).freeCount = s.freeCount ∧ (refreshPointer c s).pending = s.pending := by
  simp only [refreshPointer]
  repeat' split
  all_goals simp

@[simp] theorem pollKeys_leaves (c : Computer) (s : State) :
    (pollKeys c s).now = s.now ∧ (pollKeys c s).link = s.link ∧ (pollKeys c s).status = s.status ∧
    (pollKeys c s).profile = s.profile ∧ (pollKeys c s).layout = s.layout ∧ (pollKeys c s).sync = s.sync ∧
    (pollKeys c s).screens = s.screens ∧ (pollKeys c s).pointer = s.pointer ∧ (pollKeys c s).keyboard = s.keyboard ∧
    (pollKeys c s).matcher = s.matcher ∧ (pollKeys c s).lines = s.lines ∧ (pollKeys c s).power = s.power ∧
    (pollKeys c s).desk = s.desk ∧ (pollKeys c s).freeCount = s.freeCount ∧ (pollKeys c s).pending = s.pending := by
  simp only [pollKeys]
  repeat' split
  all_goals simp

@[simp] theorem pollPointer_leaves (c : Computer) (s : State) :
    (pollPointer c s).now = s.now ∧ (pollPointer c s).link = s.link ∧ (pollPointer c s).status = s.status ∧
    (pollPointer c s).profile = s.profile ∧ (pollPointer c s).layout = s.layout ∧ (pollPointer c s).sync = s.sync ∧
    (pollPointer c s).screens = s.screens ∧ (pollPointer c s).pointer = s.pointer ∧ (pollPointer c s).keyboard = s.keyboard ∧
    (pollPointer c s).matcher = s.matcher ∧ (pollPointer c s).lines = s.lines ∧ (pollPointer c s).power = s.power ∧
    (pollPointer c s).desk = s.desk ∧ (pollPointer c s).freeCount = s.freeCount ∧ (pollPointer c s).pending = s.pending := by
  simp only [pollPointer]
  repeat' split
  all_goals simp

@[simp] theorem currentState_leaves (c : Computer) (f : PortFunction) (s : State) :
    (currentState c f s).now = s.now ∧ (currentState c f s).link = s.link ∧ (currentState c f s).status = s.status ∧
    (currentState c f s).profile = s.profile ∧ (currentState c f s).layout = s.layout ∧ (currentState c f s).sync = s.sync ∧
    (currentState c f s).screens = s.screens ∧ (currentState c f s).pointer = s.pointer ∧
    (currentState c f s).keyboard = s.keyboard ∧ (currentState c f s).matcher = s.matcher ∧
    (currentState c f s).lines = s.lines ∧ (currentState c f s).power = s.power ∧ (currentState c f s).desk = s.desk ∧
    (currentState c f s).freeCount = s.freeCount ∧ (currentState c f s).pending = s.pending := by
  cases f <;> simp [currentState]

@[simp] theorem setObserved_leaves (c : Computer) (o : PortState) (s : State) :
    (setObserved c o s).now = s.now ∧ (setObserved c o s).link = s.link ∧ (setObserved c o s).status = s.status ∧
    (setObserved c o s).profile = s.profile ∧ (setObserved c o s).layout = s.layout ∧ (setObserved c o s).sync = s.sync ∧
    (setObserved c o s).screens = s.screens ∧ (setObserved c o s).pointer = s.pointer ∧
    (setObserved c o s).keyboard = s.keyboard ∧ (setObserved c o s).matcher = s.matcher ∧ (setObserved c o s).lines = s.lines ∧
    (setObserved c o s).power = s.power ∧ (setObserved c o s).desk = s.desk ∧ (setObserved c o s).freeCount = s.freeCount ∧
    (setObserved c o s).out = s.out ∧ (setObserved c o s).pending = s.pending := by
  simp [setObserved]

@[simp] theorem clearPort_leaves (c : Computer) (o : PortState) (ob : Observation) (s : State) :
    (clearPort c o ob s).now = s.now ∧ (clearPort c o ob s).link = s.link ∧ (clearPort c o ob s).profile = s.profile ∧
    (clearPort c o ob s).layout = s.layout ∧ (clearPort c o ob s).sync = s.sync ∧ (clearPort c o ob s).screens = s.screens ∧
    (clearPort c o ob s).pointer = s.pointer ∧ (clearPort c o ob s).matcher = s.matcher ∧ (clearPort c o ob s).desk = s.desk ∧
    (clearPort c o ob s).freeCount = s.freeCount ∧ (clearPort c o ob s).pending = s.pending := by
  simp [clearPort]

@[simp] theorem busPowerAppears_leaves (c : Computer) (s : State) :
    (busPowerAppears c s).now = s.now ∧ (busPowerAppears c s).link = s.link ∧ (busPowerAppears c s).profile = s.profile ∧
    (busPowerAppears c s).layout = s.layout ∧ (busPowerAppears c s).sync = s.sync ∧ (busPowerAppears c s).screens = s.screens ∧
    (busPowerAppears c s).pointer = s.pointer ∧ (busPowerAppears c s).keyboard = s.keyboard ∧
    (busPowerAppears c s).matcher = s.matcher ∧ (busPowerAppears c s).desk = s.desk ∧
    (busPowerAppears c s).freeCount = s.freeCount ∧ (busPowerAppears c s).out = s.out ∧
    (busPowerAppears c s).pending = s.pending := by
  unfold busPowerAppears
  repeat' split
  all_goals simp

@[simp] theorem configurationSelected_leaves (c : Computer) (s : State) :
    (configurationSelected c s).now = s.now ∧ (configurationSelected c s).link = s.link ∧
    (configurationSelected c s).profile = s.profile ∧ (configurationSelected c s).layout = s.layout ∧
    (configurationSelected c s).sync = s.sync ∧ (configurationSelected c s).screens = s.screens ∧
    (configurationSelected c s).pointer = s.pointer ∧ (configurationSelected c s).keyboard = s.keyboard ∧
    (configurationSelected c s).matcher = s.matcher ∧ (configurationSelected c s).desk = s.desk ∧
    (configurationSelected c s).freeCount = s.freeCount ∧ (configurationSelected c s).out = s.out ∧
    (configurationSelected c s).pending = s.pending := by
  unfold configurationSelected
  repeat' split
  all_goals simp

@[simp] theorem busIdle_leaves (c : Computer) (s : State) :
    (busIdle c s).now = s.now ∧ (busIdle c s).link = s.link ∧ (busIdle c s).profile = s.profile ∧
    (busIdle c s).layout = s.layout ∧ (busIdle c s).sync = s.sync ∧ (busIdle c s).screens = s.screens ∧
    (busIdle c s).pointer = s.pointer ∧ (busIdle c s).keyboard = s.keyboard ∧ (busIdle c s).matcher = s.matcher ∧
    (busIdle c s).desk = s.desk ∧ (busIdle c s).freeCount = s.freeCount ∧ (busIdle c s).out = s.out ∧
    (busIdle c s).pending = s.pending := by
  unfold busIdle
  repeat' split
  all_goals simp

@[simp] theorem busActivity_leaves (c : Computer) (s : State) :
    (busActivity c s).now = s.now ∧ (busActivity c s).link = s.link ∧ (busActivity c s).profile = s.profile ∧
    (busActivity c s).layout = s.layout ∧ (busActivity c s).sync = s.sync ∧ (busActivity c s).screens = s.screens ∧
    (busActivity c s).pointer = s.pointer ∧ (busActivity c s).keyboard = s.keyboard ∧ (busActivity c s).matcher = s.matcher ∧
    (busActivity c s).desk = s.desk ∧ (busActivity c s).freeCount = s.freeCount ∧ (busActivity c s).out = s.out ∧
    (busActivity c s).pending = s.pending := by
  unfold busActivity
  repeat' split
  all_goals simp

@[simp] theorem configurationDeselected_leaves (c : Computer) (s : State) :
    (configurationDeselected c s).now = s.now ∧ (configurationDeselected c s).link = s.link ∧
    (configurationDeselected c s).profile = s.profile ∧ (configurationDeselected c s).layout = s.layout ∧
    (configurationDeselected c s).sync = s.sync ∧ (configurationDeselected c s).screens = s.screens ∧
    (configurationDeselected c s).pointer = s.pointer ∧ (configurationDeselected c s).matcher = s.matcher ∧
    (configurationDeselected c s).desk = s.desk ∧ (configurationDeselected c s).freeCount = s.freeCount ∧
    (configurationDeselected c s).pending = s.pending := by
  unfold configurationDeselected
  repeat' split
  all_goals simp

@[simp] theorem busReset_leaves (c : Computer) (s : State) :
    (busReset c s).now = s.now ∧ (busReset c s).link = s.link ∧ (busReset c s).profile = s.profile ∧
    (busReset c s).layout = s.layout ∧ (busReset c s).sync = s.sync ∧ (busReset c s).screens = s.screens ∧
    (busReset c s).pointer = s.pointer ∧ (busReset c s).matcher = s.matcher ∧ (busReset c s).desk = s.desk ∧
    (busReset c s).freeCount = s.freeCount ∧ (busReset c s).pending = s.pending := by
  unfold busReset
  repeat' split
  all_goals simp

@[simp] theorem busPowerDisappears_leaves (c : Computer) (s : State) :
    (busPowerDisappears c s).now = s.now ∧ (busPowerDisappears c s).link = s.link ∧
    (busPowerDisappears c s).profile = s.profile ∧ (busPowerDisappears c s).layout = s.layout ∧
    (busPowerDisappears c s).sync = s.sync ∧ (busPowerDisappears c s).screens = s.screens ∧
    (busPowerDisappears c s).pointer = s.pointer ∧ (busPowerDisappears c s).matcher = s.matcher ∧
    (busPowerDisappears c s).desk = s.desk ∧ (busPowerDisappears c s).freeCount = s.freeCount ∧
    (busPowerDisappears c s).pending = s.pending := by
  unfold busPowerDisappears
  repeat' split
  all_goals simp

@[simp] theorem remoteWakeChange_leaves (c : Computer) (g : Bool) (s : State) :
    (remoteWakeChange c g s).now = s.now ∧ (remoteWakeChange c g s).link = s.link ∧
    (remoteWakeChange c g s).status = s.status ∧ (remoteWakeChange c g s).profile = s.profile ∧
    (remoteWakeChange c g s).layout = s.layout ∧ (remoteWakeChange c g s).sync = s.sync ∧
    (remoteWakeChange c g s).screens = s.screens ∧ (remoteWakeChange c g s).pointer = s.pointer ∧
    (remoteWakeChange c g s).keyboard = s.keyboard ∧ (remoteWakeChange c g s).matcher = s.matcher ∧
    (remoteWakeChange c g s).lines = s.lines ∧ (remoteWakeChange c g s).power = s.power ∧
    (remoteWakeChange c g s).desk = s.desk ∧ (remoteWakeChange c g s).freeCount = s.freeCount ∧
    (remoteWakeChange c g s).out = s.out ∧ (remoteWakeChange c g s).pending = s.pending := by
  unfold remoteWakeChange
  repeat' split
  all_goals simp

@[simp] theorem lampWrite_leaves (c : Computer) (l : Byte) (s : State) :
    (lampWrite c l s).now = s.now ∧ (lampWrite c l s).link = s.link ∧ (lampWrite c l s).status = s.status ∧
    (lampWrite c l s).profile = s.profile ∧ (lampWrite c l s).layout = s.layout ∧ (lampWrite c l s).sync = s.sync ∧
    (lampWrite c l s).screens = s.screens ∧ (lampWrite c l s).pointer = s.pointer ∧ (lampWrite c l s).matcher = s.matcher ∧
    (lampWrite c l s).lines = s.lines ∧ (lampWrite c l s).ports = s.ports ∧ (lampWrite c l s).power = s.power ∧
    (lampWrite c l s).desk = s.desk ∧ (lampWrite c l s).freeCount = s.freeCount ∧ (lampWrite c l s).pending = s.pending := by
  unfold lampWrite
  repeat' split
  all_goals simp

/-! ### Key focus -/

@[simp] theorem suppressAdded_leaves (t k : KeyState) (s : State) :
    (suppressAdded t k s).now = s.now ∧ (suppressAdded t k s).link = s.link ∧ (suppressAdded t k s).status = s.status ∧
    (suppressAdded t k s).profile = s.profile ∧ (suppressAdded t k s).layout = s.layout ∧ (suppressAdded t k s).sync = s.sync ∧
    (suppressAdded t k s).screens = s.screens ∧ (suppressAdded t k s).pointer = s.pointer ∧
    (suppressAdded t k s).matcher = s.matcher ∧ (suppressAdded t k s).lines = s.lines ∧ (suppressAdded t k s).ports = s.ports ∧
    (suppressAdded t k s).power = s.power ∧ (suppressAdded t k s).desk = s.desk ∧
    (suppressAdded t k s).freeCount = s.freeCount ∧ (suppressAdded t k s).out = s.out ∧
    (suppressAdded t k s).pending = s.pending := by
  simp [suppressAdded]

@[simp] theorem handTarget_leaves (n : Nat) (s : State) :
    (handTarget n s).now = s.now ∧ (handTarget n s).link = s.link ∧ (handTarget n s).profile = s.profile ∧
    (handTarget n s).layout = s.layout ∧ (handTarget n s).sync = s.sync ∧ (handTarget n s).screens = s.screens ∧
    (handTarget n s).pointer = s.pointer ∧ (handTarget n s).matcher = s.matcher ∧ (handTarget n s).desk = s.desk ∧
    (handTarget n s).freeCount = s.freeCount ∧ (handTarget n s).pending = s.pending := by
  induction n generalizing s with
  | zero => simp [handTarget]
  | succ n ih =>
    simp only [handTarget]
    split
    · simp
    · have h := takeKeys_leaves s.keyboard.focus s.target s
      split
      · next s' e => rw [e] at h; exact h
      · next s' e => rw [e] at h; have := ih (suppressAdded s.target (s.committedKeys s.keyboard.focus) s'); simp_all

@[simp] theorem retarget_leaves (s : State) :
    (retarget s).now = s.now ∧ (retarget s).link = s.link ∧ (retarget s).profile = s.profile ∧ (retarget s).layout = s.layout ∧
    (retarget s).sync = s.sync ∧ (retarget s).screens = s.screens ∧ (retarget s).pointer = s.pointer ∧
    (retarget s).matcher = s.matcher ∧ (retarget s).desk = s.desk ∧ (retarget s).freeCount = s.freeCount ∧
    (retarget s).pending = s.pending := by
  simp [retarget]

@[simp] theorem replayTap_leaves (k : Nat) (s : State) :
    (replayTap k s).now = s.now ∧ (replayTap k s).link = s.link ∧ (replayTap k s).profile = s.profile ∧
    (replayTap k s).layout = s.layout ∧ (replayTap k s).sync = s.sync ∧ (replayTap k s).screens = s.screens ∧
    (replayTap k s).pointer = s.pointer ∧ (replayTap k s).matcher = s.matcher ∧ (replayTap k s).desk = s.desk ∧
    (replayTap k s).freeCount = s.freeCount ∧ (replayTap k s).pending = s.pending := by
  simp only [replayTap]
  repeat' split
  all_goals simp

@[simp] theorem releaseButtons_leaves (c : Computer) (s : State) :
    (releaseButtons c s).now = s.now ∧ (releaseButtons c s).link = s.link ∧ (releaseButtons c s).profile = s.profile ∧
    (releaseButtons c s).layout = s.layout ∧ (releaseButtons c s).sync = s.sync ∧ (releaseButtons c s).screens = s.screens ∧
    (releaseButtons c s).matcher = s.matcher ∧ (releaseButtons c s).desk = s.desk ∧
    (releaseButtons c s).freeCount = s.freeCount ∧ (releaseButtons c s).pending = s.pending := by
  simp [releaseButtons]

@[simp] theorem swallowHeld_leaves (s : State) :
    (swallowHeld s).now = s.now ∧ (swallowHeld s).link = s.link ∧ (swallowHeld s).status = s.status ∧
    (swallowHeld s).profile = s.profile ∧ (swallowHeld s).layout = s.layout ∧ (swallowHeld s).sync = s.sync ∧
    (swallowHeld s).screens = s.screens ∧ (swallowHeld s).keyboard = s.keyboard ∧ (swallowHeld s).matcher = s.matcher ∧
    (swallowHeld s).lines = s.lines ∧ (swallowHeld s).ports = s.ports ∧ (swallowHeld s).power = s.power ∧
    (swallowHeld s).desk = s.desk ∧ (swallowHeld s).freeCount = s.freeCount ∧ (swallowHeld s).out = s.out ∧
    (swallowHeld s).pending = s.pending := by
  simp [swallowHeld]

@[simp] theorem releaseKeys_leaves (c : Computer) (s : State) :
    (releaseKeys c s).now = s.now ∧ (releaseKeys c s).link = s.link ∧ (releaseKeys c s).profile = s.profile ∧
    (releaseKeys c s).layout = s.layout ∧ (releaseKeys c s).sync = s.sync ∧ (releaseKeys c s).screens = s.screens ∧
    (releaseKeys c s).pointer = s.pointer ∧ (releaseKeys c s).matcher = s.matcher ∧ (releaseKeys c s).desk = s.desk ∧
    (releaseKeys c s).freeCount = s.freeCount ∧ (releaseKeys c s).pending = s.pending := by
  unfold releaseKeys
  repeat' split
  all_goals simp

@[simp] theorem releaseAtFocus_leaves (c : Computer) (s : State) :
    (releaseAtFocus c s).now = s.now ∧ (releaseAtFocus c s).link = s.link ∧ (releaseAtFocus c s).profile = s.profile ∧
    (releaseAtFocus c s).layout = s.layout ∧ (releaseAtFocus c s).sync = s.sync ∧ (releaseAtFocus c s).screens = s.screens ∧
    (releaseAtFocus c s).matcher = s.matcher ∧ (releaseAtFocus c s).desk = s.desk ∧
    (releaseAtFocus c s).freeCount = s.freeCount ∧ (releaseAtFocus c s).pending = s.pending := by
  unfold releaseAtFocus
  repeat' split
  all_goals simp

@[simp] theorem focusWake_leaves (c : Computer) (s : State) :
    (focusWake c s).now = s.now ∧ (focusWake c s).link = s.link ∧ (focusWake c s).profile = s.profile ∧
    (focusWake c s).layout = s.layout ∧ (focusWake c s).sync = s.sync ∧ (focusWake c s).screens = s.screens ∧
    (focusWake c s).pointer = s.pointer ∧ (focusWake c s).matcher = s.matcher ∧ (focusWake c s).desk = s.desk ∧
    (focusWake c s).freeCount = s.freeCount ∧ (focusWake c s).pending = s.pending := by
  unfold focusWake
  repeat' split
  all_goals simp

@[simp] theorem moveKeyFocus_leaves (c : Computer) (s : State) :
    (moveKeyFocus c s).now = s.now ∧ (moveKeyFocus c s).link = s.link ∧ (moveKeyFocus c s).status = s.status ∧
    (moveKeyFocus c s).profile = s.profile ∧ (moveKeyFocus c s).layout = s.layout ∧ (moveKeyFocus c s).sync = s.sync ∧
    (moveKeyFocus c s).screens = s.screens ∧ (moveKeyFocus c s).pointer = s.pointer ∧ (moveKeyFocus c s).matcher = s.matcher ∧
    (moveKeyFocus c s).ports = s.ports ∧ (moveKeyFocus c s).power = s.power ∧ (moveKeyFocus c s).desk = s.desk ∧
    (moveKeyFocus c s).freeCount = s.freeCount ∧ (moveKeyFocus c s).pending = s.pending := by
  simp [moveKeyFocus]

@[simp] theorem raiseFocus_leaves (s : State) :
    (raiseFocus s).now = s.now ∧ (raiseFocus s).link = s.link ∧ (raiseFocus s).profile = s.profile ∧
    (raiseFocus s).layout = s.layout ∧ (raiseFocus s).sync = s.sync ∧ (raiseFocus s).screens = s.screens ∧
    (raiseFocus s).pointer = s.pointer ∧ (raiseFocus s).keyboard = s.keyboard ∧ (raiseFocus s).matcher = s.matcher ∧
    (raiseFocus s).ports = s.ports ∧ (raiseFocus s).power = s.power ∧ (raiseFocus s).desk = s.desk ∧
    (raiseFocus s).freeCount = s.freeCount ∧ (raiseFocus s).out = s.out ∧ (raiseFocus s).pending = s.pending := by
  simp [raiseFocus]

@[simp] theorem focusChange_leaves (m : Bool) (c : Computer) (s : State) :
    (focusChange m c s).now = s.now ∧ (focusChange m c s).link = s.link ∧ (focusChange m c s).profile = s.profile ∧
    (focusChange m c s).layout = s.layout ∧ (focusChange m c s).sync = s.sync ∧ (focusChange m c s).screens = s.screens ∧
    (focusChange m c s).desk = s.desk ∧ (focusChange m c s).freeCount = s.freeCount ∧ (focusChange m c s).pending = s.pending := by
  simp only [focusChange]
  split <;> simp

@[simp] theorem focusRequest_leaves (m : Bool) (c : Computer) (s : State) :
    (focusRequest m c s).now = s.now ∧ (focusRequest m c s).link = s.link ∧ (focusRequest m c s).profile = s.profile ∧
    (focusRequest m c s).layout = s.layout ∧ (focusRequest m c s).sync = s.sync ∧ (focusRequest m c s).screens = s.screens ∧
    (focusRequest m c s).desk = s.desk ∧ (focusRequest m c s).freeCount = s.freeCount ∧
    (focusRequest m c s).pending = s.pending := by
  unfold focusRequest
  repeat' split
  all_goals simp

/-! ### The pointer -/

@[simp] theorem handEntry_leaves (c : Computer) (x y : Nat) (b : ButtonSet) (w : Int) (s : State) :
    (handEntry c x y b w s).now = s.now ∧ (handEntry c x y b w s).link = s.link ∧ (handEntry c x y b w s).profile = s.profile ∧
    (handEntry c x y b w s).layout = s.layout ∧ (handEntry c x y b w s).sync = s.sync ∧
    (handEntry c x y b w s).screens = s.screens ∧ (handEntry c x y b w s).matcher = s.matcher ∧
    (handEntry c x y b w s).desk = s.desk ∧ (handEntry c x y b w s).freeCount = s.freeCount ∧
    (handEntry c x y b w s).pending = s.pending := by
  unfold handEntry
  repeat' split
  all_goals simp

@[simp] theorem handPlace_leaves (w : Int) (s : State) :
    (handPlace w s).now = s.now ∧ (handPlace w s).link = s.link ∧ (handPlace w s).profile = s.profile ∧
    (handPlace w s).layout = s.layout ∧ (handPlace w s).sync = s.sync ∧ (handPlace w s).screens = s.screens ∧
    (handPlace w s).matcher = s.matcher ∧ (handPlace w s).desk = s.desk ∧ (handPlace w s).freeCount = s.freeCount ∧
    (handPlace w s).pending = s.pending := by
  unfold handPlace
  repeat' split
  all_goals simp

@[simp] theorem setPlace_leaves (p : Option Place) (s : State) :
    (setPlace p s).now = s.now ∧ (setPlace p s).link = s.link ∧ (setPlace p s).status = s.status ∧
    (setPlace p s).profile = s.profile ∧ (setPlace p s).layout = s.layout ∧ (setPlace p s).sync = s.sync ∧
    (setPlace p s).screens = s.screens ∧ (setPlace p s).keyboard = s.keyboard ∧ (setPlace p s).matcher = s.matcher ∧
    (setPlace p s).lines = s.lines ∧ (setPlace p s).ports = s.ports ∧ (setPlace p s).power = s.power ∧
    (setPlace p s).desk = s.desk ∧ (setPlace p s).freeCount = s.freeCount ∧ (setPlace p s).out = s.out ∧
    (setPlace p s).pending = s.pending := by
  simp [setPlace]

@[simp] theorem setPush_leaves (p : Option Push) (s : State) :
    (setPush p s).now = s.now ∧ (setPush p s).link = s.link ∧ (setPush p s).status = s.status ∧
    (setPush p s).profile = s.profile ∧ (setPush p s).layout = s.layout ∧ (setPush p s).sync = s.sync ∧
    (setPush p s).screens = s.screens ∧ (setPush p s).keyboard = s.keyboard ∧ (setPush p s).matcher = s.matcher ∧
    (setPush p s).lines = s.lines ∧ (setPush p s).ports = s.ports ∧ (setPush p s).power = s.power ∧
    (setPush p s).desk = s.desk ∧ (setPush p s).freeCount = s.freeCount ∧ (setPush p s).out = s.out ∧
    (setPush p s).pending = s.pending := by
  simp [setPush]

@[simp] theorem leaveStandIn_leaves (c : Computer) (s : State) :
    (leaveStandIn c s).now = s.now ∧ (leaveStandIn c s).link = s.link ∧ (leaveStandIn c s).profile = s.profile ∧
    (leaveStandIn c s).layout = s.layout ∧ (leaveStandIn c s).sync = s.sync ∧ (leaveStandIn c s).screens = s.screens ∧
    (leaveStandIn c s).matcher = s.matcher ∧ (leaveStandIn c s).desk = s.desk ∧ (leaveStandIn c s).freeCount = s.freeCount ∧
    (leaveStandIn c s).pending = s.pending := by
  simp only [leaveStandIn]
  split <;> simp

@[simp] theorem pointerFocusChange_leaves (a : Computer) (n : Option Computer) (s : State) :
    (pointerFocusChange a n s).now = s.now ∧ (pointerFocusChange a n s).link = s.link ∧
    (pointerFocusChange a n s).profile = s.profile ∧ (pointerFocusChange a n s).layout = s.layout ∧
    (pointerFocusChange a n s).sync = s.sync ∧ (pointerFocusChange a n s).screens = s.screens ∧
    (pointerFocusChange a n s).matcher = s.matcher ∧ (pointerFocusChange a n s).desk = s.desk ∧
    (pointerFocusChange a n s).freeCount = s.freeCount ∧ (pointerFocusChange a n s).pending = s.pending := by
  simp only [pointerFocusChange]
  split <;> simp

@[simp] theorem movePointer_leaves (p : Place) (s : State) :
    (movePointer p s).now = s.now ∧ (movePointer p s).link = s.link ∧ (movePointer p s).profile = s.profile ∧
    (movePointer p s).layout = s.layout ∧ (movePointer p s).sync = s.sync ∧ (movePointer p s).screens = s.screens ∧
    (movePointer p s).matcher = s.matcher ∧ (movePointer p s).desk = s.desk ∧ (movePointer p s).freeCount = s.freeCount ∧
    (movePointer p s).pending = s.pending := by
  simp only [movePointer]
  split <;> simp

@[simp] theorem parkPointer_leaves (s : State) :
    (parkPointer s).now = s.now ∧ (parkPointer s).link = s.link ∧ (parkPointer s).profile = s.profile ∧
    (parkPointer s).layout = s.layout ∧ (parkPointer s).sync = s.sync ∧ (parkPointer s).screens = s.screens ∧
    (parkPointer s).matcher = s.matcher ∧ (parkPointer s).desk = s.desk ∧ (parkPointer s).freeCount = s.freeCount ∧
    (parkPointer s).pending = s.pending := by
  simp only [parkPointer]
  split <;> simp

@[simp] theorem reHome_leaves (s : State) :
    (reHome s).now = s.now ∧ (reHome s).link = s.link ∧ (reHome s).profile = s.profile ∧ (reHome s).layout = s.layout ∧
    (reHome s).sync = s.sync ∧ (reHome s).screens = s.screens ∧ (reHome s).matcher = s.matcher ∧ (reHome s).desk = s.desk ∧
    (reHome s).freeCount = s.freeCount ∧ (reHome s).pending = s.pending := by
  unfold reHome
  repeat' split
  all_goals simp

@[simp] theorem unpark_leaves (s : State) :
    (unpark s).now = s.now ∧ (unpark s).link = s.link ∧ (unpark s).profile = s.profile ∧ (unpark s).layout = s.layout ∧
    (unpark s).sync = s.sync ∧ (unpark s).screens = s.screens ∧ (unpark s).matcher = s.matcher ∧ (unpark s).desk = s.desk ∧
    (unpark s).freeCount = s.freeCount ∧ (unpark s).pending = s.pending := by
  unfold unpark
  repeat' split
  all_goals simp

@[simp] theorem dropPushOn_leaves (i : ScreenId) (s : State) :
    (dropPushOn i s).now = s.now ∧ (dropPushOn i s).link = s.link ∧ (dropPushOn i s).status = s.status ∧
    (dropPushOn i s).profile = s.profile ∧ (dropPushOn i s).layout = s.layout ∧ (dropPushOn i s).sync = s.sync ∧
    (dropPushOn i s).screens = s.screens ∧ (dropPushOn i s).keyboard = s.keyboard ∧ (dropPushOn i s).matcher = s.matcher ∧
    (dropPushOn i s).lines = s.lines ∧ (dropPushOn i s).ports = s.ports ∧ (dropPushOn i s).power = s.power ∧
    (dropPushOn i s).desk = s.desk ∧ (dropPushOn i s).freeCount = s.freeCount ∧ (dropPushOn i s).out = s.out ∧
    (dropPushOn i s).pending = s.pending := by
  unfold dropPushOn
  repeat' split
  all_goals simp

@[simp] theorem sourceUnderPointer_leaves (i : ScreenId) (s : State) :
    (sourceUnderPointer i s).now = s.now ∧ (sourceUnderPointer i s).link = s.link ∧
    (sourceUnderPointer i s).profile = s.profile ∧ (sourceUnderPointer i s).layout = s.layout ∧
    (sourceUnderPointer i s).sync = s.sync ∧ (sourceUnderPointer i s).screens = s.screens ∧
    (sourceUnderPointer i s).matcher = s.matcher ∧ (sourceUnderPointer i s).desk = s.desk ∧
    (sourceUnderPointer i s).freeCount = s.freeCount ∧ (sourceUnderPointer i s).pending = s.pending := by
  unfold sourceUnderPointer
  repeat' split
  all_goals simp

@[simp] theorem screenChanged_leaves (i : ScreenId) (s : State) :
    (screenChanged i s).now = s.now ∧ (screenChanged i s).link = s.link ∧ (screenChanged i s).profile = s.profile ∧
    (screenChanged i s).layout = s.layout ∧ (screenChanged i s).sync = s.sync ∧ (screenChanged i s).screens = s.screens ∧
    (screenChanged i s).matcher = s.matcher ∧ (screenChanged i s).desk = s.desk ∧ (screenChanged i s).freeCount = s.freeCount ∧
    (screenChanged i s).pending = s.pending := by
  simp only [screenChanged]
  repeat' split
  all_goals simp

@[simp] theorem sourceChanged_leaves (i : ScreenId) (s : State) :
    (sourceChanged i s).now = s.now ∧ (sourceChanged i s).link = s.link ∧ (sourceChanged i s).profile = s.profile ∧
    (sourceChanged i s).layout = s.layout ∧ (sourceChanged i s).sync = s.sync ∧ (sourceChanged i s).screens = s.screens ∧
    (sourceChanged i s).matcher = s.matcher ∧ (sourceChanged i s).desk = s.desk ∧ (sourceChanged i s).freeCount = s.freeCount ∧
    (sourceChanged i s).pending = s.pending := by
  simp only [sourceChanged]
  repeat' split
  all_goals simp

@[simp] theorem warpRequest_leaves (c : Computer) (s : State) :
    (warpRequest c s).now = s.now ∧ (warpRequest c s).link = s.link ∧ (warpRequest c s).profile = s.profile ∧
    (warpRequest c s).layout = s.layout ∧ (warpRequest c s).sync = s.sync ∧ (warpRequest c s).screens = s.screens ∧
    (warpRequest c s).matcher = s.matcher ∧ (warpRequest c s).desk = s.desk ∧ (warpRequest c s).freeCount = s.freeCount ∧
    (warpRequest c s).pending = s.pending := by
  unfold warpRequest
  repeat' split
  all_goals simp

@[simp] theorem focusWithScope_leaves (c : Computer) (b : Bool) (s : State) :
    (focusWithScope c b s).now = s.now ∧ (focusWithScope c b s).link = s.link ∧ (focusWithScope c b s).profile = s.profile ∧
    (focusWithScope c b s).layout = s.layout ∧ (focusWithScope c b s).sync = s.sync ∧
    (focusWithScope c b s).screens = s.screens ∧ (focusWithScope c b s).desk = s.desk ∧
    (focusWithScope c b s).freeCount = s.freeCount ∧ (focusWithScope c b s).pending = s.pending := by
  unfold focusWithScope
  repeat' split
  all_goals simp

@[simp] theorem clampTo_leaves (i : ScreenId) (r : Rect) (x y : Int) (s : State) :
    (clampTo i r x y s).now = s.now ∧ (clampTo i r x y s).link = s.link ∧ (clampTo i r x y s).status = s.status ∧
    (clampTo i r x y s).profile = s.profile ∧ (clampTo i r x y s).layout = s.layout ∧ (clampTo i r x y s).sync = s.sync ∧
    (clampTo i r x y s).screens = s.screens ∧ (clampTo i r x y s).keyboard = s.keyboard ∧
    (clampTo i r x y s).matcher = s.matcher ∧ (clampTo i r x y s).lines = s.lines ∧ (clampTo i r x y s).ports = s.ports ∧
    (clampTo i r x y s).power = s.power ∧ (clampTo i r x y s).desk = s.desk ∧ (clampTo i r x y s).freeCount = s.freeCount ∧
    (clampTo i r x y s).out = s.out ∧ (clampTo i r x y s).pending = s.pending := by
  simp [clampTo]

@[simp] theorem glideNotice_leaves (c : Computer) (s : State) :
    (glideNotice c s).now = s.now ∧ (glideNotice c s).link = s.link ∧ (glideNotice c s).profile = s.profile ∧
    (glideNotice c s).layout = s.layout ∧ (glideNotice c s).sync = s.sync ∧ (glideNotice c s).screens = s.screens ∧
    (glideNotice c s).desk = s.desk ∧ (glideNotice c s).freeCount = s.freeCount ∧ (glideNotice c s).pending = s.pending := by
  unfold glideNotice
  repeat' split
  all_goals simp

@[simp] theorem cross_leaves (i : ScreenId) (c : Computer) (x y : Int) (s : State) :
    (cross i c x y s).now = s.now ∧ (cross i c x y s).link = s.link ∧ (cross i c x y s).profile = s.profile ∧
    (cross i c x y s).layout = s.layout ∧ (cross i c x y s).sync = s.sync ∧ (cross i c x y s).screens = s.screens ∧
    (cross i c x y s).desk = s.desk ∧ (cross i c x y s).freeCount = s.freeCount ∧ (cross i c x y s).pending = s.pending := by
  simp [cross]

@[simp] theorem pushAcross_leaves (j : ScreenId) (r : Rect) (i : ScreenId) (c : Computer) (x y : Int) (s : State) :
    (pushAcross j r i c x y s).now = s.now ∧ (pushAcross j r i c x y s).link = s.link ∧
    (pushAcross j r i c x y s).profile = s.profile ∧ (pushAcross j r i c x y s).layout = s.layout ∧
    (pushAcross j r i c x y s).sync = s.sync ∧ (pushAcross j r i c x y s).screens = s.screens ∧
    (pushAcross j r i c x y s).desk = s.desk ∧ (pushAcross j r i c x y s).freeCount = s.freeCount ∧
    (pushAcross j r i c x y s).pending = s.pending := by
  simp only [pushAcross]
  repeat' split
  all_goals simp

@[simp] theorem glideWithin_leaves (i : ScreenId) (x y : Int) (s : State) :
    (glideWithin i x y s).now = s.now ∧ (glideWithin i x y s).link = s.link ∧ (glideWithin i x y s).status = s.status ∧
    (glideWithin i x y s).profile = s.profile ∧ (glideWithin i x y s).layout = s.layout ∧ (glideWithin i x y s).sync = s.sync ∧
    (glideWithin i x y s).screens = s.screens ∧ (glideWithin i x y s).keyboard = s.keyboard ∧
    (glideWithin i x y s).matcher = s.matcher ∧ (glideWithin i x y s).lines = s.lines ∧ (glideWithin i x y s).ports = s.ports ∧
    (glideWithin i x y s).power = s.power ∧ (glideWithin i x y s).desk = s.desk ∧
    (glideWithin i x y s).freeCount = s.freeCount ∧ (glideWithin i x y s).out = s.out ∧
    (glideWithin i x y s).pending = s.pending := by
  simp [glideWithin]

@[simp] theorem glide_leaves (x y : Int) (s : State) :
    (glide x y s).now = s.now ∧ (glide x y s).link = s.link ∧ (glide x y s).profile = s.profile ∧
    (glide x y s).layout = s.layout ∧ (glide x y s).sync = s.sync ∧ (glide x y s).screens = s.screens ∧
    (glide x y s).desk = s.desk ∧ (glide x y s).freeCount = s.freeCount ∧ (glide x y s).pending = s.pending := by
  unfold glide
  repeat' split
  all_goals simp

@[simp] theorem moveBy_leaves (x y : Int) (t : Nat) (s : State) :
    (moveBy x y t s).now = s.now ∧ (moveBy x y t s).link = s.link ∧ (moveBy x y t s).profile = s.profile ∧
    (moveBy x y t s).layout = s.layout ∧ (moveBy x y t s).sync = s.sync ∧ (moveBy x y t s).screens = s.screens ∧
    (moveBy x y t s).desk = s.desk ∧ (moveBy x y t s).freeCount = s.freeCount ∧ (moveBy x y t s).pending = s.pending := by
  unfold moveBy
  split
  · simp
  · simp

@[simp] theorem pushExpiry_leaves (s : State) :
    (pushExpiry s).link = s.link ∧ (pushExpiry s).status = s.status ∧ (pushExpiry s).profile = s.profile ∧
    (pushExpiry s).layout = s.layout ∧ (pushExpiry s).sync = s.sync ∧ (pushExpiry s).screens = s.screens ∧
    (pushExpiry s).keyboard = s.keyboard ∧ (pushExpiry s).matcher = s.matcher ∧ (pushExpiry s).lines = s.lines ∧
    (pushExpiry s).ports = s.ports ∧ (pushExpiry s).power = s.power ∧ (pushExpiry s).desk = s.desk ∧
    (pushExpiry s).freeCount = s.freeCount ∧ (pushExpiry s).out = s.out ∧ (pushExpiry s).pending = s.pending := by
  unfold pushExpiry
  repeat' split
  all_goals simp

/-! ### Screens -/

@[simp] theorem sendSelection_leaves (i : ScreenId) (x : Selection) (s : State) :
    (sendSelection i x s).now = s.now ∧ (sendSelection i x s).link = s.link ∧ (sendSelection i x s).status = s.status ∧
    (sendSelection i x s).profile = s.profile ∧ (sendSelection i x s).layout = s.layout ∧ (sendSelection i x s).sync = s.sync ∧
    (sendSelection i x s).pointer = s.pointer ∧ (sendSelection i x s).keyboard = s.keyboard ∧
    (sendSelection i x s).matcher = s.matcher ∧ (sendSelection i x s).lines = s.lines ∧ (sendSelection i x s).ports = s.ports ∧
    (sendSelection i x s).power = s.power ∧ (sendSelection i x s).desk = s.desk ∧
    (sendSelection i x s).freeCount = s.freeCount ∧ (sendSelection i x s).pending = s.pending := by
  simp [sendSelection]

@[simp] theorem enterScreen_leaves (i : ScreenId) (st : ScreenState) (s : State) :
    (enterScreen i st s).now = s.now ∧ (enterScreen i st s).link = s.link ∧ (enterScreen i st s).profile = s.profile ∧
    (enterScreen i st s).layout = s.layout ∧ (enterScreen i st s).sync = s.sync ∧ (enterScreen i st s).pointer = s.pointer ∧
    (enterScreen i st s).keyboard = s.keyboard ∧ (enterScreen i st s).matcher = s.matcher ∧
    (enterScreen i st s).ports = s.ports ∧ (enterScreen i st s).power = s.power ∧ (enterScreen i st s).desk = s.desk ∧
    (enterScreen i st s).freeCount = s.freeCount ∧ (enterScreen i st s).out = s.out ∧ (enterScreen i st s).pending = s.pending := by
  simp only [enterScreen]
  repeat' split
  all_goals simp

@[simp] theorem setLinkTimer_leaves (i : ScreenId) (t : Option Timer) (s : State) :
    (setLinkTimer i t s).now = s.now ∧ (setLinkTimer i t s).link = s.link ∧ (setLinkTimer i t s).status = s.status ∧
    (setLinkTimer i t s).profile = s.profile ∧ (setLinkTimer i t s).layout = s.layout ∧ (setLinkTimer i t s).sync = s.sync ∧
    (setLinkTimer i t s).pointer = s.pointer ∧ (setLinkTimer i t s).keyboard = s.keyboard ∧
    (setLinkTimer i t s).matcher = s.matcher ∧ (setLinkTimer i t s).lines = s.lines ∧ (setLinkTimer i t s).ports = s.ports ∧
    (setLinkTimer i t s).power = s.power ∧ (setLinkTimer i t s).desk = s.desk ∧ (setLinkTimer i t s).freeCount = s.freeCount ∧
    (setLinkTimer i t s).out = s.out ∧ (setLinkTimer i t s).pending = s.pending := by
  simp [setLinkTimer]

@[simp] theorem setPowerTimer_leaves (i : ScreenId) (t : Option Timer) (s : State) :
    (setPowerTimer i t s).now = s.now ∧ (setPowerTimer i t s).link = s.link ∧ (setPowerTimer i t s).status = s.status ∧
    (setPowerTimer i t s).profile = s.profile ∧ (setPowerTimer i t s).layout = s.layout ∧ (setPowerTimer i t s).sync = s.sync ∧
    (setPowerTimer i t s).pointer = s.pointer ∧ (setPowerTimer i t s).keyboard = s.keyboard ∧
    (setPowerTimer i t s).matcher = s.matcher ∧ (setPowerTimer i t s).lines = s.lines ∧ (setPowerTimer i t s).ports = s.ports ∧
    (setPowerTimer i t s).power = s.power ∧ (setPowerTimer i t s).desk = s.desk ∧
    (setPowerTimer i t s).freeCount = s.freeCount ∧ (setPowerTimer i t s).out = s.out ∧
    (setPowerTimer i t s).pending = s.pending := by
  simp [setPowerTimer]

@[simp] theorem startLink_leaves (i : ScreenId) (s : State) :
    (startLink i s).now = s.now ∧ (startLink i s).link = s.link ∧ (startLink i s).status = s.status ∧
    (startLink i s).profile = s.profile ∧ (startLink i s).layout = s.layout ∧ (startLink i s).sync = s.sync ∧
    (startLink i s).pointer = s.pointer ∧ (startLink i s).keyboard = s.keyboard ∧ (startLink i s).matcher = s.matcher ∧
    (startLink i s).lines = s.lines ∧ (startLink i s).ports = s.ports ∧ (startLink i s).power = s.power ∧
    (startLink i s).desk = s.desk ∧ (startLink i s).freeCount = s.freeCount ∧ (startLink i s).out = s.out ∧
    (startLink i s).pending = s.pending := by
  simp [startLink]

@[simp] theorem followSource_leaves (i : ScreenId) (s : State) :
    (followSource i s).now = s.now ∧ (followSource i s).link = s.link ∧ (followSource i s).profile = s.profile ∧
    (followSource i s).layout = s.layout ∧ (followSource i s).sync = s.sync ∧ (followSource i s).pointer = s.pointer ∧
    (followSource i s).keyboard = s.keyboard ∧ (followSource i s).matcher = s.matcher ∧ (followSource i s).ports = s.ports ∧
    (followSource i s).power = s.power ∧ (followSource i s).desk = s.desk ∧ (followSource i s).freeCount = s.freeCount ∧
    (followSource i s).pending = s.pending := by
  simp only [followSource]
  repeat' split
  all_goals simp

@[simp] theorem takeSource_leaves (i : ScreenId) (x : Option Head) (s : State) :
    (takeSource i x s).now = s.now ∧ (takeSource i x s).link = s.link ∧ (takeSource i x s).profile = s.profile ∧
    (takeSource i x s).layout = s.layout ∧ (takeSource i x s).sync = s.sync ∧ (takeSource i x s).pointer = s.pointer ∧
    (takeSource i x s).keyboard = s.keyboard ∧ (takeSource i x s).matcher = s.matcher ∧ (takeSource i x s).ports = s.ports ∧
    (takeSource i x s).power = s.power ∧ (takeSource i x s).desk = s.desk ∧ (takeSource i x s).freeCount = s.freeCount ∧
    (takeSource i x s).pending = s.pending := by
  simp only [takeSource]
  repeat' split
  all_goals simp

@[simp] theorem settleAll_leaves (s : State) :
    (settleAll s).now = s.now ∧ (settleAll s).link = s.link ∧ (settleAll s).profile = s.profile ∧
    (settleAll s).layout = s.layout ∧ (settleAll s).sync = s.sync ∧ (settleAll s).pointer = s.pointer ∧
    (settleAll s).keyboard = s.keyboard ∧ (settleAll s).matcher = s.matcher ∧ (settleAll s).ports = s.ports ∧
    (settleAll s).power = s.power ∧ (settleAll s).desk = s.desk ∧ (settleAll s).freeCount = s.freeCount ∧
    (settleAll s).out = s.out ∧ (settleAll s).pending = s.pending := by
  simp only [settleAll]
  repeat' split
  all_goals simp

@[simp] theorem takeQuiet_leaves (i : ScreenId) (x : Option Head) (s : State) :
    (takeQuiet i x s).now = s.now ∧ (takeQuiet i x s).link = s.link ∧ (takeQuiet i x s).profile = s.profile ∧
    (takeQuiet i x s).layout = s.layout ∧ (takeQuiet i x s).sync = s.sync ∧ (takeQuiet i x s).pointer = s.pointer ∧
    (takeQuiet i x s).keyboard = s.keyboard ∧ (takeQuiet i x s).matcher = s.matcher ∧ (takeQuiet i x s).ports = s.ports ∧
    (takeQuiet i x s).power = s.power ∧ (takeQuiet i x s).desk = s.desk ∧ (takeQuiet i x s).freeCount = s.freeCount ∧
    (takeQuiet i x s).out = s.out ∧ (takeQuiet i x s).pending = s.pending := by
  simp only [takeQuiet]
  repeat' split
  all_goals simp

@[simp] theorem assignOn_leaves (i : ScreenId) (x : Option Head) (s : State) :
    (assignOn i x s).now = s.now ∧ (assignOn i x s).link = s.link ∧ (assignOn i x s).profile = s.profile ∧
    (assignOn i x s).layout = s.layout ∧ (assignOn i x s).sync = s.sync ∧ (assignOn i x s).pointer = s.pointer ∧
    (assignOn i x s).keyboard = s.keyboard ∧ (assignOn i x s).matcher = s.matcher ∧ (assignOn i x s).ports = s.ports ∧
    (assignOn i x s).power = s.power ∧ (assignOn i x s).desk = s.desk ∧ (assignOn i x s).freeCount = s.freeCount ∧
    (assignOn i x s).pending = s.pending := by
  unfold assignOn
  repeat' split
  all_goals simp

@[simp] theorem assignSource_leaves (i : ScreenId) (x : Option Head) (s : State) :
    (assignSource i x s).now = s.now ∧ (assignSource i x s).link = s.link ∧ (assignSource i x s).profile = s.profile ∧
    (assignSource i x s).layout = s.layout ∧ (assignSource i x s).sync = s.sync ∧ (assignSource i x s).pointer = s.pointer ∧
    (assignSource i x s).keyboard = s.keyboard ∧ (assignSource i x s).matcher = s.matcher ∧
    (assignSource i x s).ports = s.ports ∧ (assignSource i x s).power = s.power ∧ (assignSource i x s).desk = s.desk ∧
    (assignSource i x s).freeCount = s.freeCount ∧ (assignSource i x s).pending = s.pending := by
  unfold assignSource
  repeat' split
  all_goals simp

@[simp] theorem headLeaves_leaves (h : Head) (i : ScreenId) (s : State) :
    (headLeaves h i s).now = s.now ∧ (headLeaves h i s).link = s.link ∧ (headLeaves h i s).profile = s.profile ∧
    (headLeaves h i s).layout = s.layout ∧ (headLeaves h i s).sync = s.sync ∧ (headLeaves h i s).pointer = s.pointer ∧
    (headLeaves h i s).keyboard = s.keyboard ∧ (headLeaves h i s).matcher = s.matcher ∧ (headLeaves h i s).ports = s.ports ∧
    (headLeaves h i s).power = s.power ∧ (headLeaves h i s).desk = s.desk ∧ (headLeaves h i s).freeCount = s.freeCount ∧
    (headLeaves h i s).pending = s.pending := by
  simp only [headLeaves]
  repeat' split
  all_goals simp

@[simp] theorem linkUp_leaves (i : ScreenId) (s : State) :
    (linkUp i s).now = s.now ∧ (linkUp i s).link = s.link ∧ (linkUp i s).profile = s.profile ∧ (linkUp i s).layout = s.layout ∧
    (linkUp i s).sync = s.sync ∧ (linkUp i s).pointer = s.pointer ∧ (linkUp i s).keyboard = s.keyboard ∧
    (linkUp i s).matcher = s.matcher ∧ (linkUp i s).ports = s.ports ∧ (linkUp i s).power = s.power ∧
    (linkUp i s).desk = s.desk ∧ (linkUp i s).freeCount = s.freeCount ∧ (linkUp i s).out = s.out ∧
    (linkUp i s).pending = s.pending := by
  unfold linkUp
  repeat' split
  all_goals simp

@[simp] theorem headRises_leaves (h : Head) (i : ScreenId) (s : State) :
    (headRises h i s).now = s.now ∧ (headRises h i s).link = s.link ∧ (headRises h i s).profile = s.profile ∧
    (headRises h i s).layout = s.layout ∧ (headRises h i s).sync = s.sync ∧ (headRises h i s).pointer = s.pointer ∧
    (headRises h i s).keyboard = s.keyboard ∧ (headRises h i s).matcher = s.matcher ∧ (headRises h i s).ports = s.ports ∧
    (headRises h i s).power = s.power ∧ (headRises h i s).desk = s.desk ∧ (headRises h i s).freeCount = s.freeCount ∧
    (headRises h i s).out = s.out ∧ (headRises h i s).pending = s.pending := by
  unfold headRises
  repeat' split
  all_goals simp

@[simp] theorem resendFor_leaves (h : Head) (i : ScreenId) (s : State) :
    (resendFor h i s).now = s.now ∧ (resendFor h i s).link = s.link ∧ (resendFor h i s).profile = s.profile ∧
    (resendFor h i s).layout = s.layout ∧ (resendFor h i s).sync = s.sync ∧ (resendFor h i s).pointer = s.pointer ∧
    (resendFor h i s).keyboard = s.keyboard ∧ (resendFor h i s).matcher = s.matcher ∧ (resendFor h i s).ports = s.ports ∧
    (resendFor h i s).power = s.power ∧ (resendFor h i s).desk = s.desk ∧ (resendFor h i s).freeCount = s.freeCount ∧
    (resendFor h i s).pending = s.pending := by
  simp only [resendFor]
  repeat' split
  all_goals simp

/-- The same operation on every screen leaves what each one leaves. -/
theorem eachScreen_leaves {α : Type} (g : State → α) (f : ScreenId → State → State) (h : ∀ i s, g (f i s) = g s) (s : State) :
    g (eachScreen f s) = g s := foldl_leaves g _ (fun s i => h i s) allScreens s

@[simp] theorem headMoved_leaves (b : Bool) (h : Head) (s : State) :
    (headMoved b h s).now = s.now ∧ (headMoved b h s).link = s.link ∧ (headMoved b h s).profile = s.profile ∧
    (headMoved b h s).layout = s.layout ∧ (headMoved b h s).sync = s.sync ∧ (headMoved b h s).pointer = s.pointer ∧
    (headMoved b h s).keyboard = s.keyboard ∧ (headMoved b h s).matcher = s.matcher ∧ (headMoved b h s).ports = s.ports ∧
    (headMoved b h s).power = s.power ∧ (headMoved b h s).desk = s.desk ∧ (headMoved b h s).freeCount = s.freeCount ∧
    (headMoved b h s).pending = s.pending := by
  unfold headMoved
  repeat' split
  · refine ⟨?_, ?_, ?_, ?_, ?_, ?_, ?_, ?_, ?_, ?_, ?_, ?_, ?_⟩ <;> exact eachScreen_leaves _ _ (fun i s => by simp) s
  · refine ⟨?_, ?_, ?_, ?_, ?_, ?_, ?_, ?_, ?_, ?_, ?_, ?_, ?_⟩ <;> exact eachScreen_leaves _ _ (fun i s => by simp) s
  · simp

@[simp] theorem lockChange_leaves (i : ScreenId) (p : Bool) (s : State) :
    (lockChange i p s).now = s.now ∧ (lockChange i p s).link = s.link ∧ (lockChange i p s).profile = s.profile ∧
    (lockChange i p s).layout = s.layout ∧ (lockChange i p s).sync = s.sync ∧ (lockChange i p s).pointer = s.pointer ∧
    (lockChange i p s).keyboard = s.keyboard ∧ (lockChange i p s).matcher = s.matcher ∧ (lockChange i p s).ports = s.ports ∧
    (lockChange i p s).power = s.power ∧ (lockChange i p s).desk = s.desk ∧ (lockChange i p s).freeCount = s.freeCount ∧
    (lockChange i p s).out = s.out ∧ (lockChange i p s).pending = s.pending := by
  simp only [lockChange]
  repeat' split
  all_goals simp

@[simp] theorem linkExpiry_leaves (i : ScreenId) (s : State) :
    (linkExpiry i s).link = s.link ∧ (linkExpiry i s).profile = s.profile ∧ (linkExpiry i s).layout = s.layout ∧
    (linkExpiry i s).sync = s.sync ∧ (linkExpiry i s).pointer = s.pointer ∧ (linkExpiry i s).keyboard = s.keyboard ∧
    (linkExpiry i s).matcher = s.matcher ∧ (linkExpiry i s).ports = s.ports ∧ (linkExpiry i s).power = s.power ∧
    (linkExpiry i s).desk = s.desk ∧ (linkExpiry i s).freeCount = s.freeCount ∧ (linkExpiry i s).out = s.out ∧
    (linkExpiry i s).pending = s.pending := by
  unfold linkExpiry
  repeat' split
  all_goals simp

@[simp] theorem takeWaiting_leaves (i : ScreenId) (s : State) :
    (takeWaiting i s).now = s.now ∧ (takeWaiting i s).link = s.link ∧ (takeWaiting i s).profile = s.profile ∧
    (takeWaiting i s).layout = s.layout ∧ (takeWaiting i s).sync = s.sync ∧ (takeWaiting i s).pointer = s.pointer ∧
    (takeWaiting i s).keyboard = s.keyboard ∧ (takeWaiting i s).matcher = s.matcher ∧ (takeWaiting i s).ports = s.ports ∧
    (takeWaiting i s).power = s.power ∧ (takeWaiting i s).desk = s.desk ∧ (takeWaiting i s).freeCount = s.freeCount ∧
    (takeWaiting i s).out = s.out ∧ (takeWaiting i s).pending = s.pending := by
  unfold takeWaiting
  repeat' split
  all_goals simp

@[simp] theorem rest_leaves (i : ScreenId) (x : Selection) (st : ScreenState) (s : State) :
    (rest i x st s).now = s.now ∧ (rest i x st s).link = s.link ∧ (rest i x st s).profile = s.profile ∧
    (rest i x st s).layout = s.layout ∧ (rest i x st s).sync = s.sync ∧ (rest i x st s).pointer = s.pointer ∧
    (rest i x st s).keyboard = s.keyboard ∧ (rest i x st s).matcher = s.matcher ∧ (rest i x st s).ports = s.ports ∧
    (rest i x st s).power = s.power ∧ (rest i x st s).desk = s.desk ∧ (rest i x st s).freeCount = s.freeCount ∧
    (rest i x st s).pending = s.pending := by
  simp [rest]

@[simp] theorem screenStandby_leaves (i : ScreenId) (s : State) :
    (screenStandby i s).now = s.now ∧ (screenStandby i s).link = s.link ∧ (screenStandby i s).profile = s.profile ∧
    (screenStandby i s).layout = s.layout ∧ (screenStandby i s).sync = s.sync ∧ (screenStandby i s).pointer = s.pointer ∧
    (screenStandby i s).keyboard = s.keyboard ∧ (screenStandby i s).matcher = s.matcher ∧ (screenStandby i s).ports = s.ports ∧
    (screenStandby i s).power = s.power ∧ (screenStandby i s).desk = s.desk ∧ (screenStandby i s).freeCount = s.freeCount ∧
    (screenStandby i s).pending = s.pending := by
  unfold screenStandby
  repeat' split
  all_goals simp

@[simp] theorem screenOff_leaves (i : ScreenId) (s : State) :
    (screenOff i s).now = s.now ∧ (screenOff i s).link = s.link ∧ (screenOff i s).profile = s.profile ∧
    (screenOff i s).layout = s.layout ∧ (screenOff i s).sync = s.sync ∧ (screenOff i s).pointer = s.pointer ∧
    (screenOff i s).keyboard = s.keyboard ∧ (screenOff i s).matcher = s.matcher ∧ (screenOff i s).ports = s.ports ∧
    (screenOff i s).power = s.power ∧ (screenOff i s).desk = s.desk ∧ (screenOff i s).freeCount = s.freeCount ∧
    (screenOff i s).pending = s.pending := by
  unfold screenOff
  repeat' split
  all_goals simp

@[simp] theorem powerUp_leaves (i : ScreenId) (s : State) :
    (powerUp i s).now = s.now ∧ (powerUp i s).link = s.link ∧ (powerUp i s).profile = s.profile ∧
    (powerUp i s).layout = s.layout ∧ (powerUp i s).sync = s.sync ∧ (powerUp i s).pointer = s.pointer ∧
    (powerUp i s).keyboard = s.keyboard ∧ (powerUp i s).matcher = s.matcher ∧ (powerUp i s).ports = s.ports ∧
    (powerUp i s).power = s.power ∧ (powerUp i s).desk = s.desk ∧ (powerUp i s).freeCount = s.freeCount ∧
    (powerUp i s).pending = s.pending := by
  simp only [powerUp]
  repeat' split
  all_goals simp

@[simp] theorem screenResume_leaves (i : ScreenId) (s : State) :
    (screenResume i s).now = s.now ∧ (screenResume i s).link = s.link ∧ (screenResume i s).profile = s.profile ∧
    (screenResume i s).layout = s.layout ∧ (screenResume i s).sync = s.sync ∧ (screenResume i s).pointer = s.pointer ∧
    (screenResume i s).keyboard = s.keyboard ∧ (screenResume i s).matcher = s.matcher ∧ (screenResume i s).ports = s.ports ∧
    (screenResume i s).power = s.power ∧ (screenResume i s).desk = s.desk ∧ (screenResume i s).freeCount = s.freeCount ∧
    (screenResume i s).pending = s.pending := by
  unfold screenResume
  repeat' split
  all_goals simp

@[simp] theorem lostWaiting_leaves (i : ScreenId) (s : State) :
    (lostWaiting i s).now = s.now ∧ (lostWaiting i s).link = s.link ∧ (lostWaiting i s).status = s.status ∧
    (lostWaiting i s).profile = s.profile ∧ (lostWaiting i s).layout = s.layout ∧ (lostWaiting i s).sync = s.sync ∧
    (lostWaiting i s).pointer = s.pointer ∧ (lostWaiting i s).keyboard = s.keyboard ∧ (lostWaiting i s).matcher = s.matcher ∧
    (lostWaiting i s).lines = s.lines ∧ (lostWaiting i s).ports = s.ports ∧ (lostWaiting i s).power = s.power ∧
    (lostWaiting i s).desk = s.desk ∧ (lostWaiting i s).freeCount = s.freeCount ∧ (lostWaiting i s).out = s.out ∧
    (lostWaiting i s).pending = s.pending := by
  simp only [lostWaiting]
  repeat' split
  all_goals simp

@[simp] theorem clearHeadOn_leaves (h : Head) (i : ScreenId) (s : State) :
    (clearHeadOn h i s).now = s.now ∧ (clearHeadOn h i s).link = s.link ∧ (clearHeadOn h i s).profile = s.profile ∧
    (clearHeadOn h i s).layout = s.layout ∧ (clearHeadOn h i s).sync = s.sync ∧ (clearHeadOn h i s).pointer = s.pointer ∧
    (clearHeadOn h i s).keyboard = s.keyboard ∧ (clearHeadOn h i s).matcher = s.matcher ∧ (clearHeadOn h i s).ports = s.ports ∧
    (clearHeadOn h i s).power = s.power ∧ (clearHeadOn h i s).desk = s.desk ∧ (clearHeadOn h i s).freeCount = s.freeCount ∧
    (clearHeadOn h i s).pending = s.pending := by
  simp only [clearHeadOn]
  repeat' split
  all_goals simp

/-- An operation with its notices leaves what the operation and the notices leave. -/
theorem withNotices_leaves {α : Type} (g : State → α) (f : State → State) (h : ∀ s, g (f s) = g s)
    (k : ∀ i s, g (sourceChanged i s) = g s) (s : State) : g (withNotices f s) = g s := by
  unfold withNotices
  rw [foldl_leaves g _ (fun t i => by split; rfl; exact k i t) allScreens (f s)]
  exact h s

/-- An operation on screens leaves what the operation, the notices and the settling leave. -/
theorem onScreens_leaves {α : Type} (g : State → α) (f : State → State) (h : ∀ s, g (f s) = g s)
    (k : ∀ i s, g (sourceChanged i s) = g s) (j : ∀ s, g (settleAll s) = g s) (s : State) : g (onScreens f s) = g s := by
  unfold onScreens
  rw [j]
  exact withNotices_leaves g f h k s

@[simp] theorem frameBoundary_leaves (v : InputId) (s : State) :
    (frameBoundary v s).now = s.now ∧ (frameBoundary v s).link = s.link ∧ (frameBoundary v s).profile = s.profile ∧
    (frameBoundary v s).layout = s.layout ∧ (frameBoundary v s).sync = s.sync ∧ (frameBoundary v s).matcher = s.matcher ∧
    (frameBoundary v s).desk = s.desk ∧ (frameBoundary v s).freeCount = s.freeCount ∧ (frameBoundary v s).pending = s.pending := by
  unfold frameBoundary
  split
  · simp
  · refine ⟨?_, ?_, ?_, ?_, ?_, ?_, ?_, ?_, ?_⟩ <;> exact onScreens_leaves _ _ (fun s => eachScreen_leaves _ _ (fun i s => by split <;> simp) s) (fun i s => by simp) (fun s => by simp) _

@[simp] theorem channelMoved_leaves (b : Bool) (v : InputId) (s : State) :
    (channelMoved b v s).now = s.now ∧ (channelMoved b v s).link = s.link ∧ (channelMoved b v s).profile = s.profile ∧
    (channelMoved b v s).layout = s.layout ∧ (channelMoved b v s).sync = s.sync ∧ (channelMoved b v s).matcher = s.matcher ∧
    (channelMoved b v s).desk = s.desk ∧ (channelMoved b v s).freeCount = s.freeCount ∧
    (channelMoved b v s).pending = s.pending := by
  unfold channelMoved
  split
  · simp
  · refine ⟨?_, ?_, ?_, ?_, ?_, ?_, ?_, ?_, ?_⟩ <;> exact onScreens_leaves _ _ (fun s => by simp) (fun i s => by simp) (fun s => by simp) _

@[simp] theorem screensFollow_leaves (d : DeskState) (s : State) :
    (screensFollow d s).now = s.now ∧ (screensFollow d s).link = s.link ∧ (screensFollow d s).profile = s.profile ∧
    (screensFollow d s).layout = s.layout ∧ (screensFollow d s).sync = s.sync ∧ (screensFollow d s).matcher = s.matcher ∧
    (screensFollow d s).desk = s.desk ∧ (screensFollow d s).freeCount = s.freeCount ∧ (screensFollow d s).pending = s.pending := by
  unfold screensFollow
  cases d <;> refine ⟨?_, ?_, ?_, ?_, ?_, ?_, ?_, ?_, ?_⟩ <;>
    exact onScreens_leaves _ _ (fun s => eachScreen_leaves _ _ (fun i s => by simp) s) (fun i s => by simp) (fun s => by simp) _

@[simp] theorem configureScreen_leaves (i : ScreenId) (s : State) :
    (configureScreen i s).now = s.now ∧ (configureScreen i s).link = s.link ∧ (configureScreen i s).profile = s.profile ∧
    (configureScreen i s).layout = s.layout ∧ (configureScreen i s).sync = s.sync ∧ (configureScreen i s).pointer = s.pointer ∧
    (configureScreen i s).keyboard = s.keyboard ∧ (configureScreen i s).matcher = s.matcher ∧
    (configureScreen i s).ports = s.ports ∧ (configureScreen i s).power = s.power ∧ (configureScreen i s).desk = s.desk ∧
    (configureScreen i s).freeCount = s.freeCount ∧ (configureScreen i s).pending = s.pending := by
  simp only [configureScreen]
  repeat' split
  all_goals simp

@[simp] theorem unconfigureScreen_leaves (i : ScreenId) (s : State) :
    (unconfigureScreen i s).now = s.now ∧ (unconfigureScreen i s).link = s.link ∧ (unconfigureScreen i s).profile = s.profile ∧
    (unconfigureScreen i s).layout = s.layout ∧ (unconfigureScreen i s).sync = s.sync ∧
    (unconfigureScreen i s).pointer = s.pointer ∧ (unconfigureScreen i s).keyboard = s.keyboard ∧
    (unconfigureScreen i s).matcher = s.matcher ∧ (unconfigureScreen i s).ports = s.ports ∧
    (unconfigureScreen i s).power = s.power ∧ (unconfigureScreen i s).desk = s.desk ∧
    (unconfigureScreen i s).freeCount = s.freeCount ∧ (unconfigureScreen i s).pending = s.pending := by
  simp only [unconfigureScreen]
  repeat' split
  all_goals simp

@[simp] theorem clearHead_leaves (h : Head) (on : ScreenSet) (s : State) :
    (clearHead h on s).now = s.now ∧ (clearHead h on s).link = s.link ∧ (clearHead h on s).profile = s.profile ∧
    (clearHead h on s).layout = s.layout ∧ (clearHead h on s).sync = s.sync ∧ (clearHead h on s).matcher = s.matcher ∧
    (clearHead h on s).desk = s.desk ∧ (clearHead h on s).freeCount = s.freeCount ∧ (clearHead h on s).pending = s.pending := by
  unfold clearHead
  refine ⟨?_, ?_, ?_, ?_, ?_, ?_, ?_, ?_, ?_⟩ <;> exact onScreens_leaves _ _ (fun s => eachScreen_leaves _ _ (fun i s => by split <;> simp) s) (fun i s => by simp) (fun s => by simp) _

@[simp] theorem setIncomplete_leaves (s : State) :
    (setIncomplete s).now = s.now ∧ (setIncomplete s).link = s.link ∧ (setIncomplete s).status = s.status ∧
    (setIncomplete s).profile = s.profile ∧ (setIncomplete s).layout = s.layout ∧ (setIncomplete s).sync = s.sync ∧
    (setIncomplete s).pointer = s.pointer ∧ (setIncomplete s).keyboard = s.keyboard ∧ (setIncomplete s).matcher = s.matcher ∧
    (setIncomplete s).lines = s.lines ∧ (setIncomplete s).ports = s.ports ∧ (setIncomplete s).power = s.power ∧
    (setIncomplete s).desk = s.desk ∧ (setIncomplete s).freeCount = s.freeCount ∧ (setIncomplete s).out = s.out ∧
    (setIncomplete s).pending = s.pending := by
  unfold setIncomplete
  repeat' split
  all_goals simp

@[simp] theorem applyItem_leaves (it : SceneItem) (s : State) :
    (applyItem s it).now = s.now ∧ (applyItem s it).link = s.link ∧ (applyItem s it).profile = s.profile ∧
    (applyItem s it).layout = s.layout ∧ (applyItem s it).sync = s.sync ∧ (applyItem s it).matcher = s.matcher ∧
    (applyItem s it).desk = s.desk ∧ (applyItem s it).freeCount = s.freeCount ∧ (applyItem s it).pending = s.pending := by
  unfold applyItem
  split
  · simp
  · refine ⟨?_, ?_, ?_, ?_, ?_, ?_, ?_, ?_, ?_⟩ <;> exact withNotices_leaves _ _ (fun s => by simp) (fun i s => by simp) _

@[simp] theorem formRecord_leaves (n : SceneNo) (sc : Scene) (s : State) :
    (formRecord n sc s).now = s.now ∧ (formRecord n sc s).link = s.link ∧ (formRecord n sc s).status = s.status ∧
    (formRecord n sc s).profile = s.profile ∧ (formRecord n sc s).layout = s.layout ∧ (formRecord n sc s).sync = s.sync ∧
    (formRecord n sc s).pointer = s.pointer ∧ (formRecord n sc s).keyboard = s.keyboard ∧
    (formRecord n sc s).matcher = s.matcher ∧ (formRecord n sc s).lines = s.lines ∧ (formRecord n sc s).ports = s.ports ∧
    (formRecord n sc s).power = s.power ∧ (formRecord n sc s).desk = s.desk ∧ (formRecord n sc s).freeCount = s.freeCount ∧
    (formRecord n sc s).out = s.out ∧ (formRecord n sc s).pending = s.pending := by
  simp only [formRecord]
  repeat' split
  all_goals simp

@[simp] theorem sceneFocus_leaves (sc : Scene) (s : State) :
    (sceneFocus sc s).now = s.now ∧ (sceneFocus sc s).link = s.link ∧ (sceneFocus sc s).profile = s.profile ∧
    (sceneFocus sc s).layout = s.layout ∧ (sceneFocus sc s).sync = s.sync ∧ (sceneFocus sc s).desk = s.desk ∧
    (sceneFocus sc s).freeCount = s.freeCount ∧ (sceneFocus sc s).pending = s.pending := by
  unfold sceneFocus
  repeat' split
  all_goals simp

@[simp] theorem sceneWakes_leaves (sc : Scene) (s : State) :
    (sceneWakes sc s).now = s.now ∧ (sceneWakes sc s).link = s.link ∧ (sceneWakes sc s).profile = s.profile ∧
    (sceneWakes sc s).layout = s.layout ∧ (sceneWakes sc s).sync = s.sync ∧ (sceneWakes sc s).screens = s.screens ∧
    (sceneWakes sc s).pointer = s.pointer ∧ (sceneWakes sc s).matcher = s.matcher ∧ (sceneWakes sc s).desk = s.desk ∧
    (sceneWakes sc s).freeCount = s.freeCount ∧ (sceneWakes sc s).pending = s.pending := by
  unfold sceneWakes
  split
  · refine ⟨?_, ?_, ?_, ?_, ?_, ?_, ?_, ?_, ?_, ?_, ?_⟩ <;> exact foldl_leaves _ _ (fun s c => by split <;> simp) _ s
  · simp

@[simp] theorem applySceneSteps_leaves (n : SceneNo) (sc : Scene) (s : State) :
    (applySceneSteps n sc s).now = s.now ∧ (applySceneSteps n sc s).link = s.link ∧
    (applySceneSteps n sc s).profile = s.profile ∧ (applySceneSteps n sc s).layout = s.layout ∧
    (applySceneSteps n sc s).sync = s.sync ∧ (applySceneSteps n sc s).desk = s.desk ∧
    (applySceneSteps n sc s).freeCount = s.freeCount ∧ (applySceneSteps n sc s).pending = s.pending := by
  unfold applySceneSteps
  refine ⟨?_, ?_, ?_, ?_, ?_, ?_, ?_, ?_⟩ <;>
    simp only [settleAll_leaves, sceneWakes_leaves, sceneFocus_leaves] <;>
    exact (foldl_leaves _ _ (fun s it => by simp) sc.items _).trans (by simp)

@[simp] theorem applySceneNo_leaves (n : SceneNo) (s : State) :
    (applySceneNo n s).now = s.now ∧ (applySceneNo n s).link = s.link ∧ (applySceneNo n s).profile = s.profile ∧
    (applySceneNo n s).layout = s.layout ∧ (applySceneNo n s).sync = s.sync ∧ (applySceneNo n s).desk = s.desk ∧
    (applySceneNo n s).freeCount = s.freeCount ∧ (applySceneNo n s).pending = s.pending := by
  unfold applySceneNo
  repeat' split
  all_goals simp

@[simp] theorem applyStart_leaves (s : State) :
    (applyStart s).now = s.now ∧ (applyStart s).link = s.link ∧ (applyStart s).profile = s.profile ∧
    (applyStart s).layout = s.layout ∧ (applyStart s).sync = s.sync ∧ (applyStart s).desk = s.desk ∧
    (applyStart s).freeCount = s.freeCount ∧ (applyStart s).pending = s.pending := by
  unfold applyStart
  repeat' split
  all_goals simp

@[simp] theorem softResetScreen_leaves (i : ScreenId) (s : State) :
    (softResetScreen i s).now = s.now ∧ (softResetScreen i s).link = s.link ∧ (softResetScreen i s).status = s.status ∧
    (softResetScreen i s).profile = s.profile ∧ (softResetScreen i s).layout = s.layout ∧ (softResetScreen i s).sync = s.sync ∧
    (softResetScreen i s).pointer = s.pointer ∧ (softResetScreen i s).keyboard = s.keyboard ∧
    (softResetScreen i s).matcher = s.matcher ∧ (softResetScreen i s).lines = s.lines ∧ (softResetScreen i s).ports = s.ports ∧
    (softResetScreen i s).power = s.power ∧ (softResetScreen i s).desk = s.desk ∧
    (softResetScreen i s).freeCount = s.freeCount ∧ (softResetScreen i s).pending = s.pending := by
  simp only [softResetScreen]
  repeat' split
  all_goals simp

@[simp] theorem softResetScreens_leaves (s : State) :
    (softResetScreens s).now = s.now ∧ (softResetScreens s).link = s.link ∧ (softResetScreens s).profile = s.profile ∧
    (softResetScreens s).layout = s.layout ∧ (softResetScreens s).sync = s.sync ∧ (softResetScreens s).pointer = s.pointer ∧
    (softResetScreens s).keyboard = s.keyboard ∧ (softResetScreens s).matcher = s.matcher ∧
    (softResetScreens s).lines = s.lines ∧ (softResetScreens s).ports = s.ports ∧ (softResetScreens s).power = s.power ∧
    (softResetScreens s).desk = s.desk ∧ (softResetScreens s).freeCount = s.freeCount ∧
    (softResetScreens s).pending = s.pending := by
  unfold softResetScreens
  refine ⟨?_, ?_, ?_, ?_, ?_, ?_, ?_, ?_, ?_, ?_, ?_, ?_, ?_, ?_⟩ <;> simp only [reportFault_leaves] <;>
    exact (eachScreen_leaves _ _ (fun i s => by simp) _).trans (by simp)

@[simp] theorem powerOnExpiry_leaves (i : ScreenId) (s : State) :
    (powerOnExpiry i s).link = s.link ∧ (powerOnExpiry i s).profile = s.profile ∧ (powerOnExpiry i s).layout = s.layout ∧
    (powerOnExpiry i s).sync = s.sync ∧ (powerOnExpiry i s).matcher = s.matcher ∧ (powerOnExpiry i s).desk = s.desk ∧
    (powerOnExpiry i s).freeCount = s.freeCount ∧ (powerOnExpiry i s).pending = s.pending := by
  unfold powerOnExpiry
  split
  · simp
  · split
    · refine ⟨?_, ?_, ?_, ?_, ?_, ?_, ?_, ?_⟩ <;> exact (onScreens_leaves _ _ (fun s => by simp) (fun i s => by simp) (fun s => by simp) _).trans (by simp)
    · simp

/-! ### Desk power -/

@[simp] theorem setDeskState_leaves (d : DeskState) (s : State) :
    (setDeskState d s).now = s.now ∧ (setDeskState d s).link = s.link ∧ (setDeskState d s).profile = s.profile ∧
    (setDeskState d s).layout = s.layout ∧ (setDeskState d s).sync = s.sync ∧ (setDeskState d s).matcher = s.matcher ∧
    (setDeskState d s).freeCount = s.freeCount ∧ (setDeskState d s).pending = s.pending := by
  simp [setDeskState]

@[simp] theorem enterStandby_leaves (s : State) :
    (enterStandby s).now = s.now ∧ (enterStandby s).link = s.link ∧ (enterStandby s).profile = s.profile ∧
    (enterStandby s).layout = s.layout ∧ (enterStandby s).sync = s.sync ∧ (enterStandby s).matcher = s.matcher ∧
    (enterStandby s).freeCount = s.freeCount ∧ (enterStandby s).pending = s.pending := by
  unfold enterStandby
  repeat' split
  all_goals simp

@[simp] theorem enterOff_leaves (s : State) :
    (enterOff s).now = s.now ∧ (enterOff s).link = s.link ∧ (enterOff s).profile = s.profile ∧ (enterOff s).layout = s.layout ∧
    (enterOff s).sync = s.sync ∧ (enterOff s).matcher = s.matcher ∧ (enterOff s).freeCount = s.freeCount ∧
    (enterOff s).pending = s.pending := by
  simp [enterOff]

@[simp] theorem restartIdle_leaves (s : State) :
    (restartIdle s).now = s.now ∧ (restartIdle s).link = s.link ∧ (restartIdle s).status = s.status ∧
    (restartIdle s).profile = s.profile ∧ (restartIdle s).layout = s.layout ∧ (restartIdle s).sync = s.sync ∧
    (restartIdle s).screens = s.screens ∧ (restartIdle s).pointer = s.pointer ∧ (restartIdle s).keyboard = s.keyboard ∧
    (restartIdle s).matcher = s.matcher ∧ (restartIdle s).lines = s.lines ∧ (restartIdle s).ports = s.ports ∧
    (restartIdle s).power = s.power ∧ (restartIdle s).freeCount = s.freeCount ∧ (restartIdle s).out = s.out ∧
    (restartIdle s).pending = s.pending := by
  simp [restartIdle]

@[simp] theorem resumeWake_leaves (s : State) :
    (resumeWake s).now = s.now ∧ (resumeWake s).link = s.link ∧ (resumeWake s).profile = s.profile ∧
    (resumeWake s).layout = s.layout ∧ (resumeWake s).sync = s.sync ∧ (resumeWake s).screens = s.screens ∧
    (resumeWake s).pointer = s.pointer ∧ (resumeWake s).matcher = s.matcher ∧ (resumeWake s).desk = s.desk ∧
    (resumeWake s).freeCount = s.freeCount ∧ (resumeWake s).pending = s.pending := by
  unfold resumeWake
  repeat' split
  all_goals simp

@[simp] theorem resumeDesk_leaves (s : State) :
    (resumeDesk s).now = s.now ∧ (resumeDesk s).link = s.link ∧ (resumeDesk s).profile = s.profile ∧
    (resumeDesk s).layout = s.layout ∧ (resumeDesk s).sync = s.sync ∧ (resumeDesk s).matcher = s.matcher ∧
    (resumeDesk s).freeCount = s.freeCount ∧ (resumeDesk s).pending = s.pending := by
  simp [resumeDesk]

@[simp] theorem qualify_leaves (s : State) :
    ((qualify s).1).now = s.now ∧ ((qualify s).1).link = s.link ∧ ((qualify s).1).profile = s.profile ∧
    ((qualify s).1).layout = s.layout ∧ ((qualify s).1).sync = s.sync ∧ ((qualify s).1).matcher = s.matcher ∧
    ((qualify s).1).freeCount = s.freeCount ∧ ((qualify s).1).pending = s.pending := by
  unfold qualify
  repeat' split
  all_goals simp

@[simp] theorem takeMotion_leaves (m : Nat) (s : State) :
    ((takeMotion m s).1).now = s.now ∧ ((takeMotion m s).1).link = s.link ∧ ((takeMotion m s).1).status = s.status ∧
    ((takeMotion m s).1).profile = s.profile ∧ ((takeMotion m s).1).layout = s.layout ∧ ((takeMotion m s).1).sync = s.sync ∧
    ((takeMotion m s).1).screens = s.screens ∧ ((takeMotion m s).1).pointer = s.pointer ∧
    ((takeMotion m s).1).keyboard = s.keyboard ∧ ((takeMotion m s).1).matcher = s.matcher ∧
    ((takeMotion m s).1).lines = s.lines ∧ ((takeMotion m s).1).ports = s.ports ∧ ((takeMotion m s).1).power = s.power ∧
    ((takeMotion m s).1).freeCount = s.freeCount ∧ ((takeMotion m s).1).out = s.out ∧ ((takeMotion m s).1).pending = s.pending := by
  unfold takeMotion
  repeat' split
  all_goals simp

@[simp] theorem offerReport_leaves (p : ButtonSet) (w : Int) (m : Nat) (s : State) :
    (offerReport p w m s).now = s.now ∧ (offerReport p w m s).link = s.link ∧ (offerReport p w m s).profile = s.profile ∧
    (offerReport p w m s).layout = s.layout ∧ (offerReport p w m s).sync = s.sync ∧ (offerReport p w m s).matcher = s.matcher ∧
    (offerReport p w m s).freeCount = s.freeCount ∧ (offerReport p w m s).pending = s.pending := by
  simp only [offerReport]
  repeat' split
  all_goals simp

@[simp] theorem idleReached_leaves (s : State) :
    (idleReached s).link = s.link ∧ (idleReached s).profile = s.profile ∧ (idleReached s).layout = s.layout ∧
    (idleReached s).sync = s.sync ∧ (idleReached s).matcher = s.matcher ∧ (idleReached s).freeCount = s.freeCount ∧
    (idleReached s).pending = s.pending := by
  simp only [idleReached]
  repeat' split
  all_goals simp

@[simp] theorem motionExpiry_leaves (s : State) :
    (motionExpiry s).link = s.link ∧ (motionExpiry s).status = s.status ∧ (motionExpiry s).profile = s.profile ∧
    (motionExpiry s).layout = s.layout ∧ (motionExpiry s).sync = s.sync ∧ (motionExpiry s).screens = s.screens ∧
    (motionExpiry s).pointer = s.pointer ∧ (motionExpiry s).keyboard = s.keyboard ∧ (motionExpiry s).matcher = s.matcher ∧
    (motionExpiry s).lines = s.lines ∧ (motionExpiry s).ports = s.ports ∧ (motionExpiry s).power = s.power ∧
    (motionExpiry s).freeCount = s.freeCount ∧ (motionExpiry s).out = s.out ∧ (motionExpiry s).pending = s.pending := by
  unfold motionExpiry
  repeat' split
  all_goals simp

@[simp] theorem softResetDesk_leaves (s : State) :
    (softResetDesk s).now = s.now ∧ (softResetDesk s).link = s.link ∧ (softResetDesk s).status = s.status ∧
    (softResetDesk s).profile = s.profile ∧ (softResetDesk s).layout = s.layout ∧ (softResetDesk s).sync = s.sync ∧
    (softResetDesk s).screens = s.screens ∧ (softResetDesk s).pointer = s.pointer ∧ (softResetDesk s).keyboard = s.keyboard ∧
    (softResetDesk s).matcher = s.matcher ∧ (softResetDesk s).ports = s.ports ∧ (softResetDesk s).power = s.power ∧
    (softResetDesk s).freeCount = s.freeCount ∧ (softResetDesk s).out = s.out ∧ (softResetDesk s).pending = s.pending := by
  simp [softResetDesk]

/-! ### Desk pointer reports -/

@[simp] theorem setButtons_leaves (b w : ButtonSet) (s : State) :
    (setButtons b w s).now = s.now ∧ (setButtons b w s).link = s.link ∧ (setButtons b w s).status = s.status ∧
    (setButtons b w s).profile = s.profile ∧ (setButtons b w s).layout = s.layout ∧ (setButtons b w s).sync = s.sync ∧
    (setButtons b w s).screens = s.screens ∧ (setButtons b w s).keyboard = s.keyboard ∧
    (setButtons b w s).matcher = s.matcher ∧ (setButtons b w s).lines = s.lines ∧ (setButtons b w s).ports = s.ports ∧
    (setButtons b w s).power = s.power ∧ (setButtons b w s).desk = s.desk ∧ (setButtons b w s).freeCount = s.freeCount ∧
    (setButtons b w s).out = s.out ∧ (setButtons b w s).pending = s.pending := by
  simp [setButtons]

@[simp] theorem takeButtons_leaves (b : ButtonSet) (s : State) :
    (takeButtons b s).now = s.now ∧ (takeButtons b s).link = s.link ∧ (takeButtons b s).status = s.status ∧
    (takeButtons b s).profile = s.profile ∧ (takeButtons b s).layout = s.layout ∧ (takeButtons b s).sync = s.sync ∧
    (takeButtons b s).screens = s.screens ∧ (takeButtons b s).keyboard = s.keyboard ∧ (takeButtons b s).matcher = s.matcher ∧
    (takeButtons b s).lines = s.lines ∧ (takeButtons b s).ports = s.ports ∧ (takeButtons b s).power = s.power ∧
    (takeButtons b s).desk = s.desk ∧ (takeButtons b s).freeCount = s.freeCount ∧ (takeButtons b s).out = s.out ∧
    (takeButtons b s).pending = s.pending := by
  simp [takeButtons]

@[simp] theorem swallowButtons_leaves (b : ButtonSet) (s : State) :
    (swallowButtons b s).now = s.now ∧ (swallowButtons b s).link = s.link ∧ (swallowButtons b s).status = s.status ∧
    (swallowButtons b s).profile = s.profile ∧ (swallowButtons b s).layout = s.layout ∧ (swallowButtons b s).sync = s.sync ∧
    (swallowButtons b s).screens = s.screens ∧ (swallowButtons b s).keyboard = s.keyboard ∧
    (swallowButtons b s).matcher = s.matcher ∧ (swallowButtons b s).lines = s.lines ∧ (swallowButtons b s).ports = s.ports ∧
    (swallowButtons b s).power = s.power ∧ (swallowButtons b s).desk = s.desk ∧ (swallowButtons b s).freeCount = s.freeCount ∧
    (swallowButtons b s).out = s.out ∧ (swallowButtons b s).pending = s.pending := by
  simp [swallowButtons]

@[simp] theorem clickTake_leaves (p : ButtonSet) (s : State) :
    (clickTake p s).now = s.now ∧ (clickTake p s).link = s.link ∧ (clickTake p s).profile = s.profile ∧
    (clickTake p s).layout = s.layout ∧ (clickTake p s).sync = s.sync ∧ (clickTake p s).screens = s.screens ∧
    (clickTake p s).desk = s.desk ∧ (clickTake p s).freeCount = s.freeCount ∧ (clickTake p s).pending = s.pending := by
  simp only [clickTake]
  repeat' split
  all_goals simp

@[simp] theorem parkedEntry_leaves (b : ButtonSet) (w : Int) (s : State) :
    (parkedEntry b w s).now = s.now ∧ (parkedEntry b w s).link = s.link ∧ (parkedEntry b w s).profile = s.profile ∧
    (parkedEntry b w s).layout = s.layout ∧ (parkedEntry b w s).sync = s.sync ∧ (parkedEntry b w s).screens = s.screens ∧
    (parkedEntry b w s).matcher = s.matcher ∧ (parkedEntry b w s).desk = s.desk ∧ (parkedEntry b w s).freeCount = s.freeCount ∧
    (parkedEntry b w s).pending = s.pending := by
  simp only [parkedEntry]
  repeat' split
  all_goals simp

@[simp] theorem reportEntry_leaves (b : ButtonSet) (w : Int) (s : State) :
    (reportEntry b w s).now = s.now ∧ (reportEntry b w s).link = s.link ∧ (reportEntry b w s).profile = s.profile ∧
    (reportEntry b w s).layout = s.layout ∧ (reportEntry b w s).sync = s.sync ∧ (reportEntry b w s).screens = s.screens ∧
    (reportEntry b w s).matcher = s.matcher ∧ (reportEntry b w s).desk = s.desk ∧ (reportEntry b w s).freeCount = s.freeCount ∧
    (reportEntry b w s).pending = s.pending := by
  unfold reportEntry
  repeat' split
  all_goals simp

@[simp] theorem activeReport_leaves (r : PointerReport) (t : Nat) (s : State) :
    (activeReport r t s).now = s.now ∧ (activeReport r t s).link = s.link ∧ (activeReport r t s).profile = s.profile ∧
    (activeReport r t s).layout = s.layout ∧ (activeReport r t s).sync = s.sync ∧ (activeReport r t s).screens = s.screens ∧
    (activeReport r t s).desk = s.desk ∧ (activeReport r t s).freeCount = s.freeCount ∧
    (activeReport r t s).pending = s.pending := by
  simp [activeReport]

@[simp] theorem lowRelease_leaves (b : ButtonSet) (s : State) :
    (lowRelease b s).now = s.now ∧ (lowRelease b s).link = s.link ∧ (lowRelease b s).profile = s.profile ∧
    (lowRelease b s).layout = s.layout ∧ (lowRelease b s).sync = s.sync ∧ (lowRelease b s).screens = s.screens ∧
    (lowRelease b s).matcher = s.matcher ∧ (lowRelease b s).desk = s.desk ∧ (lowRelease b s).freeCount = s.freeCount ∧
    (lowRelease b s).pending = s.pending := by
  simp only [lowRelease]
  repeat' split
  all_goals simp

@[simp] theorem lowReport_leaves (r : PointerReport) (s : State) :
    (lowReport r s).now = s.now ∧ (lowReport r s).link = s.link ∧ (lowReport r s).profile = s.profile ∧
    (lowReport r s).layout = s.layout ∧ (lowReport r s).sync = s.sync ∧ (lowReport r s).screens = s.screens ∧
    (lowReport r s).matcher = s.matcher ∧ (lowReport r s).desk = s.desk ∧ (lowReport r s).freeCount = s.freeCount ∧
    (lowReport r s).pending = s.pending := by
  simp [lowReport]

@[simp] theorem takeReport_leaves (r : PointerReport) (t : Nat) (s : State) :
    (takeReport r t s).now = s.now ∧ (takeReport r t s).link = s.link ∧ (takeReport r t s).profile = s.profile ∧
    (takeReport r t s).layout = s.layout ∧ (takeReport r t s).sync = s.sync ∧ (takeReport r t s).freeCount = s.freeCount ∧
    (takeReport r t s).pending = s.pending := by
  simp only [takeReport]
  repeat' split
  all_goals simp

@[simp] theorem pointerArrives_leaves (bytes : List Byte) (s : State) :
    (pointerArrives bytes s).now = s.now ∧ (pointerArrives bytes s).link = s.link ∧
    (pointerArrives bytes s).profile = s.profile ∧ (pointerArrives bytes s).layout = s.layout ∧
    (pointerArrives bytes s).sync = s.sync ∧ (pointerArrives bytes s).freeCount = s.freeCount ∧
    (pointerArrives bytes s).pending = s.pending := by
  simp only [pointerArrives]
  repeat' split
  all_goals simp

@[simp] theorem detent_leaves (w : Int) (s : State) :
    (detent w s).now = s.now ∧ (detent w s).link = s.link ∧ (detent w s).profile = s.profile ∧ (detent w s).layout = s.layout ∧
    (detent w s).sync = s.sync ∧ (detent w s).matcher = s.matcher ∧ (detent w s).freeCount = s.freeCount ∧
    (detent w s).pending = s.pending := by
  have h := qualify_leaves s
  unfold detent
  split
  · next s' e => rw [e] at h; exact h
  · next s' e => rw [e] at h; simp_all

@[simp] theorem pointerLeaves_leaves (s : State) :
    (pointerLeaves s).now = s.now ∧ (pointerLeaves s).link = s.link ∧ (pointerLeaves s).profile = s.profile ∧
    (pointerLeaves s).layout = s.layout ∧ (pointerLeaves s).sync = s.sync ∧ (pointerLeaves s).screens = s.screens ∧
    (pointerLeaves s).matcher = s.matcher ∧ (pointerLeaves s).desk = s.desk ∧ (pointerLeaves s).freeCount = s.freeCount ∧
    (pointerLeaves s).pending = s.pending := by
  simp only [pointerLeaves]
  split <;> simp

@[simp] theorem releaseAllButtons_leaves (s : State) :
    (releaseAllButtons s).now = s.now ∧ (releaseAllButtons s).link = s.link ∧ (releaseAllButtons s).profile = s.profile ∧
    (releaseAllButtons s).layout = s.layout ∧ (releaseAllButtons s).sync = s.sync ∧ (releaseAllButtons s).screens = s.screens ∧
    (releaseAllButtons s).matcher = s.matcher ∧ (releaseAllButtons s).desk = s.desk ∧
    (releaseAllButtons s).freeCount = s.freeCount ∧ (releaseAllButtons s).pending = s.pending := by
  unfold releaseAllButtons
  refine ⟨?_, ?_, ?_, ?_, ?_, ?_, ?_, ?_, ?_, ?_⟩ <;> exact foldl_leaves _ _ (fun s c => by split <;> simp) _ s

@[simp] theorem reHomeQuiet_leaves (s : State) :
    (reHomeQuiet s).now = s.now ∧ (reHomeQuiet s).link = s.link ∧ (reHomeQuiet s).profile = s.profile ∧
    (reHomeQuiet s).layout = s.layout ∧ (reHomeQuiet s).sync = s.sync ∧ (reHomeQuiet s).screens = s.screens ∧
    (reHomeQuiet s).matcher = s.matcher ∧ (reHomeQuiet s).desk = s.desk ∧ (reHomeQuiet s).freeCount = s.freeCount ∧
    (reHomeQuiet s).pending = s.pending := by
  unfold reHomeQuiet
  repeat' split
  all_goals simp

@[simp] theorem softResetPointer_leaves (s : State) :
    (softResetPointer s).now = s.now ∧ (softResetPointer s).link = s.link ∧ (softResetPointer s).profile = s.profile ∧
    (softResetPointer s).layout = s.layout ∧ (softResetPointer s).sync = s.sync ∧ (softResetPointer s).screens = s.screens ∧
    (softResetPointer s).matcher = s.matcher ∧ (softResetPointer s).desk = s.desk ∧
    (softResetPointer s).freeCount = s.freeCount ∧ (softResetPointer s).pending = s.pending := by
  simp [softResetPointer]

/-! ### Hotkeys -/

@[simp] theorem toggleGlideLock_leaves (s : State) :
    (toggleGlideLock s).now = s.now ∧ (toggleGlideLock s).link = s.link ∧ (toggleGlideLock s).status = s.status ∧
    (toggleGlideLock s).profile = s.profile ∧ (toggleGlideLock s).layout = s.layout ∧ (toggleGlideLock s).sync = s.sync ∧
    (toggleGlideLock s).screens = s.screens ∧ (toggleGlideLock s).keyboard = s.keyboard ∧
    (toggleGlideLock s).matcher = s.matcher ∧ (toggleGlideLock s).lines = s.lines ∧ (toggleGlideLock s).ports = s.ports ∧
    (toggleGlideLock s).power = s.power ∧ (toggleGlideLock s).desk = s.desk ∧ (toggleGlideLock s).freeCount = s.freeCount ∧
    (toggleGlideLock s).out = s.out ∧ (toggleGlideLock s).pending = s.pending := by
  simp [toggleGlideLock]

@[simp] theorem endMomentary_leaves (r : ReturnSlot) (s : State) :
    (endMomentary r s).now = s.now ∧ (endMomentary r s).link = s.link ∧ (endMomentary r s).profile = s.profile ∧
    (endMomentary r s).layout = s.layout ∧ (endMomentary r s).sync = s.sync ∧ (endMomentary r s).screens = s.screens ∧
    (endMomentary r s).desk = s.desk ∧ (endMomentary r s).freeCount = s.freeCount ∧ (endMomentary r s).pending = s.pending := by
  simp only [endMomentary]
  split <;> simp

@[simp] theorem endMomentaryIf_leaves (p : ReturnSlot → Bool) (s : State) :
    (endMomentaryIf p s).now = s.now ∧ (endMomentaryIf p s).link = s.link ∧ (endMomentaryIf p s).profile = s.profile ∧
    (endMomentaryIf p s).layout = s.layout ∧ (endMomentaryIf p s).sync = s.sync ∧ (endMomentaryIf p s).screens = s.screens ∧
    (endMomentaryIf p s).desk = s.desk ∧ (endMomentaryIf p s).freeCount = s.freeCount ∧
    (endMomentaryIf p s).pending = s.pending := by
  unfold endMomentaryIf
  repeat' split
  all_goals simp

@[simp] theorem dropSlotIf_leaves (p : ReturnSlot → Bool) (s : State) :
    (dropSlotIf p s).now = s.now ∧ (dropSlotIf p s).link = s.link ∧ (dropSlotIf p s).status = s.status ∧
    (dropSlotIf p s).profile = s.profile ∧ (dropSlotIf p s).layout = s.layout ∧ (dropSlotIf p s).sync = s.sync ∧
    (dropSlotIf p s).screens = s.screens ∧ (dropSlotIf p s).pointer = s.pointer ∧ (dropSlotIf p s).keyboard = s.keyboard ∧
    (dropSlotIf p s).lines = s.lines ∧ (dropSlotIf p s).ports = s.ports ∧ (dropSlotIf p s).power = s.power ∧
    (dropSlotIf p s).desk = s.desk ∧ (dropSlotIf p s).freeCount = s.freeCount ∧ (dropSlotIf p s).out = s.out ∧
    (dropSlotIf p s).pending = s.pending := by
  unfold dropSlotIf
  repeat' split
  all_goals simp

theorem request_leaves (a : Action) (s t : State) (h : request a s = some t) :
    (t).now = s.now ∧ (t).link = s.link ∧ (t).profile = s.profile ∧ (t).layout = s.layout ∧ (t).sync = s.sync ∧
    (t).freeCount = s.freeCount ∧ (t).pending = s.pending := by
  unfold request at h
  cases a <;> simp only at h <;> (try split at h) <;> (try simp only [Option.map_eq_some_iff, Option.some.injEq] at h) <;>
    first
      | (subst h; simp)
      | (cases h; done)
      | (obtain ⟨x, -, rfl⟩ := h; simp)

theorem requestMomentary_leaves (c : Computer) (n : EntryNo) (r : Trigger) (s t : State) (h : requestMomentary c n r s = some t) :
    (t).now = s.now ∧ (t).link = s.link ∧ (t).profile = s.profile ∧ (t).layout = s.layout ∧ (t).sync = s.sync ∧
    (t).freeCount = s.freeCount ∧ (t).pending = s.pending := by
  unfold requestMomentary at h
  (repeat' split at h) <;> first
    | (cases h; done)
    | (simp only [Option.some.injEq] at h; subst h; simp)

theorem fireRequest_leaves (n : EntryNo) (k : Hotkey) (s t : State) (h : fireRequest n k s = some t) :
    (t).now = s.now ∧ (t).link = s.link ∧ (t).profile = s.profile ∧ (t).layout = s.layout ∧ (t).sync = s.sync ∧
    (t).freeCount = s.freeCount ∧ (t).pending = s.pending := by
  unfold fireRequest at h
  split at h
  · exact requestMomentary_leaves _ _ _ _ _ h
  · exact request_leaves _ _ _ h

@[simp] theorem fireEntry_leaves (n : EntryNo) (k : Hotkey) (s : State) :
    (fireEntry n k s).now = s.now ∧ (fireEntry n k s).link = s.link ∧ (fireEntry n k s).profile = s.profile ∧
    (fireEntry n k s).layout = s.layout ∧ (fireEntry n k s).sync = s.sync ∧ (fireEntry n k s).freeCount = s.freeCount ∧
    (fireEntry n k s).pending = s.pending := by
  unfold fireEntry reportHotkey
  split
  · next t h => have := fireRequest_leaves n k s t h; simp_all
  · simp

@[simp] theorem lineTrigger_leaves (l : LineId) (a : Bool) (s : State) :
    (lineTrigger l a s).now = s.now ∧ (lineTrigger l a s).link = s.link ∧ (lineTrigger l a s).profile = s.profile ∧
    (lineTrigger l a s).layout = s.layout ∧ (lineTrigger l a s).sync = s.sync ∧ (lineTrigger l a s).freeCount = s.freeCount ∧
    (lineTrigger l a s).pending = s.pending := by
  simp only [lineTrigger]
  repeat' split
  all_goals simp

@[simp] theorem goIdle_leaves (s : State) :
    (goIdle s).now = s.now ∧ (goIdle s).link = s.link ∧ (goIdle s).status = s.status ∧ (goIdle s).profile = s.profile ∧
    (goIdle s).layout = s.layout ∧ (goIdle s).sync = s.sync ∧ (goIdle s).screens = s.screens ∧ (goIdle s).pointer = s.pointer ∧
    (goIdle s).keyboard = s.keyboard ∧ (goIdle s).lines = s.lines ∧ (goIdle s).ports = s.ports ∧ (goIdle s).power = s.power ∧
    (goIdle s).desk = s.desk ∧ (goIdle s).freeCount = s.freeCount ∧ (goIdle s).out = s.out ∧ (goIdle s).pending = s.pending := by
  simp [goIdle]

@[simp] theorem judgePress_leaves (k : Nat) (s : State) :
    ((judgePress k s).1).now = s.now ∧ ((judgePress k s).1).link = s.link ∧ ((judgePress k s).1).status = s.status ∧
    ((judgePress k s).1).profile = s.profile ∧ ((judgePress k s).1).layout = s.layout ∧ ((judgePress k s).1).sync = s.sync ∧
    ((judgePress k s).1).screens = s.screens ∧ ((judgePress k s).1).pointer = s.pointer ∧
    ((judgePress k s).1).keyboard = s.keyboard ∧ ((judgePress k s).1).lines = s.lines ∧ ((judgePress k s).1).ports = s.ports ∧
    ((judgePress k s).1).power = s.power ∧ ((judgePress k s).1).desk = s.desk ∧ ((judgePress k s).1).freeCount = s.freeCount ∧
    ((judgePress k s).1).out = s.out ∧ ((judgePress k s).1).pending = s.pending := by
  unfold judgePress judgeIdle judgeLeaderDown judgeArmed judgeSecond
  repeat' split
  all_goals simp

@[simp] theorem judgeRelease_leaves (k : Nat) (s : State) :
    (judgeRelease k s).now = s.now ∧ (judgeRelease k s).link = s.link ∧ (judgeRelease k s).status = s.status ∧
    (judgeRelease k s).profile = s.profile ∧ (judgeRelease k s).layout = s.layout ∧ (judgeRelease k s).sync = s.sync ∧
    (judgeRelease k s).screens = s.screens ∧ (judgeRelease k s).pointer = s.pointer ∧
    (judgeRelease k s).keyboard = s.keyboard ∧ (judgeRelease k s).lines = s.lines ∧ (judgeRelease k s).ports = s.ports ∧
    (judgeRelease k s).power = s.power ∧ (judgeRelease k s).desk = s.desk ∧ (judgeRelease k s).freeCount = s.freeCount ∧
    (judgeRelease k s).out = s.out ∧ (judgeRelease k s).pending = s.pending := by
  unfold judgeRelease
  repeat' split
  all_goals simp

@[simp] theorem lateDelivery_leaves (k : Nat) (s : State) :
    (lateDelivery k s).now = s.now ∧ (lateDelivery k s).link = s.link ∧ (lateDelivery k s).profile = s.profile ∧
    (lateDelivery k s).layout = s.layout ∧ (lateDelivery k s).sync = s.sync ∧ (lateDelivery k s).screens = s.screens ∧
    (lateDelivery k s).pointer = s.pointer ∧ (lateDelivery k s).matcher = s.matcher ∧ (lateDelivery k s).desk = s.desk ∧
    (lateDelivery k s).freeCount = s.freeCount ∧ (lateDelivery k s).pending = s.pending := by
  simp [lateDelivery]

@[simp] theorem applyReplay_leaves (r : Replay) (s : State) :
    (applyReplay s r).now = s.now ∧ (applyReplay s r).link = s.link ∧ (applyReplay s r).profile = s.profile ∧
    (applyReplay s r).layout = s.layout ∧ (applyReplay s r).sync = s.sync ∧ (applyReplay s r).screens = s.screens ∧
    (applyReplay s r).pointer = s.pointer ∧ (applyReplay s r).matcher = s.matcher ∧ (applyReplay s r).desk = s.desk ∧
    (applyReplay s r).freeCount = s.freeCount ∧ (applyReplay s r).pending = s.pending := by
  cases r <;> simp [applyReplay]

@[simp] theorem markOwn_leaves (k : Nat) (o : Own) (s : State) :
    (markOwn k o s).now = s.now ∧ (markOwn k o s).link = s.link ∧ (markOwn k o s).status = s.status ∧
    (markOwn k o s).profile = s.profile ∧ (markOwn k o s).layout = s.layout ∧ (markOwn k o s).sync = s.sync ∧
    (markOwn k o s).screens = s.screens ∧ (markOwn k o s).pointer = s.pointer ∧ (markOwn k o s).matcher = s.matcher ∧
    (markOwn k o s).lines = s.lines ∧ (markOwn k o s).ports = s.ports ∧ (markOwn k o s).power = s.power ∧
    (markOwn k o s).desk = s.desk ∧ (markOwn k o s).freeCount = s.freeCount ∧ (markOwn k o s).out = s.out ∧
    (markOwn k o s).pending = s.pending := by
  cases o <;> simp [markOwn]

@[simp] theorem applyMarks_leaves (k : Nat) (v : Verdict) (s : State) :
    (applyMarks k v s).now = s.now ∧ (applyMarks k v s).link = s.link ∧ (applyMarks k v s).profile = s.profile ∧
    (applyMarks k v s).layout = s.layout ∧ (applyMarks k v s).sync = s.sync ∧ (applyMarks k v s).screens = s.screens ∧
    (applyMarks k v s).pointer = s.pointer ∧ (applyMarks k v s).matcher = s.matcher ∧ (applyMarks k v s).desk = s.desk ∧
    (applyMarks k v s).freeCount = s.freeCount ∧ (applyMarks k v s).pending = s.pending := by
  simp only [applyMarks]
  repeat' split
  all_goals simp

@[simp] theorem applyReplays_leaves (k : Nat) (v : Verdict) (s : State) :
    (applyReplays k v s).now = s.now ∧ (applyReplays k v s).link = s.link ∧ (applyReplays k v s).profile = s.profile ∧
    (applyReplays k v s).layout = s.layout ∧ (applyReplays k v s).sync = s.sync ∧ (applyReplays k v s).screens = s.screens ∧
    (applyReplays k v s).pointer = s.pointer ∧ (applyReplays k v s).matcher = s.matcher ∧ (applyReplays k v s).desk = s.desk ∧
    (applyReplays k v s).freeCount = s.freeCount ∧ (applyReplays k v s).pending = s.pending := by
  unfold applyReplays
  split
  · refine ⟨?_, ?_, ?_, ?_, ?_, ?_, ?_, ?_, ?_, ?_, ?_⟩ <;> simp only [markCode_leaves] <;> exact (foldl_leaves _ _ (fun s r => by simp) _ _).trans (by simp)
  · refine ⟨?_, ?_, ?_, ?_, ?_, ?_, ?_, ?_, ?_, ?_, ?_⟩ <;> exact foldl_leaves _ _ (fun s r => by simp) _ s

@[simp] theorem applyFire_leaves (v : Verdict) (s : State) :
    (applyFire v s).now = s.now ∧ (applyFire v s).link = s.link ∧ (applyFire v s).profile = s.profile ∧
    (applyFire v s).layout = s.layout ∧ (applyFire v s).sync = s.sync ∧ (applyFire v s).freeCount = s.freeCount ∧
    (applyFire v s).pending = s.pending := by
  unfold applyFire
  repeat' split
  all_goals simp

@[simp] theorem windowExpiry_leaves (s : State) :
    (windowExpiry s).link = s.link ∧ (windowExpiry s).profile = s.profile ∧ (windowExpiry s).layout = s.layout ∧
    (windowExpiry s).sync = s.sync ∧ (windowExpiry s).screens = s.screens ∧ (windowExpiry s).pointer = s.pointer ∧
    (windowExpiry s).desk = s.desk ∧ (windowExpiry s).freeCount = s.freeCount ∧ (windowExpiry s).pending = s.pending := by
  unfold windowExpiry
  repeat' split
  all_goals first
    | (simp; done)
    | (refine ⟨?_, ?_, ?_, ?_, ?_, ?_, ?_, ?_, ?_⟩ <;> exact (foldl_leaves _ _ (fun s r => by simp) _ _).trans (by simp))

@[simp] theorem matcherLosesKeyboard_leaves (s : State) :
    (matcherLosesKeyboard s).now = s.now ∧ (matcherLosesKeyboard s).link = s.link ∧
    (matcherLosesKeyboard s).status = s.status ∧ (matcherLosesKeyboard s).profile = s.profile ∧
    (matcherLosesKeyboard s).layout = s.layout ∧ (matcherLosesKeyboard s).sync = s.sync ∧
    (matcherLosesKeyboard s).screens = s.screens ∧ (matcherLosesKeyboard s).pointer = s.pointer ∧
    (matcherLosesKeyboard s).keyboard = s.keyboard ∧ (matcherLosesKeyboard s).lines = s.lines ∧
    (matcherLosesKeyboard s).ports = s.ports ∧ (matcherLosesKeyboard s).power = s.power ∧
    (matcherLosesKeyboard s).desk = s.desk ∧ (matcherLosesKeyboard s).freeCount = s.freeCount ∧
    (matcherLosesKeyboard s).out = s.out ∧ (matcherLosesKeyboard s).pending = s.pending := by
  simp [matcherLosesKeyboard]

@[simp] theorem matcherLosesLine_leaves (l : LineId) (s : State) :
    (matcherLosesLine l s).now = s.now ∧ (matcherLosesLine l s).link = s.link ∧ (matcherLosesLine l s).status = s.status ∧
    (matcherLosesLine l s).profile = s.profile ∧ (matcherLosesLine l s).layout = s.layout ∧
    (matcherLosesLine l s).sync = s.sync ∧ (matcherLosesLine l s).screens = s.screens ∧
    (matcherLosesLine l s).pointer = s.pointer ∧ (matcherLosesLine l s).keyboard = s.keyboard ∧
    (matcherLosesLine l s).lines = s.lines ∧ (matcherLosesLine l s).ports = s.ports ∧ (matcherLosesLine l s).power = s.power ∧
    (matcherLosesLine l s).desk = s.desk ∧ (matcherLosesLine l s).freeCount = s.freeCount ∧
    (matcherLosesLine l s).out = s.out ∧ (matcherLosesLine l s).pending = s.pending := by
  simp [matcherLosesLine]

/-! ### Desk keyboard reports and ports -/

@[simp] theorem dropPress_leaves (k : Nat) (s : State) :
    (dropPress k s).now = s.now ∧ (dropPress k s).link = s.link ∧ (dropPress k s).profile = s.profile ∧
    (dropPress k s).layout = s.layout ∧ (dropPress k s).sync = s.sync ∧ (dropPress k s).screens = s.screens ∧
    (dropPress k s).pointer = s.pointer ∧ (dropPress k s).matcher = s.matcher ∧ (dropPress k s).ports = s.ports ∧
    (dropPress k s).power = s.power ∧ (dropPress k s).desk = s.desk ∧ (dropPress k s).freeCount = s.freeCount ∧
    (dropPress k s).out = s.out ∧ (dropPress k s).pending = s.pending := by
  simp only [dropPress]
  repeat' split
  all_goals simp

@[simp] theorem settlePress_leaves (k : Nat) (s : State) :
    (settlePress k s).now = s.now ∧ (settlePress k s).link = s.link ∧ (settlePress k s).profile = s.profile ∧
    (settlePress k s).layout = s.layout ∧ (settlePress k s).sync = s.sync ∧ (settlePress k s).screens = s.screens ∧
    (settlePress k s).pointer = s.pointer ∧ (settlePress k s).matcher = s.matcher ∧ (settlePress k s).desk = s.desk ∧
    (settlePress k s).freeCount = s.freeCount ∧ (settlePress k s).pending = s.pending := by
  simp [settlePress]

@[simp] theorem pressKey_leaves (k : Nat) (s : State) :
    (pressKey s k).now = s.now ∧ (pressKey s k).link = s.link ∧ (pressKey s k).profile = s.profile ∧
    (pressKey s k).layout = s.layout ∧ (pressKey s k).sync = s.sync ∧ (pressKey s k).freeCount = s.freeCount ∧
    (pressKey s k).pending = s.pending := by
  have h := qualify_leaves (s.setHeld (s.keyboard.held ++ [s.newKey k]))
  unfold pressKey
  split
  · next s' e => rw [e] at h; simp_all
  · next s' e =>
    rw [e] at h
    have g := judgePress_leaves k s'
    simp_all

@[simp] theorem releaseKey_leaves (k : Nat) (s : State) :
    (releaseKey s k).now = s.now ∧ (releaseKey s k).link = s.link ∧ (releaseKey s k).profile = s.profile ∧
    (releaseKey s k).layout = s.layout ∧ (releaseKey s k).sync = s.sync ∧ (releaseKey s k).screens = s.screens ∧
    (releaseKey s k).desk = s.desk ∧ (releaseKey s k).freeCount = s.freeCount ∧ (releaseKey s k).pending = s.pending := by
  simp [releaseKey]

@[simp] theorem takeKeyReport_leaves (ks : List Nat) (s : State) :
    (takeKeyReport ks s).now = s.now ∧ (takeKeyReport ks s).link = s.link ∧ (takeKeyReport ks s).profile = s.profile ∧
    (takeKeyReport ks s).layout = s.layout ∧ (takeKeyReport ks s).sync = s.sync ∧
    (takeKeyReport ks s).freeCount = s.freeCount ∧ (takeKeyReport ks s).pending = s.pending := by
  simp only [takeKeyReport]
  refine ⟨?_, ?_, ?_, ?_, ?_, ?_, ?_⟩ <;>
    exact (foldl_leaves _ _ (fun s k => by simp) _ _).trans (foldl_leaves _ _ (fun s k => by simp) _ _)

@[simp] theorem keysArrive_leaves (bytes : List Byte) (s : State) :
    (keysArrive bytes s).now = s.now ∧ (keysArrive bytes s).link = s.link ∧ (keysArrive bytes s).profile = s.profile ∧
    (keysArrive bytes s).layout = s.layout ∧ (keysArrive bytes s).sync = s.sync ∧
    (keysArrive bytes s).freeCount = s.freeCount ∧ (keysArrive bytes s).pending = s.pending := by
  simp only [keysArrive]
  repeat' split
  all_goals simp

@[simp] theorem stuckExpiry_leaves (k : Nat) (s : State) :
    (stuckExpiry k s).link = s.link ∧ (stuckExpiry k s).profile = s.profile ∧ (stuckExpiry k s).layout = s.layout ∧
    (stuckExpiry k s).sync = s.sync ∧ (stuckExpiry k s).screens = s.screens ∧ (stuckExpiry k s).pointer = s.pointer ∧
    (stuckExpiry k s).matcher = s.matcher ∧ (stuckExpiry k s).desk = s.desk ∧ (stuckExpiry k s).freeCount = s.freeCount ∧
    (stuckExpiry k s).pending = s.pending := by
  unfold stuckExpiry
  repeat' split
  all_goals simp

@[simp] theorem setDeskPort_leaves (p : DeskPort) (x : DeskPortRec) (s : State) :
    (setDeskPort p x s).now = s.now ∧ (setDeskPort p x s).link = s.link ∧ (setDeskPort p x s).status = s.status ∧
    (setDeskPort p x s).profile = s.profile ∧ (setDeskPort p x s).layout = s.layout ∧ (setDeskPort p x s).sync = s.sync ∧
    (setDeskPort p x s).screens = s.screens ∧ (setDeskPort p x s).pointer = s.pointer ∧
    (setDeskPort p x s).matcher = s.matcher ∧ (setDeskPort p x s).lines = s.lines ∧ (setDeskPort p x s).ports = s.ports ∧
    (setDeskPort p x s).power = s.power ∧ (setDeskPort p x s).desk = s.desk ∧ (setDeskPort p x s).freeCount = s.freeCount ∧
    (setDeskPort p x s).out = s.out ∧ (setDeskPort p x s).pending = s.pending := by
  unfold setDeskPort
  repeat' split
  all_goals simp

@[simp] theorem keyboardLeaves_leaves (s : State) :
    (keyboardLeaves s).now = s.now ∧ (keyboardLeaves s).link = s.link ∧ (keyboardLeaves s).profile = s.profile ∧
    (keyboardLeaves s).layout = s.layout ∧ (keyboardLeaves s).sync = s.sync ∧ (keyboardLeaves s).screens = s.screens ∧
    (keyboardLeaves s).pointer = s.pointer ∧ (keyboardLeaves s).desk = s.desk ∧ (keyboardLeaves s).freeCount = s.freeCount ∧
    (keyboardLeaves s).pending = s.pending := by
  simp [keyboardLeaves]

@[simp] theorem portLeaves_leaves (p : DeskPort) (s : State) :
    (portLeaves p s).now = s.now ∧ (portLeaves p s).link = s.link ∧ (portLeaves p s).profile = s.profile ∧
    (portLeaves p s).layout = s.layout ∧ (portLeaves p s).sync = s.sync ∧ (portLeaves p s).screens = s.screens ∧
    (portLeaves p s).desk = s.desk ∧ (portLeaves p s).freeCount = s.freeCount ∧ (portLeaves p s).pending = s.pending := by
  unfold portLeaves
  repeat' split
  all_goals simp

@[simp] theorem portEnters_leaves (p : DeskPort) (s : State) :
    (portEnters p s).now = s.now ∧ (portEnters p s).link = s.link ∧ (portEnters p s).status = s.status ∧
    (portEnters p s).profile = s.profile ∧ (portEnters p s).layout = s.layout ∧ (portEnters p s).sync = s.sync ∧
    (portEnters p s).screens = s.screens ∧ (portEnters p s).pointer = s.pointer ∧ (portEnters p s).matcher = s.matcher ∧
    (portEnters p s).lines = s.lines ∧ (portEnters p s).ports = s.ports ∧ (portEnters p s).power = s.power ∧
    (portEnters p s).desk = s.desk ∧ (portEnters p s).freeCount = s.freeCount ∧ (portEnters p s).pending = s.pending := by
  unfold portEnters
  repeat' split
  all_goals simp

@[simp] theorem deskAttach_leaves (p : DeskPort) (s : State) :
    (deskAttach p s).now = s.now ∧ (deskAttach p s).link = s.link ∧ (deskAttach p s).profile = s.profile ∧
    (deskAttach p s).layout = s.layout ∧ (deskAttach p s).sync = s.sync ∧ (deskAttach p s).screens = s.screens ∧
    (deskAttach p s).pointer = s.pointer ∧ (deskAttach p s).matcher = s.matcher ∧ (deskAttach p s).ports = s.ports ∧
    (deskAttach p s).power = s.power ∧ (deskAttach p s).desk = s.desk ∧ (deskAttach p s).freeCount = s.freeCount ∧
    (deskAttach p s).pending = s.pending := by
  unfold deskAttach
  repeat' split
  all_goals simp

@[simp] theorem deskDetach_leaves (p : DeskPort) (s : State) :
    (deskDetach p s).now = s.now ∧ (deskDetach p s).link = s.link ∧ (deskDetach p s).profile = s.profile ∧
    (deskDetach p s).layout = s.layout ∧ (deskDetach p s).sync = s.sync ∧ (deskDetach p s).screens = s.screens ∧
    (deskDetach p s).desk = s.desk ∧ (deskDetach p s).freeCount = s.freeCount ∧ (deskDetach p s).pending = s.pending := by
  unfold deskDetach
  repeat' split
  all_goals simp

@[simp] theorem disablePort_leaves (p : DeskPort) (s : State) :
    (disablePort p s).now = s.now ∧ (disablePort p s).link = s.link ∧ (disablePort p s).profile = s.profile ∧
    (disablePort p s).layout = s.layout ∧ (disablePort p s).sync = s.sync ∧ (disablePort p s).screens = s.screens ∧
    (disablePort p s).desk = s.desk ∧ (disablePort p s).freeCount = s.freeCount ∧ (disablePort p s).pending = s.pending := by
  unfold disablePort
  repeat' split
  all_goals simp

@[simp] theorem enablePort_leaves (p : DeskPort) (s : State) :
    (enablePort p s).now = s.now ∧ (enablePort p s).link = s.link ∧ (enablePort p s).status = s.status ∧
    (enablePort p s).profile = s.profile ∧ (enablePort p s).layout = s.layout ∧ (enablePort p s).sync = s.sync ∧
    (enablePort p s).screens = s.screens ∧ (enablePort p s).pointer = s.pointer ∧ (enablePort p s).matcher = s.matcher ∧
    (enablePort p s).lines = s.lines ∧ (enablePort p s).ports = s.ports ∧ (enablePort p s).power = s.power ∧
    (enablePort p s).desk = s.desk ∧ (enablePort p s).freeCount = s.freeCount ∧ (enablePort p s).pending = s.pending := by
  unfold enablePort
  repeat' split
  all_goals simp

@[simp] theorem releaseAllKeys_leaves (s : State) :
    (releaseAllKeys s).now = s.now ∧ (releaseAllKeys s).link = s.link ∧ (releaseAllKeys s).profile = s.profile ∧
    (releaseAllKeys s).layout = s.layout ∧ (releaseAllKeys s).sync = s.sync ∧ (releaseAllKeys s).screens = s.screens ∧
    (releaseAllKeys s).pointer = s.pointer ∧ (releaseAllKeys s).matcher = s.matcher ∧ (releaseAllKeys s).desk = s.desk ∧
    (releaseAllKeys s).freeCount = s.freeCount ∧ (releaseAllKeys s).pending = s.pending := by
  unfold releaseAllKeys
  refine ⟨?_, ?_, ?_, ?_, ?_, ?_, ?_, ?_, ?_, ?_, ?_⟩ <;> exact foldl_leaves _ _ (fun s c => by simp) _ s

@[simp] theorem softResetKeys_leaves (s : State) :
    (softResetKeys s).now = s.now ∧ (softResetKeys s).link = s.link ∧ (softResetKeys s).profile = s.profile ∧
    (softResetKeys s).layout = s.layout ∧ (softResetKeys s).sync = s.sync ∧ (softResetKeys s).screens = s.screens ∧
    (softResetKeys s).pointer = s.pointer ∧ (softResetKeys s).desk = s.desk ∧ (softResetKeys s).freeCount = s.freeCount ∧
    (softResetKeys s).pending = s.pending := by
  simp [softResetKeys]

@[simp] theorem retargetFor_leaves (p : ComputerEntry → Bool) (s : State) :
    (retargetFor p s).now = s.now ∧ (retargetFor p s).link = s.link ∧ (retargetFor p s).profile = s.profile ∧
    (retargetFor p s).layout = s.layout ∧ (retargetFor p s).sync = s.sync ∧ (retargetFor p s).screens = s.screens ∧
    (retargetFor p s).pointer = s.pointer ∧ (retargetFor p s).matcher = s.matcher ∧ (retargetFor p s).desk = s.desk ∧
    (retargetFor p s).freeCount = s.freeCount ∧ (retargetFor p s).pending = s.pending := by
  unfold retargetFor
  repeat' split
  all_goals simp

@[simp] theorem limitTimers_leaves (a b : Nat) (s : State) :
    (limitTimers a b s).now = s.now ∧ (limitTimers a b s).link = s.link ∧ (limitTimers a b s).status = s.status ∧
    (limitTimers a b s).profile = s.profile ∧ (limitTimers a b s).layout = s.layout ∧ (limitTimers a b s).sync = s.sync ∧
    (limitTimers a b s).screens = s.screens ∧ (limitTimers a b s).pointer = s.pointer ∧
    (limitTimers a b s).matcher = s.matcher ∧ (limitTimers a b s).lines = s.lines ∧ (limitTimers a b s).ports = s.ports ∧
    (limitTimers a b s).power = s.power ∧ (limitTimers a b s).desk = s.desk ∧ (limitTimers a b s).freeCount = s.freeCount ∧
    (limitTimers a b s).out = s.out ∧ (limitTimers a b s).pending = s.pending := by
  unfold limitTimers
  repeat' split
  all_goals simp

/-! ### Lines -/

@[simp] theorem setSuppressed_leaves (l : LineId) (b : Bool) (s : State) :
    (setSuppressed l b s).now = s.now ∧ (setSuppressed l b s).link = s.link ∧ (setSuppressed l b s).status = s.status ∧
    (setSuppressed l b s).profile = s.profile ∧ (setSuppressed l b s).layout = s.layout ∧ (setSuppressed l b s).sync = s.sync ∧
    (setSuppressed l b s).screens = s.screens ∧ (setSuppressed l b s).pointer = s.pointer ∧
    (setSuppressed l b s).keyboard = s.keyboard ∧ (setSuppressed l b s).matcher = s.matcher ∧
    (setSuppressed l b s).ports = s.ports ∧ (setSuppressed l b s).power = s.power ∧ (setSuppressed l b s).desk = s.desk ∧
    (setSuppressed l b s).freeCount = s.freeCount ∧ (setSuppressed l b s).out = s.out ∧
    (setSuppressed l b s).pending = s.pending := by
  simp [setSuppressed]

@[simp] theorem reportEdge_leaves (l : LineId) (a : Bool) (s : State) :
    (reportEdge l a s).now = s.now ∧ (reportEdge l a s).link = s.link ∧ (reportEdge l a s).profile = s.profile ∧
    (reportEdge l a s).layout = s.layout ∧ (reportEdge l a s).sync = s.sync ∧ (reportEdge l a s).screens = s.screens ∧
    (reportEdge l a s).pointer = s.pointer ∧ (reportEdge l a s).keyboard = s.keyboard ∧
    (reportEdge l a s).matcher = s.matcher ∧ (reportEdge l a s).ports = s.ports ∧ (reportEdge l a s).power = s.power ∧
    (reportEdge l a s).desk = s.desk ∧ (reportEdge l a s).freeCount = s.freeCount ∧ (reportEdge l a s).out = s.out ∧
    (reportEdge l a s).pending = s.pending := by
  unfold reportEdge
  repeat' split
  all_goals simp

@[simp] theorem offerEdge_leaves (l : LineId) (a : Bool) (s : State) :
    ((offerEdge l a s).1).now = s.now ∧ ((offerEdge l a s).1).link = s.link ∧ ((offerEdge l a s).1).profile = s.profile ∧
    ((offerEdge l a s).1).layout = s.layout ∧ ((offerEdge l a s).1).sync = s.sync ∧ ((offerEdge l a s).1).matcher = s.matcher ∧
    ((offerEdge l a s).1).freeCount = s.freeCount ∧ ((offerEdge l a s).1).pending = s.pending := by
  unfold offerEdge
  repeat' split
  all_goals simp

@[simp] theorem setDial_leaves (d : Option Dial) (s : State) :
    (setDial d s).now = s.now ∧ (setDial d s).link = s.link ∧ (setDial d s).status = s.status ∧
    (setDial d s).profile = s.profile ∧ (setDial d s).layout = s.layout ∧ (setDial d s).sync = s.sync ∧
    (setDial d s).screens = s.screens ∧ (setDial d s).pointer = s.pointer ∧ (setDial d s).keyboard = s.keyboard ∧
    (setDial d s).matcher = s.matcher ∧ (setDial d s).ports = s.ports ∧ (setDial d s).power = s.power ∧
    (setDial d s).desk = s.desk ∧ (setDial d s).freeCount = s.freeCount ∧ (setDial d s).out = s.out ∧
    (setDial d s).pending = s.pending := by
  simp [setDial]

@[simp] theorem inputEdge_leaves (l : LineId) (a : Bool) (s : State) :
    (inputEdge l a s).now = s.now ∧ (inputEdge l a s).link = s.link ∧ (inputEdge l a s).profile = s.profile ∧
    (inputEdge l a s).layout = s.layout ∧ (inputEdge l a s).sync = s.sync ∧ (inputEdge l a s).freeCount = s.freeCount ∧
    (inputEdge l a s).pending = s.pending := by
  have h := offerEdge_leaves l a s
  unfold inputEdge
  split
  · next s' e => rw [e] at h; simp_all
  · next s' e =>
    rw [e] at h
    dsimp only
    split <;> simp_all

@[simp] theorem dialEdge_leaves (l : LineId) (a : Bool) (s : State) :
    (dialEdge l a s).now = s.now ∧ (dialEdge l a s).link = s.link ∧ (dialEdge l a s).profile = s.profile ∧
    (dialEdge l a s).layout = s.layout ∧ (dialEdge l a s).sync = s.sync ∧ (dialEdge l a s).matcher = s.matcher ∧
    (dialEdge l a s).freeCount = s.freeCount ∧ (dialEdge l a s).pending = s.pending := by
  unfold dialEdge
  split
  · simp
  · dsimp only
    split
    · simp
    · split
      · simp
      · simp

@[simp] theorem makeEdge_leaves (l : LineId) (s : State) :
    (makeEdge l s).now = s.now ∧ (makeEdge l s).link = s.link ∧ (makeEdge l s).profile = s.profile ∧
    (makeEdge l s).layout = s.layout ∧ (makeEdge l s).sync = s.sync ∧ (makeEdge l s).freeCount = s.freeCount ∧
    (makeEdge l s).pending = s.pending := by
  simp only [makeEdge]
  repeat' split
  all_goals simp

@[simp] theorem filterLine_leaves (l : LineId) (s : State) :
    (filterLine l s).now = s.now ∧ (filterLine l s).link = s.link ∧ (filterLine l s).profile = s.profile ∧
    (filterLine l s).layout = s.layout ∧ (filterLine l s).sync = s.sync ∧ (filterLine l s).freeCount = s.freeCount ∧
    (filterLine l s).pending = s.pending := by
  simp only [filterLine]
  repeat' split
  all_goals simp

@[simp] theorem lineLevel_leaves (l : LineId) (b : Bool) (s : State) :
    (lineLevel l b s).now = s.now ∧ (lineLevel l b s).link = s.link ∧ (lineLevel l b s).profile = s.profile ∧
    (lineLevel l b s).layout = s.layout ∧ (lineLevel l b s).sync = s.sync ∧ (lineLevel l b s).freeCount = s.freeCount ∧
    (lineLevel l b s).pending = s.pending := by
  unfold lineLevel
  repeat' split
  all_goals simp

@[simp] theorem filterExpiry_leaves (l : LineId) (s : State) :
    (filterExpiry l s).link = s.link ∧ (filterExpiry l s).profile = s.profile ∧ (filterExpiry l s).layout = s.layout ∧
    (filterExpiry l s).sync = s.sync ∧ (filterExpiry l s).freeCount = s.freeCount ∧ (filterExpiry l s).pending = s.pending := by
  unfold filterExpiry
  repeat' split
  all_goals simp

@[simp] theorem setLineConfig_leaves (l : LineId) (c : LineConfig) (s : State) :
    (setLineConfig l c s).now = s.now ∧ (setLineConfig l c s).link = s.link ∧ (setLineConfig l c s).status = s.status ∧
    (setLineConfig l c s).profile = s.profile ∧ (setLineConfig l c s).layout = s.layout ∧ (setLineConfig l c s).sync = s.sync ∧
    (setLineConfig l c s).screens = s.screens ∧ (setLineConfig l c s).pointer = s.pointer ∧
    (setLineConfig l c s).keyboard = s.keyboard ∧ (setLineConfig l c s).ports = s.ports ∧
    (setLineConfig l c s).power = s.power ∧ (setLineConfig l c s).desk = s.desk ∧
    (setLineConfig l c s).freeCount = s.freeCount ∧ (setLineConfig l c s).out = s.out ∧
    (setLineConfig l c s).pending = s.pending := by
  simp only [setLineConfig]
  repeat' split
  all_goals simp

@[simp] theorem setDialPair_leaves (c : LineConfig) (s : State) :
    (setDialPair c s).now = s.now ∧ (setDialPair c s).link = s.link ∧ (setDialPair c s).status = s.status ∧
    (setDialPair c s).profile = s.profile ∧ (setDialPair c s).layout = s.layout ∧ (setDialPair c s).sync = s.sync ∧
    (setDialPair c s).screens = s.screens ∧ (setDialPair c s).pointer = s.pointer ∧ (setDialPair c s).keyboard = s.keyboard ∧
    (setDialPair c s).ports = s.ports ∧ (setDialPair c s).power = s.power ∧ (setDialPair c s).desk = s.desk ∧
    (setDialPair c s).freeCount = s.freeCount ∧ (setDialPair c s).out = s.out ∧ (setDialPair c s).pending = s.pending := by
  simp only [setDialPair]
  repeat' split
  all_goals simp

@[simp] theorem applyLine_leaves (l : LineId) (c : LineConfig) (s : State) :
    (applyLine l c s).now = s.now ∧ (applyLine l c s).link = s.link ∧ (applyLine l c s).status = s.status ∧
    (applyLine l c s).profile = s.profile ∧ (applyLine l c s).layout = s.layout ∧ (applyLine l c s).sync = s.sync ∧
    (applyLine l c s).screens = s.screens ∧ (applyLine l c s).pointer = s.pointer ∧ (applyLine l c s).keyboard = s.keyboard ∧
    (applyLine l c s).ports = s.ports ∧ (applyLine l c s).power = s.power ∧ (applyLine l c s).desk = s.desk ∧
    (applyLine l c s).freeCount = s.freeCount ∧ (applyLine l c s).out = s.out ∧ (applyLine l c s).pending = s.pending := by
  unfold applyLine
  repeat' split
  all_goals simp

@[simp] theorem softResetLines_leaves (s : State) :
    (softResetLines s).now = s.now ∧ (softResetLines s).link = s.link ∧ (softResetLines s).status = s.status ∧
    (softResetLines s).profile = s.profile ∧ (softResetLines s).layout = s.layout ∧ (softResetLines s).sync = s.sync ∧
    (softResetLines s).screens = s.screens ∧ (softResetLines s).pointer = s.pointer ∧
    (softResetLines s).keyboard = s.keyboard ∧ (softResetLines s).matcher = s.matcher ∧ (softResetLines s).ports = s.ports ∧
    (softResetLines s).power = s.power ∧ (softResetLines s).desk = s.desk ∧ (softResetLines s).freeCount = s.freeCount ∧
    (softResetLines s).out = s.out ∧ (softResetLines s).pending = s.pending := by
  simp [softResetLines]

/-! ### Sync channels -/

@[simp] theorem reportSync_leaves (o : ChannelState) (v : InputId) (s : State) :
    (reportSync o v s).now = s.now ∧ (reportSync o v s).link = s.link ∧ (reportSync o v s).profile = s.profile ∧
    (reportSync o v s).layout = s.layout ∧ (reportSync o v s).sync = s.sync ∧ (reportSync o v s).screens = s.screens ∧
    (reportSync o v s).pointer = s.pointer ∧ (reportSync o v s).keyboard = s.keyboard ∧
    (reportSync o v s).matcher = s.matcher ∧ (reportSync o v s).ports = s.ports ∧ (reportSync o v s).power = s.power ∧
    (reportSync o v s).desk = s.desk ∧ (reportSync o v s).freeCount = s.freeCount ∧ (reportSync o v s).out = s.out ∧
    (reportSync o v s).pending = s.pending := by
  unfold reportSync
  repeat' split
  all_goals simp

@[simp] theorem syncEdge_leaves (v : InputId) (s : State) :
    (syncEdge v s).now = s.now ∧ (syncEdge v s).link = s.link ∧ (syncEdge v s).profile = s.profile ∧
    (syncEdge v s).layout = s.layout ∧ (syncEdge v s).matcher = s.matcher ∧ (syncEdge v s).desk = s.desk ∧
    (syncEdge v s).freeCount = s.freeCount ∧ (syncEdge v s).pending = s.pending := by
  simp only [syncEdge]
  repeat' split
  all_goals simp

@[simp] theorem lostExpiry_leaves (v : InputId) (s : State) :
    (lostExpiry v s).link = s.link ∧ (lostExpiry v s).profile = s.profile ∧ (lostExpiry v s).layout = s.layout ∧
    (lostExpiry v s).matcher = s.matcher ∧ (lostExpiry v s).desk = s.desk ∧ (lostExpiry v s).freeCount = s.freeCount ∧
    (lostExpiry v s).pending = s.pending := by
  simp only [lostExpiry]
  repeat' split
  all_goals simp

@[simp] theorem bindChannel_leaves (v : InputId) (b : Bool) (s : State) :
    (bindChannel v b s).now = s.now ∧ (bindChannel v b s).link = s.link ∧ (bindChannel v b s).profile = s.profile ∧
    (bindChannel v b s).layout = s.layout ∧ (bindChannel v b s).screens = s.screens ∧ (bindChannel v b s).pointer = s.pointer ∧
    (bindChannel v b s).keyboard = s.keyboard ∧ (bindChannel v b s).matcher = s.matcher ∧ (bindChannel v b s).ports = s.ports ∧
    (bindChannel v b s).power = s.power ∧ (bindChannel v b s).desk = s.desk ∧ (bindChannel v b s).freeCount = s.freeCount ∧
    (bindChannel v b s).out = s.out ∧ (bindChannel v b s).pending = s.pending := by
  simp only [bindChannel]
  repeat' split
  all_goals simp

@[simp] theorem softResetSync_leaves (s : State) :
    (softResetSync s).now = s.now ∧ (softResetSync s).link = s.link ∧ (softResetSync s).status = s.status ∧
    (softResetSync s).profile = s.profile ∧ (softResetSync s).layout = s.layout ∧ (softResetSync s).screens = s.screens ∧
    (softResetSync s).pointer = s.pointer ∧ (softResetSync s).keyboard = s.keyboard ∧ (softResetSync s).matcher = s.matcher ∧
    (softResetSync s).lines = s.lines ∧ (softResetSync s).ports = s.ports ∧ (softResetSync s).power = s.power ∧
    (softResetSync s).desk = s.desk ∧ (softResetSync s).freeCount = s.freeCount ∧ (softResetSync s).out = s.out ∧
    (softResetSync s).pending = s.pending := by
  simp [softResetSync]

end Sys2Proof.Machine
end

