-- ==== Sys2Proof/Laws/Memory.lean ====
section
/-!
SUPPORT. The serial memory: every operation keeps the canonical form, a read after a write, and equal reads of canonical memories
are equal memories.
-/

set_option Elab.async false
namespace Sys2Proof.Machine
open Sys2Proof

/-- A canonical memory above an address is canonical above any lower one. -/
theorem Memory.wfFrom_weaken (m : Memory) (lo : Option Nat) (h : Memory.wfFrom lo m = true) : Memory.wfFrom none m = true := by
  cases m with
  | nil => rfl
  | cons p rest => obtain ⟨b, w⟩ := p; simp only [Memory.wfFrom, Bool.and_eq_true] at h ⊢; simp [h]

/-- Writing above a bound keeps the memory canonical above that bound. -/
theorem Memory.wfFrom_write (m : Memory) (lo : Option Nat) (a : Nat) (v : Byte) (hlo : lo.all (· < a) = true)
    (h : Memory.wfFrom lo m = true) : Memory.wfFrom lo (m.write a v) = true := by
  induction m generalizing lo with
  | nil => simp only [Memory.write]; split <;> simp_all [Memory.wfFrom]
  | cons p rest ih =>
    obtain ⟨b, w⟩ := p
    simp only [Memory.wfFrom, Bool.and_eq_true] at h
    simp only [Memory.write]
    split
    · split
      · simp_all [Memory.wfFrom]
      · simp_all [Memory.wfFrom]
    · split
      · subst_vars
        split
        · cases rest with
          | nil => rfl
          | cons q rest =>
            obtain ⟨c, u⟩ := q
            simp only [Memory.wfFrom, Bool.and_eq_true] at h ⊢
            refine ⟨⟨?_, h.2.1.2⟩, h.2.2⟩
            cases lo with
            | none => rfl
            | some l => simp at *; omega
        · simp_all [Memory.wfFrom]
      · have hb : b < a := by omega
        simp only [Memory.wfFrom, Bool.and_eq_true]
        exact ⟨h.1, ih (some b) (by simpa using hb) h.2⟩

/-- A write keeps the canonical form. -/
theorem Memory.wf_write (m : Memory) (a : Nat) (v : Byte) (h : m.wf = true) : (m.write a v).wf = true :=
  Memory.wfFrom_write m none a v rfl h

/-- Writing many bytes keeps the canonical form. -/
theorem Memory.wf_writeAll (m : Memory) (a : Nat) (vs : List Byte) (h : m.wf = true) : (m.writeAll a vs).wf = true := by
  induction vs generalizing m a with
  | nil => exact h
  | cons v vs ih => exact ih _ _ (Memory.wf_write m a v h)

/-- Below its bound a canonical memory reads as erased. -/
theorem Memory.read_below (m : Memory) (l a : Nat) (ha : a ≤ l) (h : Memory.wfFrom (some l) m = true) :
    m.read a = Config.erasedByte := by
  induction m generalizing l with
  | nil => rfl
  | cons p rest ih =>
    obtain ⟨b, w⟩ := p
    simp only [Memory.wfFrom, Bool.and_eq_true, Option.all_some, decide_eq_true_eq] at h
    simp only [Memory.read]
    rw [if_neg (by omega)]
    exact ih b (by omega) h.2

/-- A read after a write gives the byte written at its address, and what stood there before elsewhere. -/
theorem Memory.read_write (m : Memory) (a b : Nat) (v : Byte) (h : m.wf = true) :
    (m.write a v).read b = if b = a then v else m.read b := by
  have key : ∀ (lo : Option Nat), Memory.wfFrom lo m = true → (m.write a v).read b = if b = a then v else m.read b := by
    induction m with
    | nil => intro lo _; simp only [Memory.write]; split <;> simp_all [Memory.read]
    | cons p rest ih =>
      obtain ⟨c, w⟩ := p
      intro lo hw
      simp only [Memory.wfFrom, Bool.and_eq_true] at hw
      simp only [Memory.write]
      have hr := Memory.read_below rest c
      split
      · split
        · subst_vars
          by_cases hb : b = a
          · subst hb
            rw [if_pos rfl]
            simp only [Memory.read]
            rw [if_neg (by omega)]
            exact hr b (by omega) hw.2
          · rw [if_neg hb]
        · simp only [Memory.read]
      · split
        · next hac =>
          subst hac
          split
          · next hv =>
            by_cases hb : b = a
            · subst hb; rw [if_pos rfl, hv]; exact hr b (by omega) hw.2
            · rw [if_neg hb]; simp [Memory.read, hb]
          · by_cases hb : b = a <;> simp [Memory.read, hb]
        · simp only [Memory.read]
          by_cases hb : b = c
          · subst hb
            have : b ≠ a := by omega
            simp [this]
          · rw [if_neg hb, if_neg hb]; exact ih (Memory.wfFrom_weaken rest _ hw.2) (some c) hw.2
  exact key none h

/-- Reading after writing many bytes: the byte written where one was, and what stood there before elsewhere. -/
theorem Memory.read_writeAll (m : Memory) (a b : Nat) (vs : List Byte) (h : m.wf = true) :
    (m.writeAll a vs).read b = if hb : a ≤ b ∧ b - a < vs.length then vs[b - a]'hb.2 else m.read b := by
  induction vs generalizing m a with
  | nil => simp [Memory.writeAll]
  | cons v vs ih =>
    simp only [Memory.writeAll]
    rw [ih _ _ (Memory.wf_write m a v h), Memory.read_write m a b v h]
    by_cases h1 : b = a
    · subst h1
      rw [dif_neg (by omega), if_pos rfl, dif_pos ⟨le_refl b, by simp⟩]
      simp
    · by_cases h2 : a ≤ b ∧ b - a < (v :: vs).length
      · have h3 : a + 1 ≤ b ∧ b - (a + 1) < vs.length := by simp at h2; omega
        rw [dif_pos h3, dif_pos h2]
        have e : b - a = (b - (a + 1)) + 1 := by omega
        simp only [e, List.getElem_cons_succ]
      · have h3 : ¬(a + 1 ≤ b ∧ b - (a + 1) < vs.length) := by simp at h2; omega
        rw [dif_neg h3, dif_neg h2, if_neg h1]

/-- A memory after one step of a stopped save is canonical. -/
theorem Memory.wf_leftBy (img : List Byte) (st : SaveStep) (n : Nat) (m : Memory) (h : m.wf = true) :
    Memory.wf (leftBy img st n m) = true := by
  cases st <;> simp only [leftBy, writtenUpTo, unconfirmed] <;> repeat' apply Memory.wf_writeAll
  all_goals exact h

end Sys2Proof.Machine
end

