-- ==== Sys2Proof/Laws/Ops.lean ====
section
/-!
SUPPORT. What the shared operations do: raising, clearing and enabling events, the outputs that follow, how a record is
answered, and how a pointer entry is placed. Each lemma says once everything its operation can do to the part of State it owns.
-/

set_option Elab.async false
namespace Sys2Proof.Machine
open Sys2Proof Sys2Proof.Safety

/-! ### Outputs that follow -/

@[simp] theorem lineRec_followOutputs (s : State) (l : LineId) : (followOutputs s).lineRec l = (s.lineRec l).follow s := by
  simp only [State.lineRec, followOutputs, State.setLines_lines, Fin.getElem_fin, Vector.getElem_ofFn]

/-- Following changes the driven level of a line and nothing else of it. -/
theorem LineRec.follow_eq (s : State) (r : LineRec) : ∃ d, r.follow s = { r with driven := d } := by
  unfold LineRec.follow
  split
  · exact ⟨_, rfl⟩
  · exact ⟨r.driven, rfl⟩

@[simp] theorem LineRec.follow_config (s : State) (r : LineRec) : (r.follow s).config = r.config := by
  obtain ⟨d, h⟩ := r.follow_eq s
  rw [h]

/-- The dial decoder is no output. -/
@[simp] theorem dial_followOutputs (s : State) : (followOutputs s).lines.dial = s.lines.dial := rfl

/-! ### The attention line and events -/

@[simp] theorem event_judgeAttention (s : State) (k : EventKind) : (judgeAttention s).event k = s.event k := by
  unfold judgeAttention
  split <;> simp [State.event]

/-- The attention line after it is judged. -/
theorem attention_judgeAttention (s : State) : (judgeAttention s).status.attention = s.wantsAttention := by
  unfold judgeAttention
  split
  · assumption
  · simp

@[simp] theorem conditions_judgeAttention (s : State) :
    (judgeAttention s).status.faultHolds = s.status.faultHolds ∧ (judgeAttention s).status.wakeHolds = s.status.wakeHolds := by
  unfold judgeAttention
  split <;> simp

/-- A raise, read back event by event (R189). -/
@[simp] theorem event_raise (e : Event) (s : State) (k : EventKind) :
    (raise e s).event k = if e.kind = k then { s.event e.kind with isPending := true, detail := some e } else s.event k := by
  simp [raise]

/-- What a line is after a raise: as it was, or following the attention line. -/
theorem lineRec_raise (e : Event) (s : State) (l : LineId) :
    (raise e s).lineRec l = s.lineRec l ∨ (raise e s).lineRec l = (s.lineRec l).follow (raise e s) := by
  unfold raise judgeAttention
  split
  · left; simp [State.lineRec]
  · right
    rw [lineRec_followOutputs]
    have h : (State.setStatus { (s.setEvent e.kind { s.event e.kind with isPending := true, detail := some e }).status with
      attention := (s.setEvent e.kind { s.event e.kind with isPending := true, detail := some e }).wantsAttention }
        (s.setEvent e.kind { s.event e.kind with isPending := true, detail := some e })).lineRec l = s.lineRec l := rfl
    rw [h]
    rfl

/-- The attention line wants to be asserted while a kind is both pending and enabled (R190). -/
theorem wantsAttention_iff (s : State) :
    s.wantsAttention = true ↔ ∃ k, (s.event k).isPending = true ∧ (s.event k).enabled = true := by
  simp only [State.wantsAttention, List.any_eq_true, Bool.and_eq_true]
  constructor
  · rintro ⟨k, -, h⟩; exact ⟨k, h⟩
  · rintro ⟨k, h⟩; exact ⟨k, by cases k <;> decide, h⟩

/-! ### Answering a record -/

/-- A frame's length, kind, body and check bytes sum to 0 modulo 256 (R199). -/
theorem frameBytes_sum (kind : Byte) (body : List Byte) : ((frameBytes kind body).drop 1).foldl (· + ·) 0 = 0 := by
  simp only [frameBytes, checkByte, List.drop_one, List.tail_cons, List.foldl_append, List.foldl_cons, List.foldl_nil]
  exact BitVec.add_right_neg _

/-- A frame is its start, length, kind and body, and then one byte more (R199). -/
theorem frameBytes_front (kind : Byte) (body : List Byte) :
    (frameBytes kind body).dropLast = 0xC5 :: BitVec.ofNat 8 (body.length + 1) :: kind :: body := by
  simp [frameBytes, List.dropLast_cons_of_ne_nil]

theorem frameBytes_length (kind : Byte) (body : List Byte) : (frameBytes kind body).length = body.length + 4 := by
  simp [frameBytes]

/-! ### OUTPUT lines under a new configuration (R136, R137) -/

theorem LineRec.drivenBy_same (s : State) (r : LineRec) (c : LineConfig) (h : r.config.mode = .output)
    (hs : r.config.source = c.source) : r.drivenBy s c = r.driven := if_pos ⟨h, hs⟩

theorem LineRec.drivenBy_new (s : State) (r : LineRec) (c : LineConfig) (h : r.config.mode = .output → r.config.source ≠ c.source) :
    r.drivenBy s c = some (sourceLevel s c.source) := if_neg fun ⟨a, b⟩ => h a b

/-! ### The link-wake request (R149, R171) -/

theorem State.leftSuspended_iff (s : State) (c : Computer) : s.leftSuspended c = true ↔
    s.pending.head? = some (.busActivity c) ∨ s.pending.head? = some (.busReset c) ∨
      s.pending.head? = some (.busPowerDisappears c) := by
  simp [State.leftSuspended]

theorem linkWake_out (left : Bool) (c : Computer) (s : State) : (linkWake left c s).out = s.out ++
    (if left = false ∧ (s.port c).observed = .suspended ∧ (s.port c).permission then [.resumeSignal c] else []) := by
  unfold linkWake
  split <;> simp_all [State.emit]

@[simp] theorem State.sendFrame_leaves (f : ReplyFrame) (s : State) :
    (s.sendFrame f).now = s.now ∧ (s.sendFrame f).status = s.status ∧ (s.sendFrame f).profile = s.profile ∧
    (s.sendFrame f).layout = s.layout ∧ (s.sendFrame f).sync = s.sync ∧ (s.sendFrame f).screens = s.screens ∧
    (s.sendFrame f).pointer = s.pointer ∧ (s.sendFrame f).keyboard = s.keyboard ∧ (s.sendFrame f).matcher = s.matcher ∧
    (s.sendFrame f).lines = s.lines ∧ (s.sendFrame f).ports = s.ports ∧ (s.sendFrame f).power = s.power ∧
    (s.sendFrame f).desk = s.desk ∧ (s.sendFrame f).freeCount = s.freeCount ∧ (s.sendFrame f).pending = s.pending := by
  simp [State.sendFrame]

@[simp] theorem State.sendReply_leaves (k : Nat) (r : Reply) (s : State) :
    (s.sendReply k r).now = s.now ∧ (s.sendReply k r).status = s.status ∧ (s.sendReply k r).profile = s.profile ∧
    (s.sendReply k r).layout = s.layout ∧ (s.sendReply k r).sync = s.sync ∧ (s.sendReply k r).screens = s.screens ∧
    (s.sendReply k r).pointer = s.pointer ∧ (s.sendReply k r).keyboard = s.keyboard ∧ (s.sendReply k r).matcher = s.matcher ∧
    (s.sendReply k r).lines = s.lines ∧ (s.sendReply k r).ports = s.ports ∧ (s.sendReply k r).power = s.power ∧
    (s.sendReply k r).desk = s.desk ∧ (s.sendReply k r).freeCount = s.freeCount ∧ (s.sendReply k r).pending = s.pending := by
  simp [State.sendReply]

/-- What a reply adds to the link and to what is handed on (R187, R188, R199). -/
@[simp] theorem State.sendReply_link (k : Nat) (r : Reply) (s : State) :
    (s.sendReply k r).link = { s.link with replies := s.link.replies ++ [⟨BitVec.ofNat 8 (k + 0x80), r.result.code :: r.body⟩] } :=
  rfl

@[simp] theorem State.sendReply_out (k : Nat) (r : Reply) (s : State) :
    (s.sendReply k r).out = s.out ++ [.reply (frameBytes (BitVec.ofNat 8 (k + 0x80)) (r.result.code :: r.body))] := rfl

/-- A record served in the READY state only (R194). -/
theorem whenReady_ready (f : State → Judged) (s : State) (h : s.profile.state = .ready) : whenReady f s = conclude s (f s) :=
  if_pos h

theorem whenReady_busy (f : State → Judged) (s : State) (h : s.profile.state ≠ .ready) : whenReady f s = (s, ⟨.busy, []⟩) :=
  if_neg h

/-- A record served unless the store is LOADING (R194). -/
theorem whenLoaded_served (f : State → Judged) (s : State) (h : s.profile.state ≠ .loading) :
    whenLoaded f s = conclude s (f s) := if_neg h

theorem whenLoaded_busy (f : State → Judged) (s : State) (h : s.profile.state = .loading) : whenLoaded f s = (s, ⟨.busy, []⟩) :=
  if_pos h

/-- A fresh command changes nothing but what is handed on. -/
@[simp] theorem State.fresh_reads (s : State) (c : Computer) (i : ScreenId) (l : LineId) (v : InputId) (k : EventKind) :
    s.fresh.port c = s.port c ∧ s.fresh.powerRec c = s.powerRec c ∧ s.fresh.computer c = s.computer c ∧
    s.fresh.screenRec i = s.screenRec i ∧ s.fresh.screenRect i = s.screenRect i ∧ s.fresh.lineRec l = s.lineRec l ∧
    s.fresh.channel v = s.channel v ∧ s.fresh.binding v = s.binding v ∧ s.fresh.event k = s.event k :=
  ⟨rfl, rfl, rfl, rfl, rfl, rfl, rfl, rfl, rfl⟩

/-! ### Placing a pointer entry (R154, R155) -/

/-- The first pointer entry of a list takes the new one; the keyboard entries before it stay (R154). -/
theorem mergeFirstPointer_eq (x y : Nat) (b : ButtonSet) (w : Int) (l : List Entry) (h : l.any Entry.isPointer = true) :
    ∃ ks es x0 y0 b0 w0, l = ks ++ .pointer x0 y0 b0 w0 :: es ∧ (∀ e ∈ ks, e.isPointer = false) ∧
      mergeFirstPointer x y b w l = ks ++ .pointer x y b (wheelSum w0 w) :: es := by
  induction l with
  | nil => simp at h
  | cons e l ih =>
    cases e with
    | pointer x0 y0 b0 w0 => exact ⟨[], l, x0, y0, b0, w0, rfl, by simp, rfl⟩
    | keyboard k =>
      obtain ⟨ks, es, x0, y0, b0, w0, rfl, hk, he⟩ := ih (by simpa [Entry.isPointer] using h)
      exact ⟨.keyboard k :: ks, es, x0, y0, b0, w0, rfl, by simpa [Entry.isPointer] using hk, by simp [mergeFirstPointer, he]⟩

theorem Port.tailHasButtons_iff (p : Port) (b : ButtonSet) :
    p.tailHasButtons b = true ↔ ∃ x0 y0 w0, p.queue.getLast? = some (.pointer x0 y0 b w0) := by
  unfold Port.tailHasButtons
  split
  · rename_i x y b0 w h
    simp [h]
  · rename_i h
    constructor
    · simp
    · rintro ⟨x, y, w, e⟩; exact absurd e (h x y b w)

/-- A merge rewrites the newest pointer entry and leaves the rest of the queue. -/
theorem Port.mergePointer_eq (p : Port) (x y : Nat) (b : ButtonSet) (w : Int) (h : p.queue.any Entry.isPointer = true) :
    ∃ es ks x0 y0 b0 w0, p.queue = es ++ .pointer x0 y0 b0 w0 :: ks ∧ (∀ e ∈ ks, e.isPointer = false) ∧
      p.mergePointer x y b w = { p with queue := es ++ .pointer x y b (wheelSum w0 w) :: ks } := by
  obtain ⟨ks, es, x0, y0, b0, w0, hq, hk, he⟩ := mergeFirstPointer_eq x y b w p.queue.reverse (by simpa using h)
  refine ⟨es.reverse, ks.reverse, x0, y0, b0, w0, ?_, by simpa using hk, ?_⟩
  · rw [← List.reverse_reverse p.queue, hq]; simp
  · simp [Port.mergePointer, he]

@[simp] theorem port_raise (e : Event) (s : State) (c : Computer) : (raise e s).port c = s.port c := by simp [State.port]

/-- Refusing buttons leaves every port (R155). -/
@[simp] theorem port_refuseButtons (c d : Computer) (b : ButtonSet) (s : State) : (refuseButtons c b s).port d = s.port d := by
  unfold refuseButtons
  split
  · rfl
  · rw [port_raise]; rfl

/-- The buttons refused join the swallow set (R155, R156). -/
theorem pointer_refuseButtons (c : Computer) (b : ButtonSet) (s : State) :
    (refuseButtons c b s).pointer = { s.pointer with swallow := s.pointer.swallow ||| b } := by
  unfold refuseButtons
  split
  · simp_all
  · simp

/-- What placing a pointer entry does to the port (R154, R155). -/
theorem placePointer_placed (c : Computer) (x y : Nat) (b : ButtonSet) (w : Int) (s : State) :
    PointerPlaced x y b w (s.port c) ((placePointer c x y b w s).port c) := by
  have none_same (h : (s.port c).tailHasButtons b = false) (x0 y0 : Nat) (w0 : Int) :
      (s.port c).queue.getLast? ≠ some (.pointer x0 y0 b w0) := fun e =>
    absurd ((Port.tailHasButtons_iff _ _).2 ⟨x0, y0, w0, e⟩) (by simp [h])
  unfold placePointer
  dsimp only
  split
  · rename_i h
    obtain ⟨x0, y0, w0, e⟩ := (Port.tailHasButtons_iff _ _).1 h
    obtain ⟨es, hq⟩ := List.getLast?_eq_some_iff.1 e
    refine .inl ⟨es, x0, y0, w0, hq, ?_⟩
    simp [Port.mergePointer, hq, mergeFirstPointer, wheelSum]
  split
  · rename_i h hn
    exact .inr (.inl ⟨none_same (by simpa using h), hn, by simp [Port.append]⟩)
  split
  · rename_i h hn hp
    obtain ⟨es, ks, x0, y0, b0, w0, hq, hk, he⟩ := (s.port c).mergePointer_eq x y b w hp
    exact .inr (.inr (.inl ⟨none_same (by simpa using h), by simpa [reserveDepth] using hn, es, ks, x0, y0, b0, w0, hq, hk,
      by simp [he, wheelSum]⟩))
  · rename_i h hn hp
    refine .inr (.inr (.inr ⟨by simpa [reserveDepth] using hn, by simpa using hp, ?_⟩))
    have he : (x != (s.port c).x || y != (s.port c).y || ((s.port c).buttons &&& b) != (s.port c).buttons) =
        decide ((s.port c).x ≠ x ∨ (s.port c).y ≠ y ∨ (s.port c).buttons &&& b ≠ (s.port c).buttons) := by
      rw [Bool.eq_iff_iff]
      simp [or_assoc, eq_comm (a := x), eq_comm (a := y)]
    simp [Port.takeDirect, he]

/-- The buttons refused join the swallow set (R155). -/
theorem placePointer_swallow (c : Computer) (x y : Nat) (b : ButtonSet) (w : Int) (s : State) :
    (placePointer c x y b w s).pointer = { s.pointer with swallow := s.pointer.swallow ||| refusedOf b (s.port c) } := by
  have hr (h : (s.port c).queue.any Entry.isPointer = true ∨ (s.port c).queue.length < 28) : refusedOf b (s.port c) = 0 := by
    unfold refusedOf
    split
    · rename_i h'
      rcases h with h | h
      · obtain ⟨e, he, hp⟩ := List.any_eq_true.1 h
        simp [h'.2 e he] at hp
      · omega
    · rfl
  have tail (h : (s.port c).tailHasButtons b = true) : (s.port c).queue.any Entry.isPointer = true := by
    obtain ⟨x0, y0, w0, e⟩ := (Port.tailHasButtons_iff _ _).1 h
    exact List.any_eq_true.2 ⟨_, List.mem_of_getLast? e, rfl⟩
  unfold placePointer
  dsimp only
  split
  · simp [hr (.inl (tail ‹_›))]
  split
  · simp [hr (.inr ‹_›)]
  split
  · simp [hr (.inl ‹_›)]
  · rename_i hn hp
    have : refusedOf b (s.port c) = (s.port c).refusedButtons b :=
      if_pos ⟨by simpa [reserveDepth] using hn, by simpa using hp⟩
    simp [pointer_refuseButtons, this]
/-! ### Repeated codes -/

theorem collapse_from (ks acc : List Nat) :
    ks.foldl (fun acc k => if acc.contains k then acc else acc ++ [k]) acc =
      acc ++ (ks.filter fun k => !acc.contains k).eraseDups := by
  induction ks generalizing acc with
  | nil => simp
  | cons k ks ih =>
    rw [List.foldl_cons, ih, List.filter_cons]
    by_cases h : acc.contains k = true
    · have m : k ∈ acc := by simpa using h
      simp [m]
    · simp only [h, Bool.not_false, if_true, List.eraseDups_cons, List.filter_filter, List.append_assoc, List.cons_append,
        List.nil_append, Bool.false_eq_true, if_false, List.contains_append]
      congr 3
      apply List.filter_congr
      intro a _
      by_cases e : a = k <;> simp [e]

/-- A repeated code counts once, at its first place (R91, R96). -/
theorem collapse_eq (ks : List Nat) : collapse ks = ks.eraseDups := by
  have := collapse_from ks []
  simpa [collapse] using this

end Sys2Proof.Machine
end

