-- ==== Sys2Proof/Laws/PerInstr.lean ====
section
/-!
SUPPORT. The family Fits, one lemma for each constructor of Instr: a well-formed command that a record carries fits one frame
(R185, R186, R188): a kind of 0x01 to 0x7E, at most 199 body bytes, and every one of them a byte.
-/

set_option Elab.async false
namespace Sys2Proof.Laws
open Sys2Proof

/-- A well-formed command's record has a kind of 0x01–0x7E and at most 199 body bytes, each below 256. -/
def Fits.Statement (i : Instr) : Prop :=
  i.wf = true → ∀ (k : Nat) (b : List Nat), i.record = some (k, b) → 1 ≤ k ∧ k ≤ 0x7E ∧ b.length ≤ 199 ∧ ∀ x ∈ b, x < 256

/-- An event has no record. -/
theorem fits_of_event (i : Instr) (h : i.record = none) : Fits.Statement i := by
  intro _ k b hr
  rw [h] at hr
  exact absurd hr (by simp)

/-- A record of bytes that are shown to fit. -/
theorem fits_of_record (i : Instr) (k : Nat) (b : List Nat) (h : i.record = some (k, b)) (hk : 1 ≤ k ∧ k ≤ 0x7E)
    (hl : i.wf = true → b.length ≤ 199) (hb : i.wf = true → ∀ x ∈ b, x < 256) : Fits.Statement i := by
  intro hw k' b' hr
  rw [h] at hr
  obtain ⟨rfl, rfl⟩ := by simpa using hr
  exact ⟨hk.1, hk.2, hl hw, hb hw⟩

/-- Both bytes of a two-byte number are bytes. -/
theorem wordBytes_fits (n : Nat) (h : n < 65536) : ∀ x ∈ wordBytes n, x < 256 := by
  intro x hx
  simp only [wordBytes, List.mem_cons, List.not_mem_nil, or_false] at hx
  omega

theorem Fits.powerOnReset (rateHigh : Bool) (observed : List Attach) : Fits.Statement (.powerOnReset rateHigh observed) := fits_of_event _ rfl
theorem Fits.profileLoadDone (answered : Bool) : Fits.Statement (.profileLoadDone answered) := fits_of_event _ rfl
theorem Fits.byteReceived (byte : Byte) (stopGood : Bool) : Fits.Statement (.byteReceived byte stopGood) := fits_of_event _ rfl
theorem Fits.gapTimerExpiry : Fits.Statement .gapTimerExpiry := fits_of_event _ rfl
theorem Fits.replySent : Fits.Statement .replySent := fits_of_event _ rfl
theorem Fits.identify : Fits.Statement .identify :=
  fits_of_record _ 0x01 [] rfl (by decide) (fun _ => Nat.zero_le _) (fun _ => by simp)
theorem Fits.queryStatus : Fits.Statement .queryStatus :=
  fits_of_record _ 0x02 [] rfl (by decide) (fun _ => Nat.zero_le _) (fun _ => by simp)
theorem Fits.clearEvents (kinds : Nat) : Fits.Statement (.clearEvents kinds) := by
  refine fits_of_record _ 0x03 _ rfl (by decide) (fun _ => by simp only [wordBytes, List.length_cons, List.length_nil]; decide) ?_
  intro hw x hx
  simp only [Instr.wf, fitsWord, decide_eq_true_eq] at hw
  simp only [wordBytes, List.mem_cons, List.not_mem_nil, or_false] at hx
  omega
theorem Fits.setEventMask (kinds : Nat) : Fits.Statement (.setEventMask kinds) := by
  refine fits_of_record _ 0x04 _ rfl (by decide) (fun _ => by simp only [wordBytes, List.length_cons, List.length_nil]; decide) ?_
  intro hw x hx
  simp only [Instr.wf, fitsWord, decide_eq_true_eq] at hw
  simp only [wordBytes, List.mem_cons, List.not_mem_nil, or_false] at hx
  omega
theorem Fits.restart : Fits.Statement .restart :=
  fits_of_record _ 0x05 [] rfl (by decide) (fun _ => Nat.zero_le _) (fun _ => by simp)
theorem Fits.softReset : Fits.Statement .softReset := fits_of_event _ rfl
theorem Fits.saveProfile : Fits.Statement .saveProfile :=
  fits_of_record _ 0x06 [] rfl (by decide) (fun _ => Nat.zero_le _) (fun _ => by simp)
theorem Fits.saveComplete (result : SaveResult) : Fits.Statement (.saveComplete result) := fits_of_event _ rfl
theorem Fits.saveTimeout : Fits.Statement .saveTimeout := fits_of_event _ rfl
theorem Fits.setScreen (screen : Nat) (configured : Nat) (x : Nat) (y : Nat) (w : Nat) (h : Nat) : Fits.Statement (.setScreen screen configured x y w h) := by
  refine fits_of_record _ 0x10 _ rfl (by decide) (fun _ => by simp only [wordBytes, List.length_append, List.length_cons, List.length_nil]; decide) ?_
  intro hw x hx
  simp only [Instr.wf, List.all_cons, List.all_nil, fitsByte, fitsWord, Bool.and_eq_true, decide_eq_true_eq, and_true] at hw
  simp only [wordBytes, List.mem_append, List.mem_cons, List.not_mem_nil, or_false] at hx
  omega
theorem Fits.setComputer (computer : Nat) (fields : RawComputer) : Fits.Statement (.setComputer computer fields) := by
  refine fits_of_record _ 0x11 (computer :: fields.bytes) rfl (by decide) ?_ ?_
  · intro hw
    simp only [Instr.wf, RawComputer.wf, Bool.and_eq_true, beq_iff_eq] at hw
    simp only [RawComputer.bytes, wordBytes, List.length_cons, List.length_append, List.length_nil, hw.2.1.2]
    decide
  · intro hw x hx
    simp only [Instr.wf, RawComputer.wf, List.all_cons, List.all_nil, fitsByte, fitsWord, Bool.and_eq_true, decide_eq_true_eq,
      List.all_eq_true, and_true] at hw
    obtain ⟨hc, ⟨⟨⟨h1, h2, h3, h4, h5⟩, h6, h7, h8, h9⟩, -⟩, hl⟩ := hw
    simp only [RawComputer.bytes, wordBytes, List.mem_cons, List.mem_append, List.not_mem_nil, or_false] at hx
    rcases hx with h | (((((((h | h) | h) | h) | h) | h) | h) | h) | h
    all_goals first
      | exact hl x h
      | omega
theorem Fits.setHead (computer : Nat) (head : Nat) (defined : Nat) (priv : Nat) (allowed : Nat) (x : Nat) (y : Nat) (w : Nat) (h : Nat) : Fits.Statement (.setHead computer head defined priv allowed x y w h) := by
  refine fits_of_record _ 0x12 _ rfl (by decide) (fun _ => by simp only [wordBytes, List.length_append, List.length_cons, List.length_nil]; decide) ?_
  intro hw x hx
  simp only [Instr.wf, List.all_cons, List.all_nil, fitsByte, fitsWord, Bool.and_eq_true, decide_eq_true_eq, and_true] at hw
  simp only [wordBytes, List.mem_append, List.mem_cons, List.not_mem_nil, or_false] at hx
  omega
theorem Fits.mapInput (input : Nat) (computer : Nat) (head : Nat) : Fits.Statement (.mapInput input computer head) := by
  refine fits_of_record _ 0x13 _ rfl (by decide) (fun _ => by simp only [List.length_cons, List.length_nil]; decide) ?_
  intro hw x hx
  simp only [Instr.wf, List.all_cons, List.all_nil, fitsByte, Bool.and_eq_true, decide_eq_true_eq, and_true] at hw
  simp only [List.mem_cons, List.not_mem_nil, or_false] at hx
  omega
theorem Fits.getLayoutScreen (screen : Nat) : Fits.Statement (.getLayoutScreen screen) := by
  refine fits_of_record _ 0x14 _ rfl (by decide) (fun _ => by simp only [List.length_cons, List.length_nil]; decide) ?_
  intro hw x hx
  simp only [Instr.wf, fitsByte, decide_eq_true_eq] at hw
  simp only [List.mem_cons, List.not_mem_nil, or_false] at hx
  omega
theorem Fits.getLayoutComputer (computer : Nat) : Fits.Statement (.getLayoutComputer computer) := by
  refine fits_of_record _ 0x14 _ rfl (by decide) (fun _ => by simp only [List.length_cons, List.length_nil]; decide) ?_
  intro hw x hx
  simp only [Instr.wf, fitsByte, decide_eq_true_eq] at hw
  simp only [List.mem_cons, List.not_mem_nil, or_false] at hx
  omega
theorem Fits.getLayoutHead (computer : Nat) (head : Nat) : Fits.Statement (.getLayoutHead computer head) := by
  refine fits_of_record _ 0x14 _ rfl (by decide) (fun _ => by simp only [List.length_cons, List.length_nil]; decide) ?_
  intro hw x hx
  simp only [Instr.wf, List.all_cons, List.all_nil, fitsByte, Bool.and_eq_true, decide_eq_true_eq, and_true] at hw
  simp only [List.mem_cons, List.not_mem_nil, or_false] at hx
  omega
theorem Fits.getLayoutInput (input : Nat) : Fits.Statement (.getLayoutInput input) := by
  refine fits_of_record _ 0x14 _ rfl (by decide) (fun _ => by simp only [List.length_cons, List.length_nil]; decide) ?_
  intro hw x hx
  simp only [Instr.wf, fitsByte, decide_eq_true_eq] at hw
  simp only [List.mem_cons, List.not_mem_nil, or_false] at hx
  omega
theorem Fits.syncEdge (input : InputId) (time : Nat) : Fits.Statement (.syncEdge input time) := fits_of_event _ rfl
theorem Fits.lostTimerExpiry (input : InputId) : Fits.Statement (.lostTimerExpiry input) := fits_of_event _ rfl
theorem Fits.lockInputChange (screen : ScreenId) (present : Bool) : Fits.Statement (.lockInputChange screen present) := fits_of_event _ rfl
theorem Fits.linkTimerExpiry (screen : ScreenId) : Fits.Statement (.linkTimerExpiry screen) := fits_of_event _ rfl
theorem Fits.powerOnTimerExpiry (screen : ScreenId) : Fits.Statement (.powerOnTimerExpiry screen) := fits_of_event _ rfl
theorem Fits.assign (screen : Nat) (computer : Nat) (head : Nat) : Fits.Statement (.assign screen computer head) := by
  refine fits_of_record _ 0x20 _ rfl (by decide) (fun _ => by simp only [List.length_cons, List.length_nil]; decide) ?_
  intro hw x hx
  simp only [Instr.wf, List.all_cons, List.all_nil, fitsByte, Bool.and_eq_true, decide_eq_true_eq, and_true] at hw
  simp only [List.mem_cons, List.not_mem_nil, or_false] at hx
  omega
theorem Fits.storeScene (scene : Nat) (keyFocus : Nat) (wake : Nat) (items : List RawItem) : Fits.Statement (.storeScene scene keyFocus wake items) := by
  refine fits_of_record _ 0x21 _ rfl (by decide) ?_ ?_
  · intro hw
    simp only [Instr.wf, Bool.and_eq_true, decide_eq_true_eq] at hw
    have e : ∀ l : List RawItem, (l.flatMap fun it => [it.screen, it.computer, it.head]).length = 3 * l.length := by
      intro l
      induction l with
      | nil => rfl
      | cons a l ih => simp only [List.flatMap_cons, List.length_append, ih, List.length_cons, List.length_nil]; omega
    simp only [List.length_append, e, List.length_cons, List.length_nil]
    omega
  · intro hw x hx
    simp only [Instr.wf, List.all_cons, List.all_nil, fitsByte, Bool.and_eq_true, decide_eq_true_eq, List.all_eq_true,
      RawItem.wf, and_true] at hw
    simp only [List.mem_append, List.mem_cons, List.not_mem_nil, or_false, List.mem_flatMap] at hx
    rcases hx with h | ⟨it, hit, h⟩
    · omega
    · have := hw.1.2 it hit
      omega
theorem Fits.applyScene (scene : Nat) : Fits.Statement (.applyScene scene) := by
  refine fits_of_record _ 0x22 _ rfl (by decide) (fun _ => by simp only [List.length_cons, List.length_nil]; decide) ?_
  intro hw x hx
  simp only [Instr.wf, fitsByte, decide_eq_true_eq] at hw
  simp only [List.mem_cons, List.not_mem_nil, or_false] at hx
  omega
theorem Fits.setStartScene (scene : Nat) : Fits.Statement (.setStartScene scene) := by
  refine fits_of_record _ 0x23 _ rfl (by decide) (fun _ => by simp only [List.length_cons, List.length_nil]; decide) ?_
  intro hw x hx
  simp only [Instr.wf, fitsByte, decide_eq_true_eq] at hw
  simp only [List.mem_cons, List.not_mem_nil, or_false] at hx
  omega
theorem Fits.getScreen (screen : Nat) : Fits.Statement (.getScreen screen) := by
  refine fits_of_record _ 0x24 _ rfl (by decide) (fun _ => by simp only [List.length_cons, List.length_nil]; decide) ?_
  intro hw x hx
  simp only [Instr.wf, fitsByte, decide_eq_true_eq] at hw
  simp only [List.mem_cons, List.not_mem_nil, or_false] at hx
  omega
theorem Fits.getScreenScene (scene : Nat) : Fits.Statement (.getScreenScene scene) := by
  refine fits_of_record _ 0x24 _ rfl (by decide) (fun _ => by simp only [List.length_cons, List.length_nil]; decide) ?_
  intro hw x hx
  simp only [Instr.wf, fitsByte, decide_eq_true_eq] at hw
  simp only [List.mem_cons, List.not_mem_nil, or_false] at hx
  omega
theorem Fits.setScreenTiming (linkLimit : Nat) (powerValue : Nat) (powerScale : Nat) : Fits.Statement (.setScreenTiming linkLimit powerValue powerScale) := by
  refine fits_of_record _ 0x25 _ rfl (by decide) (fun _ => by simp only [wordBytes, List.length_append, List.length_cons, List.length_nil]; decide) ?_
  intro hw x hx
  simp only [Instr.wf, List.all_cons, List.all_nil, fitsByte, fitsWord, Bool.and_eq_true, decide_eq_true_eq, and_true] at hw
  simp only [wordBytes, List.mem_append, List.mem_cons, List.not_mem_nil, or_false] at hx
  omega
theorem Fits.setBallistics (t1 : Nat) (t2 : Nat) (t3 : Nat) (g0 : Nat) (g1 : Nat) (g2 : Nat) (g3 : Nat) : Fits.Statement (.setBallistics t1 t2 t3 g0 g1 g2 g3) := by
  refine fits_of_record _ 0x30 _ rfl (by decide) (fun _ => by simp only [List.length_cons, List.length_nil]; decide) ?_
  intro hw x hx
  simp only [Instr.wf, List.all_cons, List.all_nil, fitsByte, Bool.and_eq_true, decide_eq_true_eq, and_true] at hw
  simp only [List.mem_cons, List.not_mem_nil, or_false] at hx
  omega
theorem Fits.setGlide (barrier : Nat) : Fits.Statement (.setGlide barrier) := by
  refine fits_of_record _ 0x31 _ rfl (by decide) (fun _ => by simp only [List.length_cons, List.length_nil]; decide) ?_
  intro hw x hx
  simp only [Instr.wf, fitsByte, decide_eq_true_eq] at hw
  simp only [List.mem_cons, List.not_mem_nil, or_false] at hx
  omega
theorem Fits.warpComputer (computer : Nat) : Fits.Statement (.warpComputer computer) := by
  refine fits_of_record _ 0x32 _ rfl (by decide) (fun _ => by simp only [List.length_cons, List.length_nil]; decide) ?_
  intro hw x hx
  simp only [Instr.wf, fitsByte, decide_eq_true_eq] at hw
  simp only [List.mem_cons, List.not_mem_nil, or_false] at hx
  omega
theorem Fits.warpPosition (x : Nat) (y : Nat) : Fits.Statement (.warpPosition x y) := by
  refine fits_of_record _ 0x32 _ rfl (by decide) (fun _ => by simp only [wordBytes, List.length_append, List.length_cons, List.length_nil]; decide) ?_
  intro hw x hx
  simp only [Instr.wf, List.all_cons, List.all_nil, fitsWord, Bool.and_eq_true, decide_eq_true_eq, and_true] at hw
  simp only [wordBytes, List.mem_append, List.mem_cons, List.not_mem_nil, or_false] at hx
  omega
theorem Fits.getPointer : Fits.Statement .getPointer :=
  fits_of_record _ 0x33 [] rfl (by decide) (fun _ => Nat.zero_le _) (fun _ => by simp)
theorem Fits.deskPointerReport (bytes : List Byte) (time : Nat) : Fits.Statement (.deskPointerReport bytes time) := fits_of_event _ rfl
theorem Fits.pushDecayTimerExpiry : Fits.Statement .pushDecayTimerExpiry := fits_of_event _ rfl
theorem Fits.setFocus (computer : Nat) (scope : Nat) : Fits.Statement (.setFocus computer scope) := by
  refine fits_of_record _ 0x40 _ rfl (by decide) (fun _ => by simp only [List.length_cons, List.length_nil]; decide) ?_
  intro hw x hx
  simp only [Instr.wf, List.all_cons, List.all_nil, fitsByte, Bool.and_eq_true, decide_eq_true_eq, and_true] at hw
  simp only [List.mem_cons, List.not_mem_nil, or_false] at hx
  omega
theorem Fits.getFocus : Fits.Statement .getFocus := by
  refine fits_of_record _ 0x41 _ rfl (by decide) (fun _ => by simp only [List.length_cons, List.length_nil]; decide) ?_
  intro _ x hx
  simp only [List.mem_cons, List.not_mem_nil, or_false] at hx
  omega
theorem Fits.getFocusMap (map : Nat) : Fits.Statement (.getFocusMap map) := by
  refine fits_of_record _ 0x41 _ rfl (by decide) (fun _ => by simp only [List.length_cons, List.length_nil]; decide) ?_
  intro hw x hx
  simp only [Instr.wf, fitsByte, decide_eq_true_eq] at hw
  simp only [List.mem_cons, List.not_mem_nil, or_false] at hx
  omega
theorem Fits.setKeymap (map : Nat) (pairs : List (Nat × Nat)) : Fits.Statement (.setKeymap map pairs) := by
  refine fits_of_record _ 0x42 _ rfl (by decide) ?_ ?_
  · intro hw
    simp only [Instr.wf, Bool.and_eq_true, decide_eq_true_eq] at hw
    have e : ∀ l : List (Nat × Nat), (l.flatMap fun p => [p.1, p.2]).length = 2 * l.length := by
      intro l
      induction l with
      | nil => rfl
      | cons a l ih => simp only [List.flatMap_cons, List.length_append, ih, List.length_cons, List.length_nil]; omega
    simp only [List.length_append, e, List.length_cons, List.length_nil]
    omega
  · intro hw x hx
    simp only [Instr.wf, fitsByte, Bool.and_eq_true, decide_eq_true_eq, List.all_eq_true] at hw
    simp only [List.mem_append, List.mem_cons, List.not_mem_nil, or_false, List.mem_flatMap] at hx
    rcases hx with h | ⟨p, hp, h⟩
    · omega
    · have := hw.1.2 p hp
      omega
theorem Fits.setKeyOptions (stuckLimit : Nat) (leader : Nat) (window : Nat) : Fits.Statement (.setKeyOptions stuckLimit leader window) := by
  refine fits_of_record _ 0x43 _ rfl (by decide) (fun _ => by simp only [wordBytes, List.length_append, List.length_cons, List.length_nil]; decide) ?_
  intro hw x hx
  simp only [Instr.wf, List.all_cons, List.all_nil, fitsByte, fitsWord, Bool.and_eq_true, decide_eq_true_eq, and_true] at hw
  simp only [wordBytes, List.mem_append, List.mem_cons, List.not_mem_nil, or_false] at hx
  omega
theorem Fits.deskPortCheck (port : Nat) : Fits.Statement (.deskPortCheck port) := by
  refine fits_of_record _ 0x44 _ rfl (by decide) (fun _ => by simp only [List.length_cons, List.length_nil]; decide) ?_
  intro hw x hx
  simp only [Instr.wf, fitsByte, decide_eq_true_eq] at hw
  simp only [List.mem_cons, List.not_mem_nil, or_false] at hx
  omega
theorem Fits.deskPortEnable (port : Nat) : Fits.Statement (.deskPortEnable port) := by
  refine fits_of_record _ 0x44 _ rfl (by decide) (fun _ => by simp only [List.length_cons, List.length_nil]; decide) ?_
  intro hw x hx
  simp only [Instr.wf, fitsByte, decide_eq_true_eq] at hw
  simp only [List.mem_cons, List.not_mem_nil, or_false] at hx
  omega
theorem Fits.deskPortDisable (port : Nat) : Fits.Statement (.deskPortDisable port) := by
  refine fits_of_record _ 0x44 _ rfl (by decide) (fun _ => by simp only [List.length_cons, List.length_nil]; decide) ?_
  intro hw x hx
  simp only [Instr.wf, fitsByte, decide_eq_true_eq] at hw
  simp only [List.mem_cons, List.not_mem_nil, or_false] at hx
  omega
theorem Fits.deskDeviceAttach (port : DeskPort) : Fits.Statement (.deskDeviceAttach port) := fits_of_event _ rfl
theorem Fits.deskDeviceDetach (port : DeskPort) : Fits.Statement (.deskDeviceDetach port) := fits_of_event _ rfl
theorem Fits.deskKeyboardReport (bytes : List Byte) (time : Nat) : Fits.Statement (.deskKeyboardReport bytes time) := fits_of_event _ rfl
theorem Fits.stuckTimerExpiry (code : Nat) : Fits.Statement (.stuckTimerExpiry code) := fits_of_event _ rfl
theorem Fits.windowTimerExpiry : Fits.Statement .windowTimerExpiry := fits_of_event _ rfl
theorem Fits.addHotkey (choice : Nat) (entry : RawHotkey) : Fits.Statement (.addHotkey choice entry) := by
  refine fits_of_record _ 0x50 _ rfl (by decide) (fun _ => by simp only [RawHotkey.bytes, List.length_cons, List.length_nil]; decide) ?_
  intro hw x hx
  simp only [Instr.wf, RawHotkey.wf, List.all_cons, List.all_nil, fitsByte, Bool.and_eq_true, decide_eq_true_eq, and_true] at hw
  simp only [RawHotkey.bytes, List.mem_cons, List.not_mem_nil, or_false] at hx
  omega
theorem Fits.removeHotkey (entry : Nat) : Fits.Statement (.removeHotkey entry) := by
  refine fits_of_record _ 0x51 _ rfl (by decide) (fun _ => by simp only [List.length_cons, List.length_nil]; decide) ?_
  intro hw x hx
  simp only [Instr.wf, fitsByte, decide_eq_true_eq] at hw
  simp only [List.mem_cons, List.not_mem_nil, or_false] at hx
  omega
theorem Fits.getHotkey (entry : Nat) : Fits.Statement (.getHotkey entry) := by
  refine fits_of_record _ 0x52 _ rfl (by decide) (fun _ => by simp only [List.length_cons, List.length_nil]; decide) ?_
  intro hw x hx
  simp only [Instr.wf, fitsByte, decide_eq_true_eq] at hw
  simp only [List.mem_cons, List.not_mem_nil, or_false] at hx
  omega
theorem Fits.getHotkeyMatcher : Fits.Statement .getHotkeyMatcher := by
  refine fits_of_record _ 0x52 _ rfl (by decide) (fun _ => by simp only [List.length_cons, List.length_nil]; decide) ?_
  intro _ x hx
  simp only [List.mem_cons, List.not_mem_nil, or_false] at hx
  omega
theorem Fits.runAction (action : Nat) (a1 : Nat) (a2 : Nat) : Fits.Statement (.runAction action a1 a2) := by
  refine fits_of_record _ 0x53 _ rfl (by decide) (fun _ => by simp only [List.length_cons, List.length_nil]; decide) ?_
  intro hw x hx
  simp only [Instr.wf, List.all_cons, List.all_nil, fitsByte, Bool.and_eq_true, decide_eq_true_eq, and_true] at hw
  simp only [List.mem_cons, List.not_mem_nil, or_false] at hx
  omega
theorem Fits.setLine (line : Nat) (fields : RawLine) : Fits.Statement (.setLine line fields) := by
  refine fits_of_record _ 0x60 _ rfl (by decide) (fun _ => by simp only [RawLine.bytes, List.length_cons, List.length_nil]; decide) ?_
  intro hw x hx
  simp only [Instr.wf, RawLine.wf, List.all_cons, List.all_nil, fitsByte, Bool.and_eq_true, decide_eq_true_eq, and_true] at hw
  simp only [RawLine.bytes, List.mem_cons, List.not_mem_nil, or_false] at hx
  omega
theorem Fits.driveLine (line : Nat) (level : Nat) : Fits.Statement (.driveLine line level) := by
  refine fits_of_record _ 0x61 _ rfl (by decide) (fun _ => by simp only [List.length_cons, List.length_nil]; decide) ?_
  intro hw x hx
  simp only [Instr.wf, List.all_cons, List.all_nil, fitsByte, Bool.and_eq_true, decide_eq_true_eq, and_true] at hw
  simp only [List.mem_cons, List.not_mem_nil, or_false] at hx
  omega
theorem Fits.getLines : Fits.Statement .getLines :=
  fits_of_record _ 0x62 [] rfl (by decide) (fun _ => Nat.zero_le _) (fun _ => by simp)
theorem Fits.lineLevelChange (line : LineId) (high : Bool) : Fits.Statement (.lineLevelChange line high) := fits_of_event _ rfl
theorem Fits.filterTimerExpiry (line : LineId) : Fits.Statement (.filterTimerExpiry line) := fits_of_event _ rfl
theorem Fits.busPowerAppears (computer : Computer) : Fits.Statement (.busPowerAppears computer) := fits_of_event _ rfl
theorem Fits.configurationSelected (computer : Computer) : Fits.Statement (.configurationSelected computer) := fits_of_event _ rfl
theorem Fits.busIdle (computer : Computer) : Fits.Statement (.busIdle computer) := fits_of_event _ rfl
theorem Fits.busActivity (computer : Computer) : Fits.Statement (.busActivity computer) := fits_of_event _ rfl
theorem Fits.configurationDeselected (computer : Computer) : Fits.Statement (.configurationDeselected computer) := fits_of_event _ rfl
theorem Fits.busReset (computer : Computer) : Fits.Statement (.busReset computer) := fits_of_event _ rfl
theorem Fits.busPowerDisappears (computer : Computer) : Fits.Statement (.busPowerDisappears computer) := fits_of_event _ rfl
theorem Fits.keyboardPoll (computer : Computer) : Fits.Statement (.keyboardPoll computer) := fits_of_event _ rfl
theorem Fits.pointerPoll (computer : Computer) : Fits.Statement (.pointerPoll computer) := fits_of_event _ rfl
theorem Fits.currentStateRequest (computer : Computer) (function : PortFunction) : Fits.Statement (.currentStateRequest computer function) := fits_of_event _ rfl
theorem Fits.lampWrite (computer : Computer) (lamps : Byte) : Fits.Statement (.lampWrite computer lamps) := fits_of_event _ rfl
theorem Fits.remoteWakeChange (computer : Computer) (granted : Bool) : Fits.Statement (.remoteWakeChange computer granted) := fits_of_event _ rfl
theorem Fits.wake (computer : Nat) : Fits.Statement (.wake computer) := by
  refine fits_of_record _ 0x70 _ rfl (by decide) (fun _ => by simp only [List.length_cons, List.length_nil]; decide) ?_
  intro hw x hx
  simp only [Instr.wf, fitsByte, decide_eq_true_eq] at hw
  simp only [List.mem_cons, List.not_mem_nil, or_false] at hx
  omega
theorem Fits.attemptTimerExpiry (computer : Computer) : Fits.Statement (.attemptTimerExpiry computer) := fits_of_event _ rfl
theorem Fits.wakePulseExpiry (computer : Computer) : Fits.Statement (.wakePulseExpiry computer) := fits_of_event _ rfl
theorem Fits.getComputer (computer : Nat) : Fits.Statement (.getComputer computer) := by
  refine fits_of_record _ 0x73 _ rfl (by decide) (fun _ => by simp only [List.length_cons, List.length_nil]; decide) ?_
  intro hw x hx
  simp only [Instr.wf, fitsByte, decide_eq_true_eq] at hw
  simp only [List.mem_cons, List.not_mem_nil, or_false] at hx
  omega
theorem Fits.setDeskPower (standbyValue : Nat) (standbyScale : Nat) (offValue : Nat) (offScale : Nat) (deadZone : Nat) (resumeWake : Nat) : Fits.Statement (.setDeskPower standbyValue standbyScale offValue offScale deadZone resumeWake) := by
  refine fits_of_record _ 0x71 _ rfl (by decide) (fun _ => by simp only [List.length_cons, List.length_nil]; decide) ?_
  intro hw x hx
  simp only [Instr.wf, List.all_cons, List.all_nil, fitsByte, Bool.and_eq_true, decide_eq_true_eq, and_true] at hw
  simp only [List.mem_cons, List.not_mem_nil, or_false] at hx
  omega
theorem Fits.setDeskPowerRead : Fits.Statement .setDeskPowerRead :=
  fits_of_record _ 0x71 [] rfl (by decide) (fun _ => Nat.zero_le _) (fun _ => by simp)
theorem Fits.deskStandby : Fits.Statement .deskStandby :=
  fits_of_record _ 0x72 [] rfl (by decide) (fun _ => Nat.zero_le _) (fun _ => by simp)
theorem Fits.idleThresholdReached : Fits.Statement .idleThresholdReached := fits_of_event _ rfl
theorem Fits.motionWindowExpiry : Fits.Statement .motionWindowExpiry := fits_of_event _ rfl

end Sys2Proof.Laws
end

