-- ==== Sys2Proof/Tests/Slice0.lean ====
section
/-!
SUPPORT. Tests: ill-formed commands that the well-formedness check refuses, records read from bytes that the manual writes out, the
manual's worked examples one command at a time, and, for every statement with hypotheses, a state and operands that meet them.
Expected results come from spec/: the rule or worked sequence stands in each test's comment.
-/
set_option Elab.async false
namespace Sys2Proof.Tests
open Sys2Proof Sys2Proof.Machine Sys2Proof.Safety

/-! ### A small desk -/

/-- The time of the small desk. -/
def deskTime : Nat := 1000000

/-- A desk with a configuration: computer 0 is awake and has both focuses, computer 1 is asleep and may wake by link; screen 0 shows
head 0 of computer 0 from input 0, screen 1 is blank and screen 2 shows the private head 0 of computer 1, which no input carries. The
key with code 10 is held and has reached computer 0. -/
def desk : State :=
  { State.reset with
    now := deskTime, pending := [.deskStandby],
    profile := { State.reset.profile with state := .ready },
    layout := { Layout.reset with
      screens := ((Layout.reset.screens.set 0 (some ⟨0, 0, 100, 100⟩)).set 1 (some ⟨100, 0, 100, 100⟩)).set 2
        (some ⟨0, 100, 64, 64⟩),
      heads := (Layout.reset.heads.set 0 (Layout.reset.heads[0].set 0 (some ⟨⟨0, 0, 1, 1⟩, false, 0⟩))).set 1
        (Layout.reset.heads[1].set 0 (some ⟨⟨0, 0, 1, 1⟩, true, 4⟩)),
      inputs := Layout.reset.inputs.set 0 (some ⟨0, 0⟩) },
    sync := State.reset.sync.set 0
      { state := .alive, running := true, lastEdge := some 990000, window := [16667, 16667, 16667, 16667], average := some 16667,
        lostTimer := some ⟨990000, 100000⟩ },
    screens := { State.reset.screens with
      recs := ((State.reset.screens.recs.set 0
        { ScreenRec.reset with state := .linking, current := some ⟨0, 0⟩, linkTimer := some ⟨900000, 2000000⟩,
                               selected := some (.input 0) }).set 1 { ScreenRec.reset with state := .blank, lockPin := true }).set 2
        { ScreenRec.reset with state := .dark, current := some ⟨1, 0⟩ },
      scenes := State.reset.screens.scenes.set 0 (some ⟨[⟨0, none⟩, ⟨1, some ⟨0, 0⟩⟩], some 1, true⟩) },
    pointer := { State.reset.pointer with
      place := some ⟨0, 50, 50⟩, focus := some 0, buttons := 3, swallow := 2, lastInterval := some 990000 },
    keyboard := { State.reset.keyboard with
      held := [⟨10, 900000, false, false, false, false, some ⟨900000, 30000000⟩⟩],
      kbPort := ⟨.present, true, some 900000⟩, ptrPort := ⟨.present, true, some 990000⟩ },
    matcher := { State.reset.matcher with
      table := (State.reset.matcher.table.set 0 (some ⟨.chord 3 20, .focus 1 true, true⟩)).set 31
        (some ⟨.two 5 6, .report, true⟩) },
    lines := { State.reset.lines with
      recs := State.reset.lines.recs.set 1
        { LineRec.reset with config := { LineConfig.reset with mode := .output, source := .keyFocus 0 }, driven := some true } },
    ports := (State.reset.ports.set 0 { Port.reset with observed := .configured, keys := ⟨0, [10]⟩, buttons := 1 }).set 1
      { Port.reset with observed := .suspended, permission := true },
    power := (State.reset.power.set 0 { PowerRec.reset with state := .awake }).set 1 { PowerRec.reset with state := .asleep },
    desk := { State.reset.desk with idleStart := some 990000, standbyValue := 10, standbyScale := 1 } }

/-! ### The small desk meets every law -/

theorem desk_memory : CanonicalMemory desk := by unfold CanonicalMemory; decide +kernel
theorem desk_queue : ReceiveQueueFits desk := by unfold ReceiveQueueFits; decide +kernel
theorem desk_assembly : AssemblyAgrees desk := ⟨rfl, rfl⟩
theorem desk_attention : AttentionFollows desk := by
  unfold AttentionFollows
  have h : ∀ k ∈ allKinds, ¬((desk.event k).isPending = true ∧ (desk.event k).enabled = true) := by decide +kernel
  constructor
  · intro a; exact absurd a (by decide +kernel)
  · rintro ⟨k, hk⟩; exact absurd hk (h k (by cases k <;> decide))
theorem desk_conditions : ConditionsAgree desk := by unfold ConditionsAgree; decide +kernel
theorem desk_holdQueues : HoldQueuesFit desk := by unfold HoldQueuesFit; decide +kernel
theorem desk_ports : PortsAgree desk := by
  intro c
  fin_cases c <;> rfl
theorem desk_awayQueues : AwayQueuesEmpty desk := by unfold AwayQueuesEmpty; decide +kernel
theorem desk_screensApart : ScreensApart desk := by
  have h : ∀ i j : ScreenId, ∀ a ∈ desk.screenRect i, a.fitsPlane = true ∧
      ∀ b ∈ desk.screenRect j, i ≠ j → a.overlaps b = false := by decide +kernel
  exact ⟨fun i r hr => (h i i r hr).1, fun i j a b n ha hb => (h i j a ha).2 b hb n⟩
theorem desk_heads : HeadsInside desk := by
  have h : ∀ (c : Computer) (n : HeadNo), ∀ e ∈ desk.headEntry ⟨c, n⟩, e.rect.fitsHead (desk.computer c) = true := by
    decide +kernel
  exact fun ⟨c, n⟩ e he => h c n e he
theorem desk_bindings : BindingsAgree desk := by
  have h : ∀ v w : InputId, ∀ x ∈ desk.binding v, (desk.headEntry x).isSome = true ∧ ∀ y ∈ desk.binding w, x = y → v = w := by
    decide +kernel
  exact ⟨fun v x hx => (h v v x hx).1, fun v w x hx hy => (h v w x hx).2 x hy rfl⟩
theorem desk_channel (v : InputId) : ChannelAgrees (desk.channel v) := by
  have h : ∀ v : InputId, v ≠ 0 → desk.channel v = Channel.reset := by decide +kernel
  by_cases e : v = 0
  · subst e
    exact ⟨by decide +kernel, by decide +kernel, ⟨16667, rfl, by decide, by decide⟩, rfl, rfl, rfl⟩
  · rw [h v e]
    exact ⟨by decide, by decide, rfl, rfl, rfl, rfl⟩
theorem desk_channels : ChannelsAgree desk := fun v => ⟨desk_channel v, by revert v; decide +kernel⟩
theorem desk_screens : ScreensAgree desk := by
  refine ⟨desk_bindings, desk_channels, fun i => ?_⟩
  have h : ∀ i : ScreenId,
      ((desk.screenRec i).state = .unused ↔ desk.screenRect i = none) ∧
      ((desk.screenRec i).state = .unused ∨ (desk.screenRec i).state = .blank → (desk.screenRec i).current = none) ∧
      ((desk.screenRec i).state.live = true → ∃ h ∈ (desk.screenRec i).current, desk.headState h = .alive) ∧
      ((desk.screenRec i).state = .dark → ∃ h ∈ (desk.screenRec i).current, desk.headState h ≠ .alive) ∧
      (∀ h ∈ (desk.screenRec i).waiting, (desk.screenRec i).state.isOn = true ∧ desk.headState h = .alive) ∧
      ((desk.screenRec i).linkTimer.isSome = true → (desk.screenRec i).state = .linking) ∧
      ((desk.screenRec i).powerTimer.isSome = true → (desk.screenRec i).state = .powering) ∧
      ((desk.screenRec i).lockView = true → (desk.screenRec i).lockPin = true) ∧
      ((desk.screenRec i).state = .showing → (desk.screenRec i).lockView = true) := by decide +kernel
  exact h i
theorem desk_policy : PolicyKept desk := by
  have h : ∀ i : ScreenId, (∀ x ∈ (desk.screenRec i).current, desk.sourceFits i (some x) = true) ∧
      ∀ x ∈ (desk.screenRec i).waiting, desk.sourceFits i (some x) = true := by decide +kernel
  exact fun i x hx => hx.elim ((h i).1 x) ((h i).2 x)
theorem desk_scene : SceneUnsettled desk := ⟨by decide +kernel, fun f hf => by simp [show desk.screens.inFlight = none from rfl] at hf⟩
theorem desk_accumulators : AccumulatorsFit desk := by unfold AccumulatorsFit; decide +kernel
theorem desk_ballistics : BallisticsFit desk := by unfold BallisticsFit; decide +kernel
theorem desk_coordinates : CoordinatesFit desk := by
  refine ⟨by decide +kernel, fun c e he => ?_⟩
  have h : ∀ c : Computer, (desk.port c).queue = [] := by decide +kernel
  simp [h c] at he
theorem desk_pointer : PointerHome desk := ⟨desk_screensApart, ⟨0, 0, 100, 100⟩, ⟨0, 0⟩, by decide +kernel, by decide +kernel, rfl⟩
theorem desk_held : HeldSetFits desk := by unfold HeldSetFits; decide +kernel
theorem desk_hotkeys : HotkeysApart desk := by
  have h : ∀ n m : EntryNo, n ≠ m → ∀ a ∈ desk.entry n, ∀ b ∈ desk.entry m, a.trigger.clashes b.trigger = false := by
    decide +kernel
  exact fun n m a b e ha hb => h n m e a ha b hb
theorem desk_outputs : OutputsFollow desk := by unfold OutputsFollow; decide +kernel
theorem desk_attempts : AttemptsAgree desk := by unfold AttemptsAgree; decide +kernel
theorem desk_idle : IdleTimerRuns desk := by unfold IdleTimerRuns; decide +kernel
theorem desk_keys : KeysHome desk := by
  refine ⟨fun c => ⟨fun h => ?_, ?_⟩, by decide +kernel⟩
  · have e : ∀ c : Computer, ¬28 < (desk.port c).queue.length := by decide +kernel
    exact absurd h (e c)
  · revert c; decide +kernel
theorem desk_buttons : ButtonsHome desk := by unfold ButtonsHome; decide +kernel
theorem desk_swallow : SwallowInside desk := by unfold SwallowInside; decide +kernel

/-- The small desk while its memory is read, with nothing but a marker there. -/
def marked : State := desk.setProfile { State.reset.profile with memory := [(0, 0x5E), (1, 0x9A)] }

/-- The small desk while a save of its image is under way. -/
def saving : State :=
  desk.setProfile { desk.profile with state := .saving, save := some ⟨image desk, ⟨deskTime, 1500000⟩⟩ }

/-! ### The hypotheses of the statements are met -/


/-- The small desk with these records held, nothing presented to computer 0, and this matcher. -/
def typing (held : List HeldKey) (m : Matcher) : State :=
  { desk with
    keyboard := { desk.keyboard with held := held }, matcher := m,
    ports := desk.ports.set 0 { desk.port 0 with keys := ⟨0, []⟩ } }

/-- The small desk with an INPUT line 0 at this level, its filter 0, an entry for its ACTIVE edge, and this return slot. -/
def lined (level : Bool) (a : Action) (slot : Option ReturnSlot) : State :=
  (desk.setLineRec 0 { desk.lineRec 0 with
      config := { LineConfig.reset with mode := .input, filter := 0 }, pin := level, filtered := some level }).setMatcher
    { desk.matcher with table := desk.matcher.table.set 1 (some ⟨.line 0 true, a, true⟩), slot := slot }

/-- The small desk with the pointer on the last row of screen 0, above screen 2 of computer 1, and this barrier. -/
def brink (barrier : Nat) : State :=
  desk.setPointer { desk.pointer with place := some ⟨0, 63, 99⟩, barrier := barrier, push := some ⟨2, 3, ⟨deskTime, 300000⟩⟩ }

/-- The small desk with key focus at computer 1 while the pointer is at computer 0, which is guarded. -/
def guarding : State :=
  (desk.setKeyboard { desk.keyboard with focus := 1, held := [] }).setComputerEntry 0 { desk.computer 0 with guarded := true }

/-- As `guarding`, where the guarded computer already has the pointer's position and the click to come presented. -/
def clicked : State :=
  (guarding.setPointer { guarding.pointer with lastAbs := guarding.pointer.lastAbs.set 0 (0, 0) }).setPort 0
    { guarding.port 0 with x := 9, buttons := 5 }

/-- A memory that holds an image with this body. -/
def bodied (body : List Byte) : State :=
  let inner := word (body.length + 6) ++ body
  State.reset.setProfile { State.reset.profile with
    memory := ((marker ++ inner ++ word (sumOf inner)).zipIdx.map fun (b, a) => (a, b)).filter (·.2 ≠ 0xFF) }

theorem presses {bs : List Byte} {k : Nat} {s : State} (codes : List Nat)
    (h : s.keyboard.kbPort.state = .present ∧ s.desk.state = .active ∧ (∀ r ∈ s.keyboard.held, r.code ≠ k) ∧
      KeyReport.parse bs = .keys codes ∧ codes.Nodup ∧ k ∈ codes ∧ (∀ c ∈ codes, c = k ∨ ∃ r ∈ s.keyboard.held, r.code = c) ∧
      ∀ r ∈ s.keyboard.held, r.code ∈ codes) : PressesOnly bs k s := by
  obtain ⟨a, b, c, d, e, f, g, i⟩ := h
  refine ⟨a, b, c, codes, d, e, fun x => ⟨g x, ?_⟩⟩
  rintro (rfl | ⟨r, hr, rfl⟩)
  · exact f
  · exact i r hr

theorem releases {bs : List Byte} {k : Nat} {s : State} (codes : List Nat)
    (h : s.keyboard.kbPort.state = .present ∧ (∃ r ∈ s.keyboard.held, r.code = k) ∧ KeyReport.parse bs = .keys codes ∧
      codes.Nodup ∧ (∀ c ∈ codes, c ≠ k ∧ ∃ r ∈ s.keyboard.held, r.code = c) ∧
      ∀ r ∈ s.keyboard.held, r.code ≠ k → r.code ∈ codes) : ReleasesOnly bs k s := by
  obtain ⟨a, b, d, e, g, i⟩ := h
  refine ⟨a, b, codes, d, e, fun x => ⟨g x, ?_⟩⟩
  rintro ⟨h, r, hr, rfl⟩
  exact i r hr h

theorem apart {s : State} (h : ∀ n m : EntryNo, n ≠ m → ∀ a ∈ s.entry n, ∀ b ∈ s.entry m, a.trigger.clashes b.trigger = false) :
    HotkeysApart s := fun n m a b e ha hb => h n m e a ha b hb

theorem lacks {s : State} {t : Trigger} (h : ∀ n : EntryNo, ∀ x ∈ s.entry n, x.trigger ≠ t) : ¬HasTrigger t s :=
  fun ⟨n, x, e, _, q⟩ => h n x e q
theorem test_meets_StepRunsTheFrontCommand :
    ∃ s : State, s.pending = [] :=
  ⟨State.reset, by decide⟩

theorem test_meets_RefusedRecordsChangeNothing :
    ∃ (i : Instr) (k : Nat) (b : List Nat) (_s : State), i.record = some (k, b) :=
  ⟨.setEventMask 32768, 4, [128, 0], desk, by decide⟩

theorem test_meets_BusyFollowsTheStoreTable :
    ∃ (i : Instr) (k : Nat) (b : List Nat) (_s : State), i.record = some (k, b) :=
  ⟨.saveProfile, 6, [], State.reset, by decide⟩

theorem test_meets_PowerOnResetPutsEveryBlockAtItsValues :
    ∃ (_rateHigh : Bool) (observed : List Attach) (_s : State), observed.Nodup :=
  ⟨true, [.computer 5, .desk .keyboard], desk, by decide⟩

theorem test_meets_RestartThenSoftReset :
    (∃ s : State, s.profile.state ≠ .loading) ∧
    (∃ s : State, s.link.queue = [] ∧ s.screens.startScene = none) :=
  ⟨⟨desk, by decide⟩,
   ⟨desk, by decide, by decide⟩⟩

theorem test_meets_SoftResetReleasesEveryPort :
    ∃ s : State, KeysHome s ∧ ButtonsHome s ∧ s.link.queue = [] ∧ s.screens.startScene = none :=
  ⟨desk, desk_keys, desk_buttons, by decide, by decide⟩

theorem test_meets_ProfileLoadEnds :
    (∃ (_answered : Bool) (s : State), s.profile.state ≠ .loading) ∧
    (∃ s : State, s.profile.state = .loading) ∧
    (∃ s : State, s.profile.state = .loading ∧ Memory.readMany s.profile.memory 0 2 ≠ [0x5E, 0x9A]) ∧
    (∃ s : State, s.profile.state = .loading ∧ Memory.readMany s.profile.memory 0 2 = [0x5E, 0x9A] ∧ Memory.imageBody
      s.profile.memory = none) ∧
    (∃ (s : State) (body : List Nat), s.profile.state = .loading ∧ Memory.readMany s.profile.memory 0 2 = [0x5E, 0x9A] ∧
      Memory.imageBody s.profile.memory = some body ∧ (ImageRefused s body ∨ s.profile.unreliable = true)) ∧
    (∃ (s : State) (body : List Nat), s.profile.state = .loading ∧ Memory.readMany s.profile.memory 0 2 = [0x5E, 0x9A] ∧
      Memory.imageBody s.profile.memory = some body ∧ (ImageRefused s body ∨ s.profile.unreliable = true) ∧ body = [2, 0, 0]) ∧
    (∃ (s : State) (body : List Nat), s.profile.state = .loading ∧ Memory.readMany s.profile.memory 0 2 = [0x5E, 0x9A] ∧
      Memory.imageBody s.profile.memory = some body ∧ (ImageRefused s body ∨ s.profile.unreliable = true) ∧ body = [1, 0, 1]) ∧
    (∃ (s : State) (body : List Nat), s.profile.state = .loading ∧ Memory.readMany s.profile.memory 0 2 = [0x5E, 0x9A] ∧
      Memory.imageBody s.profile.memory = some body ∧ (ImageRefused s body ∨ s.profile.unreliable = true) ∧ s.profile.unreliable =
      true) :=
  ⟨⟨true, desk, by decide⟩,
   ⟨State.reset, by decide⟩,
   ⟨State.reset, by decide, by decide⟩,
   ⟨marked, by decide, by decide, by decide⟩,
   ⟨bodied [], [], by decide, by decide, by decide, Or.inl (Or.inl ⟨[], _, by simp, rfl, Or.inl (by decide)⟩)⟩,
   ⟨bodied [2, 0, 0], [2, 0, 0], by decide, by decide, by decide,
     Or.inl (Or.inl ⟨[], _, by simp, rfl, Or.inr (Or.inr (Or.inl ⟨by decide, 2, [0, 0], rfl, by decide⟩))⟩), by decide⟩,
   ⟨bodied [1, 0, 1], [1, 0, 1], by decide, by decide, by decide,
     Or.inl (Or.inl ⟨[], _, by simp, rfl, Or.inr (Or.inr (Or.inr ⟨by decide, 1, 0, 1, [], rfl, by decide⟩))⟩), by decide⟩,
   ⟨(bodied []).setProfile { (bodied []).profile with unreliable := true }, [], by decide, by decide, by decide, Or.inr rfl,
     by decide⟩⟩

theorem test_meets_SavesRunToTheirEnd :
    (∃ s : State, s.profile.state = .ready) ∧
    (∃ (s : State) (sv : Save), s.profile.save = some sv ∧ CanonicalMemory s) ∧
    (∃ (s : State) (sv : Save) (_st : SaveStep), s.profile.save = some sv ∧ CanonicalMemory s) ∧
    (∃ (s : State) (sv : Save), s.profile.save = some sv) ∧
    (∃ (s : State) (i : Instr), s.profile.save = none ∧ ((∃ r, i = .saveComplete r) ∨ i = .saveTimeout)) :=
  ⟨⟨desk, by decide⟩,
   ⟨saving, ⟨image desk, ⟨deskTime, 1500000⟩⟩, rfl, desk_memory⟩,
   ⟨saving, ⟨image desk, ⟨deskTime, 1500000⟩⟩, .readBody, rfl, desk_memory⟩,
   ⟨saving, ⟨image desk, ⟨deskTime, 1500000⟩⟩, rfl⟩,
   ⟨desk, .saveTimeout, by decide, Or.inr rfl⟩⟩

theorem test_meets_ImageFitsTheMemory :
    ∃ s : State, (∀ c : Computer, (s.computer c).label.length ≤ 12) ∧ (∀ (n : SceneNo) (sc : Scene), s.scene n = some sc →
      sc.items.length ≤ 8) ∧ (∀ m : MapNo, s.keyboard.maps[m].length ≤ 64) :=
  ⟨desk, by decide, fun n sc e => (show ∀ n : SceneNo, ∀ sc ∈ desk.scene n, sc.items.length ≤ 8 by decide +kernel) n sc e,
    by decide⟩

theorem test_meets_BytesAssembleFrames :
    (∃ s : State, s.link.assembly = .hunting) ∧
    (∃ (s : State) (b : Byte), s.link.assembly = .hunting ∧ b ≠ 0xC5) ∧
    (∃ (s : State) (b : Byte), s.link.assembly = .length ∧ 1 ≤ b.toNat ∧ b.toNat ≤ 200) ∧
    (∃ (s : State) (b : Byte), s.link.assembly = .length ∧ (b.toNat = 0 ∨ 200 < b.toNat)) ∧
    (∃ (s : State) (_b : Byte), s.link.assembly = .body) ∧
    (∃ s : State, s.link.gapTimer = none) ∧
    (∃ (s : State) (g : Timer), s.link.gapTimer = some g) :=
  ⟨⟨desk, by decide⟩,
   ⟨desk, 0xC4, by decide, by decide⟩,
   ⟨(desk.setLink { desk.link with assembly := .length, length := 0, bytes := [], gapTimer := some ⟨deskTime, 10000⟩ }), 200,
     by decide, by decide, by decide⟩,
   ⟨(desk.setLink { desk.link with assembly := .length, length := 0, bytes := [], gapTimer := some ⟨deskTime, 10000⟩ }), 201,
     by decide, by decide⟩,
   ⟨(desk.setLink { desk.link with assembly := .body, length := 200, bytes := [0x14], gapTimer := some ⟨deskTime, 10000⟩ }), 0,
     by decide⟩,
   ⟨desk, by decide⟩,
   ⟨(desk.setLink { desk.link with assembly := .body, length := 2, bytes := [], gapTimer := some ⟨deskTime, 10000⟩ }),
     ⟨deskTime, 10000⟩, by decide⟩⟩

theorem test_meets_FramesQueueInTheirOrder :
    (∃ (s : State) (k _b : Byte) (body : List Byte), s.link.assembly = .check ∧ s.link.bytes = k :: body ∧ s.link.replies ≠ []) ∧
    (∃ (s : State) (k b : Byte) (body : List Byte), s.link.assembly = .check ∧ s.link.bytes = k :: body ∧ s.link.replies ≠ [] ∧
      (s.link.length + ((k :: body).map BitVec.toNat).sum + b.toNat) % 256 = 0 ∧ s.link.records < 4) ∧
    (∃ (s : State) (k b : Byte) (body : List Byte), s.link.assembly = .check ∧ s.link.bytes = k :: body ∧ s.link.replies ≠ [] ∧
      (s.link.length + ((k :: body).map BitVec.toNat).sum + b.toNat) % 256 = 0 ∧ 4 ≤ s.link.records) ∧
    (∃ (s : State) (k b : Byte) (body : List Byte), s.link.assembly = .check ∧ s.link.bytes = k :: body ∧ s.link.replies ≠ [] ∧
      (s.link.length + ((k :: body).map BitVec.toNat).sum + b.toNat) % 256 ≠ 0 ∧ 12 ≤ s.link.markers) ∧
    (∃ (s : State) (r : ReplyFrame) (rest : List ReplyFrame), s.link.replies = r :: rest ∧ (rest ≠ [] ∨ s.link.queue = [] ∨
      s.link.resetDue = true)) ∧
    (∃ (s : State) (r : ReplyFrame) (q : List RxItem), s.link.replies = [r] ∧ s.link.resetDue = false ∧ s.link.queue = .check ::
      q) ∧
    (∃ (s : State) (r : ReplyFrame) (k : Byte) (q : List RxItem), s.link.replies = [r] ∧ s.link.resetDue = false ∧ s.link.queue =
      .overrun k :: q) ∧
    (∃ (s : State) (r : ReplyFrame) (k : Byte) (body : List Byte) (q : List RxItem), s.link.replies = [r] ∧ s.link.resetDue =
      false ∧ s.link.queue = .record k body :: q) ∧
    (∃ (s : State) (r : ReplyFrame) (k : Byte) (body : List Byte) (q : List RxItem), s.link.replies = [r] ∧ s.link.resetDue =
      false ∧ s.link.queue = .record k body :: q ∧ ¬(0x01 ≤ k.toNat ∧ k.toNat ≤ 0x7E)) ∧
    (∃ (s : State) (r : ReplyFrame) (k : Byte) (body : List Byte) (q : List RxItem), s.link.replies = [r] ∧ s.link.resetDue =
      false ∧ s.link.queue = .record k body :: q ∧ k.toNat ≤ 0x7E ∧ parseRecord k.toNat (body.map BitVec.toNat) = .unknownKind) ∧
    (∃ (s : State) (r : ReplyFrame) (k : Byte) (body : List Byte) (q : List RxItem), s.link.replies = [r] ∧ s.link.resetDue =
      false ∧ s.link.queue = .record k body :: q ∧ 0x01 ≤ k.toNat ∧ parseRecord k.toNat (body.map BitVec.toNat) = .badLength) ∧
    (∃ s : State, s.link.replies = []) ∧
    (∃ (s : State) (r : ReplyFrame) (k : Byte) (body : List Byte) (i : Instr) (q : List RxItem), s.link.replies = [r] ∧
      s.link.resetDue = false ∧ s.link.queue = .record k body :: q ∧ 0x01 ≤ k.toNat ∧ k.toNat ≤ 0x7E ∧ parseRecord k.toNat
      (body.map BitVec.toNat) = .command i) ∧
    (∃ (s : State) (r : ReplyFrame) (k : Byte) (body : List Byte) (q : List RxItem), s.link.replies = [r] ∧ s.link.resetDue =
      false ∧ s.link.queue = .record k body :: q ∧ 0x01 ≤ k.toNat ∧ k.toNat ≤ 0x7E ∧ parseRecord k.toNat (body.map BitVec.toNat) =
      .outOfRange) ∧
    (∃ (s : State) (k b : Byte) (body : List Byte), s.link.assembly = .check ∧ s.link.bytes = k :: body ∧ s.link.replies = [] ∧
      s.link.queue = [] ∧ s.link.resetDue = false ∧ (s.link.length + ((k :: body).map BitVec.toNat).sum + b.toNat) % 256 ≠ 0) ∧
    (∃ (s : State) (k b : Byte) (body : List Byte), s.link.assembly = .check ∧ s.link.bytes = k :: body ∧ s.link.replies = [] ∧
      s.link.queue = [] ∧ s.link.resetDue = false ∧ (s.link.length + ((k :: body).map BitVec.toNat).sum + b.toNat) % 256 = 0 ∧
      ¬(0x01 ≤ k.toNat ∧ k.toNat ≤ 0x7E)) ∧
    (∃ (s : State) (k b : Byte) (body : List Byte), s.link.assembly = .check ∧ s.link.bytes = k :: body ∧ s.link.replies = [] ∧
      s.link.queue = [] ∧ s.link.resetDue = false ∧ (s.link.length + ((k :: body).map BitVec.toNat).sum + b.toNat) % 256 = 0 ∧
      ¬(0x01 ≤ k.toNat ∧ k.toNat ≤ 0x7E)) ∧
    (∃ (s : State) (k b : Byte) (body : List Byte), s.link.assembly = .check ∧ s.link.bytes = k :: body ∧ s.link.replies = [] ∧
      s.link.queue = [] ∧ s.link.resetDue = false ∧ (s.link.length + ((k :: body).map BitVec.toNat).sum + b.toNat) % 256 = 0 ∧
      parseRecord k.toNat (body.map BitVec.toNat) = .unknownKind) ∧
    (∃ (s : State) (k b : Byte) (body : List Byte), s.link.assembly = .check ∧ s.link.bytes = k :: body ∧ s.link.replies = [] ∧
      s.link.queue = [] ∧ s.link.resetDue = false ∧ (s.link.length + ((k :: body).map BitVec.toNat).sum + b.toNat) % 256 = 0 ∧
      parseRecord k.toNat (body.map BitVec.toNat) = .badLength) ∧
    (∃ (s : State) (k b : Byte) (body : List Byte), s.link.assembly = .check ∧ s.link.bytes = k :: body ∧ s.link.replies = [] ∧
      s.link.queue = [] ∧ s.link.resetDue = false ∧ (s.link.length + ((k :: body).map BitVec.toNat).sum + b.toNat) % 256 = 0 ∧
      parseRecord k.toNat (body.map BitVec.toNat) = .outOfRange) :=
  ⟨⟨(desk.setLink { desk.link with assembly := .check, length := 1, bytes := [0x01], replies := [⟨0x81, []⟩], queue := [.record 1 [], .record 1 [], .record 1 [], .record 1 []] }),
     0x01, 0xFE, [], by decide, by decide, by decide⟩,
   ⟨(desk.setLink { desk.link with assembly := .check, length := 1, bytes := [0x01], replies := [⟨0x81, []⟩], queue := [.record 1 [], .record 1 [], .record 1 []] }),
     0x01, 0xFE, [], by decide, by decide, by decide, by decide, by decide⟩,
   ⟨(desk.setLink { desk.link with assembly := .check, length := 1, bytes := [0x01], replies := [⟨0x81, []⟩], queue := [.record 1 [], .record 1 [], .record 1 [], .record 1 []] }),
     0x01, 0xFE, [], by decide, by decide, by decide, by decide, by decide⟩,
   ⟨(desk.setLink { desk.link with assembly := .check, length := 1, bytes := [0x01], replies := [⟨0x81, []⟩], queue := List.replicate 12 .check }),
     0x01, 0xFF, [], by decide, by decide, by decide, by decide, by decide⟩,
   ⟨(desk.setLink { desk.link with assembly := .check, length := 1, bytes := [0x01], replies := [⟨0x81, []⟩], queue := [] }),
     ⟨0x81, []⟩, [], by decide, by decide⟩,
   ⟨(desk.setLink { desk.link with assembly := .check, length := 1, bytes := [0x01], replies := [⟨0x81, []⟩], queue := [.check] }),
     ⟨0x81, []⟩, [], by decide, by decide, by decide⟩,
   ⟨(desk.setLink { desk.link with assembly := .check, length := 1, bytes := [0x01], replies := [⟨0x81, []⟩], queue := [.overrun 0x7F] }),
     ⟨0x81, []⟩, 0x7F, [], by decide, by decide, by decide⟩,
   ⟨(desk.setLink { desk.link with assembly := .check, length := 1, bytes := [0x01], replies := [⟨0x81, []⟩], queue := [.record 0x7E [], .check] }),
     ⟨0x81, []⟩, 0x7E, [], [.check], by decide, by decide, by decide⟩,
   ⟨(desk.setLink { desk.link with assembly := .check, length := 1, bytes := [0x01], replies := [⟨0x81, []⟩], queue := [.record 0x7F []] }),
     ⟨0x81, []⟩, 0x7F, [], [], by decide, by decide, by decide, by decide⟩,
   ⟨(desk.setLink { desk.link with assembly := .check, length := 1, bytes := [0x01], replies := [⟨0x81, []⟩], queue := [.record 0x7E []] }),
     ⟨0x81, []⟩, 0x7E, [], [], by decide, by decide, by decide, by decide, by decide⟩,
   ⟨(desk.setLink { desk.link with assembly := .check, length := 1, bytes := [0x01], replies := [⟨0x81, []⟩], queue := [.record 0x01 [0]] }),
     ⟨0x81, []⟩, 0x01, [0], [], by decide, by decide, by decide, by decide, by decide⟩,
   ⟨desk, by decide⟩,
   ⟨(desk.setLink { desk.link with assembly := .check, length := 1, bytes := [0x01], replies := [⟨0x81, []⟩], queue := [.record 1 [], .check] }),
     ⟨0x81, []⟩, 1, [], .identify, [.check], by decide, by decide, by decide, by decide, by decide, by decide⟩,
   ⟨(desk.setLink { desk.link with assembly := .check, length := 1, bytes := [0x01], replies := [⟨0x81, []⟩], queue := [.record 0x14 [4, 0, 0], .check] }),
     ⟨0x81, []⟩, 0x14, [4, 0, 0], [.check], by decide, by decide, by decide, by decide, by decide, by decide⟩,
   ⟨(desk.setLink { desk.link with assembly := .check, length := 1, bytes := [0x01] }), 0x01, 0xFF, [], by decide, by decide,
     by decide, by decide, by decide, by decide⟩,
   ⟨(desk.setLink { desk.link with assembly := .check, length := 1, bytes := [0x7F] }), 0x7F, 0x80, [], by decide, by decide,
     by decide, by decide, by decide, by decide, by decide⟩,
   ⟨(desk.setLink { desk.link with assembly := .check, length := 1, bytes := [0x00] }), 0x00, 0xFF, [], by decide, by decide,
     by decide, by decide, by decide, by decide, by decide⟩,
   ⟨(desk.setLink { desk.link with assembly := .check, length := 1, bytes := [0x7E] }), 0x7E, 0x81, [], by decide, by decide,
     by decide, by decide, by decide, by decide, by decide⟩,
   ⟨(desk.setLink { desk.link with assembly := .check, length := 2, bytes := [0x01, 0x00] }), 0x01, 0xFD, [0], by decide,
     by decide, by decide, by decide, by decide, by decide, by decide⟩,
   ⟨(desk.setLink { desk.link with assembly := .check, length := 4, bytes := [0x14, 0x04, 0, 0] }), 0x14, 0xE4, [4, 0, 0],
     by decide, by decide, by decide, by decide, by decide, by decide, by decide⟩⟩

theorem test_meets_FramesRunTheirRecords :
    ∃ (i : Instr) (k b : Byte) (body : List Byte) (s : State), i.wf = true ∧ i.record = some (k.toNat, body.map BitVec.toNat) ∧
      s.link.assembly = .check ∧ s.link.bytes = k :: body ∧ s.link.queue = [] ∧ s.link.replies = [] ∧ s.link.resetDue = false ∧
      (s.link.length + ((k :: body).map BitVec.toNat).sum + b.toNat) % 256 = 0 :=
  ⟨.setGlide 255, 0x31, 0xCE, [0xFF], (desk.setLink { desk.link with assembly := .check, length := 2, bytes := [0x31, 0xFF] }),
    by decide, by decide, by decide, by decide, by decide, by decide, by decide, by decide⟩

theorem test_meets_RecordsReadBack :
    ∃ (i : Instr) (k : Nat) (b : List Nat), i.wf = true ∧ i.record = some (k, b) :=
  ⟨.setGlide 255, 0x31, [255], by decide, by decide⟩

theorem test_meets_ClearEventsByTheirClass :
    (∃ (kinds : Nat) (s : State), s.profile.state ≠ .loading ∧ kinds < 32768) ∧
    (∃ (kinds : Nat) (s : State), s.profile.state ≠ .loading ∧ 32768 ≤ kinds) ∧
    (∃ (_kinds : Nat) (s : State), s.profile.state = .loading) :=
  ⟨⟨32767, desk, by decide, by decide⟩,
   ⟨32768, desk, by decide, by decide⟩,
   ⟨0, State.reset, by decide⟩⟩

theorem test_meets_EventMaskAndStatusReads :
    (∃ (kinds : Nat) (s : State), s.profile.state = .ready ∧ kinds < 32768) ∧
    (∃ (kinds : Nat) (s : State), s.profile.state = .ready ∧ 32768 ≤ kinds) :=
  ⟨⟨32767, desk, by decide, by decide⟩,
   ⟨32768, desk, by decide, by decide⟩⟩

theorem test_meets_SetScreenRules :
    (∃ (n f x y w h : Nat) (s : State), s.profile.state = .ready ∧ (8 ≤ n ∨ 2 ≤ f ∨ (f = 1 ∧ ¬RectInPlane ⟨x, y, w, h⟩))) ∧
    (∃ (i j : ScreenId) (x y w h : Nat) (r : Rect) (s : State), s.profile.state = .ready ∧ RectInPlane ⟨x, y, w, h⟩ ∧ ScreensApart
      s ∧ j ≠ i ∧ s.screenRect j = some r ∧ RectsMeet ⟨x, y, w, h⟩ r) ∧
    (∃ (i : ScreenId) (x y w h : Nat) (s : State), s.profile.state = .ready ∧ RectInPlane ⟨x, y, w, h⟩ ∧ ScreensApart s ∧ (∀ (j :
      ScreenId) (r : Rect), j ≠ i → s.screenRect j = some r → ¬RectsMeet ⟨x, y, w, h⟩ r)) ∧
    (∃ (i : ScreenId) (x y w h : Nat) (s : State), s.profile.state = .ready ∧ RectInPlane ⟨x, y, w, h⟩ ∧ ScreensApart s ∧ (∀ (j :
      ScreenId) (r : Rect), j ≠ i → s.screenRect j = some r → ¬RectsMeet ⟨x, y, w, h⟩ r) ∧ s.screenRect i ≠ none) ∧
    (∃ (i : ScreenId) (_x _y _w _h : Nat) (s : State), s.profile.state = .ready ∧ s.screenRect i = none) ∧
    (∃ (i : ScreenId) (_x _y _w _h : Nat) (r : Rect) (s : State), s.profile.state = .ready ∧ s.screenRect i = some r) :=
  ⟨⟨0, 1, 0, 0, 63, 64, desk, by decide, by unfold RectInPlane; decide⟩,
   ⟨3, 0, 99, 99, 64, 64, ⟨0, 0, 100, 100⟩, desk, by decide, by unfold RectInPlane; decide, desk_screensApart, by decide,
     by decide, ⟨99, 99, by decide +kernel, by decide +kernel⟩⟩,
   ⟨3, 200, 8128, 8192, 64, desk, by decide, by unfold RectInPlane; decide, desk_screensApart,
     fun j r _ e m => by
      obtain ⟨x, y, hx, hy⟩ := m
      have k : ∀ j : ScreenId, ∀ r ∈ desk.screenRect j, r.y + r.h ≤ 164 := by decide +kernel
      have := k j r e
      simp [Rect.contains] at hx hy
      omega⟩,
   ⟨2, 64, 100, 64, 64, desk, by decide, by unfold RectInPlane; decide, desk_screensApart,
     fun j r n e m => by
      obtain ⟨x, y, hx, hy⟩ := m
      have k : ∀ j : ScreenId, j ≠ 2 → ∀ r ∈ desk.screenRect j, r.y + r.h ≤ 100 := by decide
      have := k j n r e
      simp [Rect.contains] at hx hy
      omega,
     by decide⟩,
   ⟨7, 0, 0, 0, 0, desk, by decide, by decide⟩,
   ⟨2, 0, 0, 0, 0, ⟨0, 100, 64, 64⟩, desk, by decide, by decide⟩⟩

theorem test_meets_SetComputerRules :
    (∃ (n : Nat) (r : RawComputer) (s : State), s.profile.state = .ready ∧ (6 ≤ n ∨ ¬ComputerFieldsInRange r)) ∧
    (∃ (c : Computer) (r : RawComputer) (s : State), s.profile.state = .ready ∧ ComputerFieldsInRange r ∧ ((∃ (h : HeadNo) (e :
      HeadEntry), s.headEntry ⟨c, h⟩ = some e ∧ (r.w < e.rect.x + e.rect.w ∨ r.h < e.rect.y + e.rect.h)) ∨ (s.powerState c =
      .waking ∧ r.maxAttempts < (s.powerRec c).attempt))) ∧
    (∃ (c : Computer) (r : RawComputer) (s : State), s.profile.state = .ready ∧ ComputerFieldsInRange r ∧ (∀ (h : HeadNo) (e :
      HeadEntry), s.headEntry ⟨c, h⟩ = some e → e.rect.x + e.rect.w ≤ r.w ∧ e.rect.y + e.rect.h ≤ r.h) ∧ (s.powerState c = .waking
      → (s.powerRec c).attempt ≤ r.maxAttempts)) ∧
    (∃ (c : Computer) (r : RawComputer) (s : State), s.profile.state = .ready ∧ ComputerFieldsInRange r ∧ (∀ (h : HeadNo) (e :
      HeadEntry), s.headEntry ⟨c, h⟩ = some e → e.rect.x + e.rect.w ≤ r.w ∧ e.rect.y + e.rect.h ≤ r.h) ∧ (s.powerState c = .waking
      → (s.powerRec c).attempt ≤ r.maxAttempts) ∧ s.keyboard.focus ≠ c) :=
  ⟨⟨5, ⟨63, 2, 2001, 5, 30000, 3, 1, 1, 0, List.replicate 12 0⟩, desk, by decide, by unfold ComputerFieldsInRange; decide⟩,
   ⟨0, ⟨0, 0, 50, 1, 1000, 255, 1, 1, 0, List.replicate 12 0⟩, (desk.setHeadEntry ⟨0, 3⟩ (some ⟨⟨1, 0, 1, 1⟩, false, 0⟩)),
     by decide, by unfold ComputerFieldsInRange; decide, Or.inl ⟨3, ⟨⟨1, 0, 1, 1⟩, false, 0⟩, by decide +kernel⟩⟩,
   ⟨0, ⟨63, 2, 2000, 5, 30000, 3, 16384, 16384, 12, List.replicate 12 0x7E⟩, desk, by decide,
     by unfold ComputerFieldsInRange; decide,
     fun h e x =>
      (show ∀ h : HeadNo, ∀ e ∈ desk.headEntry ⟨0, h⟩, e.rect.x + e.rect.w ≤ 16384 ∧ e.rect.y + e.rect.h ≤ 16384 by decide +kernel) h e x,
     by decide⟩,
   ⟨1, ⟨63, 2, 2000, 5, 30000, 3, 16384, 16384, 12, List.replicate 12 0x7E⟩, desk, by decide,
     by unfold ComputerFieldsInRange; decide,
     fun h e x =>
      (show ∀ h : HeadNo, ∀ e ∈ desk.headEntry ⟨1, h⟩, e.rect.x + e.rect.w ≤ 16384 ∧ e.rect.y + e.rect.h ≤ 16384 by decide) h e x,
     by decide, by decide⟩⟩

theorem test_meets_SetHeadRules :
    (∃ (c h d p a _x _y _w _hh : Nat) (s : State), s.profile.state = .ready ∧ (6 ≤ c ∨ 4 ≤ h ∨ 2 ≤ d ∨ 2 ≤ p ∨ 256 ≤ a)) ∧
    (∃ (h : Head) (_p : Bool) (_a : ScreenSet) (x y w hh : Nat) (s : State), s.profile.state = .ready ∧ ¬RectOnDesktop ⟨x, y, w,
      hh⟩ (s.computer h.computer)) ∧
    (∃ (h : Head) (_p : Bool) (_a : ScreenSet) (x y w hh : Nat) (s : State), s.profile.state = .ready ∧ RectOnDesktop ⟨x, y, w,
      hh⟩ (s.computer h.computer)) ∧
    (∃ (h : Head) (_p : Bool) (_a : ScreenSet) (_x _y _w _hh : Nat) (s : State), s.profile.state = .ready ∧ s.headEntry h = none) ∧
    (∃ (h : Head) (_p : Bool) (_a : ScreenSet) (_x _y _w _hh : Nat) (s : State), s.profile.state = .ready ∧ s.headEntry h ≠ none ∧
      BindingsAgree s ∧ ChannelsAgree s) :=
  ⟨⟨5, 3, 1, 1, 256, 0, 0, 1, 1, desk, by decide, by decide⟩,
   ⟨⟨0, 0⟩, false, 0, 0, 0, 2, 1, desk, by decide, by unfold RectOnDesktop; decide⟩,
   ⟨⟨0, 0⟩, true, 1, 0, 0, 1, 1, desk, by decide, by unfold RectOnDesktop; decide⟩,
   ⟨⟨5, 3⟩, false, 0, 0, 0, 0, 0, desk, by decide, by decide⟩,
   ⟨⟨0, 0⟩, false, 0, 0, 0, 0, 0, desk, by decide, by decide, desk_bindings, desk_channels⟩⟩

theorem test_meets_MapInputRules :
    (∃ (v c h : Nat) (s : State), s.profile.state = .ready ∧ (16 ≤ v ∨ ¬SourceInRange c h)) ∧
    (∃ (v w : InputId) (h : Head) (s : State), s.profile.state = .ready ∧ BindingsAgree s ∧ w ≠ v ∧ s.binding w = some h) ∧
    (∃ (_v : InputId) (h : Head) (s : State), s.profile.state = .ready ∧ (∀ w, s.binding w ≠ some h) ∧ s.headEntry h = none) ∧
    (∃ (v : InputId) (h : Head) (s : State), s.profile.state = .ready ∧ BindingsAgree s ∧ s.binding v = some h) ∧
    (∃ (_v : InputId) (h : Head) (s : State), s.profile.state = .ready ∧ ScreensAgree s ∧ (∀ w, s.binding w ≠ some h) ∧
      s.headEntry h ≠ none) ∧
    (∃ (v : InputId) (h : Head) (s : State), s.profile.state = .ready ∧ ScreensAgree s ∧ (∀ w, s.binding w ≠ some h) ∧ s.headEntry
      h ≠ none ∧ s.binding v = none) ∧
    (∃ (v : InputId) (s : State), s.profile.state = .ready ∧ s.binding v = none) ∧
    (∃ (v : InputId) (h : Head) (s : State), s.profile.state = .ready ∧ ScreensAgree s ∧ s.binding v = some h) ∧
    (∃ (v : InputId) (a h : Head) (s : State), s.profile.state = .ready ∧ ScreensAgree s ∧ (∀ w, s.binding w ≠ some h) ∧
      s.headEntry h ≠ none ∧ s.binding v = some a) :=
  ⟨⟨15, 255, 254, desk, by decide, by unfold SourceInRange; decide⟩,
   ⟨15, 0, ⟨0, 0⟩, desk, by decide, desk_bindings, by decide, by decide⟩,
   ⟨15, ⟨5, 3⟩, desk, by decide, by decide, by decide⟩,
   ⟨0, ⟨0, 0⟩, desk, by decide, desk_bindings, by decide⟩,
   ⟨0, ⟨1, 0⟩, desk, by decide, desk_screens, by decide, by decide⟩,
   ⟨15, ⟨1, 0⟩, desk, by decide, desk_screens, by decide, by decide, by decide⟩,
   ⟨15, desk, by decide, by decide⟩,
   ⟨0, ⟨0, 0⟩, desk, by decide, desk_screens, by decide⟩,
   ⟨0, ⟨0, 0⟩, ⟨1, 0⟩, desk, by decide, desk_screens, by decide, by decide, by decide⟩⟩

theorem test_meets_LayoutReadsBack :
    (∃ (i : ScreenId) (r : Rect) (s : State), s.profile.state ≠ .loading ∧ s.screenRect i = some r) ∧
    (∃ (i : ScreenId) (s : State), s.profile.state ≠ .loading ∧ s.screenRect i = none) ∧
    (∃ (c : Computer) (r : RawComputer) (s : State), s.profile.state ≠ .loading ∧ r.wf = true ∧ ComputerEntry.ofRaw r = some
      (s.computer c)) ∧
    (∃ (h : Head) (e : HeadEntry) (s : State), s.profile.state ≠ .loading ∧ s.headEntry h = some e) ∧
    (∃ (h : Head) (s : State), s.profile.state ≠ .loading ∧ s.headEntry h = none ∧ (∀ v, s.binding v ≠ some h)) ∧
    (∃ (_v : InputId) (s : State), s.profile.state ≠ .loading) ∧
    (∃ (c : Channel) (a : Nat), c.average = some a ∧ 8000 ≤ a ∧ a ≤ 50000 ∧ c.window.length ≤ 4) ∧
    (∃ (_n _m : Nat) (s : State), s.profile.state ≠ .loading) :=
  ⟨⟨2, ⟨0, 100, 64, 64⟩, desk, by decide, by decide⟩,
   ⟨7, desk, by decide, by decide⟩,
   ⟨5, ⟨0, 1, 200, 3, 8000, 255, 1, 1, 0, List.replicate 12 0⟩, desk, by decide, by decide, by decide⟩,
   ⟨⟨1, 0⟩, ⟨⟨0, 0, 1, 1⟩, true, 4⟩, desk, by decide, by decide⟩,
   ⟨⟨5, 3⟩, desk, by decide, by decide, by decide⟩,
   ⟨15, desk, by decide⟩,
   ⟨desk.channel 0, 16667, by decide, by decide, by decide, by decide⟩,
   ⟨8, 0, desk, by decide⟩⟩

theorem test_meets_SyncEdgesAreJudged :
    (∃ (v : InputId) (t0 : Nat) (s : State), ((s.channel v).running = false ∨ (∃ l, (s.channel v).lastEdge = some l ∧ max s.now t0
      - l < 2000))) ∧
    (∃ (v : InputId) (t0 : Nat) (s : State), (s.channel v).running = true ∧ (s.channel v).state = .lost ∧ (∀ l, (s.channel
      v).lastEdge = some l → 2000 ≤ max s.now t0 - l)) ∧
    (∃ (v : InputId) (t0 l : Nat) (s : State), ChannelAgrees (s.channel v) ∧ (s.channel v).running = true ∧ (s.channel v).state ≠
      .lost ∧ (s.channel v).lastEdge = some l ∧ 2000 ≤ max s.now t0 - l) ∧
    (∃ (v : InputId) (t0 l : Nat) (s : State), ChannelAgrees (s.channel v) ∧ (s.channel v).running = true ∧ (s.channel v).state ≠
      .lost ∧ (s.channel v).lastEdge = some l ∧ 2000 ≤ max s.now t0 - l ∧ max s.now t0 - l = 2000) ∧
    (∃ (v : InputId) (t0 l : Nat) (s : State), ChannelAgrees (s.channel v) ∧ (s.channel v).running = true ∧ (s.channel v).state ≠
      .lost ∧ (s.channel v).lastEdge = some l ∧ 2000 ≤ max s.now t0 - l ∧ max s.now t0 - l = 7999) ∧
    (∃ (v : InputId) (t0 l : Nat) (s : State), ChannelAgrees (s.channel v) ∧ (s.channel v).running = true ∧ (s.channel v).state ≠
      .lost ∧ (s.channel v).lastEdge = some l ∧ 2000 ≤ max s.now t0 - l ∧ max s.now t0 - l = 8000) ∧
    (∃ (v : InputId) (t0 l : Nat) (s : State), ChannelAgrees (s.channel v) ∧ (s.channel v).running = true ∧ (s.channel v).state ≠
      .lost ∧ (s.channel v).lastEdge = some l ∧ 2000 ≤ max s.now t0 - l ∧ max s.now t0 - l = 50000) ∧
    (∃ (v : InputId) (t0 l : Nat) (s : State), ChannelAgrees (s.channel v) ∧ (s.channel v).running = true ∧ (s.channel v).state ≠
      .lost ∧ (s.channel v).lastEdge = some l ∧ 2000 ≤ max s.now t0 - l ∧ max s.now t0 - l = 50001) ∧
    (∃ (v : InputId) (t0 l : Nat) (s : State), ChannelAgrees (s.channel v) ∧ (s.channel v).running = true ∧ (s.channel v).state ≠
      .lost ∧ (s.channel v).lastEdge = some l ∧ 2000 ≤ max s.now t0 - l ∧ (s.channel v).window.length < 3) ∧
    (∃ (v : InputId) (t0 l : Nat) (s : State), ChannelAgrees (s.channel v) ∧ (s.channel v).running = true ∧ (s.channel v).state ≠
      .lost ∧ (s.channel v).lastEdge = some l ∧ 2000 ≤ max s.now t0 - l ∧ 3 ≤ (s.channel v).window.length) ∧
    (∃ (v : InputId) (s : State), (s.channel v).lostTimer = none) ∧
    (∃ (v : InputId) (tm : Timer) (s : State), ScreensAgree s ∧ (s.channel v).lostTimer = some tm) ∧
    (∃ (v : InputId) (t0 l : Nat) (h : Head) (i : ScreenId) (s : State), BindingsAgree s ∧ (s.channel v).running = true ∧
      (s.channel v).state = .acquiring ∧ (s.channel v).lastEdge = some l ∧ (s.channel v).window.length = 3 ∧ 8000 ≤ max s.now t0 -
      l ∧ max s.now t0 - l ≤ 50000 ∧ s.binding v = some h ∧ (s.screenRec i).current = some h ∧ (s.screenRec i).state = .dark ∧ max
      s.now t0 - l = 10000 ∧ (s.screenRec i).lockView = true) ∧
    (∃ (v : InputId) (t0 l : Nat) (h : Head) (i : ScreenId) (s : State), BindingsAgree s ∧ (s.channel v).running = true ∧
      (s.channel v).state = .acquiring ∧ (s.channel v).lastEdge = some l ∧ (s.channel v).window.length = 3 ∧ 8000 ≤ max s.now t0 -
      l ∧ max s.now t0 - l ≤ 50000 ∧ s.binding v = some h ∧ (s.screenRec i).current = some h ∧ (s.screenRec i).state = .dark ∧ max
      s.now t0 - l = 50000 ∧ (s.screenRec i).lockView = false) :=
  ⟨⟨0, 1000000, (desk.setChannel 0 { desk.channel 0 with lastEdge := some 998001 }), Or.inr ⟨998001, by decide +kernel⟩⟩,
   ⟨0, 0, (desk.setChannel 0 { Channel.reset with running := true }), by decide, by decide, fun l h => by cases h⟩,
   ⟨0, 998000, 990000, desk, desk_channel 0, by decide, by decide, by decide, by decide⟩,
   ⟨0, 0, 998000, (desk.setChannel 0 { desk.channel 0 with lastEdge := some 998000 }),
     by
      have h := desk_channel 0
      exact ⟨h.1, h.2.1, h.2.2.1, rfl, rfl, rfl⟩, by decide, by decide, by decide,
     by decide, by decide⟩,
   ⟨0, 0, 992001, (desk.setChannel 0 { desk.channel 0 with lastEdge := some 992001 }),
     by
      have h := desk_channel 0
      exact ⟨h.1, h.2.1, h.2.2.1, rfl, rfl, rfl⟩, by decide, by decide, by decide,
     by decide, by decide⟩,
   ⟨0, 0, 992000, (desk.setChannel 0 { desk.channel 0 with lastEdge := some 992000 }),
     by
      have h := desk_channel 0
      exact ⟨h.1, h.2.1, h.2.2.1, rfl, rfl, rfl⟩, by decide, by decide, by decide,
     by decide, by decide⟩,
   ⟨0, 1040000, 990000, desk, desk_channel 0, by decide, by decide, by decide, by decide, by decide⟩,
   ⟨0, 1040001, 990000, desk, desk_channel 0, by decide, by decide, by decide, by decide, by decide⟩,
   ⟨0, 998000, 990000, (desk.setChannel 0 { desk.channel 0 with state := .acquiring, window := [8000, 50000], average := none }),
     ⟨by decide, by decide, rfl, rfl, rfl, rfl, by decide⟩, by decide, by decide, by decide, by decide, by decide⟩,
   ⟨0, 998000, 990000,
     (desk.setChannel 0 { desk.channel 0 with state := .acquiring, window := [8000, 50000, 9000], average := none }),
     ⟨by decide, by decide, rfl, rfl, rfl, rfl, by decide⟩, by decide, by decide, by decide, by decide, by decide⟩,
   ⟨15, desk, by decide⟩,
   ⟨0, ⟨990000, 100000⟩, desk, desk_screens, by decide⟩,
   ⟨0, 998000, 990000, ⟨0, 0⟩, 0,
     ((desk.setChannel 0 { desk.channel 0 with state := .acquiring, window := [16667, 16667, 16667], average := none }).setScreenRec 0 { ScreenRec.reset with state := .dark, current := some ⟨0, 0⟩, lockPin := true, lockView := true }),
     desk_bindings, by decide, by decide, by decide, by decide, by decide, by decide, by decide, by decide, by decide, by decide,
     by decide⟩,
   ⟨0, 1040000, 990000, ⟨0, 0⟩, 0,
     ((desk.setChannel 0 { desk.channel 0 with state := .acquiring, window := [16667, 16667, 16667], average := none }).setScreenRec 0 { ScreenRec.reset with state := .dark, current := some ⟨0, 0⟩, lockPin := true, lockView := false }),
     desk_bindings, by decide, by decide, by decide, by decide, by decide, by decide, by decide, by decide, by decide, by decide,
     by decide⟩⟩

theorem test_meets_ScreenLinksAndTimers :
    (∃ (i : ScreenId) (s : State), (s.screenRec i).linkTimer = none) ∧
    (∃ (i : ScreenId) (tm : Timer) (s : State), (s.screenRec i).linkTimer = some tm ∧ (s.screenRec i).state = .linking) ∧
    (∃ (i : ScreenId) (s : State), (s.screenRec i).powerTimer = none) ∧
    (∃ (i : ScreenId) (tm : Timer) (s : State), (s.screenRec i).powerTimer = some tm ∧ (s.screenRec i).state = .powering) ∧
    (∃ (i : ScreenId) (tm : Timer) (s : State), (s.screenRec i).powerTimer = some tm ∧ (s.screenRec i).state = .powering ∧
      s.headState ⟨0, 0⟩ = .alive) ∧
    (∃ (i : ScreenId) (tm : Timer) (s : State), (s.screenRec i).powerTimer = some tm ∧ (s.screenRec i).state = .powering ∧
      (s.screenRec i).current = none) :=
  ⟨⟨1, desk, by decide⟩,
   ⟨0, ⟨900000, 2000000⟩, desk, by decide, by decide⟩,
   ⟨0, desk, by decide⟩,
   ⟨2, ⟨deskTime, 500000⟩,
     (desk.setScreenRec 2 { desk.screenRec 2 with state := .powering, powerTimer := some ⟨deskTime, 500000⟩ }), by decide,
     by decide⟩,
   ⟨0, ⟨deskTime, 500000⟩,
     (desk.setScreenRec 0 { desk.screenRec 0 with state := .powering, powerTimer := some ⟨deskTime, 500000⟩ }), by decide,
     by decide, by decide⟩,
   ⟨1, ⟨deskTime, 500000⟩,
     (desk.setScreenRec 1 { desk.screenRec 1 with state := .powering, powerTimer := some ⟨deskTime, 500000⟩ }), by decide,
     by decide, by decide⟩⟩

theorem test_meets_AssignBySourceAndState :
    (∃ (n c h : Nat) (s : State), s.profile.state ≠ .loading ∧ (8 ≤ n ∨ ¬SourceInRange c h)) ∧
    (∃ (i : ScreenId) (h : Head) (s : State), s.profile.state ≠ .loading ∧ (s.screenRect i = none ∨ s.headEntry h = none)) ∧
    (∃ (i : ScreenId) (h : Head) (e : HeadEntry) (s : State), s.profile.state ≠ .loading ∧ s.screenRect i ≠ none ∧ s.headEntry h =
      some e ∧ e.isPrivate = true ∧ inSet e.allowed i = false) ∧
    (∃ (i : ScreenId) (h : Head) (e : HeadEntry) (s : State), s.profile.state ≠ .loading ∧ s.screenRect i ≠ none ∧ s.headEntry h =
      some e ∧ (e.isPrivate = true → inSet e.allowed i = true)) ∧
    (∃ (i : ScreenId) (h : Head) (e : HeadEntry) (s : State), s.profile.state ≠ .loading ∧ s.screenRect i ≠ none ∧ s.headEntry h =
      some e ∧ (e.isPrivate = true → inSet e.allowed i = true) ∧ (s.screenRec i).state.isOn = true ∧ (s.screenRec i).current =
      some h) ∧
    (∃ (i : ScreenId) (h : Head) (e : HeadEntry) (s : State), s.profile.state ≠ .loading ∧ s.screenRect i ≠ none ∧ s.headEntry h =
      some e ∧ (e.isPrivate = true → inSet e.allowed i = true) ∧ (s.screenRec i).current ≠ some h ∧ s.headState h = .alive) ∧
    (∃ (i : ScreenId) (h : Head) (e : HeadEntry) (s : State), s.profile.state ≠ .loading ∧ s.screenRect i ≠ none ∧ s.headEntry h =
      some e ∧ (e.isPrivate = true → inSet e.allowed i = true) ∧ (s.screenRec i).current ≠ some h ∧ s.headState h ≠ .alive) ∧
    (∃ (i : ScreenId) (h : Head) (e : HeadEntry) (s : State), s.profile.state ≠ .loading ∧ s.screenRect i ≠ none ∧ s.headEntry h =
      some e ∧ (e.isPrivate = true → inSet e.allowed i = true) ∧ (s.screenRec i).state = .off) ∧
    (∃ (i : ScreenId) (s : State), s.profile.state ≠ .loading ∧ s.screenRect i = none) ∧
    (∃ (i : ScreenId) (s : State), s.profile.state ≠ .loading ∧ s.screenRect i ≠ none) ∧
    (∃ (i : ScreenId) (s : State), s.profile.state ≠ .loading ∧ s.screenRect i ≠ none ∧ (s.screenRec i).current = none) ∧
    (∃ (i : ScreenId) (s : State), s.profile.state ≠ .loading ∧ s.screenRect i ≠ none ∧ (s.screenRec i).state = .standby) :=
  ⟨⟨8, 0, 0, desk, by decide, by unfold SourceInRange; decide⟩,
   ⟨7, ⟨0, 0⟩, desk, by decide, by decide⟩,
   ⟨1, ⟨1, 0⟩, ⟨⟨0, 0, 1, 1⟩, true, 4⟩, desk, by decide, by decide, by decide, by decide, by decide⟩,
   ⟨2, ⟨1, 0⟩, ⟨⟨0, 0, 1, 1⟩, true, 4⟩, desk, by decide, by decide, by decide, by decide⟩,
   ⟨0, ⟨0, 0⟩, ⟨⟨0, 0, 1, 1⟩, false, 0⟩, desk, by decide, by decide, by decide, by decide, by decide, by decide⟩,
   ⟨1, ⟨0, 0⟩, ⟨⟨0, 0, 1, 1⟩, false, 0⟩, desk, by decide, by decide, by decide, by decide, by decide, by decide⟩,
   ⟨0, ⟨1, 0⟩, ⟨⟨0, 0, 1, 1⟩, true, 1⟩, (desk.setHeadEntry ⟨1, 0⟩ (some ⟨⟨0, 0, 1, 1⟩, true, 1⟩)), by decide, by decide, by decide,
     by decide, by decide, by decide⟩,
   ⟨1, ⟨0, 0⟩, ⟨⟨0, 0, 1, 1⟩, false, 0⟩, (desk.setScreenRec 1 { desk.screenRec 1 with state := .off }), by decide, by decide,
     by decide, by decide, by decide⟩,
   ⟨7, desk, by decide, by decide⟩,
   ⟨0, desk, by decide, by decide⟩,
   ⟨1, desk, by decide, by decide, by decide⟩,
   ⟨0, (desk.setScreenRec 0 { desk.screenRec 0 with state := .standby }), by decide, by decide, by decide⟩⟩

theorem test_meets_ScreenTimingSettings :
    (∃ (_l _v _c : Nat) (s : State), (s.profile.state = .loading ∨ s.profile.state = .saving)) ∧
    (∃ (_l v c : Nat) (s : State), s.profile.state = .ready ∧ (3 ≤ c ∨ 31 < v)) ∧
    (∃ (_l v c : Nat) (s : State), s.profile.state = .ready ∧ c ≤ 2 ∧ v ≤ 31) ∧
    (∃ (l v c : Nat) (s : State), s.profile.state = .ready ∧ c ≤ 2 ∧ v ≤ 31 ∧ l = 100) ∧
    (∃ (l v c : Nat) (s : State), s.profile.state = .ready ∧ c ≤ 2 ∧ v ≤ 31 ∧ l = 10000) ∧
    (∃ (l v c : Nat) (s : State), s.profile.state = .ready ∧ c ≤ 2 ∧ v ≤ 31 ∧ l = 10001) ∧
    (∃ (i : ScreenId) (s : State), (s.screenRec i).state = .showing) ∧
    (∃ (i : ScreenId) (s : State), (s.screenRec i).state = .off ∧ s.powerOnMs ≠ 0) ∧
    (∃ s : State, s.link.queue = []) :=
  ⟨⟨100, 31, 2, State.reset, by decide⟩,
   ⟨100, 32, 2, desk, by decide, by decide⟩,
   ⟨99, 31, 2, desk, by decide, by decide, by decide⟩,
   ⟨100, 0, 0, desk, by decide, by decide, by decide, by decide⟩,
   ⟨10000, 0, 0, desk, by decide, by decide, by decide, by decide⟩,
   ⟨10001, 0, 0, desk, by decide, by decide, by decide, by decide⟩,
   ⟨0, (desk.setScreenRec 0 { desk.screenRec 0 with state := .showing }), by decide⟩,
   ⟨0, (desk.setScreenRec 0 { desk.screenRec 0 with state := .off }), by decide, by decide⟩,
   ⟨desk, by decide⟩⟩

theorem test_meets_SceneStoreRules :
    (∃ (n k w : Nat) (items : List RawItem) (s : State), s.profile.state = .ready ∧ (16 ≤ n ∨ 8 < items.length ∨ (k ≠ 255 ∧ 6 ≤ k)
      ∨ 2 ≤ w ∨ (∃ it ∈ items, 8 ≤ it.screen ∨ ¬SourceInRange it.computer it.head))) ∧
    (∃ (_n : SceneNo) (_k : Option Computer) (_w : Bool) (items : List RawItem) (s : State), s.profile.state = .ready ∧
      items.length ≤ 8 ∧ (∀ it ∈ items, it.screen < 8 ∧ SourceInRange it.computer it.head) ∧ ¬(items.map RawItem.screen).Nodup) ∧
    (∃ (_n : SceneNo) (_k : Option Computer) (_w : Bool) (items : List RawItem) (s : State), s.profile.state = .ready ∧
      items.length ≤ 8 ∧ (∀ it ∈ items, it.screen < 8 ∧ SourceInRange it.computer it.head) ∧ (items.map RawItem.screen).Nodup ∧ (∃
      (it : RawItem) (h : Head) (i : ScreenId) (e : HeadEntry), it ∈ items ∧ it.screen = i.val ∧ it.computer = h.computer.val ∧
      it.head = h.no.val ∧ s.headEntry h = some e ∧ e.isPrivate = true ∧ inSet e.allowed i = false)) ∧
    (∃ (_n : SceneNo) (_k : Option Computer) (_w : Bool) (items : List RawItem) (s : State), s.profile.state = .ready ∧
      items.length ≤ 8 ∧ (∀ it ∈ items, it.screen < 8 ∧ SourceInRange it.computer it.head) ∧ (items.map RawItem.screen).Nodup ∧ (∀
      (it : RawItem) (h : Head) (i : ScreenId) (e : HeadEntry), it ∈ items → it.screen = i.val → it.computer = h.computer.val →
      it.head = h.no.val → s.headEntry h = some e → e.isPrivate = true → inSet e.allowed i = true)) ∧
    (∃ (n : Nat) (s : State), s.profile.state ≠ .loading ∧ 16 ≤ n) ∧
    (∃ (n : Nat) (s : State), s.profile.state = .ready ∧ 16 ≤ n ∧ n ≠ 255) ∧
    (∃ (n : SceneNo) (s : State), s.profile.state = .ready ∧ s.scene n = none) ∧
    (∃ (n : SceneNo) (s : State), s.profile.state = .ready ∧ s.scene n ≠ none) ∧
    (∃ s : State, s.profile.state = .ready) :=
  ⟨⟨15, 255, 1, List.replicate 9 ⟨0, 255, 255⟩, desk, by decide, by unfold SourceInRange; decide⟩,
   ⟨15, some 5, true, [⟨7, 255, 255⟩, ⟨7, 0, 0⟩], desk, by decide, by decide, by unfold SourceInRange; decide, by decide⟩,
   ⟨15, none, true, [⟨7, 1, 0⟩], desk, by decide, by decide, by unfold SourceInRange; decide, by decide,
     ⟨⟨7, 1, 0⟩, ⟨1, 0⟩, 7, ⟨⟨0, 0, 1, 1⟩, true, 4⟩, by decide +kernel⟩⟩,
   ⟨0, none, false, [], desk, by decide, by decide, by unfold SourceInRange; decide, by decide,
     fun it h i e m => absurd m (by simp)⟩,
   ⟨16, desk, by decide, by decide⟩,
   ⟨254, desk, by decide, by decide, by decide⟩,
   ⟨15, desk, by decide, by decide⟩,
   ⟨0, desk, by decide, by decide⟩,
   ⟨desk, by decide⟩⟩

theorem test_meets_ApplySceneFormsOneRecord :
    (∃ (n : Nat) (s : State), s.profile.state ≠ .loading ∧ 16 ≤ n) ∧
    (∃ (n : SceneNo) (s : State), s.profile.state ≠ .loading ∧ s.scene n = none) ∧
    (∃ (n : SceneNo) (sc : Scene) (s : State), s.profile.state ≠ .loading ∧ s.scene n = some sc ∧ (sc.items.map
      SceneItem.screen).Nodup) :=
  ⟨⟨16, desk, by decide, by decide⟩,
   ⟨15, desk, by decide, by decide⟩,
   ⟨0, ⟨[⟨0, none⟩, ⟨1, some ⟨0, 0⟩⟩], some 1, true⟩, desk, by decide, by decide, by decide⟩⟩

theorem test_meets_BallisticsSettings :
    (∃ (_t1 _t2 _t3 _g0 _g1 _g2 _g3 _b : Nat) (s : State), (s.profile.state = .loading ∨ s.profile.state = .saving)) ∧
    (∃ (t1 t2 t3 g0 g1 g2 g3 : Nat) (s : State), s.profile.state = .ready ∧ (t1 = 0 ∨ t2 = 0 ∨ t3 = 0 ∨ g0 = 0 ∨ g1 = 0 ∨ g2 = 0 ∨
      g3 = 0 ∨ t2 ≤ t1 ∨ t3 ≤ t2)) ∧
    (∃ (t1 t2 t3 g0 g1 g2 g3 : Nat) (s : State), s.profile.state = .ready ∧ (Instr.setBallistics t1 t2 t3 g0 g1 g2 g3).wf = true ∧
      1 ≤ t1 ∧ t1 < t2 ∧ t2 < t3 ∧ 1 ≤ g0 ∧ 1 ≤ g1 ∧ 1 ≤ g2 ∧ 1 ≤ g3) ∧
    (∃ (b : Nat) (s : State), s.profile.state = .ready ∧ b ≤ 255) ∧
    (∃ (p : PointerEngine) (_v : Nat), p.t1 < p.t2 ∧ p.t2 < p.t3) ∧
    (∃ (p : PointerEngine) (v : Nat), p.t1 < p.t2 ∧ p.t2 < p.t3 ∧ v < p.t1) ∧
    (∃ (p : PointerEngine) (v : Nat), p.t1 < p.t2 ∧ p.t2 < p.t3 ∧ v < p.t2) ∧
    (∃ (p : PointerEngine) (v : Nat), p.t1 < p.t2 ∧ p.t2 < p.t3 ∧ p.t2 ≤ v) ∧
    (∃ (p : PointerEngine) (v : Nat), p.t1 < p.t2 ∧ p.t2 < p.t3 ∧ v < p.t3) ∧
    (∃ (p : PointerEngine) (v : Nat), p.t1 < p.t2 ∧ p.t2 < p.t3 ∧ p.t3 ≤ v) ∧
    (∃ (_i0 i : ScreenId) (r : Rect) (c : Computer) (tx ty : Int) (s : State), crossingBlocked c s = false ∧ accrued
      s.pointer.push i (max (outside r.x r.w tx) (outside r.y r.h ty)) < s.pointer.barrier) ∧
    (∃ (_i0 i : ScreenId) (r : Rect) (c : Computer) (tx ty : Int) (s : State), crossingBlocked c s = false ∧ s.pointer.barrier ≤
      accrued s.pointer.push i (max (outside r.x r.w tx) (outside r.y r.h ty))) ∧
    (∃ s : State, s.link.queue = []) :=
  ⟨⟨1, 2, 3, 1, 1, 1, 1, 0, State.reset, by decide⟩,
   ⟨1, 1, 3, 1, 1, 1, 1, desk, by decide, by decide⟩,
   ⟨1, 2, 255, 1, 255, 1, 1, desk, by decide, by decide, by decide, by decide, by decide, by decide, by decide, by decide,
     by decide⟩,
   ⟨255, desk, by decide, by decide⟩,
   ⟨desk.pointer, 4, by decide, by decide⟩,
   ⟨desk.pointer, 3, by decide, by decide, by decide⟩,
   ⟨desk.pointer, 11, by decide, by decide, by decide⟩,
   ⟨desk.pointer, 12, by decide, by decide, by decide⟩,
   ⟨desk.pointer, 23, by decide, by decide, by decide⟩,
   ⟨desk.pointer, 24, by decide, by decide, by decide⟩,
   ⟨0, 0, ⟨0, 0, 100, 100⟩, 0, 114, 50, (desk.setPointer { desk.pointer with buttons := 0, swallow := 0 }), by decide, by decide⟩,
   ⟨0, 0, ⟨0, 0, 100, 100⟩, 0, 115, 50, (desk.setPointer { desk.pointer with buttons := 0, swallow := 0 }), by decide, by decide⟩,
   ⟨desk, by decide⟩⟩

theorem test_meets_WarpMovesThePointer :
    (∃ (n : Nat) (s : State), s.profile.state ≠ .loading ∧ 6 ≤ n) ∧
    (∃ (c : Computer) (s : State), s.profile.state ≠ .loading ∧ s.homeScreen c = none) ∧
    (∃ (x y : Nat) (s : State), s.profile.state ≠ .loading ∧ (16383 < x ∨ 8191 < y)) ∧
    (∃ (x y : Nat) (s : State), s.profile.state ≠ .loading ∧ x ≤ 16383 ∧ y ≤ 8191 ∧ (∀ (i : ScreenId) (r : Rect) (h : Head),
      s.eligible i = some (r, h) → r.contains x y = false)) ∧
    (∃ (n : Instr) (x y : Nat) (i : ScreenId) (r : Rect) (h : Head) (e : HeadEntry) (s : State), s.profile.state ≠ .loading ∧
      ScreensApart s ∧ s.eligible i = some (r, h) ∧ s.headEntry h = some e ∧ ((n = .warpPosition x y ∧ r.contains x y = true) ∨ (n
      = .warpComputer h.computer ∧ s.homeScreen h.computer = some i ∧ x = r.x + r.w / 2 ∧ y = r.y + r.h / 2))) ∧
    (∃ (n : Instr) (x y : Nat) (i : ScreenId) (r : Rect) (h : Head) (e : HeadEntry) (s : State), s.profile.state ≠ .loading ∧
      ScreensApart s ∧ s.eligible i = some (r, h) ∧ s.headEntry h = some e ∧ ((n = .warpPosition x y ∧ r.contains x y = true) ∨ (n
      = .warpComputer h.computer ∧ s.homeScreen h.computer = some i ∧ x = r.x + r.w / 2 ∧ y = r.y + r.h / 2)) ∧ s.pointer.focus ≠
      some h.computer) :=
  ⟨⟨6, desk, by decide, by decide⟩,
   ⟨5, desk, by decide, by decide⟩,
   ⟨16384, 0, desk, by decide, by decide⟩,
   ⟨16383, 8191, desk, by decide, by decide, by decide,
     fun i r h e => by
      have k : ∀ i : ScreenId, ∀ p ∈ desk.eligible i, p.1.contains (16383 : Nat) (8191 : Nat) = false := by decide +kernel
      exact k i (r, h) e⟩,
   ⟨.warpComputer 0, 50, 50, 0, ⟨0, 0, 100, 100⟩, ⟨0, 0⟩, ⟨⟨0, 0, 1, 1⟩, false, 0⟩, desk, by decide, desk_screensApart, by decide,
     by decide, by decide⟩,
   ⟨.warpPosition 127 163, 127, 163, 2, ⟨64, 100, 64, 64⟩, ⟨1, 0⟩, ⟨⟨0, 0, 1, 1⟩, true, 4⟩,
     (desk.setScreenRect 2 (some ⟨64, 100, 64, 64⟩)), by decide,
     by
      have h : ∀ i j : ScreenId, ∀ a ∈ (desk.setScreenRect 2 (some ⟨64, 100, 64, 64⟩)).screenRect i, a.fitsPlane = true ∧
          ∀ b ∈ (desk.setScreenRect 2 (some ⟨64, 100, 64, 64⟩)).screenRect j, i ≠ j → a.overlaps b = false := by decide +kernel
      exact ⟨fun i r hr => (h i i r hr).1, fun i j a b n ha hb => (h i j a ha).2 b hb n⟩,
     by decide, by decide, by decide, by decide⟩⟩

theorem test_meets_SpeedGainAndMotion :
    ∃ (b x y _w : Byte) (t0 iv g : Nat) (dx dy : Int) (p : Place) (s : State), s.keyboard.ptrPort.state = .present ∧ s.desk.state
      = .active ∧ s.pointer.place = some p ∧ b &&& 0xE0 = 0 ∧ dx = max (-127) x.toInt ∧ dy = max (-127) y.toInt ∧ iv = (match
      s.pointer.lastInterval with | none => 64000 | some l => max 1000 (min 64000 (max s.now t0 - l))) ∧
      (let v := (dx.natAbs + dy.natAbs) * 8000 / iv; g = if v < s.pointer.t1 then s.pointer.g0 else if v < s.pointer.t2 then
      s.pointer.g1 else if v < s.pointer.t3 then s.pointer.g2 else s.pointer.g3) :=
  ⟨0, 0x80, 1, 0, 1000000, 10000, 56, -127, 1, ⟨0, 50, 50⟩, desk, by decide, by decide, by decide, by decide, by decide, by decide,
    by decide, by decide⟩

theorem test_meets_GlideAtGapsAndOwnScreens :
    (∃ (b x y _w : Byte) (t0 : Nat) (tx ty : Int) (p : Place) (r : Rect) (s : State), s.keyboard.ptrPort.state = .present ∧
      s.desk.state = .active ∧ s.pointer.place = some p ∧ b &&& 0xE0 = 0 ∧ s.screenRect p.screen = some r ∧
      (let g := s.pointer.gain (speed (count x) (count y) (interval s.pointer.lastInterval (max s.now t0))); tx = p.x + axisMotion
      (count x) s.pointer.rx g ∧ ty = p.y + axisMotion (count y) s.pointer.ry g) ∧ r.contains tx ty = false) ∧
    (∃ (b _x _y w : Byte) (_t0 : Nat) (c : Computer) (b5 : ButtonSet) (wheel : Int) (s : State), s.keyboard.ptrPort.state =
      .present ∧ s.desk.state = .active ∧ s.pointer.place.isSome = true ∧ s.pointer.focus = some c ∧ b &&& 0xE0 = 0 ∧ b5 =
      b.setWidth 5 ∧ wheel = max (-127) w.toInt) ∧
    (∃ (b _x _y w : Byte) (_t0 : Nat) (c : Computer) (b5 : ButtonSet) (wheel : Int) (s : State), s.keyboard.ptrPort.state =
      .present ∧ s.desk.state = .active ∧ s.pointer.place.isSome = true ∧ s.pointer.focus = some c ∧ b &&& 0xE0 = 0 ∧ b5 =
      b.setWidth 5 ∧ wheel = max (-127) w.toInt ∧ (s.port c).queue.length = 28) :=
  ⟨⟨0, 0x80, 0, 0, 1000000, -394, 50, ⟨0, 50, 50⟩, ⟨0, 0, 100, 100⟩, desk, by decide, by decide, by decide, by decide, by decide,
     by decide, by decide⟩,
   ⟨0x1F, 0, 0, 0x80, 0, 0, 31, -127, desk, by decide, by decide, by decide, by decide, by decide, by decide, by decide⟩,
   ⟨0, 1, 0, 127, 0, 0, 0, 127, (desk.setPort 0 { desk.port 0 with queue := List.replicate 28 (.pointer 0 0 0 0) }), by decide,
     by decide, by decide, by decide, by decide, by decide, by decide, by decide⟩⟩

theorem test_meets_CrossingsAndTakeClicks :
    (∃ (x y _w : Byte) (t0 excess amount : Nat) (tx ty : Int) (p : Place) (r q : Rect) (i : ScreenId) (h : Head) (s : State),
      s.keyboard.ptrPort.state = .present ∧ s.desk.state = .active ∧ s.pointer.place = some p ∧ s.screenRect p.screen = some r ∧
      (let g := s.pointer.gain (speed (count x) (count y) (interval s.pointer.lastInterval (max s.now t0))); tx = p.x + axisMotion
      (count x) s.pointer.rx g ∧ ty = p.y + axisMotion (count y) s.pointer.ry g) ∧ r.contains tx ty = false ∧ ScreensApart s ∧
      s.eligible i = some (q, h) ∧ q.contains tx ty = true ∧ s.pointer.focus ≠ some h.computer ∧ s.pointer.glideLock = false ∧
      s.powerState h.computer ≠ .absent ∧ (excess : Int) = max (max (r.x - tx) (tx - (r.x + r.w - 1))) (max (r.y - ty) (ty - (r.y
      + r.h - 1))) ∧ amount = min 65535 ((match s.pointer.push with | some o => if o.screen = i then o.amount else 0 | none => 0)
      + excess) ∧ amount < s.pointer.barrier) ∧
    (∃ (x y _w : Byte) (t0 excess amount : Nat) (tx ty : Int) (p : Place) (r q : Rect) (i : ScreenId) (h : Head) (s : State),
      s.keyboard.ptrPort.state = .present ∧ s.desk.state = .active ∧ s.pointer.place = some p ∧ s.screenRect p.screen = some r ∧
      (let g := s.pointer.gain (speed (count x) (count y) (interval s.pointer.lastInterval (max s.now t0))); tx = p.x + axisMotion
      (count x) s.pointer.rx g ∧ ty = p.y + axisMotion (count y) s.pointer.ry g) ∧ r.contains tx ty = false ∧ ScreensApart s ∧
      s.eligible i = some (q, h) ∧ q.contains tx ty = true ∧ s.pointer.focus ≠ some h.computer ∧ s.pointer.glideLock = false ∧
      s.powerState h.computer ≠ .absent ∧ (excess : Int) = max (max (r.x - tx) (tx - (r.x + r.w - 1))) (max (r.y - ty) (ty - (r.y
      + r.h - 1))) ∧ amount = min 65535 ((match s.pointer.push with | some o => if o.screen = i then o.amount else 0 | none => 0)
      + excess) ∧ s.pointer.barrier ≤ amount) ∧
    (∃ (x y _w : Byte) (t0 excess amount : Nat) (tx ty : Int) (p : Place) (r q : Rect) (i : ScreenId) (h : Head) (s : State),
      s.keyboard.ptrPort.state = .present ∧ s.desk.state = .active ∧ s.pointer.place = some p ∧ s.screenRect p.screen = some r ∧
      (let g := s.pointer.gain (speed (count x) (count y) (interval s.pointer.lastInterval (max s.now t0))); tx = p.x + axisMotion
      (count x) s.pointer.rx g ∧ ty = p.y + axisMotion (count y) s.pointer.ry g) ∧ r.contains tx ty = false ∧ ScreensApart s ∧
      s.eligible i = some (q, h) ∧ q.contains tx ty = true ∧ s.pointer.focus ≠ some h.computer ∧ s.pointer.glideLock = false ∧
      s.powerState h.computer ≠ .absent ∧ (excess : Int) = max (max (r.x - tx) (tx - (r.x + r.w - 1))) (max (r.y - ty) (ty - (r.y
      + r.h - 1))) ∧ amount = min 65535 ((match s.pointer.push with | some o => if o.screen = i then o.amount else 0 | none => 0)
      + excess) ∧ s.powerState h.computer = .awake ∧ s.mapPlace ⟨i, tx.toNat, ty.toNat⟩ = some (0, 0) ∧
      s.pointer.lastAbs[h.computer] ≠ (0, 0)) ∧
    (∃ (b _x _y _w : Byte) (_t0 : Nat) (c : Computer) (new : ButtonSet) (s : State), s.keyboard.ptrPort.state = .present ∧
      s.desk.state = .active ∧ s.pointer.place.isSome = true ∧ s.pointer.focus = some c ∧ b &&& 0xE0 = 0 ∧ new = b.setWidth 5 &&&
      ~~~s.pointer.buttons ∧ new ≠ 0) ∧
    (∃ (b _x _y _w : Byte) (_t0 : Nat) (c : Computer) (new : ButtonSet) (s : State), s.keyboard.ptrPort.state = .present ∧
      s.desk.state = .active ∧ s.pointer.place.isSome = true ∧ s.pointer.focus = some c ∧ b &&& 0xE0 = 0 ∧ new = b.setWidth 5 &&&
      ~~~s.pointer.buttons ∧ new ≠ 0 ∧ (s.computer c).guarded = true ∧ s.powerState c ≠ .absent ∧ s.keyboard.focus ≠ c ∧
      (s.computer c).takeClickSwallow = true) ∧
    (∃ (b w : Byte) (_t0 ax ay : Nat) (c : Computer) (p : Place) (new : ButtonSet) (s : State), s.keyboard.ptrPort.state =
      .present ∧ s.desk.state = .active ∧ s.pointer.place = some p ∧ PointerHome s ∧ ButtonsHome s ∧ SwallowInside s ∧
      AccumulatorsFit s ∧ s.mapPlace p = some (ax, ay) ∧ s.pointer.focus = some c ∧ b &&& 0xE0 = 0 ∧ new = b.setWidth 5 &&&
      ~~~s.pointer.buttons ∧ new ≠ 0 ∧ (s.computer c).guarded = true ∧ s.keyboard.focus ≠ c ∧ s.powerState c = .awake ∧
      (s.computer c).takeClickSwallow = false ∧ (s.port c).queue.length < 28 ∧ (s.pointer.lastAbs[c] ≠ (ax, ay) ∨
      b.setWidth 5 &&& ~~~s.pointer.swallow ≠ s.committedButtons c ∨ w ≠ 0)) ∧
    (∃ (b w : Byte) (_t0 ax ay : Nat) (c : Computer) (p : Place) (new : ButtonSet) (s : State), s.keyboard.ptrPort.state =
      .present ∧ s.desk.state = .active ∧ s.pointer.place = some p ∧ PointerHome s ∧ ButtonsHome s ∧ SwallowInside s ∧
      AccumulatorsFit s ∧ s.mapPlace p = some (ax, ay) ∧ s.pointer.focus = some c ∧ b &&& 0xE0 = 0 ∧ new = b.setWidth 5 &&&
      ~~~s.pointer.buttons ∧ new ≠ 0 ∧ (s.computer c).guarded = true ∧ s.keyboard.focus ≠ c ∧ s.powerState c = .awake ∧
      (s.computer c).takeClickSwallow = false ∧ (s.port c).queue.length < 28 ∧ s.pointer.lastAbs[c] = (ax, ay) ∧
      b.setWidth 5 &&& ~~~s.pointer.swallow = s.committedButtons c ∧ w = 0) ∧
    (∃ s : State, s.pointer.push = none) ∧
    (∃ (p : Push) (s : State), s.pointer.push = some p) :=
  ⟨⟨0, 1, 0, 0, 1, 4, 63, 100, ⟨0, 63, 99⟩, ⟨0, 0, 100, 100⟩, ⟨0, 100, 64, 64⟩, 2, ⟨1, 0⟩, (brink 5), by decide, by decide,
     by decide, by decide, by decide, by decide, desk_screensApart, by decide, by decide, by decide, by decide, by decide,
     by decide, by decide, by decide⟩,
   ⟨0, 1, 0, 0, 1, 4, 63, 100, ⟨0, 63, 99⟩, ⟨0, 0, 100, 100⟩, ⟨0, 100, 64, 64⟩, 2, ⟨1, 0⟩, (brink 4), by decide, by decide,
     by decide, by decide, by decide, by decide, desk_screensApart, by decide, by decide, by decide, by decide, by decide,
     by decide, by decide, by decide⟩,
   ⟨0, 1, 0, 0, 1, 4, 63, 100, ⟨0, 63, 99⟩, ⟨0, 0, 100, 100⟩, ⟨0, 100, 64, 64⟩, 2, ⟨1, 0⟩,
     ((brink 4).setPowerRec 1 { desk.powerRec 1 with state := .awake }), by decide, by decide, by decide, by decide, by decide,
     by decide, desk_screensApart, by decide, by decide, by decide, by decide, by decide, by decide, by decide, by decide,
     by decide, by decide⟩,
   ⟨7, 0, 0, 0, 0, 0, 4, desk, by decide, by decide, by decide, by decide, by decide, by decide, by decide⟩,
   ⟨0x13, 0, 0, 0, 0, 0, 0x10, (guarding.setComputerEntry 0 { guarding.computer 0 with takeClickSwallow := true }), by decide,
     by decide, by decide, by decide, by decide, by decide, by decide, by decide, by decide, by decide, by decide⟩,
   ⟨7, 0, 0, 0, 0, 0, ⟨0, 50, 50⟩, 4, guarding, by decide, by decide, by decide,
     ⟨desk_screensApart, ⟨0, 0, 100, 100⟩, ⟨0, 0⟩, by decide +kernel, by decide +kernel, rfl⟩,
     by unfold ButtonsHome; decide +kernel, by unfold SwallowInside; decide +kernel, by unfold AccumulatorsFit; decide +kernel,
     by decide, by decide, by decide, by decide, by decide, by decide, by decide, by decide, by decide, by decide, by decide⟩,
   ⟨7, 0, 0, 0, 0, 0, ⟨0, 50, 50⟩, 4, clicked, by decide, by decide, by decide,
     ⟨desk_screensApart, ⟨0, 0, 100, 100⟩, ⟨0, 0⟩, by decide +kernel, by decide +kernel, rfl⟩,
     by unfold ButtonsHome; decide +kernel, by unfold SwallowInside; decide +kernel, by unfold AccumulatorsFit; decide +kernel,
     by decide, by decide, by decide, by decide, by decide, by decide, by decide, by decide, by decide, by decide, by decide,
     by decide, by decide⟩,
   ⟨desk, by decide⟩,
   ⟨⟨1, 3, ⟨deskTime, 500000⟩⟩, (desk.setPointer { desk.pointer with push := some ⟨1, 3, ⟨deskTime, 500000⟩⟩ }), by decide⟩⟩

theorem test_meets_PointerReportsThatMoveNothing :
    (∃ (_bs : List Byte) (_t0 : Nat) (s : State), s.keyboard.ptrPort.state ≠ .present) ∧
    (∃ (bs : List Byte) (_t0 : Nat) (s : State), s.keyboard.ptrPort.state = .present ∧ (bs.length ≠ 4 ∨ (∃ b x y w, bs = [b, x, y,
      w] ∧ b &&& 0xE0 ≠ 0))) ∧
    (∃ (b _x _y _w : Byte) (_t0 : Nat) (s : State), s.keyboard.ptrPort.state = .present ∧ s.pointer.place = none ∧ b &&& 0xE0 = 0) ∧
    (∃ (b _x _y w : Byte) (_t0 : Nat) (s : State), s.keyboard.ptrPort.state = .present ∧ s.pointer.place = none ∧ b &&& 0xE0 = 0 ∧
      s.desk.state = .active ∧ max (-127) w.toInt = 0 ∧ b.setWidth 5 &&& ~~~s.pointer.swallow = s.delivered) ∧
    (∃ (b _x _y w : Byte) (_t0 : Nat) (s : State), s.keyboard.ptrPort.state = .present ∧ s.pointer.place = none ∧ b &&& 0xE0 = 0 ∧
      s.desk.state = .active ∧ max (-127) w.toInt = 0 ∧ b.setWidth 5 &&& ~~~s.pointer.swallow ≠ s.delivered ∧ b.setWidth 5 &&&
      ~~~s.pointer.swallow = s.committedButtons s.keyboard.focus) ∧
    (∃ (b _x _y w : Byte) (_t0 : Nat) (s : State), s.keyboard.ptrPort.state = .present ∧ s.pointer.place = none ∧ b &&& 0xE0 = 0 ∧
      s.desk.state = .active ∧ max (-127) w.toInt ≠ 0 ∧ b.setWidth 5 &&& ~~~s.pointer.swallow = s.delivered) ∧
    (∃ (b _x _y w : Byte) (_t0 : Nat) (s : State), s.keyboard.ptrPort.state = .present ∧ s.pointer.place = none ∧ b &&& 0xE0 = 0 ∧
      s.desk.state = .active ∧ max (-127) w.toInt = 0 ∧ b.setWidth 5 &&& ~~~s.pointer.swallow ≠ s.delivered ∧ b.setWidth 5 &&&
      ~~~s.pointer.swallow ≠ s.committedButtons s.keyboard.focus) ∧
    (∃ (b x y _w : Byte) (_t0 m : Nat) (s : State), s.keyboard.ptrPort.state = .present ∧ s.desk.state ≠ .active ∧ b &&& 0xE0 = 0
      ∧ m = (max (-127) x.toInt).natAbs + (max (-127) y.toInt).natAbs) ∧
    (∃ (b x y _w : Byte) (_t0 m : Nat) (s : State), s.keyboard.ptrPort.state = .present ∧ s.desk.state ≠ .active ∧ b &&& 0xE0 = 0
      ∧ m = (max (-127) x.toInt).natAbs + (max (-127) y.toInt).natAbs ∧ s.delivered &&& b.setWidth 5 ≠ s.delivered ∧ s.delivered
      &&& b.setWidth 5 ≠ s.committedButtons s.standIn ∧ s.desk.resumeWake = false) ∧
    (∃ (b x y _w : Byte) (_t0 m : Nat) (s : State), s.keyboard.ptrPort.state = .present ∧ s.desk.state ≠ .active ∧ b &&& 0xE0 = 0
      ∧ m = (max (-127) x.toInt).natAbs + (max (-127) y.toInt).natAbs ∧ s.delivered &&& b.setWidth 5 ≠ s.delivered ∧ s.delivered
      &&& b.setWidth 5 = s.committedButtons s.standIn) ∧
    (∃ (b x y _w : Byte) (_t0 m : Nat) (s : State), s.keyboard.ptrPort.state = .present ∧ s.desk.state ≠ .active ∧ b &&& 0xE0 = 0
      ∧ m = (max (-127) x.toInt).natAbs + (max (-127) y.toInt).natAbs ∧ s.delivered &&& b.setWidth 5 = s.delivered) ∧
    (∃ (b x y _w : Byte) (_t0 m sum : Nat) (s : State), s.keyboard.ptrPort.state = .present ∧ s.desk.state = .active ∧ b &&& 0xE0
      = 0 ∧ m = (max (-127) x.toInt).natAbs + (max (-127) y.toInt).natAbs ∧ sum = m + ((s.desk.window.map MotionWindow.sum).getD
      0)) ∧
    (∃ (b x y _w : Byte) (_t0 m sum : Nat) (s : State), s.keyboard.ptrPort.state = .present ∧ s.desk.state = .active ∧ b &&& 0xE0
      = 0 ∧ m = (max (-127) x.toInt).natAbs + (max (-127) y.toInt).natAbs ∧ sum = m + ((s.desk.window.map MotionWindow.sum).getD
      0) ∧ s.desk.deadZone ≤ sum) ∧
    (∃ (b x y _w : Byte) (_t0 m sum : Nat) (s : State), s.keyboard.ptrPort.state = .present ∧ s.desk.state = .active ∧ b &&& 0xE0
      = 0 ∧ m = (max (-127) x.toInt).natAbs + (max (-127) y.toInt).natAbs ∧ sum = m + ((s.desk.window.map MotionWindow.sum).getD
      0) ∧ sum < s.desk.deadZone ∧ m ≠ 0) :=
  ⟨⟨[0, 0, 0, 0], 0, State.reset, by decide⟩,
   ⟨[0x20, 0, 0, 0], 0, desk, by decide, Or.inr ⟨0x20, 0, 0, 0, rfl, by decide⟩⟩,
   ⟨0x1F, 0, 0, 0, 0, (desk.setPointer { desk.pointer with place := none, focus := none }), by decide, by decide, by decide⟩,
   ⟨1, 0, 0, 0, 0, ((desk.setPointer { desk.pointer with place := none, focus := none })), by decide, by decide, by decide,
     by decide, by decide, by decide⟩,
   ⟨0, 0, 0, 0, 0,
     ((desk.setPointer { desk.pointer with place := none, focus := none }).setPort 0 { desk.port 0 with buttons := 0 }),
     by decide, by decide, by decide, by decide, by decide, by decide, by decide⟩,
   ⟨3, 0, 0, 0x80, 0, ((desk.setPointer { desk.pointer with place := none, focus := none })), by decide, by decide, by decide,
     by decide, by decide, by decide⟩,
   ⟨0x1D, 0, 0, 0, 0, ((desk.setPointer { desk.pointer with place := none, focus := none })), by decide, by decide, by decide,
     by decide, by decide, by decide, by decide⟩,
   ⟨0x1F, 0x80, 0, 0, 0, 127, (desk.setDesk { desk.desk with state := .off, idleStart := none }), by decide, by decide, by decide,
     by decide⟩,
   ⟨0, 0, 0, 0, 0, 0, ((desk.setDesk { desk.desk with state := .standby })), by decide, by decide, by decide, by decide, by decide,
     by decide, by decide⟩,
   ⟨0, 0, 0, 0, 0, 0, ((desk.setDesk { desk.desk with state := .standby }).setPort 0 { desk.port 0 with buttons := 0 }), by decide,
     by decide, by decide, by decide, by decide, by decide⟩,
   ⟨3, 0, 0, 0, 0, 0, ((desk.setDesk { desk.desk with state := .standby })), by decide, by decide, by decide, by decide, by decide⟩,
   ⟨0x1F, 0, 0, 0, 0, 0, 0, desk, by decide, by decide, by decide, by decide, by decide⟩,
   ⟨3, 0x80, 0, 0, 0, 127, 255, (desk.setDesk { desk.desk with deadZone := 255, window := some ⟨128, ⟨deskTime, 500000⟩⟩ }),
     by decide, by decide, by decide, by decide, by decide, by decide⟩,
   ⟨3, 0, 126, 0, 0, 126, 254, (desk.setDesk { desk.desk with deadZone := 255, window := some ⟨128, ⟨deskTime, 500000⟩⟩ }),
     by decide, by decide, by decide, by decide, by decide, by decide, by decide⟩⟩

theorem test_meets_StateReads :
    (∃ (_i : ScreenId) (s : State), s.profile.state ≠ .loading) ∧
    (∃ s : State, s.profile.state ≠ .loading) ∧
    (∃ s : State, s.profile.state ≠ .loading) ∧
    (∃ (_m : MapNo) (s : State), s.profile.state ≠ .loading) ∧
    (∃ s : State, s.profile.state ≠ .loading) ∧
    (∃ s : State, s.profile.state ≠ .loading) ∧
    (∃ (_c : Computer) (s : State), s.profile.state ≠ .loading) ∧
    (∃ (_n : Nat) (s : State), s.profile.state ≠ .loading) :=
  ⟨⟨7, desk, by decide⟩,
   ⟨desk, by decide⟩,
   ⟨desk, by decide⟩,
   ⟨3, desk, by decide⟩,
   ⟨desk, by decide⟩,
   ⟨desk, by decide⟩,
   ⟨5, desk, by decide⟩,
   ⟨8, desk, by decide⟩⟩

theorem test_meets_SetFocusMovesTheKeys :
    (∃ (n sc : Nat) (s : State), s.profile.state ≠ .loading ∧ (6 ≤ n ∨ 2 ≤ sc)) ∧
    (∃ (c : Computer) (_both : Bool) (s : State), s.profile.state ≠ .loading ∧ s.powerState c = .absent) ∧
    (∃ s : State, s.profile.state ≠ .loading ∧ s.powerState s.keyboard.focus ≠ .absent) ∧
    (∃ (c : Computer) (s : State), s.profile.state ≠ .loading ∧ s.powerState c ≠ .absent ∧ s.keyboard.focus ≠ c ∧ KeysHome s ∧
      ButtonsHome s) ∧
    (∃ (c : Computer) (s : State), s.profile.state ≠ .loading ∧ s.powerState c ≠ .absent) ∧
    (∃ (c : Computer) (s : State), s.profile.state ≠ .loading ∧ s.powerState c ≠ .absent ∧ s.homeScreen c = some 2) :=
  ⟨⟨5, 2, desk, by decide, by decide⟩,
   ⟨5, true, desk, by decide, by decide⟩,
   ⟨desk, by decide, by decide⟩,
   ⟨1, desk, by decide, by decide, by decide, desk_keys, desk_buttons⟩,
   ⟨1, desk, by decide, by decide⟩,
   ⟨1, desk, by decide, by decide, by decide⟩⟩

theorem test_meets_KeySettings :
    (∃ (m : Nat) (pairs : List (Nat × Nat)) (s : State), s.profile.state = .ready ∧ (4 ≤ m ∨ 64 < pairs.length ∨ (∃ p ∈ pairs, ¬(2
      ≤ p.1 ∧ p.1 ≤ 223) ∨ ¬(p.2 = 0 ∨ (2 ≤ p.2 ∧ p.2 ≤ 223))))) ∧
    (∃ (_m : MapNo) (pairs : List (Nat × Nat)) (s : State), s.profile.state = .ready ∧ pairs.length ≤ 64 ∧ (∀ p ∈ pairs, 2 ≤ p.1 ∧
      p.1 ≤ 223 ∧ (p.2 = 0 ∨ (2 ≤ p.2 ∧ p.2 ≤ 223))) ∧ ¬(pairs.map Prod.fst).Nodup) ∧
    (∃ (_m : MapNo) (pairs : List (Nat × Nat)) (s : State), s.profile.state = .ready ∧ pairs.length ≤ 64 ∧ (∀ p ∈ pairs, 2 ≤ p.1 ∧
      p.1 ≤ 223 ∧ (p.2 = 0 ∨ (2 ≤ p.2 ∧ p.2 ≤ 223))) ∧ (pairs.map Prod.fst).Nodup) ∧
    (∃ (m : MapNo) (pairs : List (Nat × Nat)) (s : State), s.profile.state = .ready ∧ pairs.length ≤ 64 ∧ (∀ p ∈ pairs, 2 ≤ p.1 ∧
      p.1 ≤ 223 ∧ (p.2 = 0 ∨ (2 ≤ p.2 ∧ p.2 ≤ 223))) ∧ (pairs.map Prod.fst).Nodup ∧ (s.computer s.keyboard.focus).keymap = some m) ∧
    (∃ (_l k _w : Nat) (s : State), s.profile.state = .ready ∧ (k < 2 ∨ 223 < k)) ∧
    (∃ (_l k _w : Nat) (s : State), s.profile.state = .ready ∧ 2 ≤ k ∧ k ≤ 223) ∧
    (∃ (l k _w : Nat) (s : State), s.profile.state = .ready ∧ 2 ≤ k ∧ k ≤ 223 ∧ l = 0) ∧
    (∃ (l k _w : Nat) (s : State), s.profile.state = .ready ∧ 2 ≤ k ∧ k ≤ 223 ∧ l ≠ 0 ∧ s.keyboard.stuckLimit = 0) :=
  ⟨⟨3, List.replicate 65 (2, 0), desk, by decide, by decide⟩,
   ⟨3, [(223, 0), (223, 2)], desk, by decide, by decide, by decide, by decide⟩,
   ⟨3, [(223, 0), (2, 223)], desk, by decide, by decide, by decide, by decide⟩,
   ⟨3, [], (desk.setComputerEntry 0 { desk.computer 0 with keymap := some 3 }), by decide, by decide, by decide, by decide,
     by decide⟩,
   ⟨255, 224, 65535, desk, by decide, by decide⟩,
   ⟨255, 223, 65535, desk, by decide, by decide, by decide⟩,
   ⟨0, 2, 0, desk, by decide, by decide, by decide, by decide⟩,
   ⟨1, 2, 0, (desk.setKeyboard { desk.keyboard with stuckLimit := 0 }), by decide, by decide, by decide, by decide, by decide⟩⟩

theorem test_meets_DeskDevicesComeAndGo :
    (∃ (p : DeskPort) (s : State), (s.deskPort p).attached = true) ∧
    (∃ s : State, s.keyboard.kbPort.attached = false ∧ s.keyboard.kbPort.state = .absent) ∧
    (∃ s : State, s.keyboard.ptrPort.attached = false ∧ s.keyboard.ptrPort.state = .absent) ∧
    (∃ (p : DeskPort) (s : State), (s.deskPort p).attached = false ∧ (s.deskPort p).state = .disabled) ∧
    (∃ (p : DeskPort) (s : State), (s.deskPort p).attached = false) ∧
    (∃ (p : DeskPort) (s : State), (s.deskPort p).attached = true ∧ (s.deskPort p).state = .disabled) ∧
    (∃ s : State, KeysHome s ∧ s.keyboard.kbPort.attached = true ∧ s.keyboard.kbPort.state = .present) ∧
    (∃ s : State, ButtonsHome s ∧ s.keyboard.ptrPort.attached = true ∧ s.keyboard.ptrPort.state = .present) :=
  ⟨⟨.keyboard, desk, by decide⟩,
   ⟨State.reset, by decide, by decide⟩,
   ⟨State.reset, by decide, by decide⟩,
   ⟨.keyboard, (desk.setKeyboard { desk.keyboard with kbPort := ⟨.disabled, false, none⟩ }), by decide, by decide⟩,
   ⟨.pointer, State.reset, by decide⟩,
   ⟨.keyboard, (desk.setKeyboard { desk.keyboard with kbPort := ⟨.disabled, true, none⟩ }), by decide, by decide⟩,
   ⟨desk, desk_keys, by decide, by decide⟩,
   ⟨desk, desk_buttons, by decide, by decide⟩⟩

theorem test_meets_DeskPortRecords :
    (∃ (n : Nat) (s : State), s.profile.state ≠ .loading ∧ 2 ≤ n) ∧
    (∃ (n : Nat) (p : DeskPort) (s : State), s.profile.state ≠ .loading ∧ ((n = 0 ∧ p = .keyboard) ∨ (n = 1 ∧ p = .pointer))) ∧
    (∃ s : State, s.profile.state ≠ .loading ∧ KeysHome s ∧ s.keyboard.kbPort.state = .present) ∧
    (∃ s : State, s.profile.state ≠ .loading ∧ ButtonsHome s ∧ s.keyboard.ptrPort.state = .present) :=
  ⟨⟨2, desk, by decide, by decide⟩,
   ⟨1, .pointer, desk, by decide, by decide⟩,
   ⟨desk, by decide, desk_keys, by decide⟩,
   ⟨desk, by decide, desk_buttons, by decide⟩⟩

theorem test_meets_KeyReportsDefineTheHeldSet :
    (∃ (_m : Byte) (slots : List Byte), slots.length = 6 ∧ (∀ k ∈ slots, k.toNat < 224 ∧ k ≠ 1)) ∧
    (∃ (_bs : List Byte) (_t0 : Nat) (s : State), s.keyboard.kbPort.state ≠ .present) ∧
    (∃ (bs : List Byte) (_t0 : Nat) (s : State), s.keyboard.kbPort.state = .present ∧ KeyReport.parse bs = .malformed) ∧
    (∃ (bs : List Byte) (_t0 : Nat) (s : State), s.keyboard.kbPort.state = .present ∧ KeyReport.parse bs = .rollover) ∧
    (∃ (bs : List Byte) (codes : List Nat) (_t0 : Nat) (s : State), s.keyboard.kbPort.state = .present ∧ KeyReport.parse bs =
      .keys codes) :=
  ⟨⟨0xFF, [0, 2, 223, 2, 0, 0], by decide, by decide⟩,
   ⟨[0, 0, 10, 0, 0, 0, 0], 0, State.reset, by decide⟩,
   ⟨[0, 224, 0, 0, 0, 0, 0], 0, desk, by decide, by decide⟩,
   ⟨[0, 1, 1, 1, 1, 1, 1], 0, desk, by decide, by decide⟩,
   ⟨[0x80, 10, 223, 0, 0, 0, 0], [231, 10, 223], 0, desk, by decide, by decide⟩⟩

theorem test_meets_PressReachesTheFocusComputer :
    (∃ (k : Byte) (_t0 : Nat) (c : Computer) (s : State), s.keyboard.kbPort.state = .present ∧ s.desk.state = .active ∧
      s.keyboard.held = [] ∧ s.matcher.state = .idle ∧ (∀ n, s.entry n = none) ∧ s.keyboard.focus = c ∧ (s.computer c).keymap =
      none ∧ (s.committedKeys c).isEmpty = true ∧ 2 ≤ k.toNat ∧ k.toNat ≤ 223) ∧
    (∃ (k : Byte) (_t0 : Nat) (c : Computer) (s : State), s.keyboard.kbPort.state = .present ∧ s.desk.state = .active ∧
      s.keyboard.held = [] ∧ s.matcher.state = .idle ∧ (∀ n, s.entry n = none) ∧ s.keyboard.focus = c ∧ (s.computer c).keymap =
      none ∧ (s.committedKeys c).isEmpty = true ∧ 2 ≤ k.toNat ∧ k.toNat ≤ 223 ∧ s.powerState c = .awake ∧ (s.port c).queue.length
      = 27) ∧
    (∃ (k : Byte) (_t0 : Nat) (c : Computer) (s : State), s.keyboard.kbPort.state = .present ∧ s.desk.state = .active ∧
      s.keyboard.held = [] ∧ s.matcher.state = .idle ∧ (∀ n, s.entry n = none) ∧ s.keyboard.focus = c ∧ (s.computer c).keymap =
      none ∧ (s.committedKeys c).isEmpty = true ∧ 2 ≤ k.toNat ∧ k.toNat ≤ 223 ∧ s.powerState c = .awake ∧ (s.port c).queue.length
      = 28) ∧
    (∃ (k : Byte) (_t0 : Nat) (c : Computer) (s : State), s.keyboard.kbPort.state = .present ∧ s.desk.state = .active ∧
      s.keyboard.held = [] ∧ s.matcher.state = .idle ∧ (∀ n, s.entry n = none) ∧ s.keyboard.focus = c ∧ (s.computer c).keymap =
      none ∧ (s.committedKeys c).isEmpty = true ∧ 2 ≤ k.toNat ∧ k.toNat ≤ 223 ∧ s.powerState c = .asleep ∧ (s.computer c).holdDrop
      = false ∧ (s.port c).queue.length < 28) ∧
    (∃ (_t0 : Nat) (r : HeldKey) (c : Computer) (s : State), s.keyboard.kbPort.state = .present ∧ s.keyboard.held = [r] ∧
      s.matcher.state = .idle ∧ s.matcher.slot = none ∧ s.keyboard.focus = c ∧ s.powerState c = .awake ∧ (s.committedKeys
      c).isEmpty = false ∧ (s.port c).queue.length < 32) ∧
    (∃ (k : Byte) (_t0 : Nat) (s : State), s.keyboard.kbPort.state = .present ∧ s.desk.state ≠ .active ∧ s.keyboard.held = [] ∧ 2
      ≤ k.toNat ∧ k.toNat ≤ 223) ∧
    (∃ (k : Byte) (_t0 : Nat) (s : State), s.keyboard.kbPort.state = .present ∧ s.desk.state ≠ .active ∧ s.keyboard.held = [] ∧ 2
      ≤ k.toNat ∧ k.toNat ≤ 223 ∧ s.desk.resumeWake = true ∧ s.powerState s.keyboard.focus = .asleep ∧ (s.port
      s.keyboard.focus).permission = true) ∧
    (∃ (k : Byte) (_t0 : Nat) (s : State), s.keyboard.kbPort.state = .present ∧ s.desk.state ≠ .active ∧ s.keyboard.held = [] ∧ 2
      ≤ k.toNat ∧ k.toNat ≤ 223 ∧ s.desk.resumeWake = true ∧ s.powerState s.keyboard.focus = .asleep ∧ (s.port
      s.keyboard.focus).permission = false ∧ (s.computer s.keyboard.focus).wakeLine = false) ∧
    (∃ (k : Byte) (_t0 : Nat) (s : State), s.keyboard.kbPort.state = .present ∧ s.desk.state ≠ .active ∧ s.keyboard.held = [] ∧ 2
      ≤ k.toNat ∧ k.toNat ≤ 223 ∧ s.desk.resumeWake = true ∧ s.powerState s.keyboard.focus = .unresponsive ∧ (s.port
      s.keyboard.focus).permission = true) ∧
    (∃ (k : Byte) (_t0 : Nat) (s : State), s.keyboard.kbPort.state = .present ∧ s.desk.state ≠ .active ∧ s.keyboard.held = [] ∧ 2
      ≤ k.toNat ∧ k.toNat ≤ 223 ∧ s.desk.resumeWake = true ∧ s.powerState s.keyboard.focus = .unresponsive ∧ (s.port
      s.keyboard.focus).permission = false ∧ (s.computer s.keyboard.focus).wakeLine = false) :=
  ⟨⟨223, 0, 0,
     { desk with keyboard := { desk.keyboard with held := [] }, matcher := { desk.matcher with table := Vector.replicate 32 none }, ports := desk.ports.set 0 { desk.port 0 with keys := ⟨0, []⟩ } },
     by decide, by decide, by decide, by decide, by decide, by decide, by decide, by decide, by decide, by decide⟩,
   ⟨2, 0, 0,
     { desk with keyboard := { desk.keyboard with held := [] }, matcher := { desk.matcher with table := Vector.replicate 32 none }, ports := desk.ports.set 0 { desk.port 0 with keys := ⟨0, []⟩, queue := List.replicate 27 (.pointer 0 0 0 0) }, power := desk.power.set 0 { PowerRec.reset with state := .awake } },
     by decide, by decide, by decide, by decide, by decide, by decide, by decide, by decide, by decide, by decide, by decide,
     by decide⟩,
   ⟨2, 0, 0,
     { desk with keyboard := { desk.keyboard with held := [] }, matcher := { desk.matcher with table := Vector.replicate 32 none }, ports := desk.ports.set 0 { desk.port 0 with keys := ⟨0, []⟩, queue := List.replicate 28 (.pointer 0 0 0 0) }, power := desk.power.set 0 { PowerRec.reset with state := .awake } },
     by decide, by decide, by decide, by decide, by decide, by decide, by decide, by decide, by decide, by decide, by decide,
     by decide⟩,
   ⟨2, 0, 0,
     { desk with keyboard := { desk.keyboard with held := [] }, matcher := { desk.matcher with table := Vector.replicate 32 none }, ports := desk.ports.set 0 { desk.port 0 with keys := ⟨0, []⟩, queue := List.replicate 27 (.pointer 0 0 0 0) }, power := desk.power.set 0 { PowerRec.reset with state := .asleep } },
     by decide, by decide, by decide, by decide, by decide, by decide, by decide, by decide, by decide, by decide, by decide,
     by decide, by decide⟩,
   ⟨0, ⟨10, 900000, false, false, false, false, some ⟨900000, 30000000⟩⟩, 0, desk, by decide, by decide, by decide, by decide,
     by decide, by decide, by decide, by decide⟩,
   ⟨2, 0, (desk.setHeld []).setDesk { desk.desk with state := .standby }, by decide, by decide, by decide, by decide, by decide⟩,
   ⟨223, 0,
     (((desk.setKeyboard { desk.keyboard with focus := 1, held := [] }).setDesk { desk.desk with state := .standby, resumeWake := true })),
     by decide, by decide, by decide, by decide, by decide, by decide, by decide, by decide⟩,
   ⟨223, 0,
     (((desk.setKeyboard { desk.keyboard with focus := 1, held := [] }).setDesk { desk.desk with state := .standby, resumeWake := true }).setPort 1 { desk.port 1 with permission := false }),
     by decide, by decide, by decide, by decide, by decide, by decide, by decide, by decide, by decide⟩,
   ⟨223, 0,
     (((desk.setKeyboard { desk.keyboard with focus := 1, held := [] }).setDesk { desk.desk with state := .standby, resumeWake := true }).setPowerRec 1 { desk.powerRec 1 with state := .unresponsive }),
     by decide, by decide, by decide, by decide, by decide, by decide, by decide, by decide⟩,
   ⟨223, 0,
     ((((desk.setKeyboard { desk.keyboard with focus := 1, held := [] }).setDesk { desk.desk with state := .standby, resumeWake := true }).setPort 1 { desk.port 1 with permission := false }).setPowerRec 1 { desk.powerRec 1 with state := .unresponsive }),
     by decide, by decide, by decide, by decide, by decide, by decide, by decide, by decide, by decide⟩⟩

theorem test_meets_StuckAndWindowTimers :
    (∃ (k : Nat) (s : State), (∀ r ∈ s.keyboard.held, r.code = k → r.timer = none)) ∧
    (∃ (k : Nat) (r : HeldKey) (tm : Timer) (s : State), HeldSetFits s ∧ r ∈ s.keyboard.held ∧ r.code = k ∧ r.timer = some tm) ∧
    (∃ s : State, s.matcher.timer = none) ∧
    (∃ (tm : Timer) (s : State), s.matcher.timer = some tm ∧ (s.matcher.state = .armed ∨ s.matcher.state = .second)) ∧
    (∃ (tm : Timer) (k : Nat) (c : Computer) (s : State), s.matcher.timer = some tm ∧ s.matcher.state = .armed ∧ s.matcher.attempt
      = some k ∧ s.keyboard.focus = c ∧ s.powerState c = .awake ∧ (s.computer c).keymap = none ∧ s.keyboard.held = [] ∧
      (s.committedKeys c).isEmpty = true ∧ (s.port c).queue.length < 28) ∧
    (∃ (tm : Timer) (k k1 : Nat) (c : Computer) (s : State), s.matcher.timer = some tm ∧ s.matcher.state = .second ∧
      s.matcher.attempt = some k ∧ s.matcher.first = some ⟨k1, false⟩ ∧ FocusReady c s ∧ (∀ q ∈ s.keyboard.held, q.delivering =
      false)) ∧
    (∃ (tm : Timer) (k k1 : Nat) (r : HeldKey) (before after : List HeldKey) (c : Computer) (s : State), s.matcher.timer = some tm
      ∧ s.matcher.state = .second ∧ s.matcher.attempt = some k ∧ s.matcher.first = some ⟨k1, true⟩ ∧ FocusReady c s ∧ 2 ≤ k1 ∧ k1
      ≤ 223 ∧ s.keyboard.held = before ++ r :: after ∧ r = pressed k1 r.pressed false true ∧ (∀ q ∈ before ++ after, q.code ≠ k1 ∧
      q.delivering = false) ∧ k1 = 2) ∧
    (∃ (tm : Timer) (k k1 : Nat) (r : HeldKey) (before after : List HeldKey) (c : Computer) (s : State), s.matcher.timer = some tm
      ∧ s.matcher.state = .second ∧ s.matcher.attempt = some k ∧ s.matcher.first = some ⟨k1, true⟩ ∧ FocusReady c s ∧ 2 ≤ k1 ∧ k1
      ≤ 223 ∧ s.keyboard.held = before ++ r :: after ∧ r = pressed k1 r.pressed false true ∧ (∀ q ∈ before ++ after, q.code ≠ k1 ∧
      q.delivering = false) ∧ k1 = 223) :=
  ⟨⟨11, desk, by decide⟩,
   ⟨10, ⟨10, 900000, false, false, false, false, some ⟨900000, 30000000⟩⟩, ⟨900000, 30000000⟩, desk, desk_held, by decide,
     by decide, by decide⟩,
   ⟨desk, by decide⟩,
   ⟨⟨deskTime, 1500000⟩,
     { desk with keyboard := { desk.keyboard with held := [] }, matcher := { desk.matcher with state := .armed, attempt := some 71, timer := some ⟨deskTime, 1500000⟩ }, ports := desk.ports.set 0 { desk.port 0 with keys := ⟨0, []⟩ } },
     by decide, by decide⟩,
   ⟨⟨deskTime, 1500000⟩, 71, 0,
     { desk with keyboard := { desk.keyboard with held := [] }, matcher := { desk.matcher with state := .armed, attempt := some 71, timer := some ⟨deskTime, 1500000⟩ }, ports := desk.ports.set 0 { desk.port 0 with keys := ⟨0, []⟩ } },
     by decide, by decide, by decide, by decide, by decide, by decide, by decide, by decide, by decide⟩,
   ⟨⟨deskTime, 1500000⟩, 71, 223, 0,
     (typing [] { desk.matcher with state := .second, attempt := some 71, first := some ⟨223, false⟩, timer := some ⟨deskTime, 1500000⟩ }),
     by decide, by decide, by decide, by decide, by unfold FocusReady; decide +kernel, by decide⟩,
   ⟨⟨deskTime, 1500000⟩, 71, 2, pressed 2 0 false true, [], [pressed 20 0 true false], 0,
     (typing [pressed 2 0 false true, pressed 20 0 true false] { desk.matcher with state := .second, attempt := some 71, first := some ⟨2, true⟩, timer := some ⟨deskTime, 1500000⟩ }),
     by decide, by decide, by decide, by decide, by unfold FocusReady; decide +kernel, by decide, by decide, by decide, by decide,
     by decide, by decide⟩,
   ⟨⟨deskTime, 1500000⟩, 71, 223, pressed 223 0 false true, [], [pressed 20 0 true false], 0,
     (typing [pressed 223 0 false true, pressed 20 0 true false] { desk.matcher with state := .second, attempt := some 71, first := some ⟨223, true⟩, timer := some ⟨deskTime, 1500000⟩ }),
     by decide, by decide, by decide, by decide, by unfold FocusReady; decide +kernel, by decide, by decide, by decide, by decide,
     by decide, by decide⟩⟩

theorem test_meets_HotkeyTableRules :
    (∃ (n : Nat) (r : RawHotkey) (s : State), s.profile.state = .ready ∧ ((32 ≤ n ∧ n ≠ 255) ∨ ¬HotkeyInRange r)) ∧
    (∃ (n : Nat) (m : EntryNo) (a : Hotkey) (r : RawHotkey) (s : State), s.profile.state = .ready ∧ (n < 32 ∨ n = 255) ∧
      HotkeyInRange r ∧ s.entry m = some a ∧ n ≠ m.val ∧ TriggersMeet a.trigger r) ∧
    (∃ (r : RawHotkey) (s : State), s.profile.state = .ready ∧ HotkeyInRange r ∧ (∀ m : EntryNo, ∃ a, s.entry m = some a ∧
      ¬TriggersMeet a.trigger r)) ∧
    (∃ (n : Nat) (m : EntryNo) (r : RawHotkey) (s : State), s.profile.state = .ready ∧ HotkeyInRange r ∧ (n = m.val ∨ (n = 255 ∧
      s.entry m = none ∧ ∀ k : EntryNo, k < m → s.entry k ≠ none)) ∧ (∀ (k : EntryNo) (a : Hotkey), s.entry k = some a → n ≠ k.val
      → ¬TriggersMeet a.trigger r)) ∧
    (∃ (n : Nat) (_s : State), 32 ≤ n) ∧
    (∃ (m : EntryNo) (s : State), s.profile.state = .ready ∧ s.entry m = none) ∧
    (∃ (m : EntryNo) (s : State), s.profile.state = .ready ∧ s.entry m ≠ none) :=
  ⟨⟨254, ⟨1, 15, 223, 0, 8, 0, 0, 1⟩, desk, by decide, by unfold HotkeyInRange TriggerInRange ActionInRange; decide⟩,
   ⟨255, 31, ⟨.two 5 6, .report, true⟩, ⟨2, 1, 5, 0, 8, 0, 0, 1⟩, desk, by decide, by decide,
     by unfold HotkeyInRange TriggerInRange ActionInRange; decide, by decide, by decide, by unfold TriggersMeet; decide⟩,
   ⟨⟨3, 7, 1, 0, 1, 5, 1, 0⟩,
     (desk.setMatcher { desk.matcher with table := Vector.ofFn fun k => some ⟨.one (2 + k.val), .report, true⟩ }), by decide,
     by unfold HotkeyInRange TriggerInRange ActionInRange; decide,
     fun m =>
      (show ∀ m : EntryNo, ∃ a ∈ (desk.setMatcher { desk.matcher with table := Vector.ofFn fun k => some ⟨.one (2 + k.val), .report, true⟩ }).entry m, ¬TriggersMeet a.trigger ⟨3, 7, 1, 0, 1, 5, 1, 0⟩ from
        fun m => ⟨⟨.one (2 + m.val), .report, true⟩, by revert m; decide +kernel, by simp [TriggersMeet]⟩) m⟩,
   ⟨255, 1, ⟨1, 15, 223, 0, 8, 0, 0, 1⟩, desk, by decide, by unfold HotkeyInRange TriggerInRange ActionInRange; decide, by decide,
     fun k a e _ m => by
      have h : ∀ k : EntryNo, ∀ a ∈ desk.entry k, a.trigger = .chord 3 20 ∨ a.trigger = .two 5 6 := by decide +kernel
      rcases h k a e with q | q <;> rw [q] at m <;> revert m <;> simp [TriggersMeet]⟩,
   ⟨32, desk, by decide⟩,
   ⟨30, desk, by decide, by decide⟩,
   ⟨31, desk, by decide, by decide⟩⟩

theorem test_meets_RunActionRequests :
    (∃ (k a b : Nat) (s : State), s.profile.state ≠ .loading ∧ (k = 3 ∨ ¬ActionInRange k a b)) ∧
    (∃ (_c : Computer) (_both : Bool) (s : State), s.profile.state ≠ .loading) ∧
    (∃ (c : Computer) (_both : Bool) (s : State), s.profile.state ≠ .loading ∧ s.powerState c ≠ .absent) ∧
    (∃ (_previous : Bool) (s : State), s.profile.state ≠ .loading ∧ (∀ c : Computer, c ≠ s.keyboard.focus → s.powerState c =
      .absent)) ∧
    (∃ (previous : Bool) (n : Nat) (c : Computer) (s : State), s.profile.state ≠ .loading ∧ 1 ≤ n ∧ n ≤ 5 ∧ c.val = (if previous
      then s.keyboard.focus.val + 6 - n else s.keyboard.focus.val + n) % 6 ∧ s.powerState c ≠ .absent ∧ (∀ (m : Nat) (d :
      Computer), 1 ≤ m → m < n → d.val = (if previous then s.keyboard.focus.val + 6 - m else s.keyboard.focus.val + m) % 6 →
      s.powerState d = .absent)) ∧
    (∃ (previous : Bool) (n : Nat) (c : Computer) (s : State), s.profile.state ≠ .loading ∧ 1 ≤ n ∧ n ≤ 5 ∧ c.val = (if previous
      then s.keyboard.focus.val + 6 - n else s.keyboard.focus.val + n) % 6 ∧ s.powerState c ≠ .absent ∧ (∀ (m : Nat) (d :
      Computer), 1 ≤ m → m < n → d.val = (if previous then s.keyboard.focus.val + 6 - m else s.keyboard.focus.val + m) % 6 →
      s.powerState d = .absent) ∧ previous = false) ∧
    (∃ (_n : SceneNo) (s : State), s.profile.state ≠ .loading) ∧
    (∃ (n : SceneNo) (s : State), s.profile.state ≠ .loading ∧ s.scene n ≠ none) ∧
    (∃ (_c : Computer) (s : State), s.profile.state ≠ .loading) ∧
    (∃ (c : Computer) (s : State), s.profile.state ≠ .loading ∧ s.powerState c = .absent) ∧
    (∃ (c : Computer) (s : State), s.profile.state ≠ .loading ∧ s.powerState c = .starting) ∧
    (∃ (c : Computer) (s : State), s.profile.state ≠ .loading ∧ s.powerState c = .unresponsive) ∧
    (∃ s : State, s.profile.state ≠ .loading) :=
  ⟨⟨3, 0, 0, desk, by decide, by unfold ActionInRange; decide⟩,
   ⟨5, true, desk, by decide⟩,
   ⟨1, false, desk, by decide, by decide⟩,
   ⟨true, { desk with power := Vector.replicate 6 .reset }, by decide, by decide⟩,
   ⟨true, 5, 1, desk, by decide, by decide, by decide, by decide, by decide,
     fun m d => by
      have h : ∀ m : Fin 5, ∀ d : Computer, 1 ≤ m.val → d.val = (desk.keyboard.focus.val + 6 - m.val) % 6 → desk.powerState d = .absent := by decide +kernel
      exact fun a b e => h ⟨m, b⟩ d a e⟩,
   ⟨false, 1, 1, desk, by decide, by decide, by decide, by decide, by decide, fun m d a b => absurd a (by omega), by decide⟩,
   ⟨15, desk, by decide⟩,
   ⟨0, desk, by decide, by decide⟩,
   ⟨5, desk, by decide⟩,
   ⟨0, (desk.setPowerRec 0 { desk.powerRec 0 with state := .absent }), by decide, by decide⟩,
   ⟨0, (desk.setPowerRec 0 { desk.powerRec 0 with state := .starting }), by decide, by decide⟩,
   ⟨0, (desk.setPowerRec 0 { desk.powerRec 0 with state := .unresponsive }), by decide, by decide⟩,
   ⟨desk, by decide⟩⟩

theorem test_meets_MatcherJudgesKeys :
    (∃ (bs : List Byte) (_t0 k : Nat) (kinds : KindSet) (m : EntryNo) (h : Hotkey) (s : State), PressesOnly bs k s ∧ HotkeysApart
      s ∧ s.matcher.state = .idle ∧ 2 ≤ k ∧ k ≤ 223 ∧ KindsHeld kinds s ∧ s.entry m = some h ∧ h.enabled = true ∧ h.trigger =
      .chord kinds k) ∧
    (∃ (bs : List Byte) (_t0 k : Nat) (kinds : KindSet) (m : EntryNo) (h : Hotkey) (s : State), PressesOnly bs k s ∧ HotkeysApart
      s ∧ s.matcher.state = .idle ∧ 2 ≤ k ∧ k ≤ 223 ∧ KindsHeld kinds s ∧ s.entry m = some h ∧ h.enabled = true ∧ h.trigger =
      .chord kinds k ∧ h.action = .report ∧ s.powerState s.keyboard.focus = .awake ∧ (s.port s.keyboard.focus).queue.length < 28) ∧
    (∃ (bs : List Byte) (_t0 k : Nat) (kinds : KindSet) (m : EntryNo) (h : Hotkey) (s : State), PressesOnly bs k s ∧ HotkeysApart
      s ∧ s.matcher.state = .idle ∧ 2 ≤ k ∧ k ≤ 223 ∧ KindsHeld kinds s ∧ s.entry m = some h ∧ h.enabled = true ∧ h.trigger =
      .chord kinds k ∧ h.action = .report ∧ s.target.same (s.committedKeys s.keyboard.focus) = true) ∧
    (∃ (bs : List Byte) (_t0 k : Nat) (s : State), PressesOnly bs k s ∧ s.matcher.state = .idle ∧ 2 ≤ k ∧ k ≤ 231 ∧ (∀ kinds,
      KindsHeld kinds s → ¬HasTrigger (.chord kinds k) s) ∧ (k ≠ s.matcher.leader ∨ ¬KindsHeld 0 s ∨ (∀ n h, s.entry n = some h →
      h.enabled = true → h.trigger.isSequence = false))) ∧
    (∃ (bs : List Byte) (_t0 k : Nat) (s : State), PressesOnly bs k s ∧ s.matcher.state = .idle ∧ 2 ≤ k ∧ k ≤ 231 ∧ (∀ kinds,
      KindsHeld kinds s → ¬HasTrigger (.chord kinds k) s) ∧ (k ≠ s.matcher.leader ∨ ¬KindsHeld 0 s ∨ (∀ n h, s.entry n = some h →
      h.enabled = true → h.trigger.isSequence = false)) ∧ 2 ≤ k) ∧
    (∃ (bs : List Byte) (_t0 k : Nat) (s : State), PressesOnly bs k s ∧ s.matcher.state = .idle ∧ 2 ≤ k ∧ k ≤ 231 ∧ (∀ kinds,
      KindsHeld kinds s → ¬HasTrigger (.chord kinds k) s) ∧ (k ≠ s.matcher.leader ∨ ¬KindsHeld 0 s ∨ (∀ n h, s.entry n = some h →
      h.enabled = true → h.trigger.isSequence = false)) ∧ k = s.matcher.leader) ∧
    (∃ (bs : List Byte) (_t0 k : Nat) (s : State), PressesOnly bs k s ∧ s.matcher.state = .idle ∧ 2 ≤ k ∧ k ≤ 231 ∧ (∀ kinds,
      KindsHeld kinds s → ¬HasTrigger (.chord kinds k) s) ∧ (k ≠ s.matcher.leader ∨ ¬KindsHeld 0 s ∨ (∀ n h, s.entry n = some h →
      h.enabled = true → h.trigger.isSequence = false)) ∧ k = s.matcher.leader ∧ KindsHeld 0 s) ∧
    (∃ (bs : List Byte) (_t0 k : Nat) (s : State), PressesOnly bs k s ∧ s.matcher.state = .idle ∧ k = s.matcher.leader ∧ 2 ≤ k ∧ k
      ≤ 223 ∧ KindsHeld 0 s ∧ ¬HasTrigger (.chord 0 k) s ∧ (∃ n h, s.entry n = some h ∧ h.enabled = true ∧ h.trigger.isSequence =
      true) ∧ s.target.same (s.committedKeys s.keyboard.focus) = true) ∧
    (∃ (bs : List Byte) (_t0 k : Nat) (s : State), ReleasesOnly bs k s ∧ s.matcher.state = .leaderDown ∧ s.matcher.attempt = some
      k ∧ s.matcher.slot = none ∧ (∀ r ∈ s.keyboard.held, r.code = k → r.delivering = false) ∧ s.target.same (s.committedKeys
      s.keyboard.focus) = true) ∧
    (∃ (bs : List Byte) (_t0 k l : Nat) (r : HeldKey) (c : Computer) (s : State), PressesOnly bs k s ∧ FocusReady c s ∧
      s.matcher.state = .leaderDown ∧ s.matcher.attempt = some l ∧ s.keyboard.held = [r] ∧ r = pressed l r.pressed false true ∧ 2
      ≤ k ∧ k ≤ 223 ∧ 2 ≤ l ∧ l ≤ 223) ∧
    (∃ (bs : List Byte) (_t0 k : Nat) (s : State), PressesOnly bs k s ∧ (s.matcher.state = .armed ∨ s.matcher.state = .second) ∧
      224 ≤ k ∧ k ≤ 231) ∧
    (∃ (bs : List Byte) (_t0 k : Nat) (s : State), PressesOnly bs k s ∧ (s.matcher.state = .armed ∨ s.matcher.state = .second) ∧
      224 ≤ k ∧ k ≤ 231 ∧ s.matcher.state = .second) ∧
    (∃ (bs : List Byte) (_t0 k l : Nat) (c : Computer) (s : State), PressesOnly bs k s ∧ FocusReady c s ∧ s.matcher.state = .armed
      ∧ s.matcher.attempt = some l ∧ s.keyboard.held = [] ∧ 2 ≤ k ∧ k ≤ 223 ∧ k = l) ∧
    (∃ (bs : List Byte) (_t0 k l : Nat) (c : Computer) (s : State), PressesOnly bs k s ∧ FocusReady c s ∧ s.matcher.state = .armed
      ∧ s.matcher.attempt = some l ∧ s.keyboard.held = [] ∧ 2 ≤ k ∧ k ≤ 223 ∧ k ≠ l ∧ ¬HasTrigger (.one k) s ∧ (∃ k2, HasTrigger
      (.two k k2) s)) ∧
    (∃ (bs : List Byte) (_t0 k l : Nat) (c : Computer) (s : State), PressesOnly bs k s ∧ FocusReady c s ∧ s.matcher.state = .armed
      ∧ s.matcher.attempt = some l ∧ s.keyboard.held = [] ∧ 2 ≤ k ∧ k ≤ 223 ∧ k ≠ l ∧ ¬HasTrigger (.one k) s ∧ (∀ k2, ¬HasTrigger
      (.two k k2) s)) ∧
    (∃ (bs : List Byte) (_t0 k : Nat) (m : EntryNo) (h : Hotkey) (s : State), PressesOnly bs k s ∧ HotkeysApart s ∧ 2 ≤ k ∧ k ≤
      223 ∧ s.entry m = some h ∧ h.enabled = true ∧ ((s.matcher.state = .armed ∧ s.matcher.attempt ≠ some k ∧ h.trigger = .one k)
      ∨ (s.matcher.state = .second ∧ ∃ f, s.matcher.first = some f ∧ h.trigger = .two f.code k))) ∧
    (∃ (bs : List Byte) (_t0 k : Nat) (m : EntryNo) (h : Hotkey) (s : State), PressesOnly bs k s ∧ HotkeysApart s ∧ 2 ≤ k ∧ k ≤
      223 ∧ s.entry m = some h ∧ h.enabled = true ∧ ((s.matcher.state = .armed ∧ s.matcher.attempt ≠ some k ∧ h.trigger = .one k)
      ∨ (s.matcher.state = .second ∧ ∃ f, s.matcher.first = some f ∧ h.trigger = .two f.code k)) ∧ s.target.same (s.committedKeys
      s.keyboard.focus) = true) ∧
    (∃ (bs : List Byte) (_t0 k l k1 : Nat) (c : Computer) (s : State), PressesOnly bs k s ∧ FocusReady c s ∧ s.matcher.state =
      .second ∧ s.matcher.attempt = some l ∧ ¬HasTrigger (.two k1 k) s ∧ 2 ≤ k ∧ k ≤ 223 ∧ 2 ≤ k1 ∧ k1 ≤ 223 ∧ (∃ r : HeldKey,
      s.matcher.first = some ⟨k1, true⟩ ∧ s.keyboard.held = [r] ∧ r = pressed k1 r.pressed false true ∧ l ≠ k1)) ∧
    (∃ (bs : List Byte) (_t0 k l k1 : Nat) (c : Computer) (s : State), PressesOnly bs k s ∧ FocusReady c s ∧ s.matcher.state =
      .second ∧ s.matcher.attempt = some l ∧ ¬HasTrigger (.two k1 k) s ∧ 2 ≤ k ∧ k ≤ 223 ∧ 2 ≤ k1 ∧ k1 ≤ 223 ∧ s.matcher.first =
      some ⟨k1, false⟩ ∧ s.keyboard.held = []) ∧
    (∃ (bs : List Byte) (_t0 k : Nat) (s : State), ReleasesOnly bs k s ∧ s.matcher.state = .second ∧ s.matcher.first = some ⟨k,
      true⟩ ∧ s.matcher.slot = none) :=
  ⟨⟨[3, 20, 0, 0, 0, 0, 0], 0, 20, 3, 0, ⟨.chord 3 20, .focus 1 true, true⟩,
     (typing [pressed 224 0 false false, pressed 225 0 false false] desk.matcher), presses [224, 225, 20] (by decide +kernel),
     desk_hotkeys, by decide, by decide, by decide, by unfold KindsHeld; decide +kernel, by decide, by decide, by decide⟩,
   ⟨[144, 223, 0, 0, 0, 0, 0], 0, 223, 9, 0, ⟨.chord 9 223, .report, true⟩,
     (typing [pressed 228 0 false false, pressed 231 0 false false] { desk.matcher with table := desk.matcher.table.set 0 (some ⟨.chord 9 223, .report, true⟩) }),
     presses [228, 231, 223] (by decide +kernel), apart (by decide +kernel), by decide, by decide, by decide,
     by unfold KindsHeld; decide +kernel, by decide, by decide, by decide, by decide, by decide, by decide⟩,
   ⟨[0, 2, 0, 0, 0, 0, 0], 0, 2, 0, 0, ⟨.chord 0 2, .report, true⟩,
     (typing [] { desk.matcher with table := desk.matcher.table.set 0 (some ⟨.chord 0 2, .report, true⟩) }),
     presses [2] (by decide +kernel), apart (by decide +kernel), by decide, by decide, by decide,
     by unfold KindsHeld; decide +kernel, by decide, by decide, by decide, by decide, by decide⟩,
   ⟨[128, 0, 0, 0, 0, 0, 0], 0, 231, (typing [] desk.matcher), presses [231] (by decide +kernel), by decide, by decide, by decide,
     fun kinds _ => lacks fun n x e q => by
      have h : ∀ n : EntryNo, ∀ x ∈ desk.entry n, x.trigger = .chord 3 20 ∨ x.trigger = .two 5 6 := by decide +kernel
      have := h n x e
      rw [q] at this
      simp at this,
     Or.inl (by decide +kernel)⟩,
   ⟨[0, 2, 0, 0, 0, 0, 0], 0, 2, (typing [] desk.matcher), presses [2] (by decide +kernel), by decide, by decide, by decide,
     fun kinds _ => lacks fun n x e q => by
      have h : ∀ n : EntryNo, ∀ x ∈ desk.entry n, x.trigger = .chord 3 20 ∨ x.trigger = .two 5 6 := by decide +kernel
      have := h n x e
      rw [q] at this
      simp at this,
     Or.inl (by decide +kernel), by decide⟩,
   ⟨[4, 71, 0, 0, 0, 0, 0], 0, 71, (typing [pressed 226 0 false false] desk.matcher), presses [226, 71] (by decide +kernel),
     by decide, by decide, by decide,
     fun kinds _ => lacks fun n x e q => by
      have h : ∀ n : EntryNo, ∀ x ∈ desk.entry n, x.trigger = .chord 3 20 ∨ x.trigger = .two 5 6 := by decide +kernel
      have := h n x e
      rw [q] at this
      simp at this,
     Or.inr (Or.inl (by unfold KindsHeld; decide +kernel)), by decide⟩,
   ⟨[0, 71, 0, 0, 0, 0, 0], 0, 71, (typing [] { desk.matcher with table := Vector.replicate 32 none }),
     presses [71] (by decide +kernel), by decide, by decide, by decide,
     fun kinds _ => lacks fun n x e => absurd e (by revert n; simp [typing, State.entry]),
     Or.inr (Or.inr fun n h e => absurd e (by revert n; simp [typing, State.entry])), by decide,
     by unfold KindsHeld; decide +kernel⟩,
   ⟨[0, 71, 0, 0, 0, 0, 0], 0, 71, (typing [] desk.matcher), presses [71] (by decide +kernel), by decide, by decide, by decide,
     by decide, by unfold KindsHeld; decide +kernel, lacks (by decide +kernel),
     ⟨31, ⟨.two 5 6, .report, true⟩, by decide +kernel⟩, by decide⟩,
   ⟨[0, 0, 0, 0, 0, 0, 0], 0, 71,
     (typing [pressed 71 0 false true] { desk.matcher with state := .leaderDown, attempt := some 71 }),
     releases [] (by decide +kernel), by decide, by decide, by decide, by decide, by decide⟩,
   ⟨[0, 71, 2, 0, 0, 0, 0], 0, 2, 71, pressed 71 0 false true, 0,
     (typing [pressed 71 0 false true] { desk.matcher with state := .leaderDown, attempt := some 71 }),
     presses [71, 2] (by decide +kernel), by unfold FocusReady; decide +kernel, by decide, by decide, by decide, by decide,
     by decide, by decide, by decide, by decide⟩,
   ⟨[1, 0, 0, 0, 0, 0, 0], 0, 224,
     (typing [] { desk.matcher with state := .armed, attempt := some 71, timer := some ⟨deskTime, 1500000⟩ }),
     presses [224] (by decide +kernel), by decide, by decide, by decide⟩,
   ⟨[128, 0, 0, 0, 0, 0, 0], 0, 231,
     (typing [] { desk.matcher with state := .second, attempt := some 71, first := some ⟨5, false⟩, timer := some ⟨deskTime, 1500000⟩ }),
     presses [231] (by decide +kernel), by decide, by decide, by decide, by decide⟩,
   ⟨[0, 71, 0, 0, 0, 0, 0], 0, 71, 71, 0,
     (typing [] { desk.matcher with state := .armed, attempt := some 71, timer := some ⟨deskTime, 1500000⟩ }),
     presses [71] (by decide +kernel), by unfold FocusReady; decide +kernel, by decide, by decide, by decide, by decide,
     by decide, by decide⟩,
   ⟨[0, 5, 0, 0, 0, 0, 0], 0, 5, 71, 0,
     (typing [] { desk.matcher with state := .armed, attempt := some 71, timer := some ⟨deskTime, 1500000⟩ }),
     presses [5] (by decide +kernel), by unfold FocusReady; decide +kernel, by decide, by decide, by decide, by decide, by decide,
     by decide, lacks (by decide +kernel), ⟨6, 31, ⟨.two 5 6, .report, true⟩, by decide +kernel⟩⟩,
   ⟨[0, 223, 0, 0, 0, 0, 0], 0, 223, 71, 0,
     (typing [] { desk.matcher with state := .armed, attempt := some 71, timer := some ⟨deskTime, 1500000⟩ }),
     presses [223] (by decide +kernel), by unfold FocusReady; decide +kernel, by decide, by decide, by decide, by decide,
     by decide, by decide, lacks (by decide +kernel),
     fun k2 => lacks fun n x e q => by
      have h : ∀ n : EntryNo, ∀ x ∈ desk.entry n, x.trigger = .chord 3 20 ∨ x.trigger = .two 5 6 := by decide +kernel
      have := h n x e
      rw [q] at this
      simp at this⟩,
   ⟨[0, 6, 0, 0, 0, 0, 0], 0, 6, 31, ⟨.two 5 6, .report, true⟩,
     (typing [] { desk.matcher with state := .second, attempt := some 71, first := some ⟨5, false⟩, timer := some ⟨deskTime, 1500000⟩ }),
     presses [6] (by decide +kernel), desk_hotkeys, by decide, by decide, by decide, by decide, Or.inr ⟨rfl, ⟨5, false⟩, rfl, rfl⟩⟩,
   ⟨[0, 2, 0, 0, 0, 0, 0], 0, 2, 31, ⟨.one 2, .report, true⟩,
     (typing [] { desk.matcher with state := .armed, attempt := some 71, timer := some ⟨deskTime, 1500000⟩, table := desk.matcher.table.set 31 (some ⟨.one 2, .report, true⟩) }),
     presses [2] (by decide +kernel), apart (by decide +kernel), by decide, by decide, by decide, by decide,
     Or.inl (by decide +kernel), by decide⟩,
   ⟨[0, 5, 223, 0, 0, 0, 0], 0, 223, 71, 5, 0,
     (typing [pressed 5 0 false true] { desk.matcher with state := .second, attempt := some 71, first := some ⟨5, true⟩, timer := some ⟨deskTime, 1500000⟩ }),
     presses [5, 223] (by decide +kernel), by unfold FocusReady; decide +kernel, by decide, by decide, lacks (by decide +kernel),
     by decide, by decide, by decide, by decide, ⟨pressed 5 0 false true, by decide +kernel⟩⟩,
   ⟨[0, 2, 0, 0, 0, 0, 0], 0, 2, 71, 5, 0,
     (typing [] { desk.matcher with state := .second, attempt := some 71, first := some ⟨5, false⟩, timer := some ⟨deskTime, 1500000⟩ }),
     presses [2] (by decide +kernel), by unfold FocusReady; decide +kernel, by decide, by decide, lacks (by decide +kernel),
     by decide, by decide, by decide, by decide, by decide, by decide⟩,
   ⟨[0, 0, 0, 0, 0, 0, 0], 0, 5,
     (typing [pressed 5 0 false true] { desk.matcher with state := .second, attempt := some 71, first := some ⟨5, true⟩, timer := some ⟨deskTime, 1500000⟩ }),
     releases [] (by decide +kernel), by decide, by decide, by decide⟩⟩

theorem test_meets_TriggersFireAndMomentaryEnds :
    (∃ (i : Instr) (l : LineId) (pin active : Bool) (n : Nat) (m : EntryNo) (h : Hotkey) (s : State), MakesEdge i l pin n s ∧
      active = (pin != (s.lineRec l).config.activeLow) ∧ EdgeOffered l active s ∧ HotkeysApart s ∧ s.matcher.slot = none ∧ s.entry
      m = some h ∧ h.enabled = true ∧ h.trigger = .line l active ∧ h.action = .report) ∧
    (∃ (i : Instr) (l : LineId) (pin active : Bool) (n : Nat) (m : EntryNo) (h : Hotkey) (s : State), MakesEdge i l pin n s ∧
      active = (pin != (s.lineRec l).config.activeLow) ∧ EdgeOffered l active s ∧ HotkeysApart s ∧ s.matcher.slot = none ∧ s.entry
      m = some h ∧ h.enabled = true ∧ h.trigger = .line l active ∧ h.action = .glideLock) ∧
    (∃ (i : Instr) (l : LineId) (pin active : Bool) (n : Nat) (m : EntryNo) (h : Hotkey) (s : State), MakesEdge i l pin n s ∧
      active = (pin != (s.lineRec l).config.activeLow) ∧ EdgeOffered l active s ∧ HotkeysApart s ∧ s.matcher.slot = none ∧ s.entry
      m = some h ∧ h.enabled = true ∧ h.trigger = .line l active ∧ h.action = .focus 5 true ∧ s.powerState 5 = .absent) ∧
    (∃ (i : Instr) (l : LineId) (pin active : Bool) (n : Nat) (m : EntryNo) (h : Hotkey) (s : State), MakesEdge i l pin n s ∧
      active = (pin != (s.lineRec l).config.activeLow) ∧ EdgeOffered l active s ∧ HotkeysApart s ∧ s.matcher.slot = none ∧ s.entry
      m = some h ∧ h.enabled = true ∧ h.trigger = .line l active ∧ h.action = .focus 1 false ∧ s.powerState 1 ≠ .absent) ∧
    (∃ (i : Instr) (l : LineId) (pin active : Bool) (n : Nat) (m : EntryNo) (h : Hotkey) (s : State), MakesEdge i l pin n s ∧
      active = (pin != (s.lineRec l).config.activeLow) ∧ EdgeOffered l active s ∧ HotkeysApart s ∧ s.matcher.slot = none ∧ s.entry
      m = some h ∧ h.enabled = true ∧ h.trigger = .line l active ∧ h.action = .momentary 5 ∧ s.powerState 5 = .absent) ∧
    (∃ (i : Instr) (l : LineId) (pin active : Bool) (n : Nat) (m : EntryNo) (h : Hotkey) (s : State), MakesEdge i l pin n s ∧
      active = (pin != (s.lineRec l).config.activeLow) ∧ EdgeOffered l active s ∧ HotkeysApart s ∧ s.matcher.slot = none ∧ s.entry
      m = some h ∧ h.enabled = true ∧ h.trigger = .line l active ∧ h.action = .momentary 0 ∧ s.keyboard.focus = 0) ∧
    (∃ (i : Instr) (l : LineId) (pin active : Bool) (n : Nat) (m : EntryNo) (h : Hotkey) (s : State), MakesEdge i l pin n s ∧
      active = (pin != (s.lineRec l).config.activeLow) ∧ EdgeOffered l active s ∧ HotkeysApart s ∧ s.matcher.slot = none ∧ s.entry
      m = some h ∧ h.enabled = true ∧ h.trigger = .line l active ∧ h.action = .momentary 1 ∧ s.powerState 1 ≠ .absent ∧
      s.keyboard.focus ≠ 1) ∧
    (∃ (i : Instr) (l : LineId) (pin active : Bool) (n : Nat) (m : EntryNo) (h : Hotkey) (c : Computer) (x : ReturnSlot) (s :
      State), MakesEdge i l pin n s ∧ active = (pin != (s.lineRec l).config.activeLow) ∧ EdgeOffered l active s ∧ HotkeysApart s ∧
      s.matcher.slot = some x ∧ x.trigger ≠ .line l (!active) ∧ s.entry m = some h ∧ h.enabled = true ∧ h.trigger = .line l active
      ∧ h.action = .momentary c) ∧
    (∃ (i : Instr) (l : LineId) (pin active : Bool) (n : Nat) (s : State), MakesEdge i l pin n s ∧ active = (pin != (s.lineRec
      l).config.activeLow) ∧ EdgeOffered l active s ∧ ¬HasTrigger (.line l active) s ∧ (∀ x, s.matcher.slot = some x → x.trigger ≠
      .line l (!active))) ∧
    (∃ (i : Instr) (x : ReturnSlot) (s : State), s.matcher.slot = some x ∧ ((∃ (l : LineId) (pin active : Bool) (n : Nat),
      MakesEdge i l pin n s ∧ active = (pin != (s.lineRec l).config.activeLow) ∧ EdgeOffered l active s ∧ ¬HasTrigger (.line l
      active) s ∧ x.trigger = .line l (!active)) ∨ (∃ (bs : List Byte) (t0 k : Nat) (kinds : KindSet), i = .deskKeyboardReport bs
      t0 ∧ ReleasesOnly bs k s ∧ x.trigger = .chord kinds k))) ∧
    (∃ (i : Instr) (x : ReturnSlot) (s : State), s.matcher.slot = some x ∧ ((∃ (l : LineId) (pin active : Bool) (n : Nat),
      MakesEdge i l pin n s ∧ active = (pin != (s.lineRec l).config.activeLow) ∧ EdgeOffered l active s ∧ ¬HasTrigger (.line l
      active) s ∧ x.trigger = .line l (!active)) ∨ (∃ (bs : List Byte) (t0 k : Nat) (kinds : KindSet), i = .deskKeyboardReport bs
      t0 ∧ ReleasesOnly bs k s ∧ x.trigger = .chord kinds k)) ∧ s.powerState x.computer = .absent) ∧
    (∃ (i : Instr) (x : ReturnSlot) (s : State), s.matcher.slot = some x ∧ ((∃ (l : LineId) (pin active : Bool) (n : Nat),
      MakesEdge i l pin n s ∧ active = (pin != (s.lineRec l).config.activeLow) ∧ EdgeOffered l active s ∧ ¬HasTrigger (.line l
      active) s ∧ x.trigger = .line l (!active)) ∨ (∃ (bs : List Byte) (t0 k : Nat) (kinds : KindSet), i = .deskKeyboardReport bs
      t0 ∧ ReleasesOnly bs k s ∧ x.trigger = .chord kinds k)) ∧ s.powerState x.computer ≠ .absent ∧ s.keyboard.focus ≠ x.computer) ∧
    (∃ (i : Instr) (l : LineId) (pin : Bool) (n : Nat) (s : State), MakesEdge i l pin n s ∧ (s.lineRec l).config.mode = .input ∧
      pin ≠ (s.lineRec l).config.activeLow ∧ (s.lineRec l).config.wake = true ∧ s.desk.state ≠ .active) ∧
    (∃ (i : Instr) (l : LineId) (pin : Bool) (n : Nat) (s : State), MakesEdge i l pin n s ∧ (s.lineRec l).config.mode = .input ∧
      pin ≠ (s.lineRec l).config.activeLow ∧ (s.lineRec l).config.wake = true ∧ s.desk.state ≠ .active ∧ (∃ x, s.matcher.slot =
      some x ∧ x.trigger = .line l false ∧ s.powerState x.computer = .absent)) ∧
    (∃ (i : Instr) (l : LineId) (pin : Bool) (n : Nat) (s : State), MakesEdge i l pin n s ∧ (s.lineRec l).config.mode = .input ∧
      pin ≠ (s.lineRec l).config.activeLow ∧ (s.lineRec l).config.wake = true ∧ s.desk.state ≠ .active ∧ (∃ x, s.matcher.slot =
      some x ∧ x.trigger = .line l false ∧ s.powerState x.computer ≠ .absent)) :=
  ⟨⟨.lineLevelChange 0 true, 0, true, true, deskTime, 1, ⟨.line 0 true, .report, true⟩, (lined false (.report) none),
     Or.inl (by decide +kernel), by decide, by unfold EdgeOffered; decide +kernel, apart (by decide +kernel), by decide,
     by decide, by decide, by decide, by decide⟩,
   ⟨.lineLevelChange 0 true, 0, true, true, deskTime, 1, ⟨.line 0 true, .glideLock, true⟩, (lined false (.glideLock) none),
     Or.inl (by decide +kernel), by decide, by unfold EdgeOffered; decide +kernel, apart (by decide +kernel), by decide,
     by decide, by decide, by decide, by decide⟩,
   ⟨.lineLevelChange 0 true, 0, true, true, deskTime, 1, ⟨.line 0 true, .focus 5 true, true⟩, (lined false (.focus 5 true) none),
     Or.inl (by decide +kernel), by decide, by unfold EdgeOffered; decide +kernel, apart (by decide +kernel), by decide,
     by decide, by decide, by decide, by decide, by decide⟩,
   ⟨.lineLevelChange 0 true, 0, true, true, deskTime, 1, ⟨.line 0 true, .focus 1 false, true⟩, (lined false (.focus 1 false) none),
     Or.inl (by decide +kernel), by decide, by unfold EdgeOffered; decide +kernel, apart (by decide +kernel), by decide,
     by decide, by decide, by decide, by decide, by decide⟩,
   ⟨.lineLevelChange 0 true, 0, true, true, deskTime, 1, ⟨.line 0 true, .momentary 5, true⟩, (lined false (.momentary 5) none),
     Or.inl (by decide +kernel), by decide, by unfold EdgeOffered; decide +kernel, apart (by decide +kernel), by decide,
     by decide, by decide, by decide, by decide, by decide⟩,
   ⟨.lineLevelChange 0 true, 0, true, true, deskTime, 1, ⟨.line 0 true, .momentary 0, true⟩, (lined false (.momentary 0) none),
     Or.inl (by decide +kernel), by decide, by unfold EdgeOffered; decide +kernel, apart (by decide +kernel), by decide,
     by decide, by decide, by decide, by decide, by decide⟩,
   ⟨.lineLevelChange 0 true, 0, true, true, deskTime, 1, ⟨.line 0 true, .momentary 1, true⟩, (lined false (.momentary 1) none),
     Or.inl (by decide +kernel), by decide, by unfold EdgeOffered; decide +kernel, apart (by decide +kernel), by decide,
     by decide, by decide, by decide, by decide, by decide, by decide⟩,
   ⟨.lineLevelChange 0 true, 0, true, true, deskTime, 1, ⟨.line 0 true, .momentary 1, true⟩, 1, ⟨1, 0, .chord 3 20⟩,
     (lined false (.momentary 1) (some ⟨1, 0, .chord 3 20⟩)), Or.inl (by decide +kernel), by decide,
     by unfold EdgeOffered; decide +kernel, apart (by decide +kernel), by decide, by decide, by decide, by decide, by decide,
     by decide⟩,
   ⟨.filterTimerExpiry 7, 7, true, false, deskTime,
     (desk.setLineRec 7 { desk.lineRec 7 with config := { LineConfig.reset with mode := .input, activeLow := true, filter := 1 }, pin := true, filtered := some true, timer := some ⟨0, 1000⟩ }),
     Or.inr ⟨⟨0, 1000⟩, by decide +kernel⟩, by decide, by unfold EdgeOffered; decide +kernel, lacks (by decide +kernel),
     fun x e => by cases e⟩,
   ⟨.deskKeyboardReport [0, 0, 0, 0, 0, 0, 0] 0, ⟨1, 0, .chord 3 20⟩,
     (typing [pressed 20 0 true false] { desk.matcher with slot := some ⟨1, 0, .chord 3 20⟩ }), by decide,
     Or.inr ⟨[0, 0, 0, 0, 0, 0, 0], 0, 20, 3, rfl, releases [] (by decide +kernel), rfl⟩⟩,
   ⟨.lineLevelChange 0 false, ⟨5, 1, .line 0 true⟩, (lined true (.report) (some ⟨5, 1, .line 0 true⟩)), by decide,
     Or.inl ⟨0, false, false, deskTime, Or.inl (by decide +kernel), rfl, by unfold EdgeOffered; decide +kernel, lacks (by decide +kernel), rfl⟩,
     by decide⟩,
   ⟨.lineLevelChange 0 false, ⟨1, 1, .line 0 true⟩, (lined true (.report) (some ⟨1, 1, .line 0 true⟩)), by decide,
     Or.inl ⟨0, false, false, deskTime, Or.inl (by decide +kernel), rfl, by unfold EdgeOffered; decide +kernel, lacks (by decide +kernel), rfl⟩,
     by decide, by decide⟩,
   ⟨.lineLevelChange 0 true, 0, true, deskTime,
     (((desk.setLineRec 0 { desk.lineRec 0 with config := { LineConfig.reset with mode := .input, filter := 0, wake := true }, filtered := some false }).setDesk { desk.desk with state := .off }).setMatcher { desk.matcher with slot := none }),
     Or.inl (by decide +kernel), by decide, by decide, by decide, by decide⟩,
   ⟨.lineLevelChange 0 true, 0, true, deskTime,
     (((desk.setLineRec 0 { desk.lineRec 0 with config := { LineConfig.reset with mode := .input, filter := 0, wake := true }, filtered := some false }).setDesk { desk.desk with state := .off }).setMatcher { desk.matcher with slot := some ⟨5, 0, .line 0 false⟩ }),
     Or.inl (by decide +kernel), by decide, by decide, by decide, by decide, ⟨⟨5, 0, .line 0 false⟩, rfl, rfl, by decide +kernel⟩⟩,
   ⟨.lineLevelChange 0 true, 0, true, deskTime,
     (((desk.setLineRec 0 { desk.lineRec 0 with config := { LineConfig.reset with mode := .input, filter := 0, wake := true }, filtered := some false }).setDesk { desk.desk with state := .off }).setMatcher { desk.matcher with slot := some ⟨1, 0, .line 0 false⟩ }),
     Or.inl (by decide +kernel), by decide, by decide, by decide, by decide, ⟨⟨1, 0, .line 0 false⟩, rfl, rfl, by decide +kernel⟩⟩⟩

theorem test_meets_LineSettings :
    (∃ (n : Nat) (r : RawLine) (s : State), s.profile.state = .ready ∧ (8 ≤ n ∨ ¬LineFieldsInRange n r)) ∧
    (∃ (l : LineId) (r : RawLine) (s : State), s.profile.state = .ready ∧ LineFieldsInRange l r ∧ r.mode ≠ 3 ∧ (s.lineRec
      l).config.mode ≠ .dial) ∧
    (∃ (l : LineId) (r : RawLine) (s : State), s.profile.state = .ready ∧ LineFieldsInRange l r ∧ r.mode ≠ 3 ∧ (s.lineRec
      l).config.mode ≠ .dial ∧ (s.lineRec l).config.activeLow.toNat ≠ r.polarity ∧ (s.lineRec l).config.mode = .output) ∧
    (∃ (l : LineId) (r : RawLine) (s : State), s.profile.state = .ready ∧ LineFieldsInRange l r ∧ r.mode = 3) ∧
    (∃ (l : LineId) (r : RawLine) (s : State), s.profile.state = .ready ∧ LineFieldsInRange l r ∧ r.mode = 3 ∧ (s.lineRec
      6).config.mode = .dial ∧ (s.lineRec 7).config = (s.lineRec 6).config) ∧
    (∃ (l : LineId) (r : RawLine) (s : State), s.profile.state = .ready ∧ LineFieldsInRange l r ∧ r.mode = 3 ∧ (s.lineRec
      6).config.activeLow.toNat ≠ r.polarity ∧ (s.lineRec 7).config = (s.lineRec 6).config) ∧
    (∃ (l : LineId) (r : RawLine) (s : State), s.profile.state = .ready ∧ LineFieldsInRange l r ∧ r.mode ≠ 3 ∧ 6 ≤ l.val ∧
      (s.lineRec 6).config.mode = .dial ∧ (s.lineRec 7).config.mode = .dial) ∧
    (∃ (n v : Nat) (s : State), s.profile.state ≠ .loading ∧ (8 ≤ n ∨ 2 ≤ v)) ∧
    (∃ (l : LineId) (_b : Bool) (s : State), s.profile.state ≠ .loading ∧ ((s.lineRec l).config.mode ≠ .output ∨ (∀ b', (s.lineRec
      l).config.source ≠ .manual b'))) ∧
    (∃ (l : LineId) (_b b' : Bool) (s : State), s.profile.state ≠ .loading ∧ (s.lineRec l).config.mode = .output ∧ (s.lineRec
      l).config.source = .manual b') :=
  ⟨⟨5, ⟨3, 0, 255, 0, 0, 0, 0, 4⟩, desk, by decide, by unfold LineFieldsInRange; decide⟩,
   ⟨7, ⟨1, 1, 255, 1, 1, 0, 0, 0⟩, desk, by decide, by unfold LineFieldsInRange; decide, by decide, by decide⟩,
   ⟨1, ⟨2, 1, 5, 0, 0, 1, 1, 1⟩,
     (desk.setLineRec 1 { desk.lineRec 1 with config := { LineConfig.reset with mode := .output, source := .manual true }, driven := some false }),
     by decide, by unfold LineFieldsInRange; decide, by decide, by decide, by decide, by decide⟩,
   ⟨6, ⟨3, 0, 255, 0, 0, 0, 0, 2⟩, desk, by decide, by unfold LineFieldsInRange; decide, by decide⟩,
   ⟨7, ⟨3, 0, 255, 0, 0, 0, 0, 4⟩,
     ((desk.setLineRec 6 { LineRec.reset with config := { LineConfig.reset with mode := .dial }, filtered := some true, timer := none }).setLineRec 7 { LineRec.reset with config := { LineConfig.reset with mode := .dial }, filtered := some false }),
     by decide, by unfold LineFieldsInRange; decide, by decide, by decide, by decide⟩,
   ⟨7, ⟨3, 1, 255, 0, 0, 0, 0, 4⟩,
     ((desk.setLineRec 6 { LineRec.reset with config := { LineConfig.reset with mode := .dial }, filtered := some true, timer := none }).setLineRec 7 { LineRec.reset with config := { LineConfig.reset with mode := .dial }, filtered := some false }),
     by decide, by unfold LineFieldsInRange; decide, by decide, by decide, by decide⟩,
   ⟨7, ⟨0, 0, 0, 0, 0, 0, 0, 0⟩,
     ((desk.setLineRec 6 { LineRec.reset with config := { LineConfig.reset with mode := .dial }, filtered := some true, timer := none }).setLineRec 7 { LineRec.reset with config := { LineConfig.reset with mode := .dial }, filtered := some false }),
     by decide, by unfold LineFieldsInRange; decide, by decide, by decide, by decide, by decide⟩,
   ⟨7, 2, desk, by decide, by decide⟩,
   ⟨1, true, desk, by decide, Or.inr fun b e => absurd e (by cases b <;> decide +kernel)⟩,
   ⟨1, false, true,
     (desk.setLineRec 1 { desk.lineRec 1 with config := { LineConfig.reset with mode := .output, source := .manual true } }),
     by decide, by decide, by decide⟩⟩

theorem test_meets_LineLevelsAreFiltered :
    (∃ (l : LineId) (b : Bool) (s : State), (s.lineRec l).pin ≠ b ∧ ((s.lineRec l).config.mode = .off ∨ (s.lineRec l).config.mode
      = .output)) ∧
    (∃ (l : LineId) (b : Bool) (s : State), (s.lineRec l).pin ≠ b ∧ ((s.lineRec l).config.mode = .input ∨ (s.lineRec
      l).config.mode = .dial) ∧ ((s.lineRec l).filtered = some (b != (s.lineRec l).config.activeLow) ∨ (s.lineRec l).config.filter
      ≠ 0)) ∧
    (∃ (l : LineId) (b : Bool) (s : State), (s.lineRec l).pin ≠ b ∧ ((s.lineRec l).config.mode = .input ∨ (s.lineRec
      l).config.mode = .dial) ∧ ((s.lineRec l).filtered = some (b != (s.lineRec l).config.activeLow) ∨ (s.lineRec l).config.filter
      ≠ 0) ∧ (s.lineRec l).config.filter = 0 ∧ (s.lineRec l).filtered = some (b != (s.lineRec l).config.activeLow)) ∧
    (∃ (l : LineId) (s : State), (s.lineRec l).timer = none) ∧
    (∃ (i : Instr) (l : LineId) (b : Bool) (n : Nat) (s : State), (s.lineRec l).config.mode = .input ∧ ((i = .lineLevelChange l b
      ∧ (s.lineRec l).pin ≠ b ∧ (s.lineRec l).config.filter = 0 ∧ n = s.now ∧ (s.lineRec l).filtered ≠ some (b != (s.lineRec
      l).config.activeLow)) ∨ (∃ tm, i = .filterTimerExpiry l ∧ b = (s.lineRec l).pin ∧ (s.lineRec l).timer = some tm ∧ n = max
      s.now tm.due))) ∧
    (∃ (i : Instr) (l : LineId) (b : Bool) (n : Nat) (s : State), (s.lineRec l).config.mode = .input ∧ ((i = .lineLevelChange l b
      ∧ (s.lineRec l).pin ≠ b ∧ (s.lineRec l).config.filter = 0 ∧ n = s.now ∧ (s.lineRec l).filtered ≠ some (b != (s.lineRec
      l).config.activeLow)) ∨ (∃ tm, i = .filterTimerExpiry l ∧ b = (s.lineRec l).pin ∧ (s.lineRec l).timer = some tm ∧ n = max
      s.now tm.due)) ∧ (s.lineRec l).config.report = true) ∧
    (∃ (i : Instr) (l : LineId) (pin : Bool) (n : Nat) (d : Dial) (a b : Bool) (m : Int) (s : State), MakesEdge i l pin n s ∧
      (s.lineRec l).config.mode = .dial ∧ 6 ≤ l.val ∧ s.lines.dial = some d ∧ (a, b) = (if l = 6 then (pin != (s.lineRec
      l).config.activeLow, d.b) else (d.a, pin != (s.lineRec l).config.activeLow)) ∧ m = d.count + cycleMove d.a d.b a b) ∧
    (∃ (i : Instr) (l : LineId) (pin : Bool) (n : Nat) (d : Dial) (a b : Bool) (m : Int) (s : State), MakesEdge i l pin n s ∧
      (s.lineRec l).config.mode = .dial ∧ 6 ≤ l.val ∧ s.lines.dial = some d ∧ (a, b) = (if l = 6 then (pin != (s.lineRec
      l).config.activeLow, d.b) else (d.a, pin != (s.lineRec l).config.activeLow)) ∧ m = d.count + cycleMove d.a d.b a b ∧ m =
      (s.lineRec l).config.counts ∧ s.powerState s.standIn = .awake) ∧
    (∃ (i : Instr) (l : LineId) (pin : Bool) (n : Nat) (d : Dial) (a b : Bool) (m : Int) (s : State), MakesEdge i l pin n s ∧
      (s.lineRec l).config.mode = .dial ∧ 6 ≤ l.val ∧ s.lines.dial = some d ∧ (a, b) = (if l = 6 then (pin != (s.lineRec
      l).config.activeLow, d.b) else (d.a, pin != (s.lineRec l).config.activeLow)) ∧ m = d.count + cycleMove d.a d.b a b ∧ m =
      -(s.lineRec l).config.counts ∧ s.powerState s.standIn = .awake) ∧
    (∃ (i : Instr) (l : LineId) (pin : Bool) (n : Nat) (d : Dial) (a b : Bool) (m : Int) (s : State), MakesEdge i l pin n s ∧
      (s.lineRec l).config.mode = .dial ∧ 6 ≤ l.val ∧ s.lines.dial = some d ∧ (a, b) = (if l = 6 then (pin != (s.lineRec
      l).config.activeLow, d.b) else (d.a, pin != (s.lineRec l).config.activeLow)) ∧ m = d.count + cycleMove d.a d.b a b ∧ m =
      (s.lineRec l).config.counts ∧ s.desk.state ≠ .active) :=
  ⟨⟨1, true, desk, by decide, by decide⟩,
   ⟨0, true,
     (desk.setLineRec 0 { desk.lineRec 0 with config := { LineConfig.reset with mode := .input, filter := 255 }, filtered := some false }),
     by decide, by decide, by decide⟩,
   ⟨0, false,
     (desk.setLineRec 0 { desk.lineRec 0 with pin := true, config := { LineConfig.reset with mode := .input, filter := 0 }, filtered := some false }),
     by decide, by decide, by decide, by decide, by decide⟩,
   ⟨0, desk, by decide⟩,
   ⟨.lineLevelChange 0 true, 0, true, 1000000,
     (desk.setLineRec 0 { desk.lineRec 0 with config := { LineConfig.reset with mode := .input, filter := 0 }, filtered := some false }),
     by decide, Or.inl (by decide +kernel)⟩,
   ⟨.filterTimerExpiry 0, 0, true, 1005000,
     (desk.setLineRec 0 { desk.lineRec 0 with pin := true, config := { LineConfig.reset with mode := .input, filter := 5, wake := true, report := true }, filtered := some false, timer := some ⟨deskTime, 5000⟩ }),
     by decide, Or.inr ⟨⟨deskTime, 5000⟩, by decide⟩, by decide⟩,
   ⟨.filterTimerExpiry 6, 6, false, 1005000, ⟨true, false, 0⟩, false, false, -1,
     (((desk.setLineRec 6 { LineRec.reset with config := { LineConfig.reset with mode := .dial }, filtered := some true, timer := some ⟨deskTime, 5000⟩ }).setLineRec 7 { LineRec.reset with config := { LineConfig.reset with mode := .dial }, filtered := some false })).setLines { (((desk.setLineRec 6 { LineRec.reset with config := { LineConfig.reset with mode := .dial }, filtered := some true, timer := some ⟨deskTime, 5000⟩ }).setLineRec 7 { LineRec.reset with config := { LineConfig.reset with mode := .dial }, filtered := some false })).lines with dial := some ⟨true, false, 0⟩ },
     Or.inr ⟨⟨deskTime, 5000⟩, by decide +kernel⟩, by decide, by decide, by decide, by decide, by decide⟩,
   ⟨.lineLevelChange 7 true, 7, true, deskTime, ⟨true, false, 3⟩, true, true, 4,
     (((desk.setLineRec 6 { LineRec.reset with config := { LineConfig.reset with mode := .dial, filter := 0 }, filtered := some true }).setLineRec 7 { LineRec.reset with config := { LineConfig.reset with mode := .dial, filter := 0 }, filtered := some false }).setLines { ((desk.setLineRec 6 { LineRec.reset with config := { LineConfig.reset with mode := .dial, filter := 0 }, filtered := some true }).setLineRec 7 { LineRec.reset with config := { LineConfig.reset with mode := .dial, filter := 0 }, filtered := some false }).lines with dial := some ⟨true, false, 3⟩ }),
     Or.inl (by decide +kernel), by decide, by decide, by decide, by decide, by decide, by decide, by decide⟩,
   ⟨.lineLevelChange 7 true, 7, true, deskTime, ⟨false, false, -3⟩, false, true, -4,
     (((desk.setLineRec 6 { LineRec.reset with config := { LineConfig.reset with mode := .dial, filter := 0 }, filtered := some true }).setLineRec 7 { LineRec.reset with config := { LineConfig.reset with mode := .dial, filter := 0 }, filtered := some false }).setLines { ((desk.setLineRec 6 { LineRec.reset with config := { LineConfig.reset with mode := .dial, filter := 0 }, filtered := some true }).setLineRec 7 { LineRec.reset with config := { LineConfig.reset with mode := .dial, filter := 0 }, filtered := some false }).lines with dial := some ⟨false, false, -3⟩ }),
     Or.inl (by decide +kernel), by decide, by decide, by decide, by decide, by decide, by decide, by decide⟩,
   ⟨.lineLevelChange 7 true, 7, true, deskTime, ⟨true, false, 3⟩, true, true, 4,
     ((((desk.setLineRec 6 { LineRec.reset with config := { LineConfig.reset with mode := .dial, filter := 0 }, filtered := some true }).setLineRec 7 { LineRec.reset with config := { LineConfig.reset with mode := .dial, filter := 0 }, filtered := some false }).setLines { ((desk.setLineRec 6 { LineRec.reset with config := { LineConfig.reset with mode := .dial, filter := 0 }, filtered := some true }).setLineRec 7 { LineRec.reset with config := { LineConfig.reset with mode := .dial, filter := 0 }, filtered := some false }).lines with dial := some ⟨true, false, 3⟩ }).setDesk { desk.desk with state := .standby }),
     Or.inl (by decide +kernel), by decide, by decide, by decide, by decide, by decide, by decide, by decide⟩⟩

theorem test_meets_BusActsMoveThePort :
    (∃ (c : Computer) (i : Instr) (o : PortState) (p : PowerRec) (s : State), PortsAgree s ∧ ((i = .busPowerAppears c ∧ (s.port
      c).observed = .detached ∧ o = .attached ∧ p = { (s.powerRec c) with state := .starting }) ∨ (i = .configurationSelected c ∧
      (s.port c).observed = .attached ∧ o = .configured ∧ p = { (s.powerRec c) with state := .awake }) ∨ (i = .busIdle c ∧ (s.port
      c).observed = .configured ∧ o = .suspended ∧ p = { (s.powerRec c) with state := .asleep, armed := true }) ∨ (i =
      .busActivity c ∧ (s.port c).observed = .suspended ∧ o = .configured ∧ p =
      { state := .awake, attempt := 0, timer := none, method := none, pulse := none, armed := (s.powerRec c).armed, wakeHigh := !(s.computer c).activeHigh }))) ∧
    (∃ (c : Computer) (i : Instr) (o : PortState) (p : PowerRec) (s : State), PortsAgree s ∧ ((i = .busPowerAppears c ∧ (s.port
      c).observed = .detached ∧ o = .attached ∧ p = { (s.powerRec c) with state := .starting }) ∨ (i = .configurationSelected c ∧
      (s.port c).observed = .attached ∧ o = .configured ∧ p = { (s.powerRec c) with state := .awake }) ∨ (i = .busIdle c ∧ (s.port
      c).observed = .configured ∧ o = .suspended ∧ p = { (s.powerRec c) with state := .asleep, armed := true }) ∨ (i =
      .busActivity c ∧ (s.port c).observed = .suspended ∧ o = .configured ∧ p =
      { state := .awake, attempt := 0, timer := none, method := none, pulse := none, armed := (s.powerRec c).armed, wakeHigh := !(s.computer c).activeHigh }))) ∧
    (∃ (c : Computer) (i : Instr) (o : PortState) (st : PowerState) (s : State), PortsAgree s ∧ ((i = .configurationDeselected c ∧
      (s.port c).observed = .configured ∧ o = .attached ∧ st = .starting) ∨ (i = .busReset c ∧ (s.port c).observed ≠ .detached ∧ o
      = .attached ∧ st = .starting) ∨ (i = .busPowerDisappears c ∧ (s.port c).observed ≠ .detached ∧ o = .detached ∧ st =
      .absent))) :=
  ⟨⟨0, .busIdle 0, .suspended, { desk.powerRec 0 with state := .asleep, armed := true }, desk, desk_ports, by decide⟩,
   ⟨5, .busPowerAppears 5, .attached, { desk.powerRec 5 with state := .starting }, desk, desk_ports, by decide⟩,
   ⟨1, .busReset 1, .attached, .starting, desk, desk_ports, by decide⟩⟩

theorem test_meets_PollsDeliver :
    (∃ (c : Computer) (s : State), (s.port c).observed ≠ .configured) ∧
    (∃ (c : Computer) (k : KeyState) (rest : List Entry) (s : State), (s.port c).observed = .configured ∧ (s.port c).queue =
      .keyboard k :: rest) ∧
    (∃ (c : Computer) (s : State), (s.port c).observed = .configured ∧ (∀ k, (s.port c).queue.head? ≠ some (.keyboard k))) ∧
    (∃ (c : Computer) (s : State), (s.port c).observed = .configured ∧ (∀ k, (s.port c).queue.head? ≠ some (.keyboard k)) ∧
      (s.port c).kbOwed = true) ∧
    (∃ (c : Computer) (x y : Nat) (b : ButtonSet) (w : Int) (rest : List Entry) (s : State), (s.port c).observed = .configured ∧
      (s.port c).queue = .pointer x y b w :: rest) ∧
    (∃ (c : Computer) (s : State), (s.port c).observed = .configured ∧ (∀ x y b w, (s.port c).queue.head? ≠ some (.pointer x y b
      w))) ∧
    (∃ (c : Computer) (s : State), (s.port c).observed = .configured ∧ (∀ x y b w, (s.port c).queue.head? ≠ some (.pointer x y b
      w)) ∧ (s.port c).ptrOwed = true) ∧
    (∃ (c : Computer) (_b : Byte) (s : State), (s.port c).observed = .configured) ∧
    (∃ (c : Computer) (_b : Bool) (s : State), (s.port c).observed = .configured) :=
  ⟨⟨5, desk, by decide⟩,
   ⟨0, ⟨0, [10]⟩, [], (desk.setPort 0 { desk.port 0 with queue := [.keyboard ⟨0, [10]⟩] }), by decide, by decide⟩,
   ⟨0, (desk.setPort 0 { desk.port 0 with queue := [.pointer 0 0 0 0] }), by decide, fun k => by simp [State.port, State.setPort]⟩,
   ⟨0, (desk.setPort 0 { desk.port 0 with kbOwed := true }), by decide,
     fun k => by simp [State.port, State.setPort, desk, State.reset, Port.reset], by decide⟩,
   ⟨0, 32767, 0, 0x1F, 127, [], (desk.setPort 0 { desk.port 0 with queue := [.pointer 32767 0 0x1F 127] }), by decide, by decide⟩,
   ⟨0, (desk.setPort 0 { desk.port 0 with queue := [.keyboard ⟨0, [10]⟩] }), by decide,
     fun x y b w => by simp [State.port, State.setPort]⟩,
   ⟨0, (desk.setPort 0 { desk.port 0 with ptrOwed := true }), by decide,
     fun x y b w => by simp [State.port, State.setPort, desk, State.reset, Port.reset], by decide⟩,
   ⟨0, 0xFF, desk, by decide⟩,
   ⟨0, true, desk, by decide⟩⟩

theorem test_meets_WakesAndAttempts :
    (∃ (n : Nat) (s : State), s.profile.state ≠ .loading ∧ 6 ≤ n) ∧
    (∃ (c : Computer) (s : State), s.profile.state ≠ .loading ∧ (s.powerState c = .absent ∨ s.powerState c = .starting)) ∧
    (∃ (c : Computer) (s : State), s.profile.state ≠ .loading ∧ (s.powerState c = .awake ∨ s.powerState c = .waking)) ∧
    (∃ (c : Computer) (m : Method) (s : State), s.profile.state ≠ .loading ∧ PortsAgree s ∧ (s.powerState c = .asleep ∨
      s.powerState c = .unresponsive) ∧ ((m = .link ∧ (s.port c).permission = true ∧ ¬((s.computer c).maxAttempts = 1 ∧
      (s.computer c).wakeLine = true)) ∨ (m = .line ∧ (s.computer c).wakeLine = true ∧ ((s.computer c).maxAttempts = 1 ∨ (s.port
      c).permission = false)))) ∧
    (∃ (c : Computer) (m : Method) (s : State), s.profile.state ≠ .loading ∧ PortsAgree s ∧ (s.powerState c = .asleep ∨
      s.powerState c = .unresponsive) ∧ ((m = .link ∧ (s.port c).permission = true ∧ ¬((s.computer c).maxAttempts = 1 ∧
      (s.computer c).wakeLine = true)) ∨ (m = .line ∧ (s.computer c).wakeLine = true ∧ ((s.computer c).maxAttempts = 1 ∨ (s.port
      c).permission = false))) ∧ m = .line) ∧
    (∃ (c : Computer) (s : State), s.profile.state ≠ .loading ∧ s.powerState c = .asleep ∧ (s.port c).permission = false ∧
      (s.computer c).wakeLine = false) ∧
    (∃ (c : Computer) (s : State), s.profile.state ≠ .loading ∧ s.powerState c = .unresponsive ∧ (s.port c).permission = false ∧
      (s.computer c).wakeLine = false) ∧
    (∃ (c : Computer) (s : State), (s.powerRec c).timer = none) ∧
    (∃ (c : Computer) (tm : Timer) (s : State), (s.powerRec c).timer = some tm ∧ s.powerState c = .waking ∧ (s.powerRec c).attempt
      < (s.computer c).maxAttempts ∧ ((s.port c).permission = true ∨ (s.computer c).wakeLine = true)) ∧
    (∃ (c : Computer) (tm : Timer) (s : State), (s.powerRec c).timer = some tm ∧ s.powerState c = .waking ∧ ((s.computer
      c).maxAttempts ≤ (s.powerRec c).attempt ∨ ((s.port c).permission = false ∧ (s.computer c).wakeLine = false))) ∧
    (∃ (c : Computer) (tm : Timer) (s : State), (s.powerRec c).timer = some tm ∧ s.powerState c = .waking ∧ ((s.computer
      c).maxAttempts ≤ (s.powerRec c).attempt ∨ ((s.port c).permission = false ∧ (s.computer c).wakeLine = false)) ∧ (s.powerRec
      c).attempt < (s.computer c).maxAttempts) ∧
    (∃ (c : Computer) (tm : Timer) (m : Method) (s : State), PortsAgree s ∧ (s.powerRec c).timer = some tm ∧ s.powerState c =
      .waking ∧ (s.powerRec c).attempt < (s.computer c).maxAttempts ∧ ((m = .link ∧ (s.port c).permission = true ∧ ¬((s.powerRec
      c).attempt + 1 = (s.computer c).maxAttempts ∧ (s.computer c).wakeLine = true)) ∨ (m = .line ∧ (s.computer c).wakeLine = true
      ∧ ((s.powerRec c).attempt + 1 = (s.computer c).maxAttempts ∨ (s.port c).permission = false)))) ∧
    (∃ (c : Computer) (tm : Timer) (m : Method) (s : State), PortsAgree s ∧ (s.powerRec c).timer = some tm ∧ s.powerState c =
      .waking ∧ (s.powerRec c).attempt < (s.computer c).maxAttempts ∧ ((m = .link ∧ (s.port c).permission = true ∧ ¬((s.powerRec
      c).attempt + 1 = (s.computer c).maxAttempts ∧ (s.computer c).wakeLine = true)) ∨ (m = .line ∧ (s.computer c).wakeLine = true
      ∧ ((s.powerRec c).attempt + 1 = (s.computer c).maxAttempts ∨ (s.port c).permission = false))) ∧ m = .line) ∧
    (∃ (c : Computer) (tm : Timer) (m : Method) (s : State), PortsAgree s ∧ (s.powerRec c).timer = some tm ∧ s.powerState c =
      .waking ∧ (s.powerRec c).attempt < (s.computer c).maxAttempts ∧ ((m = .link ∧ (s.port c).permission = true ∧ ¬((s.powerRec
      c).attempt + 1 = (s.computer c).maxAttempts ∧ (s.computer c).wakeLine = true)) ∨ (m = .line ∧ (s.computer c).wakeLine = true
      ∧ ((s.powerRec c).attempt + 1 = (s.computer c).maxAttempts ∨ (s.port c).permission = false))) ∧ m = .line ∧ (s.port
      c).permission = false) ∧
    (∃ (c : Computer) (tm : Timer) (m : Method) (s : State), PortsAgree s ∧ (s.powerRec c).timer = some tm ∧ s.powerState c =
      .waking ∧ (s.powerRec c).attempt < (s.computer c).maxAttempts ∧ ((m = .link ∧ (s.port c).permission = true ∧ ¬((s.powerRec
      c).attempt + 1 = (s.computer c).maxAttempts ∧ (s.computer c).wakeLine = true)) ∨ (m = .line ∧ (s.computer c).wakeLine = true
      ∧ ((s.powerRec c).attempt + 1 = (s.computer c).maxAttempts ∨ (s.port c).permission = false))) ∧ s.pending.head? = some
      (.busActivity c)) ∧
    (∃ (c : Computer) (tm : Timer) (act : Instr) (st : PowerState) (s : State), PortsAgree s ∧ (s.powerRec c).timer = some tm ∧
      s.powerState c = .waking ∧ EndsSuspension act c st ∧ s.pending.head? = some act ∧ (s.powerRec c).attempt < (s.computer
      c).maxAttempts ∧ ((s.port c).permission = true ∨ (s.computer c).wakeLine = true) ∧ st = .awake) ∧
    (∃ (c : Computer) (tm : Timer) (act : Instr) (st : PowerState) (s : State), PortsAgree s ∧ (s.powerRec c).timer = some tm ∧
      s.powerState c = .waking ∧ EndsSuspension act c st ∧ s.pending.head? = some act ∧ (s.powerRec c).attempt < (s.computer
      c).maxAttempts ∧ ((s.port c).permission = true ∨ (s.computer c).wakeLine = true) ∧ st = .starting) ∧
    (∃ (c : Computer) (tm : Timer) (act : Instr) (st : PowerState) (s : State), PortsAgree s ∧ (s.powerRec c).timer = some tm ∧
      s.powerState c = .waking ∧ EndsSuspension act c st ∧ s.pending.head? = some act ∧ (s.powerRec c).attempt < (s.computer
      c).maxAttempts ∧ ((s.port c).permission = true ∨ (s.computer c).wakeLine = true) ∧ st = .absent) ∧
    (∃ (c : Computer) (tm : Timer) (act : Instr) (st : PowerState) (s : State), PortsAgree s ∧ (s.powerRec c).timer = some tm ∧
      s.powerState c = .waking ∧ EndsSuspension act c st ∧ (s.computer c).maxAttempts ≤ (s.powerRec c).attempt ∧ st = .awake) ∧
    (∃ (c : Computer) (tm : Timer) (act : Instr) (st : PowerState) (s : State), PortsAgree s ∧ (s.powerRec c).timer = some tm ∧
      s.powerState c = .waking ∧ EndsSuspension act c st ∧ (s.computer c).maxAttempts ≤ (s.powerRec c).attempt ∧ st = .starting) ∧
    (∃ (c : Computer) (tm : Timer) (act : Instr) (st : PowerState) (s : State), PortsAgree s ∧ (s.powerRec c).timer = some tm ∧
      s.powerState c = .waking ∧ EndsSuspension act c st ∧ (s.computer c).maxAttempts ≤ (s.powerRec c).attempt ∧ st = .absent) ∧
    (∃ (c : Computer) (act : Instr) (st : PowerState) (s : State), PortsAgree s ∧ s.powerState c = .waking ∧ EndsSuspension act c
      st ∧ st = .awake) ∧
    (∃ (c : Computer) (act : Instr) (st : PowerState) (s : State), PortsAgree s ∧ s.powerState c = .waking ∧ EndsSuspension act c
      st ∧ st = .starting) ∧
    (∃ (c : Computer) (act : Instr) (st : PowerState) (s : State), PortsAgree s ∧ s.powerState c = .waking ∧ EndsSuspension act c
      st ∧ st = .absent) ∧
    (∃ (c : Computer) (s : State), (s.powerRec c).pulse = none) ∧
    (∃ (c : Computer) (tm : Timer) (s : State), (s.powerRec c).pulse = some tm) :=
  ⟨⟨6, desk, by decide, by decide⟩,
   ⟨5, desk, by decide, by decide⟩,
   ⟨0, desk, by decide, by decide⟩,
   ⟨1, .link, desk, by decide, desk_ports, by decide, by decide⟩,
   ⟨1, .line,
     (desk.setPort 1 { desk.port 1 with permission := false }).setComputerEntry 1 { desk.computer 1 with wakeLine := true, maxAttempts := 1 },
     by decide, fun c => by fin_cases c <;> rfl, by decide, by decide, by decide⟩,
   ⟨1, (desk.setPort 1 { desk.port 1 with permission := false }), by decide, by decide, by decide, by decide⟩,
   ⟨1, (desk.setPort 1 { desk.port 1 with permission := false }).setPowerRec 1 { desk.powerRec 1 with state := .unresponsive },
     by decide, by decide, by decide, by decide⟩,
   ⟨0, desk, by decide⟩,
   ⟨1, ⟨deskTime, 8000000⟩,
     (desk.setPowerRec 1 { desk.powerRec 1 with state := .waking, attempt := 2, timer := some ⟨deskTime, 8000000⟩, method := some .link }),
     by decide, by decide, by decide, by decide⟩,
   ⟨1, ⟨deskTime, 8000000⟩,
     (desk.setPowerRec 1 { desk.powerRec 1 with state := .waking, attempt := 3, timer := some ⟨deskTime, 8000000⟩, method := some .link }),
     by decide, by decide, by decide⟩,
   ⟨1, ⟨deskTime, 8000000⟩,
     ((desk.setPowerRec 1 { desk.powerRec 1 with state := .waking, attempt := 2, timer := some ⟨deskTime, 8000000⟩, method := some .link })).setPort 1 { desk.port 1 with permission := false },
     by decide, by decide, by decide, by decide⟩,
   ⟨1, ⟨deskTime, 8000000⟩, .link,
     (desk.setPowerRec 1 { desk.powerRec 1 with state := .waking, attempt := 2, timer := some ⟨deskTime, 8000000⟩, method := some .link }),
     fun c => by fin_cases c <;> rfl, by decide, by decide, by decide, by decide⟩,
   ⟨1, ⟨deskTime, 8000000⟩, .line,
     ((desk.setPowerRec 1 { desk.powerRec 1 with state := .waking, attempt := 2, timer := some ⟨deskTime, 8000000⟩, method := some .link })).setComputerEntry 1 { desk.computer 1 with wakeLine := true },
     fun c => by fin_cases c <;> rfl, by decide, by decide, by decide, by decide, by decide⟩,
   ⟨1, ⟨deskTime, 8000000⟩, .line,
     (((desk.setPowerRec 1 { desk.powerRec 1 with state := .waking, attempt := 1, timer := some ⟨deskTime, 8000000⟩, method := some .link })).setPort 1 { desk.port 1 with permission := false }).setComputerEntry 1 { desk.computer 1 with wakeLine := true },
     fun c => by fin_cases c <;> rfl, by decide, by decide, by decide, by decide, by decide, by decide⟩,
   ⟨1, ⟨deskTime, 8000000⟩, .link,
     { (desk.setPowerRec 1 { desk.powerRec 1 with state := .waking, attempt := 1, timer := some ⟨deskTime, 8000000⟩, method := some .link }) with pending := [.busActivity 1] },
     fun c => by fin_cases c <;> rfl, by decide, by decide, by decide, by decide, by decide⟩,
   ⟨1, ⟨deskTime, 8000000⟩, .busActivity 1, .awake,
     { (desk.setPowerRec 1 { desk.powerRec 1 with state := .waking, attempt := 2, timer := some ⟨deskTime, 8000000⟩, method := some .link }) with pending := [.busActivity 1] },
     fun c => by fin_cases c <;> rfl, by decide, by decide, Or.inl ⟨rfl, rfl⟩, by decide, by decide, by decide, by decide⟩,
   ⟨1, ⟨deskTime, 8000000⟩, .busReset 1, .starting,
     { (desk.setPowerRec 1 { desk.powerRec 1 with state := .waking, attempt := 2, timer := some ⟨deskTime, 8000000⟩, method := some .link }) with pending := [.busReset 1] },
     fun c => by fin_cases c <;> rfl, by decide, by decide, Or.inr (Or.inl ⟨rfl, rfl⟩), by decide, by decide, by decide, by decide⟩,
   ⟨1, ⟨deskTime, 8000000⟩, .busPowerDisappears 1, .absent,
     { (desk.setPowerRec 1 { desk.powerRec 1 with state := .waking, attempt := 2, timer := some ⟨deskTime, 8000000⟩, method := some .link }) with pending := [.busPowerDisappears 1] },
     fun c => by fin_cases c <;> rfl, by decide, by decide, Or.inr (Or.inr ⟨rfl, rfl⟩), by decide, by decide, by decide, by decide⟩,
   ⟨1, ⟨deskTime, 8000000⟩, .busActivity 1, .awake,
     (desk.setPowerRec 1 { desk.powerRec 1 with state := .waking, attempt := 3, timer := some ⟨deskTime, 8000000⟩, method := some .link }),
     fun c => by fin_cases c <;> rfl, by decide, by decide, Or.inl ⟨rfl, rfl⟩, by decide, by decide⟩,
   ⟨1, ⟨deskTime, 8000000⟩, .busReset 1, .starting,
     (desk.setPowerRec 1 { desk.powerRec 1 with state := .waking, attempt := 3, timer := some ⟨deskTime, 8000000⟩, method := some .link }),
     fun c => by fin_cases c <;> rfl, by decide, by decide, Or.inr (Or.inl ⟨rfl, rfl⟩), by decide, by decide⟩,
   ⟨1, ⟨deskTime, 8000000⟩, .busPowerDisappears 1, .absent,
     (desk.setPowerRec 1 { desk.powerRec 1 with state := .waking, attempt := 3, timer := some ⟨deskTime, 8000000⟩, method := some .link }),
     fun c => by fin_cases c <;> rfl, by decide, by decide, Or.inr (Or.inr ⟨rfl, rfl⟩), by decide, by decide⟩,
   ⟨1, .busActivity 1, .awake,
     (desk.setPowerRec 1 { desk.powerRec 1 with state := .waking, attempt := 3, timer := some ⟨deskTime, 8000000⟩, method := some .link }),
     fun c => by fin_cases c <;> rfl, by decide, Or.inl ⟨rfl, rfl⟩, by decide⟩,
   ⟨1, .busReset 1, .starting,
     (desk.setPowerRec 1 { desk.powerRec 1 with state := .waking, attempt := 3, timer := some ⟨deskTime, 8000000⟩, method := some .link }),
     fun c => by fin_cases c <;> rfl, by decide, Or.inr (Or.inl ⟨rfl, rfl⟩), by decide⟩,
   ⟨1, .busPowerDisappears 1, .absent,
     (desk.setPowerRec 1 { desk.powerRec 1 with state := .waking, attempt := 3, timer := some ⟨deskTime, 8000000⟩, method := some .link }),
     fun c => by fin_cases c <;> rfl, by decide, Or.inr (Or.inr ⟨rfl, rfl⟩), by decide⟩,
   ⟨5, desk, by decide⟩,
   ⟨1, ⟨deskTime, 200000⟩, (desk.setPowerRec 1 { desk.powerRec 1 with pulse := some ⟨deskTime, 200000⟩ }), by decide⟩⟩

theorem test_meets_DeskPowerRules :
    (∃ (sv sc ov oc dz rw : Nat) (s : State), s.profile.state = .ready ∧ (63 < sv ∨ 2 < sc ∨ 63 < ov ∨ 2 < oc ∨ dz = 0 ∨ 255 < dz
      ∨ 2 ≤ rw)) ∧
    (∃ (sv sc ov oc dz : Nat) (_rw : Bool) (s : State), s.profile.state = .ready ∧ sv ≤ 63 ∧ sc ≤ 2 ∧ ov ≤ 63 ∧ oc ≤ 2 ∧ 1 ≤ dz ∧
      dz ≤ 255) ∧
    (∃ s : State, s.profile.state ≠ .loading) ∧
    (∃ s : State, s.profile.state ≠ .loading ∧ s.desk.state ≠ .active) ∧
    (∃ (i : Instr) (n : Nat) (s : State), s.desk.state = .active ∧ ((i = .deskStandby ∧ n = s.now ∧ s.profile.state ≠ .loading) ∨
      (∃ t0, i = .idleThresholdReached ∧ s.desk.idleStart = some t0 ∧ n = max s.now (t0 + s.desk.standbyAfter) ∧
      s.desk.standbyAfter ≠ 0 ∧ (s.desk.offAfter = 0 ∨ s.desk.standbyAfter < s.desk.offAfter)))) ∧
    (∃ (i : Instr) (n : Nat) (s : State), s.desk.state = .active ∧ ((i = .deskStandby ∧ n = s.now ∧ s.profile.state ≠ .loading) ∨
      (∃ t0, i = .idleThresholdReached ∧ s.desk.idleStart = some t0 ∧ n = max s.now (t0 + s.desk.standbyAfter) ∧
      s.desk.standbyAfter ≠ 0 ∧ (s.desk.offAfter = 0 ∨ s.desk.standbyAfter < s.desk.offAfter))) ∧ s.desk.standbyAfter ≠ 0) ∧
    (∃ (t0 : Nat) (s : State), s.desk.idleStart = some t0 ∧ s.desk.offAfter ≠ 0 ∧ (s.desk.state = .standby ∨ (s.desk.state =
      .active ∧ (s.desk.standbyAfter = 0 ∨ s.desk.offAfter ≤ s.desk.standbyAfter)))) ∧
    (∃ (t0 : Nat) (s : State), s.desk.idleStart = some t0 ∧ s.desk.offAfter ≠ 0 ∧ (s.desk.state = .standby ∨ (s.desk.state =
      .active ∧ (s.desk.standbyAfter = 0 ∨ s.desk.offAfter ≤ s.desk.standbyAfter))) ∧ s.desk.state = .active ∧ s.desk.offAfter =
      s.desk.standbyAfter) ∧
    (∃ s : State, (s.desk.idleStart = none ∨ s.desk.state = .off ∨ (s.desk.state = .active ∧ s.desk.standbyAfter = 0 ∧
      s.desk.offAfter = 0) ∨ (s.desk.state = .standby ∧ s.desk.offAfter = 0))) ∧
    (∃ s : State, s.desk.window = none) ∧
    (∃ (w : MotionWindow) (s : State), s.desk.window = some w) :=
  ⟨⟨63, 2, 64, 2, 255, 1, desk, by decide, by decide⟩,
   ⟨63, 2, 63, 2, 255, true, desk, by decide, by decide, by decide, by decide, by decide, by decide, by decide⟩,
   ⟨desk, by decide⟩,
   ⟨(desk.setDesk { desk.desk with state := .off }), by decide, by decide⟩,
   ⟨.deskStandby, 1000000, desk, by decide, Or.inl (by decide +kernel)⟩,
   ⟨.idleThresholdReached, 100990000, desk, by decide, Or.inr ⟨990000, by decide⟩, by decide⟩,
   ⟨990000, (desk.setDesk { desk.desk with state := .standby, offValue := 63, offScale := 2 }), by decide, by decide, by decide⟩,
   ⟨990000, (desk.setDesk { desk.desk with offValue := 10, offScale := 1 }), by decide, by decide, by decide, by decide, by decide⟩,
   ⟨(desk.setDesk { desk.desk with standbyValue := 0 }), by decide⟩,
   ⟨desk, by decide⟩,
   ⟨⟨7, ⟨deskTime, 500000⟩⟩, (desk.setDesk { desk.desk with window := some ⟨7, ⟨deskTime, 500000⟩⟩ }), by decide⟩⟩

/-! ### The laws that every step keeps are met, by a state whose next step puts the desk to STANDBY -/

theorem desk_steps : ∃ t, step desk = .next t := ⟨_, rfl⟩

theorem test_meets_MemoryAndLinkKept :
    ∃ s t : State, CanonicalMemory s ∧ ReceiveQueueFits s ∧ AssemblyAgrees s ∧ step s = .next t :=
  ⟨desk, desk_steps.choose, desk_memory, desk_queue, desk_assembly, desk_steps.choose_spec⟩

theorem test_meets_StatusLawsKept :
    ∃ s t : State, AttentionFollows s ∧ ConditionsAgree s ∧ OutputsFollow s ∧ step s = .next t :=
  ⟨desk, desk_steps.choose, desk_attention, desk_conditions, desk_outputs, desk_steps.choose_spec⟩

theorem test_meets_LayoutLawsKept :
    ∃ s t : State, ScreensApart s ∧ HeadsInside s ∧ BindingsAgree s ∧ HotkeysApart s ∧ step s = .next t :=
  ⟨desk, desk_steps.choose, desk_screensApart, desk_heads, desk_bindings, desk_hotkeys, desk_steps.choose_spec⟩

theorem test_meets_ChannelsAndScreensKept :
    ∃ s t : State, ChannelsAgree s ∧ ScreensAgree s ∧ PolicyKept s ∧ SceneUnsettled s ∧ step s = .next t :=
  ⟨desk, desk_steps.choose, desk_channels, desk_screens, desk_policy, desk_scene, desk_steps.choose_spec⟩

theorem test_meets_PointerHomeKept :
    ∃ s t : State, PointerHome s ∧ step s = .next t :=
  ⟨desk, desk_steps.choose, desk_pointer, desk_steps.choose_spec⟩

theorem test_meets_PortLawsKept :
    ∃ s t : State, HoldQueuesFit s ∧ PortsAgree s ∧ AwayQueuesEmpty s ∧ AttemptsAgree s ∧ step s = .next t :=
  ⟨desk, desk_steps.choose, desk_holdQueues, desk_ports, desk_awayQueues, desk_attempts, desk_steps.choose_spec⟩

theorem test_meets_HeldAndReleasedKept :
    ∃ s t : State, HeldSetFits s ∧ KeysHome s ∧ ButtonsHome s ∧ SwallowInside s ∧ step s = .next t :=
  ⟨desk, desk_steps.choose, desk_held, desk_keys, desk_buttons, desk_swallow, desk_steps.choose_spec⟩

theorem test_meets_RangesKept :
    ∃ s t : State, AccumulatorsFit s ∧ BallisticsFit s ∧ CoordinatesFit s ∧ IdleTimerRuns s ∧ step s = .next t :=
  ⟨desk, desk_steps.choose, desk_accumulators, desk_ballistics, desk_coordinates, desk_idle, desk_steps.choose_spec⟩

/-! ### Helpers of the worked examples -/

/-- The state one command leaves. -/
def after (i : Instr) (s : State) : State :=
  match exec i s with
  | .next t => t
  | .fault _ => s
  | .refused _ => s

/-- The body of the reply a record gets. -/
def answer (i : Instr) (s : State) : Option (List Byte) := ((after i s).link.replies.getLast?).map (·.body)

/-- The part right after reset with the Profile Store READY. -/
def ready : State := State.reset.setProfile { State.reset.profile with state := .ready }

/-- An awake computer's port and power records. -/
def awake (c : Computer) (s : State) : State :=
  (s.setPort c { s.port c with observed := .configured }).setPowerRec c { s.powerRec c with state := .awake }

/-- An asleep computer's port and power records, with remote wake permitted. -/
def asleep (c : Computer) (s : State) : State :=
  (s.setPort c { s.port c with observed := .suspended, permission := true }).setPowerRec c { s.powerRec c with state := .asleep }

/-- Both desk devices are attached. -/
def plugged (s : State) : State :=
  s.setKeyboard { s.keyboard with kbPort := ⟨.present, true, none⟩, ptrPort := ⟨.present, true, none⟩ }

/-! ### Well-formedness: one ill-formed command for each check -/

/-- Each operand in turn one above what its field carries (R198, R201, R204), a label of 11 bytes, and lists longer than a frame. -/
theorem test_wf_refuses :
    ([.powerOnReset false [.computer 0, .computer 0], .clearEvents 65536, .setEventMask 65536, .setScreen 256 1 0 0 64 64,
      .setScreen 0 256 0 0 64 64, .setScreen 0 1 65536 0 64 64, .setScreen 0 1 0 65536 64 64, .setScreen 0 1 0 0 65536 64,
      .setScreen 0 1 0 0 64 65536, .setComputer 256 ⟨0, 0, 50, 1, 1000, 255, 1, 1, 0, List.replicate 12 0⟩,
      .setComputer 0 ⟨256, 0, 50, 1, 1000, 255, 1, 1, 0, List.replicate 12 0⟩,
      .setComputer 0 ⟨0, 0, 65536, 1, 1000, 255, 1, 1, 0, List.replicate 12 0⟩,
      .setComputer 0 ⟨0, 0, 50, 1, 1000, 255, 1, 1, 0, List.replicate 11 0⟩,
      .setComputer 0 ⟨0, 0, 50, 1, 1000, 255, 1, 1, 0, List.replicate 12 256⟩, .setHead 0 0 1 0 256 0 0 1 1,
      .setHead 0 0 1 0 0 0 0 1 65536, .mapInput 256 0 0, .getLayoutScreen 256, .getLayoutComputer 256, .getLayoutHead 0 256,
      .getLayoutInput 256, .assign 0 256 0, .storeScene 256 0 0 [], .storeScene 0 0 0 [⟨256, 0, 0⟩],
      .storeScene 0 0 0 (List.replicate 66 ⟨0, 0, 0⟩), .applyScene 256, .setStartScene 256, .getScreen 256, .getScreenScene 256,
      .setScreenTiming 65536 0 0, .setScreenTiming 0 256 0, .setBallistics 1 2 3 1 1 1 256, .setGlide 256, .warpComputer 256,
      .warpPosition 0 65536, .setFocus 0 256, .getFocusMap 256, .setKeymap 256 [], .setKeymap 0 [(256, 0)],
      .setKeymap 0 (List.replicate 99 (2, 0)), .setKeyOptions 256 2 0, .setKeyOptions 0 2 65536, .deskPortCheck 256,
      .deskPortEnable 256, .deskPortDisable 256, .stuckTimerExpiry 256, .addHotkey 256 ⟨1, 0, 2, 0, 8, 0, 0, 1⟩,
      .addHotkey 0 ⟨256, 0, 2, 0, 8, 0, 0, 1⟩, .removeHotkey 256, .getHotkey 256, .runAction 256 0 0,
      .setLine 256 ⟨0, 0, 0, 0, 0, 0, 0, 0⟩, .setLine 0 ⟨0, 0, 256, 0, 0, 0, 0, 0⟩, .driveLine 0 256, .wake 256, .getComputer 256,
      .setDeskPower 0 0 0 0 256 0] : List Instr).all (fun i => !i.wf) = true := by decide

/-- What the fields do carry is well formed, whatever the record's own checks say of it. -/
theorem test_wf_accepts :
    ([.setScreen 255 255 65535 65535 65535 65535, .setComputer 255 ⟨255, 255, 65535, 255, 65535, 255, 65535, 65535, 255,
        List.replicate 12 255⟩, .storeScene 255 255 255 (List.replicate 65 ⟨255, 255, 255⟩),
      .setKeymap 255 (List.replicate 98 (255, 255)), .getPointer] : List Instr).all Instr.wf = true := by decide

/-! ### Records written out byte by byte (12.2, R198, R199, R201, R204) -/

/-- No row of the opcode table gives bits, so no word spells a command. -/
theorem test_decodeTableWord : decodeTableWord 8 0x20 = none ∧ decodeTableWord 0 0 = none := ⟨rfl, rfl⟩

/-- The link, status and profile records (0x01 to 0x06). -/
theorem test_parse_link : [parseRecord 0x01 [], parseRecord 0x02 [], parseRecord 0x03 [0x12, 0x34], parseRecord 0x04 [0x7F, 0xFF],
    parseRecord 0x05 [], parseRecord 0x06 []] =
    [.command .identify, .command .queryStatus, .command (.clearEvents 0x1234), .command (.setEventMask 0x7FFF), .command .restart,
      .command .saveProfile] := by decide

/-- The layout records (0x10 to 0x14): two-byte values most significant first. -/
theorem test_parse_layout : [parseRecord 0x10 [2, 1, 0x0F, 0x00, 0, 0, 0x07, 0x80, 0x04, 0x38],
    parseRecord 0x11 [3, 0x21, 1, 0, 200, 3, 0x1F, 0x40, 0xFF, 0x0F, 0x00, 0x04, 0x38, 2, 72, 73, 0, 0, 0, 0, 0, 0, 0, 0, 0, 0],
    parseRecord 0x12 [3, 1, 1, 1, 4, 0x07, 0x80, 0, 0, 0x07, 0x80, 0x04, 0x38], parseRecord 0x13 [4, 0xFF, 0xFF],
    parseRecord 0x14 [2, 3, 1], parseRecord 0x14 [0, 7, 0], parseRecord 0x14 [0, 7, 1], parseRecord 0x14 [4, 0, 0]] =
    [.command (.setScreen 2 1 3840 0 1920 1080),
      .command (.setComputer 3 ⟨0x21, 1, 200, 3, 8000, 255, 3840, 1080, 2, [72, 73, 0, 0, 0, 0, 0, 0, 0, 0, 0, 0]⟩),
      .command (.setHead 3 1 1 1 4 1920 0 1920 1080), .command (.mapInput 4 255 255), .command (.getLayoutHead 3 1),
      .command (.getLayoutScreen 7), .outOfRange, .outOfRange] := by decide

/-- The screen and scene records (0x20 to 0x25); the item count must agree with the length. -/
theorem test_parse_screens : [parseRecord 0x20 [2, 3, 0], parseRecord 0x21 [5, 2, 1, 1, 0, 3, 1, 2, 0xFF, 0xFF],
    parseRecord 0x21 [5, 2, 1, 1, 0, 3, 1], parseRecord 0x22 [15], parseRecord 0x23 [0xFF], parseRecord 0x24 [0, 4],
    parseRecord 0x24 [1, 4], parseRecord 0x25 [0x07, 0xD0, 5, 2]] =
    [.command (.assign 2 3 0), .command (.storeScene 5 1 1 [⟨0, 3, 1⟩, ⟨2, 255, 255⟩]), .badLength, .command (.applyScene 15),
      .command (.setStartScene 255), .command (.getScreen 4), .command (.getScreenScene 4),
      .command (.setScreenTiming 2000 5 2)] := by decide

/-- The pointer records (0x30 to 0x33); WARP_POINTER by its length. -/
theorem test_parse_pointer : [parseRecord 0x30 [4, 12, 24, 16, 24, 40, 56], parseRecord 0x31 [24], parseRecord 0x32 [3],
    parseRecord 0x32 [0x12, 0xC0, 0x02, 0x1C], parseRecord 0x32 [1, 2], parseRecord 0x33 []] =
    [.command (.setBallistics 4 12 24 16 24 40 56), .command (.setGlide 24), .command (.warpComputer 3),
      .command (.warpPosition 4800 540), .badLength, .command .getPointer] := by decide

/-- The keyboard and hotkey records (0x40 to 0x53). -/
theorem test_parse_keys : [parseRecord 0x40 [1, 0], parseRecord 0x41 [0, 0], parseRecord 0x41 [1, 3],
    parseRecord 0x42 [1, 2, 10, 11, 12, 0], parseRecord 0x43 [30, 71, 0x05, 0xDC], parseRecord 0x44 [1, 0], parseRecord 0x44 [1, 1],
    parseRecord 0x44 [0, 2], parseRecord 0x50 [0xFF, 2, 2, 31, 32, 4, 2, 0, 1], parseRecord 0x51 [31], parseRecord 0x52 [0, 6],
    parseRecord 0x52 [1, 0], parseRecord 0x53 [4, 2, 0]] =
    [.command (.setFocus 1 0), .command .getFocus, .command (.getFocusMap 3), .command (.setKeymap 1 [(10, 11), (12, 0)]),
      .command (.setKeyOptions 30 71 1500), .command (.deskPortCheck 1), .command (.deskPortEnable 1),
      .command (.deskPortDisable 0), .command (.addHotkey 255 ⟨2, 2, 31, 32, 4, 2, 0, 1⟩), .command (.removeHotkey 31),
      .command (.getHotkey 6), .command .getHotkeyMatcher, .command (.runAction 4 2 0)] := by decide

/-- The line and power records (0x60 to 0x73), and kinds that the table does not hold. -/
theorem test_parse_lines_and_power : [parseRecord 0x60 [6, 3, 0, 1, 0, 0, 0, 0, 4], parseRecord 0x61 [5, 1], parseRecord 0x62 [],
    parseRecord 0x70 [4], parseRecord 0x71 [], parseRecord 0x71 [2, 2, 10, 2, 8, 1], parseRecord 0x71 [2], parseRecord 0x72 [],
    parseRecord 0x73 [5], parseRecord 0x00 [], parseRecord 0x07 [], parseRecord 0x7E []] =
    [.command (.setLine 6 ⟨3, 0, 1, 0, 0, 0, 0, 4⟩), .command (.driveLine 5 1), .command .getLines, .command (.wake 4),
      .command .setDeskPowerRead, .command (.setDeskPower 2 2 10 2 8 1), .badLength, .command .deskStandby,
      .command (.getComputer 5), .unknownKind, .unknownKind, .unknownKind] := by decide

/-- The worked frame C5 04 20 02 03 00 D7 (12.3): its last byte runs ASSIGN of C3 H0 to S2, and the
reply goes out as C5 02 A0 00 5E. -/
theorem test_worked_frame :
    (after (.byteReceived 0xD7 true)
      ((((ready.setScreenRect 2 (some ⟨0, 0, 64, 64⟩)).setScreenRec 2 { ScreenRec.reset with state := .blank }).setHeadEntry ⟨3, 0⟩
        (some ⟨⟨0, 0, 1, 1⟩, false, 0⟩)).setLink
        { ready.link with assembly := .check, length := 4, bytes := [0x20, 0x02, 0x03, 0x00] })).out.getLast? =
      some (.reply [0xC5, 0x02, 0xA0, 0x00, 0x5E]) := by decide +kernel

/-- A check that disagrees puts a check marker in its place, and the idle link answers FF 02 (12.3, R186, R188). -/
theorem test_bad_check :
    (after (.byteReceived 0xD8 true) (ready.setLink
      { ready.link with assembly := .check, length := 4, bytes := [0x20, 0x02, 0x03, 0x00] })).link.replies =
      [⟨0xFF, [0x02]⟩] := by decide +kernel

/-- Step 5 of 11.7: a fifth record behind four is not kept, and LINK_ERROR names OVERRUN. -/
theorem test_overrun :
    let t := after (.byteReceived 0xFE true) (ready.setLink
      { ready.link with assembly := .check, length := 1, bytes := [0x01], replies := [⟨0xC1, [0]⟩],
                        queue := List.replicate 4 (.record 0x70 [4]) })
    t.link.queue.getLast? = some (.overrun 0x01) ∧ (t.event .linkError).detail = some (.linkError .overrun) := by decide +kernel

/-- The marker's reply: the kind plus 0x80, BUSY (11.7). -/
theorem test_overrun_reply :
    (after .replySent (ready.setLink { ready.link with replies := [⟨0xC1, [0]⟩], queue := [.overrun 0x20] })).link.replies =
      [⟨0xA0, [0x0B]⟩] := by decide +kernel

/-- A gap in a frame (R185). -/
theorem test_gap :
    let t := after .gapTimerExpiry (ready.setLink { ready.link with assembly := .length, gapTimer := some ⟨0, 10000⟩ })
    t.link.assembly = .hunting ∧ t.now = 10000 ∧ (t.event .linkError).detail = some (.linkError .gap) := by decide +kernel

/-! ### Status, profile and resets -/

/-- While LOADING, IDENTIFY is answered and RESTART is BUSY (R194, R199). -/
theorem test_loading : (answer .identify State.reset).map (·.take 1) = some [0x00] ∧ answer .restart State.reset = some [0x0B] := by
  decide +kernel

/-- The pending set and enable set lead the status reply, most significant byte first (R200). -/
theorem test_status : (answer .queryStatus (ready.setEvent .profileDone ⟨true, true, some (.profileDone .defaults)⟩)) =
    some [0x00, 0x40, 0x00, 0x40, 0x00, 0x00, 0x00, 0xFF, 0x01, 0x01] := by decide +kernel

/-- A level kind whose condition holds stays pending, an occurrence goes (R192). -/
theorem test_clear : answer (.clearEvents 0x0084)
    ((((ready.setEvent .wakeFailed ⟨true, false, some (.wakeFailed 1)⟩).setEvent .screenFault
      ⟨true, false, some (.screenFault 1)⟩).setStatus { ready.status with faultHolds := true }).setEvent .screenFault
      ⟨true, false, some (.screenFault 1)⟩) = some [0x00, 0x00, 0x80] := by decide +kernel

/-- An enable that meets a pending kind asserts the attention line (R190, R191). -/
theorem test_mask :
    (after (.setEventMask 0x4000) (ready.setEvent .profileDone ⟨true, false, some (.profileDone .saved)⟩)).status.attention = true := by
  decide +kernel

/-- A power-on reset observes what is attached: C1 STARTING, with COMPUTER_STATE pending (R146, R163). -/
theorem test_powerOn :
    let t := after (.powerOnReset true [.computer 1]) desk
    t.powerState 1 = .starting ∧ (t.port 1).observed = .attached ∧ t.powerState 0 = .absent ∧
      (t.event .computerState).isPending = true := by decide +kernel

/-- A soft reset in a wake: the computer is ASLEEP again, with the attempt gone (R176). -/
theorem test_softReset :
    let t := after .softReset
      (desk.setPowerRec 1 { desk.powerRec 1 with state := .waking, attempt := 2, timer := some ⟨0, 1⟩, method := some .link })
    t.powerState 1 = .asleep ∧ (t.powerRec 1).attempt = 0 ∧ t.committedKeys 0 = ⟨0, []⟩ := by decide +kernel

/-- An empty memory has no marker: defaults (R195). -/
theorem test_load_defaults :
    ((after (.profileLoadDone true) State.reset).event .profileDone).detail = some (.profileDone .defaults) := by decide +kernel

/-- A memory that holds an image of the power-on configuration. -/
def stored : State :=
  State.reset.setProfile { State.reset.profile with
    memory := ((image State.reset).zipIdx.map fun (b, a) => (a, b)).filter (·.2 ≠ 0xFF) }

/-- An image is read back as it was written (R195, R203). -/
theorem test_image_loads :
    (loadImage stored.fresh).any (fun u => u.screens.startScene == none && decide (u.layout = State.reset.layout)) = true := by
  decide +kernel

/-- A case of ProfileLoadEnds: a good image whose configuration names no start scene. -/
theorem test_meets_ProfileLoadEnds_loaded :
    ∃ s u : State, s.profile.state = .loading ∧ s.profile.unreliable = false ∧
      Memory.readMany s.profile.memory 0 2 = [0x5E, 0x9A] ∧ loadImage s.fresh = some u ∧ u.screens.startScene = none := by
  obtain ⟨u, hu, h⟩ := (Option.any_eq_true _ _).mp test_image_loads
  simp only [Bool.and_eq_true, beq_iff_eq] at h
  exact ⟨stored, u, rfl, rfl, by decide +kernel, hu, h.1⟩

/-- A memory that holds an image of the power-on configuration but for a start scene: scene 15, which blanks S7. -/
def scened : State :=
  bodied (imageBody { State.reset with screens := { State.reset.screens with
    scenes := State.reset.screens.scenes.set 15 (some ⟨[⟨7, none⟩], none, false⟩), startScene := some 15 } })

theorem test_scene_loads :
    (loadImage scened.fresh).any (fun u => u.screens.startScene == some 15 && decide (u.scene 15 = some ⟨[⟨7, none⟩], none, false⟩)) = true := by
  decide +kernel

/-- A case of ProfileLoadEnds: a good image with a start scene. -/
theorem test_meets_ProfileLoadEnds_scene :
    ∃ (s u : State) (n : SceneNo) (sc : Scene), s.profile.state = .loading ∧ s.profile.unreliable = false ∧
      Memory.readMany s.profile.memory 0 2 = [0x5E, 0x9A] ∧ loadImage s.fresh = some u ∧ u.screens.startScene = some n ∧
      u.scene n = some sc := by
  obtain ⟨u, hu, h⟩ := (Option.any_eq_true _ _).mp test_scene_loads
  simp only [Bool.and_eq_true, beq_iff_eq, decide_eq_true_eq] at h
  exact ⟨scened, u, 15, _, rfl, rfl, by decide +kernel, hu, h.1, h.2⟩

/-- An image whose first entry names a computer that there is not (R17, R195): its record refuses it. -/
def misnumbered : List Byte := (imageBody State.reset).set 3 6

theorem test_entry_refused :
    (imageRecords 1 sectionForms (misnumbered.map BitVec.toNat)).any (fun rs =>
      rs.head?.any fun r => (loadRecord (bodied misnumbered).fresh r).isNone) = true := by decide +kernel

/-- The last cases of ProfileLoadEnds: the contents of a section are too few bodies, and an entry that its record refuses. -/
theorem test_meets_ProfileLoadEnds_refused :
    (∃ (s : State) (body : List Nat), Memory.imageBody s.profile.memory = some body ∧ ImageRefused s body) ∧
    ∃ (s : State) (body : List Nat), s.profile.state = .loading ∧ Memory.readMany s.profile.memory 0 2 = [0x5E, 0x9A] ∧
      Memory.imageBody s.profile.memory = some body ∧ ImageRefused s body := by
  constructor
  · exact ⟨bodied (numbered 1 ((sectionContents State.reset).set 0 [])), _, by decide +kernel,
      Or.inr (Or.inl ⟨(sectionContents State.reset).set 0 [], 0, _, [], by decide +kernel, by decide +kernel, rfl, rfl, by decide +kernel,
        by decide +kernel⟩)⟩
  · obtain ⟨rs, h, k⟩ := (Option.any_eq_true _ _).mp test_entry_refused
    cases rs with
    | nil => simp at k
    | cons r rs =>
      refine ⟨bodied misnumbered, misnumbered.map BitVec.toNat, rfl, by decide +kernel, by decide +kernel,
        Or.inr (Or.inr ⟨[], rs, r, _, h, rfl, ?_⟩)⟩
      simpa using k

/-- A save: ACCEPTED, and the end of it (R196). -/
theorem test_save : answer .saveProfile ready = some [0x01] ∧
    ((after .saveTimeout saving).event .profileDone).detail = some (.profileDone .saveFailed) := by decide +kernel

/-! ### The layout of 1.10 -/

/-- C3 with a desktop of 3840 by 1080 and head 0, S1 at (1920, 0). -/
def two : State :=
  ((ready.setComputerEntry 3 { ready.computer 3 with w := 3840, h := 1080 }).setHeadEntry ⟨3, 0⟩
    (some ⟨⟨0, 0, 1920, 1080⟩, false, 0⟩)).setScreenRect 1 (some ⟨1920, 0, 1920, 1080⟩)

/-- Steps 4, 8 and 9: a head past the desktop, a screen over another, and one that touches it. -/
theorem test_layout_checks : answer (.setHead 3 2 1 0 0 2000 0 1920 1080) two = some [0x05] ∧
    answer (.setScreen 2 1 3800 0 1920 1080) two = some [0x06] ∧ answer (.setScreen 2 1 3840 0 1920 1080) two = some [0x00] := by
  decide +kernel

/-- Steps 5 and 6: a binding starts the channel, and a second input for the head is refused. -/
theorem test_mapInput : ((after (.mapInput 4 3 0) two).channel 4).running = true ∧
    answer (.mapInput 5 3 0) (two.setBinding 4 (some ⟨3, 0⟩)) = some [0x06] := by decide +kernel

/-- Step 10: a desktop too small for a head. -/
theorem test_setComputer :
    answer (.setComputer 3 ⟨0, 1, 200, 3, 8000, 255, 1919, 1080, 0, List.replicate 12 0⟩) two = some [0x06] ∧
    answer (.setComputer 3 ⟨0, 1, 200, 3, 8000, 255, 1920, 1080, 0, List.replicate 12 0⟩) two = some [0x00] := by decide +kernel

/-- The center of S2 is (4800, 540). -/
theorem test_center : (answer (.getLayoutScreen 2) (two.setScreenRect 2 (some ⟨3840, 0, 1920, 1080⟩))).map (·.drop 10) =
    some [0x12, 0xC0, 0x02, 0x1C] := by decide +kernel

/-! ### The channel of 2.8 -/

/-- Step 6: the fourth valid period makes the channel ALIVE with an average of 16667. -/
theorem test_channel_alive :
    let t := after (.syncEdge 4 66667) (ready.setChannel 4
      ⟨.acquiring, true, some 50000, [16667, 16666, 16667], none, some ⟨50000, 100000⟩⟩)
    (t.channel 4).state = .alive ∧ (t.channel 4).average = some 16667 := by decide +kernel

/-- Steps 3 and 8: a glitch is ignored; a stray edge empties the window and holds the average. -/
theorem test_channel_edges :
    ((after (.syncEdge 4 17500) (ready.setChannel 4 ⟨.acquiring, true, some 16667, [16667], none, some ⟨16667, 100000⟩⟩)).channel
      4).window = [16667] ∧
    let t := after (.syncEdge 4 86000) (ready.setChannel 4
      ⟨.alive, true, some 83333, [16666, 16667, 16667, 16666], some 16667, some ⟨83333, 100000⟩⟩)
    (t.channel 4).window = [] ∧ (t.channel 4).average = some 16667 ∧ (t.channel 4).state = .alive := by decide +kernel

/-- Step 10: the lost timer, 100 ms after the last edge. -/
theorem test_channel_lost :
    let t := after (.lostTimerExpiry 4) (ready.setChannel 4 ⟨.alive, true, some 102667, [16667], some 16667, some ⟨102667, 100000⟩⟩)
    t.channel 4 = { Channel.reset with running := true } ∧ t.now = 202667 := by decide +kernel

/-- The reported rate of an average of 16667 is 6000 (2.8). -/
theorem test_rate : (answer (.getLayoutInput 4) (ready.setChannel 4
    ⟨.alive, true, some 0, [1, 1, 1, 1], some 16667, none⟩)).map (·.drop 3) = some [2, 4, 0x17, 0x70] := by decide +kernel

/-! ### Screens and scenes -/

/-- Step 2 of 3.9 with one screen: at the frame boundary the pending source is taken and the screen links. -/
theorem test_frame_boundary :
    let t := after (.syncEdge 0 1006667) (desk.setScreenRec 1
      { desk.screenRec 1 with state := .dark, current := some ⟨1, 0⟩, waiting := some ⟨0, 0⟩ })
    (t.screenRec 1).state = .linking ∧ (t.screenRec 1).current = some ⟨0, 0⟩ ∧ (t.screenRec 1).waiting = none := by decide +kernel

/-- A link that locks, and one that does not within 2000 ms (R34, R37). -/
theorem test_link : ((after (.lockInputChange 0 true) desk).screenRec 0).state = .showing ∧
    ((after (.linkTimerExpiry 0) desk).screenRec 0).state = .fault := by decide +kernel

/-- Step 5 of 3.10: the power-on timer's expiry selects the input and starts the link. -/
theorem test_powering :
    let t := after (.powerOnTimerExpiry 0) (desk.setScreenRec 0
      { desk.screenRec 0 with state := .powering, powerTimer := some ⟨deskTime, 500000⟩, linkTimer := none })
    (t.screenRec 0).state = .linking ∧ (t.screenRec 0).linkTimer = some ⟨1500000, 2000000⟩ ∧
      t.out = [.matrix 0 (.input 0)] := by decide +kernel

/-- A private head goes only to a screen of its allowed set (R40); a head that is not ALIVE is taken at once (R41). -/
theorem test_assign : answer (.assign 1 1 0) desk = some [0x0A] ∧
    ((after (.assign 1 0 0) (desk.setChannel 0 { Channel.reset with running := true })).screenRec 1).state = .dark := by
  decide +kernel

/-- Scenes: stored and read back (R50, R57, R201); a screen twice is CONFLICT. -/
theorem test_scene : answer (.storeScene 5 255 0 [⟨1, 255, 255⟩, ⟨1, 0, 0⟩]) desk = some [0x06] ∧
    answer (.getScreenScene 0) desk = some [0x00, 0, 2, 1, 1, 0, 255, 255, 1, 0, 0] := by decide +kernel

/-- A scene with a pending source is in flight; one that settles at once ends with SCENE_DONE (R51, R52). -/
theorem test_applyScene :
    (after (.applyScene 0) desk).screens.inFlight = some ⟨0, 2, false, false⟩ ∧
    ((after (.applyScene 1) (desk.setScreens { desk.screens with
      scenes := desk.screens.scenes.set 1 (some ⟨[⟨0, none⟩], none, false⟩) })).event .sceneDone).detail =
      some (.sceneDone 1 false false) := by decide +kernel

/-- A start scene must be stored (R55); the clamp of R32. -/
theorem test_settings : answer (.setStartScene 1) desk = some [0x09] ∧
    (after (.setScreenTiming 99 0 0) desk).screens.linkLimit = 100 := by decide +kernel

/-! ### The pointer of 4.10 -/

/-- Two computers side by side, the pointer near the edge between them. -/
def glide : State :=
  let s := plugged (awake 3 (awake 1 ready))
  let s := (s.setComputerEntry 1 { s.computer 1 with w := 3840, h := 1080 }).setComputerEntry 3
    { s.computer 3 with w := 3840, h := 1080 }
  let s := (s.setHeadEntry ⟨1, 1⟩ (some ⟨⟨1920, 0, 1920, 1080⟩, false, 0⟩)).setHeadEntry ⟨3, 0⟩
    (some ⟨⟨0, 0, 1920, 1080⟩, false, 0⟩)
  let s := (s.setScreenRect 1 (some ⟨1920, 0, 1920, 1080⟩)).setScreenRect 2 (some ⟨3840, 0, 1920, 1080⟩)
  let s := (s.setScreenRec 1 { ScreenRec.reset with state := .dark, current := some ⟨1, 1⟩ }).setScreenRec 2
    { ScreenRec.reset with state := .dark, current := some ⟨3, 0⟩ }
  let s := s.setKeyboard { s.keyboard with focus := 1 }
  s.setPointer { s.pointer with
    place := some ⟨1, 3830, 1040⟩, focus := some 1, rx := 5, ry := -10, lastInterval := some 0, barrier := 24,
    lastAbs := s.pointer.lastAbs.set 1 (32735, 31561) }

/-- Report 1: clamped at the edge with a push of 22. -/
theorem test_push :
    let t := after (.deskPointerReport [0, 9, 0xFD, 0] 4000) glide
    t.pointer.place = some ⟨1, 3839, 1029⟩ ∧ (t.pointer.rx, t.pointer.ry) = (13, -2) ∧
      t.pointer.push.map (fun p => (p.screen, p.amount)) = some (2, 22) ∧ (t.port 1).queue = [.pointer 32759 31220 0 0] := by
  decide +kernel

/-- Report 2: the barrier of 24 is met, and both focuses move to C3. -/
theorem test_cross :
    let t := after (.deskPointerReport [0, 2, 0, 0] 12000) (glide.setPointer { glide.pointer with
      place := some ⟨1, 3839, 1029⟩, rx := 13, ry := -2, lastInterval := some 4000, push := some ⟨2, 22, ⟨4000, 300000⟩⟩,
      lastAbs := glide.pointer.lastAbs.set 1 (32759, 31220) })
    t.pointer.place = some ⟨2, 3841, 1029⟩ ∧ t.pointer.focus = some 3 ∧ t.pointer.push = none ∧ t.keyboard.focus = 3 ∧
      (t.port 3).queue = [.pointer 8 31220 0 0] := by decide +kernel

/-- The entry of a report (R74, R154, R155): the mapped place and the delivered buttons; a second one with the same buttons is
coalesced; nothing when nothing differs; and at a depth of 28 a new button is refused, with the presented state changed. -/
theorem test_report_entry :
    let t := after (.deskPointerReport [3, 0, 0, 0] 0) desk
    let home := desk.setPointer { desk.pointer with lastAbs := desk.pointer.lastAbs.set 0 (0, 0) }
    let q : List Entry := List.replicate 28 (.keyboard ⟨0, [10]⟩)
    let u := after (.deskPointerReport [7, 0, 0, 0] 0) (desk.setPort 0 { desk.port 0 with queue := q })
    t.pointer.place = some ⟨0, 50, 50⟩ ∧ t.pointer.focus = some 0 ∧ desk.mapPlace ⟨0, 50, 50⟩ = some (0, 0) ∧
    (t.port 0).queue = [.pointer 0 0 1 0] ∧ ((after (.deskPointerReport [3, 0, 0, 5] 0) t).port 0).queue = [.pointer 0 0 1 5] ∧
    (after (.deskPointerReport [3, 0, 0, 0] 0) home).ports = desk.ports ∧
    (u.port 0).queue = q ∧ ((u.port 0).x, (u.port 0).buttons, (u.port 0).ptrOwed) = (0, 1, true) ∧ u.pointer.swallow = 6 ∧
    (u.event .keysDropped).detail = some (.keysDropped 0) := by decide +kernel

/-- R182: a resume wake with no method fails, and the waking key carries both flags (log entry 40). -/
theorem test_resume_wake :
    let s := ((desk.setKeyboard { desk.keyboard with focus := 1, held := [] }).setDesk { desk.desk with
      state := .standby, resumeWake := true }).setPort 1 { desk.port 1 with permission := false }
    let t := after (.deskKeyboardReport [0, 4, 0, 0, 0, 0, 0] 0) s
    t.desk.state = .active ∧ t.powerState 1 = .unresponsive ∧
      t.keyboard.held.map (fun k => (k.suppressed, k.swallowed)) = [(true, true)] := by decide +kernel

/-- Report A of 4.11: a held button keeps the pointer on its computer. -/
theorem test_drag :
    let t := after (.deskPointerReport [1, 20, 0, 0] 8000) (glide.setPointer { glide.pointer with
      place := some ⟨1, 3839, 500⟩, rx := 0, ry := 0, buttons := 1, lastAbs := glide.pointer.lastAbs.set 1 (32759, 15170) })
    t.pointer.place = some ⟨1, 3839, 500⟩ ∧ t.pointer.push = none ∧ t.pointer.focus = some 1 := by decide +kernel

/-- A warp to C3 lands at its home screen's center (1.10). -/
theorem test_warp : (after (.warpComputer 3) glide).pointer.place = some ⟨2, 4800, 540⟩ ∧
    answer (.warpPosition 1919 0) glide = some [0x09] ∧
    answer (.warpComputer 0) glide = some [0x09] := by decide +kernel

/-- The thresholds rise strictly (R60). -/
theorem test_ballistics : answer (.setBallistics 4 4 24 16 24 40 56) desk = some [0x05] ∧
    (after (.setGlide 24) desk).pointer.barrier = 24 := by decide +kernel

/-- The push record decays 300 ms after its last accrual (R69). -/
theorem test_decay : (after .pushDecayTimerExpiry (desk.setPointer { desk.pointer with
    push := some ⟨1, 3, ⟨deskTime, 300000⟩⟩ })).pointer.push = none := by decide +kernel

/-! ### Keys, focus and hotkeys -/

/-- Step 1 of 5.11: Control reaches C1. -/
theorem test_press :
    ((after (.deskKeyboardReport [1, 0, 0, 0, 0, 0, 0] 1000) glide).port 1).queue = [.keyboard ⟨1, []⟩] := by decide +kernel

/-- Step 2 of 5.11: the chord of Control and 59 moves the key focus, releases C1 and hands C2 nothing. -/
theorem test_chord :
    let s := (awake 2 glide).setHeld [⟨224, 0, false, false, false, false, none⟩]
    let s := s.setMatcher { s.matcher with table := s.matcher.table.set 4 (some ⟨.chord 1 59, .focus 2 false, true⟩) }
    let t := after (.deskKeyboardReport [1, 59, 0, 0, 0, 0, 0] 1000) (s.setPort 1 { s.port 1 with keys := ⟨1, []⟩ })
    t.keyboard.focus = 2 ∧ (t.port 1).queue = [.keyboard ⟨0, []⟩] ∧ (t.port 2).queue = [] ∧
      t.keyboard.held.map (fun k => (k.code, k.suppressed, k.swallowed)) = [(224, true, false), (59, true, true)] := by decide +kernel

/-- Step 2 of 5.12: under DROP an ordinary code for a sleeping computer is suppressed. -/
theorem test_drop :
    let s := (asleep 0 (plugged ready)).setComputerEntry 0 { ready.computer 0 with holdDrop := true, inputWake := .off }
    let t := after (.deskKeyboardReport [0, 11, 0, 0, 0, 0, 0] 1000) s
    (t.port 0).queue = [] ∧ (t.event .keysDropped).detail = some (.keysDropped 0) ∧ t.powerState 0 = .asleep := by decide +kernel

/-- A key held past the stuck limit is released (R94). -/
theorem test_stuck :
    let t := after (.stuckTimerExpiry 10) desk
    (t.port 0).queue = [.keyboard ⟨0, []⟩] ∧ (t.event .stuckKey).detail = some (.stuckKey 10) := by decide +kernel

/-- Step 5 of 6.10: the sequence does not complete; the taps of 71 and 31 are replayed before 20. -/
theorem test_replay :
    let s := (plugged (awake 0 ready)).setMatcher { ready.matcher with
      table := (ready.matcher.table.set 5 (some ⟨.one 30, .focus 0 true, true⟩)).set 6 (some ⟨.two 31 32, .scene 2, true⟩),
      state := .second, attempt := some 71, first := some ⟨31, false⟩, timer := some ⟨600000, 1500000⟩ }
    ((after (.deskKeyboardReport [0, 20, 0, 0, 0, 0, 0] 900000) s).port 0).queue =
      [.keyboard ⟨0, [71]⟩, .keyboard ⟨0, []⟩, .keyboard ⟨0, [31]⟩, .keyboard ⟨0, []⟩, .keyboard ⟨0, [20]⟩] := by decide +kernel

/-- Step 5 of 6.11: the window's expiry replays the leader to the computer that holds key focus then. -/
theorem test_window :
    ((after .windowTimerExpiry ((plugged (awake 0 ready)).setMatcher { ready.matcher with
      state := .armed, attempt := some 71, timer := some ⟨100000, 1500000⟩ })).port 0).queue =
      [.keyboard ⟨0, [71]⟩, .keyboard ⟨0, []⟩] := by decide +kernel

/-- SET_FOCUS to an ABSENT computer is refused, and to another computer releases the keys, then the buttons of the first (R101,
R102). -/
theorem test_setFocus : answer (.setFocus 5 0) desk = some [0x08] ∧
    ((after (.setFocus 1 0) desk).port 0).queue = [.keyboard ⟨0, []⟩, .pointer 16384 16384 0 0] ∧ (after (.setFocus 1 0) desk).keyboard.focus = 1 := by
  decide +kernel

/-- A keymap may not name a code twice (R98); a leader window is clamped (R118). -/
theorem test_keySettings : answer (.setKeymap 0 [(10, 11), (10, 0)]) desk = some [0x06] ∧
    (after (.setKeyOptions 30 71 199) desk).matcher.window = 200 := by decide +kernel

/-- Desk ports: a disabled keyboard releases its keys; an attach is reported (R87, R89). -/
theorem test_deskPort : ((after (.deskPortDisable 0) desk).port 0).queue = [.keyboard ⟨0, []⟩] ∧
    ((after (.deskDeviceAttach .pointer) ready).event .deskPort).detail = some (.deskPort .pointer .attach) ∧
    answer (.deskPortCheck 2) desk = some [0x05] := by decide +kernel

/-- Hotkeys: a table slot taken by ANY, a sequence that begins another, an empty entry (R116, R117). -/
theorem test_hotkeys : answer (.addHotkey 255 ⟨2, 1, 31, 0, 8, 0, 0, 1⟩) desk = some [0x00, 1] ∧
    answer (.addHotkey 255 ⟨2, 1, 5, 0, 8, 0, 0, 1⟩) desk = some [0x06] ∧ answer (.removeHotkey 1) desk = some [0x09] := by
  decide +kernel

/-- RUN_ACTION: MOMENTARY has no meaning there, and CYCLE goes to the next computer that is not ABSENT (R127). -/
theorem test_runAction : answer (.runAction 3 1 0) desk = some [0x05] ∧
    (after (.runAction 2 0 0) desk).keyboard.focus = 1 := by decide +kernel

/-! ### Lines, ports and power -/

/-- Steps 1 and 4 of 7.7: the filter holds off a change for 20 ms, then the edge is reported. -/
theorem test_pedal :
    let s := ready.setLineRec 0 { LineRec.reset with
      config := { LineConfig.reset with mode := .input, activeLow := true, filter := 20, wake := true, report := true },
      pin := true, filtered := some false }
    ((after (.lineLevelChange 0 false) s).lineRec 0).timer = some ⟨0, 20000⟩ ∧
    ((after (.filterTimerExpiry 0) (s.setLineRec 0 { s.lineRec 0 with pin := false, timer := some ⟨8000, 20000⟩ })).event
      .lineEdge).detail = some (.lineEdge 0 true) := by decide +kernel

/-- Step 4 of 7.8: the fourth forward move is one UP detent. -/
theorem test_dial :
    let c : LineConfig := { LineConfig.reset with mode := .dial, filter := 1 }
    let s := (glide.setLineRec 6 { LineRec.reset with config := c, filtered := some false }).setLineRec 7
      { LineRec.reset with config := c, filtered := some true, timer := some ⟨0, 1000⟩ }
    let t := after (.filterTimerExpiry 7) (s.setLines { s.lines with dial := some ⟨false, true, 3⟩ })
    t.lines.dial = some ⟨false, false, 0⟩ ∧ (t.port 1).queue = [.pointer 32735 31561 0 1] := by decide +kernel

/-- A dial takes both of its lines (R135); DRIVE_LINE needs a MANUAL output. -/
theorem test_lines : answer (.setLine 5 ⟨3, 0, 1, 0, 0, 0, 0, 4⟩) desk = some [0x05] ∧
    answer (.driveLine 1 1) desk = some [0x06] := by decide +kernel

/-- A polarity change sets the pin from the same driven level, here the one DRIVE_LINE set (R136, R142). -/
theorem test_polarity :
    let s := after (.driveLine 1 0) (desk.setLineRec 1 { desk.lineRec 1 with
      config := { LineConfig.reset with mode := .output, source := .manual true } })
    ((after (.setLine 1 ⟨2, 1, 5, 0, 0, 1, 1, 1⟩) s).lineRec 1).driven = some false := by decide +kernel

/-- Steps 4 and 5 of 8.8: at a depth of 28 a press is refused and a click is merged into the newest pointer entry. -/
theorem test_reserve :
    let q : List Entry := List.replicate 26 (.keyboard ⟨0, []⟩) ++ [.pointer 1020 2000 0 0, .keyboard ⟨0, [4]⟩]
    let s := plugged ((asleep 0 ready).setComputerEntry 0 { ready.computer 0 with inputWake := .off })
    let s := (s.setPort 0 { s.port 0 with queue := q }).setHeld [⟨4, 0, false, false, false, false, none⟩]
    let t := after (.deskKeyboardReport [0, 4, 5, 0, 0, 0, 0] 0) s
    (t.port 0).queue = q ∧ t.keyboard.held.map (fun k => (k.code, k.suppressed)) = [(4, false), (5, true)] := by decide +kernel

/-- Steps 3 to 5 of 8.9: an owed refresh answers a poll once. -/
theorem test_polls :
    let s := awake 5 ready
    let s := s.setPort 5 { s.port 5 with x := 480, y := 470, kbOwed := true, ptrOwed := true }
    (after (.pointerPoll 5) s).out = [.pointerReport 5 [0, 0xE0, 0x01, 0xD6, 0x01, 0]] ∧
    (after (.keyboardPoll 5) s).out = [.keyboardReport 5 [0, 0, 0, 0, 0, 0, 0]] ∧
    (after (.keyboardPoll 5) (awake 5 ready)).out = [.noChange 5 .keyboard] := by decide +kernel

/-- The bus: attach, configure, suspend, resume, detach (R147, R164). -/
theorem test_bus : (after (.busPowerAppears 2) ready).powerState 2 = .starting ∧
    (after (.busIdle 0) desk).powerState 0 = .asleep ∧ (after (.busActivity 1) desk).powerState 1 = .awake ∧
    (after (.busPowerDisappears 0) desk).powerState 0 = .absent := by decide +kernel

/-- A lamp write for the key-focus computer lights the desk keyboard (R110); a CURRENT_STATE_REQUEST reads what is presented. -/
theorem test_lamps : (after (.lampWrite 0 3) desk).out = [.deskLamps 3] ∧
    (after (.currentStateRequest 0 .keyboard) desk).out = [.keyboardReport 0 [0, 10, 0, 0, 0, 0, 0]] := by decide +kernel

/-- Step 1 of 9.10: WAKE of a sleeping computer starts attempt 1 by link. -/
theorem test_wake :
    let t := after (.wake 1) desk
    t.powerState 1 = .waking ∧ (t.powerRec 1).attempt = 1 ∧ (t.powerRec 1).timer = some ⟨deskTime, 8000000⟩ ∧
      (t.powerRec 1).method = some .link ∧ .resumeSignal 1 ∈ t.out := by decide +kernel

/-- R171: an attempt expiry taken before a resume that comes with it starts an attempt whose LINK request is dropped; step 3 of 9.10
has the signalling where no observation comes with the expiry. -/
theorem test_request_dropped :
    let s := desk.setPowerRec 1 { desk.powerRec 1 with
      state := .waking, attempt := 1, timer := some ⟨8000000, 8000000⟩, method := some .link }
    (after (.attemptTimerExpiry 1) { s with pending := [.busActivity 1] }).out = [] ∧
      (after (.attemptTimerExpiry 1) s).out = [.resumeSignal 1] := by decide +kernel

/-- Step 4 of 9.10: the last attempt is by line, a pulse of 200 ms to the low level. -/
theorem test_line_wake :
    let s := desk.setComputerEntry 1 { desk.computer 1 with wakeLine := true }
    let t := after (.attemptTimerExpiry 1) (s.setPowerRec 1 { s.powerRec 1 with
      state := .waking, attempt := 2, timer := some ⟨8000000, 8000000⟩, method := some .link })
    (t.powerRec 1).attempt = 3 ∧ (t.powerRec 1).method = some .line ∧ (t.powerRec 1).pulse = some ⟨16000000, 200000⟩ ∧
      (t.powerRec 1).wakeHigh = false := by decide +kernel

/-- An attempt that expires at the maximum: UNRESPONSIVE, with WAKE_FAILED (R169). -/
theorem test_wakeFailed :
    let t := after (.attemptTimerExpiry 1) (desk.setPowerRec 1 { desk.powerRec 1 with
      state := .waking, attempt := 3, timer := some ⟨0, 8000000⟩, method := some .link })
    t.powerState 1 = .unresponsive ∧ (t.event .wakeFailed).isPending = true ∧ t.status.wakeHolds = true := by decide +kernel

/-- The wake line returns to rest (high, for ACTIVE_LOW) when the pulse ends. -/
theorem test_pulse :
    ((after (.wakePulseExpiry 1) (desk.setPowerRec 1 { desk.powerRec 1 with
      pulse := some ⟨0, 200000⟩, wakeHigh := false })).powerRec 1).wakeHigh = true := by decide +kernel

/-- Steps 2 and 6 of 10.7: creep below the dead zone of 8 does not resume the desk, and 4 + 5 counts do. -/
theorem test_deadZone :
    let s := glide.setDesk { glide.desk with state := .standby }
    (after (.deskPointerReport [0, 3, 0, 0] 1000) s).desk.state = .standby ∧
    let t := after (.deskPointerReport [0, 5, 0, 0] 1000) (s.setDesk { s.desk with window := some ⟨4, ⟨0, 500000⟩⟩ })
    t.desk.state = .active ∧ t.desk.window = none ∧ t.pointer.place = some ⟨1, 3830, 1040⟩ := by decide +kernel

/-- Steps 2 of 3.10 and 1 of 10.7: the thresholds put the desk to STANDBY and OFF. -/
theorem test_thresholds :
    (after .idleThresholdReached (desk.setDesk { desk.desk with standbyValue := 2, standbyScale := 2 })).desk.state = .standby ∧
    let t := after .idleThresholdReached (desk.setDesk { desk.desk with standbyValue := 0, offValue := 1 })
    t.desk.state = .off ∧ (t.screenRec 0).state = .off ∧ (t.screenRec 0).current = some ⟨0, 0⟩ := by decide +kernel

/-- DESK_STANDBY answers the desk state it leaves (R183); SET_DESK_POWER checks its dead zone (R178). -/
theorem test_deskPower : answer .deskStandby desk = some [0x00, 1] ∧ answer (.setDeskPower 0 0 0 0 0 0) desk = some [0x05] ∧
    (after .motionWindowExpiry (desk.setDesk { desk.desk with window := some ⟨3, ⟨0, 500000⟩⟩ })).desk.window = none := by
  decide +kernel

/-- A step takes the front command, and an idle step is one tick. -/
theorem test_step : (match step desk with | .next t => t.pending == [] && t.link.replies.length == 1 | _ => false) = true ∧
    (match step ready with | .next t => t.now == 1 && t.pending == [] | _ => false) = true := by decide +kernel
end Sys2Proof.Tests
end

section
/-!
PROOFS, layout and screens. The laws of channels, screens, head policy and the scene in flight (O56).
-/

namespace Sys2Proof.Machine
open Sys2Proof Sys2Proof.Safety

/-- A screen that is not configured waits for a head whose channel is ALIVE, and the head's next frame boundary is the command
waiting. The law of R52 admits this state: it says nothing of the pending source of an UNUSED screen. -/
def unusedScreenWaits : State :=
  let s := (State.reset.setBinding 0 (some ⟨0, 0⟩)).setChannel 0 { Channel.reset with state := .alive, running := true }
  { s.setScreenRec 0 { ScreenRec.reset with waiting := some ⟨0, 0⟩ } with pending := [.syncEdge 0 0] }

theorem sceneUnsettled_unusedScreenWaits : SceneUnsettled unusedScreenWaits := by
  refine ⟨by decide +kernel, fun f hf => ?_⟩
  have none_inFlight : unusedScreenWaits.screens.inFlight = none := rfl
  exact absurd (none_inFlight.symm.trans hf) nofun

/-- The frame boundary makes the UNUSED screen take its pending source (R41): it enters LINKING, with no rectangle. -/
theorem step_unusedScreenWaits :
    ∃ t, step unusedScreenWaits = .next t ∧ (t.screenRec 0).state = .linking ∧ t.screenRect 0 = none :=
  ⟨_, rfl, by decide +kernel, by decide +kernel⟩

/-- Refutes O56: the law of the scene in flight, taken by itself, is not kept. It does not rule out that an UNUSED screen has a
pending source, and such a screen leaves UNUSED at a frame boundary of that source without being configured. -/
theorem not_channelsAndScreensKept : ¬ Obligations.ChannelsAndScreensKept := by
  unfold Obligations.ChannelsAndScreensKept
  rintro ⟨-, -, -, kept⟩
  obtain ⟨t, hstep, hstate, hrect⟩ := step_unusedScreenWaits
  obtain ⟨unused_iff, -⟩ := kept _ t sceneUnsettled_unusedScreenWaits hstep
  exact absurd (hstate.symm.trans ((unused_iff 0).2 hrect)) nofun

end Sys2Proof.Machine
end

section
/-!
PROOFS, the hotkey table. Only ADD_HOTKEY, REMOVE_HOTKEY and the resets write the hotkey table: one lemma for each operation that
changes another part of the matcher.
-/

set_option Elab.async false
namespace Sys2Proof.Machine
open Sys2Proof

/-! ### Key focus and the pointer -/

@[simp] theorem setSlot_table (x : Option ReturnSlot) (s : State) : (s.setSlot x).matcher.table = s.matcher.table := rfl

@[simp] theorem focusChange_table (m : Bool) (c : Computer) (s : State) :
    (focusChange m c s).matcher.table = s.matcher.table := by
  cases m <;> simp [focusChange]

@[simp] theorem focusRequest_table (m : Bool) (c : Computer) (s : State) :
    (focusRequest m c s).matcher.table = s.matcher.table := by
  unfold focusRequest; split <;> simp

@[simp] theorem focusWithScope_table (c : Computer) (both : Bool) (s : State) :
    (focusWithScope c both s).matcher.table = s.matcher.table := by
  unfold focusWithScope; split <;> simp

@[simp] theorem glideNotice_table (c : Computer) (s : State) : (glideNotice c s).matcher.table = s.matcher.table := by
  unfold glideNotice; split <;> simp

@[simp] theorem cross_table (i : ScreenId) (c : Computer) (x y : Int) (s : State) :
    (cross i c x y s).matcher.table = s.matcher.table := by
  simp [cross]

@[simp] theorem pushAcross_table (j : ScreenId) (r : Rect) (i : ScreenId) (c : Computer) (x y : Int) (s : State) :
    (pushAcross j r i c x y s).matcher.table = s.matcher.table := by
  simp only [pushAcross]; repeat' split
  all_goals simp

@[simp] theorem glide_table (x y : Int) (s : State) : (glide x y s).matcher.table = s.matcher.table := by
  unfold glide; repeat' split
  all_goals simp

@[simp] theorem moveBy_table (x y : Int) (t : Nat) (s : State) : (moveBy x y t s).matcher.table = s.matcher.table := by
  unfold moveBy; split <;> simp

@[simp] theorem clickTake_table (p : ButtonSet) (s : State) : (clickTake p s).matcher.table = s.matcher.table := by
  unfold clickTake; split
  · rfl
  · dsimp only; split <;> simp

@[simp] theorem activeReport_table (r : PointerReport) (t : Nat) (s : State) :
    (activeReport r t s).matcher.table = s.matcher.table := by
  simp [activeReport]

@[simp] theorem takeReport_table (r : PointerReport) (t : Nat) (s : State) :
    (takeReport r t s).matcher.table = s.matcher.table := by
  simp only [takeReport]; split <;> simp

@[simp] theorem pointerArrives_table (bytes : List Byte) (s : State) :
    (pointerArrives bytes s).matcher.table = s.matcher.table := by
  unfold pointerArrives; split
  · dsimp only; split <;> simp
  · rfl

/-! ### Scenes -/

@[simp] theorem sceneFocus_table (sc : Scene) (s : State) : (sceneFocus sc s).matcher.table = s.matcher.table := by
  unfold sceneFocus; repeat' split
  all_goals simp

@[simp] theorem applySceneSteps_table (n : SceneNo) (sc : Scene) (s : State) :
    (applySceneSteps n sc s).matcher.table = s.matcher.table := by
  have items (t : State) : (sc.items.foldl applyItem t).matcher.table = t.matcher.table :=
    foldl_leaves (fun s => s.matcher.table) _ (fun s it => by simp) sc.items t
  simp [applySceneSteps, items]

@[simp] theorem applySceneNo_table (n : SceneNo) (s : State) : (applySceneNo n s).matcher.table = s.matcher.table := by
  unfold applySceneNo; split <;> simp

@[simp] theorem applyStart_table (s : State) : (applyStart s).matcher.table = s.matcher.table := by
  unfold applyStart; split <;> simp

/-! ### Actions -/

@[simp] theorem endMomentary_table (r : ReturnSlot) (s : State) : (endMomentary r s).matcher.table = s.matcher.table := by
  simp only [endMomentary]; split <;> simp

@[simp] theorem endMomentaryIf_table (p : ReturnSlot → Bool) (s : State) :
    (endMomentaryIf p s).matcher.table = s.matcher.table := by
  unfold endMomentaryIf; repeat' split
  all_goals simp

@[simp] theorem dropSlotIf_table (p : ReturnSlot → Bool) (s : State) :
    (dropSlotIf p s).matcher.table = s.matcher.table := by
  unfold dropSlotIf; repeat' split
  all_goals simp

theorem request_table (a : Action) (s t : State) (h : request a s = some t) : t.matcher.table = s.matcher.table := by
  cases a <;> simp only [request] at h
  case focus c both => split at h <;> cases h; simp
  case cycle previous => obtain ⟨c, -, rfl⟩ := Option.map_eq_some_iff.1 h; simp
  case momentary => cases h
  case scene n => obtain ⟨sc, -, rfl⟩ := Option.map_eq_some_iff.1 h; simp
  case wake c => split at h <;> cases h; simp
  case glideLock => cases h; simp
  case deskStandby => cases h; simp
  case report => cases h; rfl

theorem requestMomentary_table (c : Computer) (n : EntryNo) (r : Trigger) (s t : State)
    (h : requestMomentary c n r s = some t) : t.matcher.table = s.matcher.table := by
  unfold requestMomentary at h
  repeat' split at h
  all_goals cases h
  all_goals simp

theorem fireRequest_table (n : EntryNo) (k : Hotkey) (s t : State) (h : fireRequest n k s = some t) :
    t.matcher.table = s.matcher.table := by
  unfold fireRequest at h
  split at h
  · exact requestMomentary_table _ _ _ _ _ h
  · exact request_table _ _ _ h

@[simp] theorem fireEntry_table (n : EntryNo) (k : Hotkey) (s : State) :
    (fireEntry n k s).matcher.table = s.matcher.table := by
  unfold fireEntry reportHotkey
  split
  · next t h => simp [fireRequest_table n k s t h]
  · simp

@[simp] theorem lineTrigger_table (l : LineId) (a : Bool) (s : State) :
    (lineTrigger l a s).matcher.table = s.matcher.table := by
  simp only [lineTrigger]; split <;> simp

/-! ### The matcher -/

@[simp] theorem goIdle_table (s : State) : (goIdle s).matcher.table = s.matcher.table := rfl

@[simp] theorem judgePress_table (k : Nat) (s : State) : (judgePress k s).1.matcher.table = s.matcher.table := by
  unfold judgePress judgeIdle judgeLeaderDown judgeArmed judgeSecond
  repeat' split
  all_goals simp

@[simp] theorem judgeRelease_table (k : Nat) (s : State) : (judgeRelease k s).matcher.table = s.matcher.table := by
  unfold judgeRelease; repeat' split
  all_goals simp

@[simp] theorem applyFire_table (v : Verdict) (s : State) : (applyFire v s).matcher.table = s.matcher.table := by
  unfold applyFire; split <;> simp

@[simp] theorem windowExpiry_table (s : State) : (windowExpiry s).matcher.table = s.matcher.table := by
  have replays (l : List Replay) (t : State) : (l.foldl applyReplay t).matcher.table = t.matcher.table :=
    foldl_leaves (fun s => s.matcher.table) _ (fun s r => by simp) l t
  unfold windowExpiry; repeat' split
  all_goals simp [replays]

@[simp] theorem matcherLosesKeyboard_table (s : State) : (matcherLosesKeyboard s).matcher.table = s.matcher.table := by
  simp [matcherLosesKeyboard]

@[simp] theorem matcherLosesLine_table (l : LineId) (s : State) :
    (matcherLosesLine l s).matcher.table = s.matcher.table := by
  simp [matcherLosesLine]

/-! ### Keys, desk ports and lines -/

@[simp] theorem pressKey_table (k : Nat) (s : State) : (pressKey s k).matcher.table = s.matcher.table := by
  unfold pressKey
  split
  · next q h => obtain rfl : _ = q := congrArg Prod.fst h; simp
  · next q h => obtain rfl : _ = q := congrArg Prod.fst h; simp

@[simp] theorem releaseKey_table (k : Nat) (s : State) : (releaseKey s k).matcher.table = s.matcher.table := by
  simp [releaseKey]

@[simp] theorem takeKeyReport_table (ks : List Nat) (s : State) :
    (takeKeyReport ks s).matcher.table = s.matcher.table := by
  unfold takeKeyReport
  dsimp only
  rw [foldl_leaves (fun s => s.matcher.table) pressKey (fun s k => pressKey_table k s),
    foldl_leaves (fun s => s.matcher.table) releaseKey (fun s k => releaseKey_table k s)]

@[simp] theorem keysArrive_table (bytes : List Byte) (s : State) :
    (keysArrive bytes s).matcher.table = s.matcher.table := by
  unfold keysArrive; split
  · dsimp only; split <;> simp
  · rfl

@[simp] theorem keyboardLeaves_table (s : State) : (keyboardLeaves s).matcher.table = s.matcher.table := by
  simp [keyboardLeaves]

@[simp] theorem portLeaves_table (p : DeskPort) (s : State) : (portLeaves p s).matcher.table = s.matcher.table := by
  cases p <;> simp [portLeaves]

@[simp] theorem deskDetach_table (p : DeskPort) (s : State) : (deskDetach p s).matcher.table = s.matcher.table := by
  unfold deskDetach; repeat' split
  all_goals simp

@[simp] theorem disablePort_table (p : DeskPort) (s : State) : (disablePort p s).matcher.table = s.matcher.table := by
  unfold disablePort; split <;> simp

@[simp] theorem softResetKeys_table (s : State) : (softResetKeys s).matcher.table = s.matcher.table := by
  simp [softResetKeys]

@[simp] theorem inputEdge_table (l : LineId) (a : Bool) (s : State) : (inputEdge l a s).matcher.table = s.matcher.table := by
  unfold inputEdge
  split
  · next q h => obtain rfl : _ = q := congrArg Prod.fst h; simp
  · next q h => obtain rfl : _ = q := congrArg Prod.fst h; dsimp only; split <;> simp

@[simp] theorem makeEdge_table (l : LineId) (s : State) : (makeEdge l s).matcher.table = s.matcher.table := by
  simp only [makeEdge]; split <;> simp

@[simp] theorem filterLine_table (l : LineId) (s : State) : (filterLine l s).matcher.table = s.matcher.table := by
  simp only [filterLine]; repeat' split
  all_goals simp

@[simp] theorem lineLevel_table (l : LineId) (b : Bool) (s : State) : (lineLevel l b s).matcher.table = s.matcher.table := by
  unfold lineLevel; split <;> simp

@[simp] theorem filterExpiry_table (l : LineId) (s : State) : (filterExpiry l s).matcher.table = s.matcher.table := by
  unfold filterExpiry; split <;> simp

@[simp] theorem setLineConfig_table (l : LineId) (c : LineConfig) (s : State) :
    (setLineConfig l c s).matcher.table = s.matcher.table := by
  simp only [setLineConfig]; repeat' split
  all_goals simp

@[simp] theorem setDialPair_table (c : LineConfig) (s : State) : (setDialPair c s).matcher.table = s.matcher.table := by
  simp only [setDialPair]; repeat' split
  all_goals simp

@[simp] theorem applyLine_table (l : LineId) (c : LineConfig) (s : State) :
    (applyLine l c s).matcher.table = s.matcher.table := by
  unfold applyLine; repeat' split
  all_goals simp

end Sys2Proof.Machine
end

section
/-!
PROOFS, notices and the keyboard. An entry handed for a computer wakes it only where it has a wake method (R166, R172), so no entry
and no notice to the Pointer Engine ends in UNRESPONSIVE, and none of them touches the Keyboard Engine.
-/

set_option Elab.async false
namespace Sys2Proof.Machine
open Sys2Proof

/-! ### Wakes with a method -/

/-- A computer with a wake method has a method for every attempt (R166, R167). -/
theorem attemptMethod_of_hasMethod (s : State) (c : Computer) (k : Nat) (h : s.hasMethod c = true) :
    ∃ m, attemptMethod s c k = some m := by
  unfold attemptMethod
  split
  · exact ⟨_, rfl⟩
  split
  · exact ⟨_, rfl⟩
  split
  · exact ⟨_, rfl⟩
  · next hp hw => simp [State.hasMethod, hp, hw] at h

@[simp] theorem hasMethod_changePower (s : State) (c d : Computer) (st : PowerState) :
    (changePower c st s).hasMethod d = s.hasMethod d := by
  simp [State.hasMethod, State.port, State.computer]

@[simp] theorem hasMethod_setPowerRec (s : State) (c d : Computer) (r : PowerRec) :
    (s.setPowerRec c r).hasMethod d = s.hasMethod d := by
  simp [State.hasMethod, State.port, State.computer]

theorem startAttempt_keyboard (left : Bool) (c : Computer) (k : Nat) (s : State) (h : s.hasMethod c = true) :
    (startAttempt left c k s).keyboard = s.keyboard := by
  obtain ⟨m, hm⟩ := attemptMethod_of_hasMethod s c k h
  simp [startAttempt, hm]

theorem wakeRequest_keyboard (c : Computer) (s : State) (h : s.hasMethod c = true) :
    (wakeRequest c s).keyboard = s.keyboard := by
  unfold wakeRequest
  split <;> simp [h, startAttempt_keyboard]

@[simp] theorem inputNotice_keyboard (c : Computer) (s : State) : (inputNotice c s).keyboard = s.keyboard := by
  unfold inputNotice
  split
  · next h =>
    obtain ⟨-, hm⟩ := Bool.and_eq_true_iff.1 h
    split
    · rfl
    · exact wakeRequest_keyboard c s hm
    · split
      · exact wakeRequest_keyboard c _ (by simpa using hm)
      · rfl
  · rfl

/-! ### Entries -/

@[simp] theorem takeKeys_keyboard (c : Computer) (k : KeyState) (s : State) : (takeKeys c k s).1.keyboard = s.keyboard := by
  simp only [takeKeys]
  repeat' split
  all_goals simp

@[simp] theorem takePointer_keyboard (c : Computer) (x y : Nat) (b : ButtonSet) (w : Int) (s : State) :
    (takePointer c x y b w s).keyboard = s.keyboard := by
  simp only [takePointer]
  repeat' split
  all_goals simp

@[simp] theorem releaseButtons_keyboard (c : Computer) (s : State) : (releaseButtons c s).keyboard = s.keyboard := by
  simp [releaseButtons]

@[simp] theorem releaseKeys_keyboard (c : Computer) (s : State) : (releaseKeys c s).keyboard = s.keyboard := by
  unfold releaseKeys; split <;> simp

@[simp] theorem handEntry_keyboard (c : Computer) (x y : Nat) (b : ButtonSet) (w : Int) (s : State) :
    (handEntry c x y b w s).keyboard = s.keyboard := by
  unfold handEntry; split <;> simp

@[simp] theorem handPlace_keyboard (w : Int) (s : State) : (handPlace w s).keyboard = s.keyboard := by
  unfold handPlace; repeat' split
  all_goals simp

/-! ### Pointer focus and notices -/

@[simp] theorem leaveStandIn_keyboard (c : Computer) (s : State) : (leaveStandIn c s).keyboard = s.keyboard := by
  unfold leaveStandIn; split <;> simp

@[simp] theorem pointerFocusChange_keyboard (a : Computer) (n : Option Computer) (s : State) :
    (pointerFocusChange a n s).keyboard = s.keyboard := by
  simp only [pointerFocusChange]; split <;> simp

@[simp] theorem movePointer_keyboard (p : Place) (s : State) : (movePointer p s).keyboard = s.keyboard := by
  simp only [movePointer]; split <;> simp

@[simp] theorem parkPointer_keyboard (s : State) : (parkPointer s).keyboard = s.keyboard := by
  simp only [parkPointer]; split <;> simp

@[simp] theorem reHome_keyboard (s : State) : (reHome s).keyboard = s.keyboard := by
  unfold reHome; split <;> simp

@[simp] theorem unpark_keyboard (s : State) : (unpark s).keyboard = s.keyboard := by
  unfold unpark; split <;> simp

@[simp] theorem sourceUnderPointer_keyboard (i : ScreenId) (s : State) : (sourceUnderPointer i s).keyboard = s.keyboard := by
  unfold sourceUnderPointer; repeat' split
  all_goals simp

@[simp] theorem screenChanged_keyboard (i : ScreenId) (s : State) : (screenChanged i s).keyboard = s.keyboard := by
  simp only [screenChanged]; repeat' split
  all_goals simp

@[simp] theorem sourceChanged_keyboard (i : ScreenId) (s : State) : (sourceChanged i s).keyboard = s.keyboard := by
  simp only [sourceChanged]; repeat' split
  all_goals simp

/-- The controller's operations with their notices leave the keyboard where the operation does. -/
theorem onScreens_keyboard (f : State → State) (h : ∀ s, (f s).keyboard = s.keyboard) (s : State) :
    (onScreens f s).keyboard = s.keyboard :=
  onScreens_leaves (fun s => s.keyboard) f h (fun i s => by simp) (fun s => by simp) s

@[simp] theorem clearHead_keyboard (h : Head) (on : ScreenSet) (s : State) : (clearHead h on s).keyboard = s.keyboard :=
  onScreens_keyboard _ (eachScreen_leaves _ _ fun i s => by split <;> simp) s

end Sys2Proof.Machine
end

section
/-!
PROOFS, the layout records. What each operation of the Layout Tables leaves as it was.
-/

set_option Elab.async false
namespace Sys2Proof.Machine
open Sys2Proof

/-! ### Screens and computers -/

@[simp] theorem applyScreen_leaves (i : ScreenId) (r : Option Rect) (s : State) :
    (applyScreen i r s).sync = s.sync ∧ (applyScreen i r s).now = s.now ∧ (applyScreen i r s).link = s.link ∧
    (applyScreen i r s).profile = s.profile ∧ (applyScreen i r s).keyboard = s.keyboard ∧
    (applyScreen i r s).matcher = s.matcher ∧ (applyScreen i r s).desk = s.desk ∧ (applyScreen i r s).freeCount = s.freeCount ∧
    (applyScreen i r s).pending = s.pending := by
  simp only [applyScreen]
  repeat' split
  all_goals simp

@[simp] theorem armOnce_leaves (c : Computer) (old new : ComputerEntry) (s : State) :
    (armOnce c old new s).now = s.now ∧ (armOnce c old new s).link = s.link ∧ (armOnce c old new s).profile = s.profile ∧
    (armOnce c old new s).sync = s.sync ∧ (armOnce c old new s).screens = s.screens ∧ (armOnce c old new s).pointer = s.pointer ∧
    (armOnce c old new s).keyboard = s.keyboard ∧ (armOnce c old new s).matcher = s.matcher ∧
    (armOnce c old new s).desk = s.desk ∧ (armOnce c old new s).freeCount = s.freeCount ∧
    (armOnce c old new s).pending = s.pending ∧ (armOnce c old new s).status = s.status ∧
    (armOnce c old new s).layout = s.layout ∧ (armOnce c old new s).lines = s.lines ∧ (armOnce c old new s).ports = s.ports ∧
    (armOnce c old new s).out = s.out := by
  unfold armOnce
  split <;> simp

@[simp] theorem moveRest_leaves (c : Computer) (s : State) :
    (moveRest c s).now = s.now ∧ (moveRest c s).link = s.link ∧ (moveRest c s).profile = s.profile ∧
    (moveRest c s).sync = s.sync ∧ (moveRest c s).screens = s.screens ∧ (moveRest c s).pointer = s.pointer ∧
    (moveRest c s).keyboard = s.keyboard ∧ (moveRest c s).matcher = s.matcher ∧ (moveRest c s).desk = s.desk ∧
    (moveRest c s).freeCount = s.freeCount ∧ (moveRest c s).pending = s.pending ∧ (moveRest c s).status = s.status ∧
    (moveRest c s).layout = s.layout ∧ (moveRest c s).lines = s.lines ∧ (moveRest c s).ports = s.ports ∧
    (moveRest c s).out = s.out := by
  unfold moveRest
  split <;> simp

@[simp] theorem remap_leaves (c : Computer) (old new : ComputerEntry) (s : State) :
    (remap c old new s).now = s.now ∧ (remap c old new s).link = s.link ∧ (remap c old new s).profile = s.profile ∧
    (remap c old new s).layout = s.layout ∧ (remap c old new s).sync = s.sync ∧ (remap c old new s).screens = s.screens ∧
    (remap c old new s).pointer = s.pointer ∧ (remap c old new s).matcher = s.matcher ∧ (remap c old new s).desk = s.desk ∧
    (remap c old new s).freeCount = s.freeCount ∧ (remap c old new s).pending = s.pending := by
  unfold remap
  split <;> simp

@[simp] theorem applyComputer_leaves (c : Computer) (e : ComputerEntry) (s : State) :
    (applyComputer c e s).now = s.now ∧ (applyComputer c e s).link = s.link ∧ (applyComputer c e s).profile = s.profile ∧
    (applyComputer c e s).sync = s.sync ∧ (applyComputer c e s).screens = s.screens ∧ (applyComputer c e s).pointer = s.pointer ∧
    (applyComputer c e s).matcher = s.matcher ∧ (applyComputer c e s).desk = s.desk ∧
    (applyComputer c e s).freeCount = s.freeCount ∧ (applyComputer c e s).pending = s.pending := by
  simp [applyComputer]

/-! ### Inputs and heads -/

@[simp] theorem resendHead_leaves (h : Option Head) (s : State) :
    (resendHead h s).layout = s.layout ∧ (resendHead h s).sync = s.sync ∧ (resendHead h s).now = s.now ∧
    (resendHead h s).link = s.link ∧ (resendHead h s).profile = s.profile ∧ (resendHead h s).keyboard = s.keyboard ∧
    (resendHead h s).matcher = s.matcher ∧ (resendHead h s).desk = s.desk ∧ (resendHead h s).freeCount = s.freeCount ∧
    (resendHead h s).pending = s.pending ∧ (resendHead h s).pointer = s.pointer ∧ (resendHead h s).ports = s.ports ∧
    (resendHead h s).power = s.power := by
  unfold resendHead
  split
  · refine ⟨?_, ?_, ?_, ?_, ?_, ?_, ?_, ?_, ?_, ?_, ?_, ?_, ?_⟩ <;> exact eachScreen_leaves _ _ (fun i s => by simp) s
  · simp

@[simp] theorem movedHead_leaves (b : Bool) (h : Option Head) (s : State) :
    (movedHead b h s).layout = s.layout ∧ (movedHead b h s).sync = s.sync ∧ (movedHead b h s).now = s.now ∧
    (movedHead b h s).link = s.link ∧ (movedHead b h s).profile = s.profile ∧ (movedHead b h s).keyboard = s.keyboard ∧
    (movedHead b h s).matcher = s.matcher ∧ (movedHead b h s).desk = s.desk ∧ (movedHead b h s).freeCount = s.freeCount ∧
    (movedHead b h s).pending = s.pending ∧ (movedHead b h s).pointer = s.pointer ∧ (movedHead b h s).ports = s.ports ∧
    (movedHead b h s).power = s.power := by
  unfold movedHead
  split <;> simp

@[simp] theorem rebind_leaves (v : InputId) (new : Option Head) (s : State) :
    (rebind v new s).now = s.now ∧ (rebind v new s).link = s.link ∧ (rebind v new s).profile = s.profile ∧
    (rebind v new s).keyboard = s.keyboard ∧ (rebind v new s).matcher = s.matcher ∧ (rebind v new s).desk = s.desk ∧
    (rebind v new s).freeCount = s.freeCount ∧ (rebind v new s).pending = s.pending ∧ (rebind v new s).pointer = s.pointer ∧
    (rebind v new s).ports = s.ports ∧ (rebind v new s).power = s.power := by
  simp [rebind]

@[simp] theorem unbindHead_leaves (h : Head) (s : State) :
    (unbindHead h s).now = s.now ∧ (unbindHead h s).link = s.link ∧ (unbindHead h s).profile = s.profile ∧
    (unbindHead h s).keyboard = s.keyboard ∧ (unbindHead h s).matcher = s.matcher ∧ (unbindHead h s).desk = s.desk ∧
    (unbindHead h s).freeCount = s.freeCount ∧ (unbindHead h s).pending = s.pending ∧ (unbindHead h s).pointer = s.pointer ∧
    (unbindHead h s).ports = s.ports ∧ (unbindHead h s).power = s.power := by
  unfold unbindHead
  split <;> simp

@[simp] theorem applyInput_leaves (v : InputId) (new : Option Head) (s : State) :
    (applyInput v new s).now = s.now ∧ (applyInput v new s).link = s.link ∧ (applyInput v new s).profile = s.profile ∧
    (applyInput v new s).keyboard = s.keyboard ∧ (applyInput v new s).matcher = s.matcher ∧ (applyInput v new s).desk = s.desk ∧
    (applyInput v new s).freeCount = s.freeCount ∧ (applyInput v new s).pending = s.pending := by
  unfold applyInput
  split
  · simp
  · refine ⟨?_, ?_, ?_, ?_, ?_, ?_, ?_, ?_⟩ <;>
      exact onScreens_leaves _ _ (fun s => by simp) (fun i s => by simp) (fun s => by simp) s

@[simp] theorem dropWaiting_leaves (h : Head) (i : ScreenId) (s : State) :
    (dropWaiting h i s).layout = s.layout ∧ (dropWaiting h i s).sync = s.sync ∧ (dropWaiting h i s).now = s.now ∧
    (dropWaiting h i s).link = s.link ∧ (dropWaiting h i s).profile = s.profile ∧ (dropWaiting h i s).keyboard = s.keyboard ∧
    (dropWaiting h i s).matcher = s.matcher ∧ (dropWaiting h i s).desk = s.desk ∧ (dropWaiting h i s).freeCount = s.freeCount ∧
    (dropWaiting h i s).pending = s.pending ∧ (dropWaiting h i s).pointer = s.pointer ∧ (dropWaiting h i s).ports = s.ports ∧
    (dropWaiting h i s).power = s.power ∧ (dropWaiting h i s).status = s.status ∧ (dropWaiting h i s).lines = s.lines ∧
    (dropWaiting h i s).out = s.out := by
  simp only [dropWaiting]
  split <;> simp

@[simp] theorem defineHead_leaves (h : Head) (e : HeadEntry) (s : State) :
    (defineHead h e s).sync = s.sync ∧ (defineHead h e s).now = s.now ∧ (defineHead h e s).link = s.link ∧
    (defineHead h e s).profile = s.profile ∧ (defineHead h e s).keyboard = s.keyboard ∧ (defineHead h e s).matcher = s.matcher ∧
    (defineHead h e s).desk = s.desk ∧ (defineHead h e s).freeCount = s.freeCount ∧ (defineHead h e s).pending = s.pending := by
  simp only [defineHead]
  split <;> simp

/-- Undefining a head leaves what each of its steps leaves (R10). -/
theorem undefineHead_keeps {α : Type} (g : State → α) (h : Head) (entry : ∀ x s, g (State.setHeadEntry h x s) = g s)
    (drop : ∀ i s, g (dropWaiting h i s) = g s) (unbind : ∀ s, g (unbindHead h s) = g s)
    (clear : ∀ i s, g (clearHeadOn h i s) = g s) (notice : ∀ i s, g (sourceChanged i s) = g s)
    (settle : ∀ s, g (settleAll s) = g s) (s : State) : g (undefineHead h s) = g s := by
  unfold undefineHead
  split
  · rfl
  · refine (onScreens_leaves g _ (fun s => ?_) notice settle _).trans (entry none s)
    rw [eachScreen_leaves g _ clear, unbind, eachScreen_leaves g _ drop]

@[simp] theorem undefineHead_leaves (h : Head) (s : State) :
    (undefineHead h s).now = s.now ∧ (undefineHead h s).link = s.link ∧ (undefineHead h s).profile = s.profile ∧
    (undefineHead h s).keyboard = s.keyboard ∧ (undefineHead h s).matcher = s.matcher ∧ (undefineHead h s).desk = s.desk ∧
    (undefineHead h s).freeCount = s.freeCount ∧ (undefineHead h s).pending = s.pending := by
  refine ⟨?_, ?_, ?_, ?_, ?_, ?_, ?_, ?_⟩ <;>
    exact undefineHead_keeps _ h (fun x s => by simp) (fun i s => by simp) (fun s => by simp) (fun i s => by simp)
      (fun i s => by simp) (fun s => by simp) s

end Sys2Proof.Machine
end

section
/-!
PROOFS, commands. What runs when a command is taken: a record is judged by its owner and answered, an event has its effect. Then the
laws that rest on the layout tables and the hotkey table alone, which only six records and the resets write.
-/

set_option Elab.async false
namespace Sys2Proof.Machine
open Sys2Proof Sys2Proof.Safety

/-! ### Records -/

/-- The judgement of a record's owner past the BUSY step. -/
def judged (i : Instr) (s : State) : Judged :=
  match i with
  | .identify => judgeIdentify s
  | .queryStatus => judgeQueryStatus s
  | .clearEvents k => judgeClearEvents k s
  | .setEventMask k => judgeSetEventMask k s
  | .restart => judgeRestart s
  | .saveProfile => judgeSaveProfile s
  | .setScreen i c x y w h => judgeSetScreen i c x y w h s
  | .setComputer c r => judgeSetComputer c r s
  | .setHead c h d p a x y w hh => judgeSetHead c h d p a x y w hh s
  | .mapInput v c h => judgeMapInput v c h s
  | .getLayoutScreen i => judgeGetLayoutScreen i s
  | .getLayoutComputer c => judgeGetLayoutComputer c s
  | .getLayoutHead c h => judgeGetLayoutHead c h s
  | .getLayoutInput v => judgeGetLayoutInput v s
  | .assign i c h => judgeAssign i c h s
  | .storeScene n k w items => judgeStoreScene n k w items s
  | .applyScene n => judgeApplyScene n s
  | .setStartScene n => judgeSetStartScene n s
  | .getScreen i => judgeGetScreen i s
  | .getScreenScene n => judgeGetScene n s
  | .setScreenTiming l v c => judgeSetScreenTiming l v c s
  | .setBallistics t1 t2 t3 g0 g1 g2 g3 => judgeSetBallistics t1 t2 t3 g0 g1 g2 g3 s
  | .setGlide b => judgeSetGlide b s
  | .warpComputer c => judgeWarpComputer c s
  | .warpPosition x y => judgeWarpPosition x y s
  | .getPointer => judgeGetPointer s
  | .setFocus c sc => judgeSetFocus c sc s
  | .getFocus => judgeGetFocus s
  | .getFocusMap m => judgeGetFocusMap m s
  | .setKeymap m ps => judgeSetKeymap m ps s
  | .setKeyOptions l k w => judgeSetKeyOptions l k w s
  | .deskPortCheck p => judgeDeskPort (fun _ s => s) p s
  | .deskPortEnable p => judgeDeskPort enablePort p s
  | .deskPortDisable p => judgeDeskPort disablePort p s
  | .addHotkey ch r => judgeAddHotkey ch r s
  | .removeHotkey n => judgeRemoveHotkey n s
  | .getHotkey n => judgeGetHotkey n s
  | .getHotkeyMatcher => judgeGetMatcher s
  | .runAction k a b => judgeRunAction k a b s
  | .setLine l r => judgeSetLine l r s
  | .driveLine l v => judgeDriveLine l v s
  | .getLines => judgeGetLines s
  | .wake c => judgeWake c s
  | .getComputer c => judgeGetComputer c s
  | .setDeskPower sv sc ov oc dz rw => judgeSetDeskPower sv sc ov oc dz rw s
  | .setDeskPowerRead => judgeReadDeskPower s
  | .deskStandby => judgeDeskStandby s
  | _ => .error .unknownKind

/-- A record's command is answered with the record's kind by its owner (R188, R199). -/
theorem exec_record (i : Instr) (k : Nat) (b : List Nat) (s : State) (h : i.record = some (k, b)) :
    exec i s = answerRecord k (handleRecord i) s := by
  cases i <;> cases h <;> rfl

theorem conclude_cases (s : State) (j : Judged) : (∃ r, conclude s j = (s, ⟨r, []⟩)) ∨ ∃ x, j = .ok x ∧ conclude s j = x := by
  cases j with
  | error r => exact .inl ⟨r, rfl⟩
  | ok x => exact .inr ⟨x, rfl, rfl⟩

theorem whenLoaded_cases (f : State → Judged) (s : State) :
    (∃ r, whenLoaded f s = (s, ⟨r, []⟩)) ∨ ∃ x, f s = .ok x ∧ whenLoaded f s = x := by
  unfold whenLoaded
  split
  · exact .inl ⟨_, rfl⟩
  · exact conclude_cases s (f s)

theorem whenReady_cases (f : State → Judged) (s : State) :
    (∃ r, whenReady f s = (s, ⟨r, []⟩)) ∨ ∃ x, f s = .ok x ∧ whenReady f s = x := by
  unfold whenReady
  split
  · exact conclude_cases s (f s)
  · exact .inl ⟨_, rfl⟩

theorem always_cases (f : State → Judged) (s : State) :
    (∃ r, always f s = (s, ⟨r, []⟩)) ∨ ∃ x, f s = .ok x ∧ always f s = x := conclude_cases s (f s)

/-- A record is refused, which changes nothing and returns no values, or dealt with as its owner judges (R1, R188). -/
theorem handleRecord_cases (i : Instr) (s : State) :
    (∃ r, handleRecord i s = (s, ⟨r, []⟩)) ∨ ∃ x, judged i s = .ok x ∧ handleRecord i s = x := by
  cases i
  case identify => exact always_cases judgeIdentify s
  case queryStatus => exact always_cases judgeQueryStatus s
  all_goals first
    | exact whenReady_cases _ s
    | exact whenLoaded_cases _ s
    | exact .inl ⟨_, rfl⟩

/-! ### The layout tables and the hotkey table -/

/-- The layout tables and the hotkey table are the same in two states. -/
def SameTables (s t : State) : Prop := t.layout = s.layout ∧ t.matcher.table = s.matcher.table

/-- The records that write the layout tables or the hotkey table. -/
def writesTables : Instr → Bool
  | .setScreen .. => true
  | .setComputer .. => true
  | .setHead .. => true
  | .mapInput .. => true
  | .addHotkey .. => true
  | .removeHotkey .. => true
  | _ => false

theorem wakeResult_eq (c : Computer) (s : State) : wakeResult c s = .ok ∨ wakeResult c s = .accepted := by
  unfold wakeResult; split <;> simp

@[simp] theorem onScreens_assignSource_leaves (i : ScreenId) (x : Option Head) (s : State) :
    (onScreens (assignSource i x) s).link = s.link ∧ (onScreens (assignSource i x) s).layout = s.layout ∧
    (onScreens (assignSource i x) s).matcher = s.matcher := by
  refine ⟨?_, ?_, ?_⟩ <;> exact onScreens_leaves _ _ (fun s => by simp) (fun i s => by simp) (fun s => by simp) s

@[simp] theorem restartForSettings_leaves (s : State) :
    (restartForSettings s).link = s.link ∧ (restartForSettings s).layout = s.layout ∧
    (restartForSettings s).matcher = s.matcher := by
  unfold restartForSettings; split <;> simp

/-- What dealing with a record does in every case: it is answered OK or ACCEPTED, its owner sends no reply itself, and the layout
tables and the hotkey table are written by the six records alone. -/
def RecordDone (i : Instr) (s : State) (x : Handled) : Prop :=
  (x.2.result = .ok ∨ x.2.result = .accepted) ∧ x.1.link.replies = s.link.replies ∧
    (writesTables i = false → SameTables s x.1)

theorem judgeRunAction_done (k a b : Nat) (s : State) (x : Handled) (h : judgeRunAction k a b s = .ok x) :
    RecordDone (.runAction k a b) s x := by
  unfold judgeRunAction at h
  split at h
  · cases h
  · cases h
  · split at h
    · cases h
    · next t ht =>
      have leaves := request_leaves _ s t ht
      have table := request_table _ s t ht
      split at h <;> cases h <;> simp [RecordDone, SameTables, leaves, table]

theorem judged_done (i : Instr) (s : State) (x : Handled) (h : judged i s = .ok x) : RecordDone i s x := by
  cases i
  case runAction => exact judgeRunAction_done _ _ _ s x h
  all_goals simp only [judged, judgeIdentify, judgeQueryStatus, judgeClearEvents, judgeSetEventMask, judgeRestart,
    judgeSaveProfile, judgeSetScreen, judgeSetComputer, judgeSetHead, judgeMapInput, judgeGetLayoutScreen,
    judgeGetLayoutComputer, judgeGetLayoutHead, judgeGetLayoutInput, judgeAssign, judgeStoreScene, judgeApplyScene,
    judgeSetStartScene, judgeGetScreen, judgeGetScene, judgeSetScreenTiming, judgeSetBallistics, judgeSetGlide,
    judgeWarpComputer, judgeWarpPosition, judgeGetPointer, judgeSetFocus, judgeGetFocus, judgeGetFocusMap, judgeSetKeymap,
    judgeSetKeyOptions, judgeDeskPort, judgeAddHotkey, judgeRemoveHotkey, judgeGetHotkey, judgeGetMatcher,
    judgeSetLine, judgeDriveLine, judgeGetLines, judgeWake, judgeGetComputer, judgeSetDeskPower, judgeReadDeskPower,
    judgeDeskStandby, ok, accepted] at h
  all_goals repeat' split at h
  all_goals cases h
  all_goals simp [RecordDone, SameTables, writesTables, wakeResult_eq]

/-- A configuration record of an image is judged as a record taken from the link is (R195). -/
theorem judged_of_judgeConfiguration (i : Instr) (s : State) (x : Handled) (h : judgeConfiguration i s = .ok x) :
    judged i s = .ok x := by
  cases i
  all_goals first
    | exact h
    | cases h

/-! ### Events -/

/-- The effect of a command that is no record. -/
def effect (i : Instr) (s : State) : State :=
  match i with
  | .powerOnReset rateHigh observed => powerOnReset rateHigh observed s
  | .profileLoadDone answered => profileLoad answered s
  | .byteReceived b stopGood => byteArrives b stopGood s
  | .gapTimerExpiry => gapExpiry s
  | .replySent => replySent s
  | .softReset => softReset s
  | .saveComplete r => saveComplete r s
  | .saveTimeout => saveTimeout s
  | .syncEdge v t => syncEdge v (s.advanceTo t)
  | .lostTimerExpiry v => lostExpiry v s
  | .lockInputChange i present => lockChange i present s
  | .linkTimerExpiry i => linkExpiry i s
  | .powerOnTimerExpiry i => powerOnExpiry i s
  | .deskPointerReport bytes t => pointerArrives bytes (s.advanceTo t)
  | .pushDecayTimerExpiry => pushExpiry s
  | .deskDeviceAttach p => deskAttach p s
  | .deskDeviceDetach p => deskDetach p s
  | .deskKeyboardReport bytes t => keysArrive bytes (s.advanceTo t)
  | .stuckTimerExpiry code => stuckExpiry code s
  | .windowTimerExpiry => windowExpiry s
  | .lineLevelChange l high => lineLevel l high s
  | .filterTimerExpiry l => filterExpiry l s
  | .busPowerAppears c => busPowerAppears c s
  | .configurationSelected c => configurationSelected c s
  | .busIdle c => busIdle c s
  | .busActivity c => busActivity c s
  | .configurationDeselected c => configurationDeselected c s
  | .busReset c => busReset c s
  | .busPowerDisappears c => busPowerDisappears c s
  | .keyboardPoll c => pollKeys c s
  | .pointerPoll c => pollPointer c s
  | .currentStateRequest c f => currentState c f s
  | .lampWrite c lamps => lampWrite c lamps s
  | .remoteWakeChange c granted => remoteWakeChange c granted s
  | .attemptTimerExpiry c => attemptExpiry c s
  | .wakePulseExpiry c => pulseExpiry c s
  | .idleThresholdReached => idleReached s
  | .motionWindowExpiry => motionExpiry s
  | _ => s

theorem exec_event (i : Instr) (s : State) (h : i.record = none) : exec i s = .next (effect i s.fresh) := by
  cases i
  all_goals first
    | rfl
    | cases h

/-! ### Laws that every command keeps -/

theorem sameButReply_sendReply (k : Nat) (r : Reply) (s : State) : SameButReply (s.sendReply k r) s := rfl

/-- A law that no reply touches and that every record's owner keeps. -/
structure RecordLaw (law : State → Prop) : Prop where
  reply : ∀ s t, SameButReply t s → law s → law t
  judged : ∀ i s x, judged i s = .ok x → law s → law x.1

/-- A law that every command keeps, the idle tick and the queue of commands included. -/
structure CommandLaw (law : State → Prop) : Prop extends RecordLaw law where
  event : ∀ i s, i.record = none → law s → law (effect i s)
  queue : ∀ s rest, law s → law { s with pending := rest }
  tick : ∀ s, law s → law s.tick

section
variable {law : State → Prop}

theorem RecordLaw.handleRecord_keeps (hl : RecordLaw law) (i : Instr) (s : State) (hs : law s) : law (handleRecord i s).1 := by
  obtain ⟨r, h⟩ | ⟨x, hx, h⟩ := handleRecord_cases i s
  · rwa [h]
  · rw [h]; exact hl.judged i s x hx hs

theorem RecordLaw.handleParsed_keeps (hl : RecordLaw law) (p : Parsed) (s : State) (hs : law s) : law (handleParsed p s).1 := by
  cases p with
  | unknownKind => exact hs
  | badLength => exact hs
  | outOfRange =>
    obtain ⟨r, h⟩ | ⟨x, hx, -⟩ := whenLoaded_cases (fun _ => .error .outOfRange) s
    · simpa only [handleParsed, handleOutOfRange, h] using hs
    · cases hx
  | command i => exact hl.handleRecord_keeps i s hs

/-- An item taken from the receive queue is a mark, which is answered alone, or a record (R188). -/
theorem RecordLaw.answerItem_keeps (hl : RecordLaw law) (it : RxItem) (s : State) (hs : law s) : law (answerItem it s) := by
  cases it with
  | check => exact hl.reply s _ rfl hs
  | overrun kind =>
    simp only [answerItem]
    split <;> exact hl.reply s _ rfl hs
  | record kind body =>
    simp only [answerItem]
    split
    · exact hl.reply _ _ (sameButReply_sendReply _ _ _) (hl.handleParsed_keeps _ s hs)
    · exact hl.reply s _ rfl hs

theorem RecordLaw.serve_keeps (hl : RecordLaw law) (s : State) (hs : law s) : law (serve s) := by
  unfold serve
  split
  · split
    · exact hs
    · exact hl.answerItem_keeps _ _ (hl.reply s _ rfl hs)
  · exact hs

/-- Every record of an image that is loaded is judged by its owner (R195). -/
theorem RecordLaw.loadRecords_keeps (hl : RecordLaw law) (rs : List (Nat × List Nat)) (s t : State)
    (h : loadRecords rs s = some t) (hs : law s) : law t := by
  induction rs generalizing s with
  | nil => cases h; exact hs
  | cons r rs ih =>
    obtain ⟨u, hu, ht⟩ := Option.bind_eq_some_iff.1 h
    refine ih u ht ?_
    unfold loadRecord at hu
    split at hu
    · next i _ =>
      split at hu
      · next x hx => cases hu; exact hl.judged i s x (judged_of_judgeConfiguration i s x hx) hs
      · cases hu
    · cases hu

theorem RecordLaw.loadImage_keeps (hl : RecordLaw law) (s t : State) (h : loadImage s = some t) (hs : law s) : law t := by
  unfold loadImage at h
  split at h
  · cases h
  · split at h
    · cases h
    · exact hl.loadRecords_keeps _ s t h hs

theorem RecordLaw.judgeImage_keeps (hl : RecordLaw law) (answered : Bool) (s t : State)
    (h : judgeImage answered s = .loaded t) (hs : law s) : law t := by
  unfold judgeImage at h
  repeat' split at h
  all_goals cases h
  exact hl.loadImage_keeps s _ ‹_› hs

theorem CommandLaw.exec_keeps (hl : CommandLaw law) (i : Instr) (s t : State) (h : exec i s = .next t) (hs : law s) : law t := by
  have fresh : law s.fresh := hl.reply s _ rfl hs
  cases hr : i.record with
  | none =>
    rw [exec_event i s hr] at h
    cases h
    exact hl.event i _ hr fresh
  | some kb =>
    obtain ⟨k, b⟩ := kb
    rw [exec_record i k b s hr] at h
    cases h
    exact hl.reply _ _ (sameButReply_sendReply _ _ _) (hl.handleRecord_keeps i _ fresh)

theorem CommandLaw.kept (hl : CommandLaw law) : Kept law := by
  intro s t hs hstep
  unfold step at hstep
  split at hstep
  · cases hstep; exact hl.tick s hs
  · exact hl.exec_keeps _ _ t hstep (hl.queue s _ hs)

end

end Sys2Proof.Machine
end

section
/-!
PROOFS, what the six records write: the tables after each, and what an accepted one has passed.
-/

set_option Elab.async false
namespace Sys2Proof.Machine
open Sys2Proof Sys2Proof.Safety

/-! ### Lists of all members -/

theorem mem_allEntries : ∀ n : EntryNo, n ∈ allEntries := by decide
theorem mem_allScreens : ∀ i : ScreenId, i ∈ allScreens := by decide
theorem mem_allInputs : ∀ v : InputId, v ∈ allInputs := by decide
theorem mem_allHeads : ∀ h : HeadNo, h ∈ allHeads := by decide
theorem mem_allComputers : ∀ c : Computer, c ∈ allComputers := by decide

/-! ### The layout tables after an operation -/

theorem headInput_of_layout {s t : State} (h : t.layout = s.layout) (g : Head) : t.headInput g = s.headInput g := by
  simp only [State.headInput, State.binding, h]

theorem headInput_setHeadEntry (h g : Head) (x : Option HeadEntry) (s : State) :
    (s.setHeadEntry h x).headInput g = s.headInput g := rfl

/-- What neither a notice nor the settling test touches is, after an operation of the controller, as the operation itself left it. -/
theorem onScreens_reads {α : Type} (g : State → α) (f : State → State) (notice : ∀ i s, g (sourceChanged i s) = g s)
    (settle : ∀ s, g (settleAll s) = g s) (s : State) : g (onScreens f s) = g (f s) := by
  unfold onScreens withNotices
  rw [settle, foldl_leaves g _ fun t i => by split; rfl; exact notice i t]

/-- The layout tables with an input, if any, unbound. -/
def Layout.unbound (l : Layout) (v : Option InputId) : Layout :=
  match v with
  | some v => { l with inputs := l.inputs.set v none }
  | none => l

theorem setScreenRect_self (i : ScreenId) (s : State) : (s.setScreenRect i (s.screenRect i)).layout = s.layout := by
  simp [State.screenRect]

theorem setBinding_self (v : InputId) (s : State) : (s.setBinding v (s.binding v)).layout = s.layout := by
  simp [State.binding]

theorem setHeadEntry_self (h : Head) (s : State) : (s.setHeadEntry h (s.headEntry h)).layout = s.layout := by
  simp [State.headEntry, State.setHeadEntry]

@[simp] theorem applyScreen_layout (i : ScreenId) (r : Option Rect) (s : State) :
    (applyScreen i r s).layout = (s.setScreenRect i r).layout := by
  simp only [applyScreen]
  split
  · next h => rw [← h, setScreenRect_self]
  · split <;> simp

@[simp] theorem applyComputer_layout (c : Computer) (e : ComputerEntry) (s : State) :
    (applyComputer c e s).layout = (s.setComputerEntry c e).layout := by
  simp [applyComputer]

@[simp] theorem rebind_layout (v : InputId) (new : Option Head) (s : State) :
    (rebind v new s).layout = (s.setBinding v new).layout := by
  simp [rebind]

@[simp] theorem applyInput_layout (v : InputId) (new : Option Head) (s : State) :
    (applyInput v new s).layout = (s.setBinding v new).layout := by
  unfold applyInput
  split
  · next h => rw [← h, setBinding_self]
  · exact (onScreens_reads (fun s => s.layout) _ (fun i s => by simp) (fun s => by simp) s).trans (rebind_layout v new s)

@[simp] theorem defineHead_layout (h : Head) (e : HeadEntry) (s : State) :
    (defineHead h e s).layout = (s.setHeadEntry h (some e)).layout := by
  simp only [defineHead]
  split <;> simp

theorem unbindHead_layout (h : Head) (s : State) : (unbindHead h s).layout = s.layout.unbound (s.headInput h) := by
  unfold unbindHead
  split <;> simp_all [Layout.unbound]

/-- An undefined head leaves its entry and its input (R10). -/
theorem undefineHead_layout (h : Head) (s : State) (hd : s.headEntry h ≠ none) :
    (undefineHead h s).layout = (s.setHeadEntry h none).layout.unbound (s.headInput h) := by
  have dropped : (eachScreen (dropWaiting h) (s.setHeadEntry h none)).layout = (s.setHeadEntry h none).layout :=
    eachScreen_leaves (fun s => s.layout) _ (fun i s => by simp) _
  unfold undefineHead
  rw [if_neg (by simpa using hd), onScreens_reads (fun s => s.layout) _ (fun i s => by simp) (fun s => by simp),
    eachScreen_leaves (fun s => s.layout) _ (fun i s => by simp), unbindHead_layout, dropped,
    headInput_of_layout dropped, headInput_setHeadEntry]

theorem undefineHead_undefined (h : Head) (s : State) (hd : s.headEntry h = none) : undefineHead h s = s :=
  if_pos (by simp [hd])

/-! ### What an accepted record has passed -/

theorem judgeSetScreen_ok (n f x y w h : Nat) (s : State) (z : Handled) (hz : judgeSetScreen n f x y w h s = .ok z) :
    ∃ i new, (∀ r, new = some r → r.fitsPlane = true ∧ s.overlapsOther i r = false) ∧ z = (applyScreen i new s, ⟨.ok, []⟩) := by
  unfold judgeSetScreen at hz
  split at hz
  · next i _ _ => cases hz; exact ⟨i, none, by simp, rfl⟩
  · next i _ _ =>
    dsimp only at hz
    repeat' split at hz
    all_goals cases hz
    next hfit hover => exact ⟨i, some ⟨x, y, w, h⟩, by simp_all, rfl⟩
  · cases hz

theorem judgeSetComputer_ok (n : Nat) (r : RawComputer) (s : State) (z : Handled) (hz : judgeSetComputer n r s = .ok z) :
    ∃ c e, s.headsExceed c e = false ∧ z = (applyComputer c e s, ⟨.ok, []⟩) := by
  unfold judgeSetComputer at hz
  split at hz
  · next c e _ _ =>
    split at hz
    · cases hz
    · next hc => cases hz; exact ⟨c, e, by simp_all, rfl⟩
  · cases hz

theorem judgeSetHead_ok (c hd d p a x y w h : Nat) (s : State) (z : Handled) (hz : judgeSetHead c hd d p a x y w h s = .ok z) :
    ∃ g, z = (undefineHead g s, ⟨.ok, []⟩) ∨
      ∃ e, e.rect.fitsHead (s.computer g.computer) = true ∧ z = (defineHead g e s, ⟨.ok, []⟩) := by
  unfold judgeSetHead at hz
  split at hz
  · next g _ _ _ _ => split at hz <;> cases hz; exact ⟨g, .inl rfl⟩
  · next g _ _ _ _ =>
    dsimp only at hz
    split at hz <;> cases hz
    next hfit => exact ⟨g, .inr ⟨_, hfit.2, rfl⟩⟩
  · cases hz

theorem judgeMapInput_ok (v c h : Nat) (s : State) (z : Handled) (hz : judgeMapInput v c h s = .ok z) :
    ∃ i new, (∀ g, new = some g → (s.headEntry g).isSome = true ∧ ∀ w, s.headInput g = some w → w = i) ∧
      z = (applyInput i new s, ⟨.ok, []⟩) := by
  unfold judgeMapInput at hz
  split at hz
  · next i _ _ => cases hz; exact ⟨i, none, by simp, rfl⟩
  · next i g _ _ =>
    repeat' split at hz
    all_goals cases hz
    next hbound hdef =>
      refine ⟨i, some g, ?_, rfl⟩
      rintro _ ⟨⟩
      refine ⟨by simpa [Option.isSome_iff_ne_none] using hdef, fun w hw => ?_⟩
      simpa [hw] using hbound
  · cases hz

theorem judgeAddHotkey_ok (choice : Nat) (r : RawHotkey) (s : State) (z : Handled) (hz : judgeAddHotkey choice r s = .ok z) :
    ∃ n h, (∀ m k, m ≠ n → s.entry m = some k → k.trigger.clashes h.trigger = false) ∧
      z = (s.setHotkey n (some h), ⟨.ok, [byte n]⟩) := by
  unfold judgeAddHotkey at hz
  split at hz
  · next place h _ _ =>
    repeat' split at hz
    all_goals cases hz
    next hclash _ n hn =>
      refine ⟨n, h, fun m k hmn hk => ?_, rfl⟩
      simp only [State.clashing, List.any_eq_true, not_exists, not_and] at hclash
      have free := hclash m (mem_allEntries m)
      simp only [hk, Option.any_some, Bool.and_eq_true, not_and, Bool.not_eq_true] at free
      refine free ?_
      cases place with
      | none => rfl
      | some q => cases hn; simpa using hmn
  · cases hz

theorem judgeRemoveHotkey_ok (entry : Nat) (s : State) (z : Handled) (hz : judgeRemoveHotkey entry s = .ok z) :
    ∃ n, z = (s.setHotkey n none, ⟨.ok, []⟩) := by
  unfold judgeRemoveHotkey at hz
  repeat' split at hz
  all_goals cases hz
  exact ⟨_, rfl⟩

/-! ### What the six records write -/

/-- The writes of the layout tables and the hotkey table, each with the checks its record has passed. -/
inductive TableWrite (s : State) : State → Prop
  | screen (i : ScreenId) (new : Option Rect)
      (checked : ∀ r, new = some r → r.fitsPlane = true ∧ s.overlapsOther i r = false) : TableWrite s (applyScreen i new s)
  | computer (c : Computer) (e : ComputerEntry) (checked : s.headsExceed c e = false) : TableWrite s (applyComputer c e s)
  | define (g : Head) (e : HeadEntry) (checked : e.rect.fitsHead (s.computer g.computer) = true) :
      TableWrite s (defineHead g e s)
  | undefine (g : Head) : TableWrite s (undefineHead g s)
  | input (v : InputId) (new : Option Head)
      (checked : ∀ g, new = some g → (s.headEntry g).isSome = true ∧ ∀ w, s.headInput g = some w → w = v) :
      TableWrite s (applyInput v new s)
  | addHotkey (n : EntryNo) (h : Hotkey)
      (checked : ∀ m k, m ≠ n → s.entry m = some k → k.trigger.clashes h.trigger = false) :
      TableWrite s (s.setHotkey n (some h))
  | removeHotkey (n : EntryNo) : TableWrite s (s.setHotkey n none)

theorem judged_tableWrite (i : Instr) (s : State) (x : Handled) (hw : writesTables i = true) (h : judged i s = .ok x) :
    TableWrite s x.1 := by
  cases i
  case setScreen =>
    obtain ⟨i, new, checked, rfl⟩ := judgeSetScreen_ok _ _ _ _ _ _ s x h
    exact .screen i new checked
  case setComputer =>
    obtain ⟨c, e, checked, rfl⟩ := judgeSetComputer_ok _ _ s x h
    exact .computer c e checked
  case setHead =>
    obtain ⟨g, rfl | ⟨e, checked, rfl⟩⟩ := judgeSetHead_ok _ _ _ _ _ _ _ _ _ s x h
    · exact .undefine g
    · exact .define g e checked
  case mapInput =>
    obtain ⟨v, new, checked, rfl⟩ := judgeMapInput_ok _ _ _ s x h
    exact .input v new checked
  case addHotkey =>
    obtain ⟨n, k, checked, rfl⟩ := judgeAddHotkey_ok _ _ s x h
    exact .addHotkey n k checked
  case removeHotkey =>
    obtain ⟨n, rfl⟩ := judgeRemoveHotkey_ok _ s x h
    exact .removeHotkey n
  all_goals cases hw

/-! ### Single tables after a write -/

@[simp] theorem Layout.unbound_leaves (l : Layout) (v : Option InputId) :
    (l.unbound v).screens = l.screens ∧ (l.unbound v).computers = l.computers ∧ (l.unbound v).heads = l.heads := by
  cases v <;> simp [Layout.unbound]

@[simp] theorem setHeadEntry_layout_leaves (g : Head) (e : Option HeadEntry) (s : State) :
    (s.setHeadEntry g e).layout.screens = s.layout.screens ∧ (s.setHeadEntry g e).layout.computers = s.layout.computers ∧
    (s.setHeadEntry g e).layout.inputs = s.layout.inputs := ⟨rfl, rfl, rfl⟩

@[simp] theorem undefineHead_layout_leaves (g : Head) (s : State) :
    (undefineHead g s).layout.screens = s.layout.screens ∧ (undefineHead g s).layout.computers = s.layout.computers := by
  by_cases hd : s.headEntry g = none
  · simp [undefineHead_undefined g s hd]
  · simp [undefineHead_layout g s hd]

@[simp] theorem headEntry_undefineHead (g h : Head) (s : State) :
    (undefineHead g s).headEntry h = if g = h then none else s.headEntry h := by
  by_cases hd : s.headEntry g = none
  · rw [undefineHead_undefined g s hd]
    split
    · next e => rw [← e, hd]
    · rfl
  · rw [← State.headEntry_setHeadEntry]
    simp only [State.headEntry, undefineHead_layout g s hd, Layout.unbound_leaves]

@[simp] theorem headEntry_defineHead (g h : Head) (e : HeadEntry) (s : State) :
    (defineHead g e s).headEntry h = if g = h then some e else s.headEntry h := by
  rw [← State.headEntry_setHeadEntry]
  simp only [State.headEntry, defineHead_layout]

@[simp] theorem screenRect_applyScreen (i j : ScreenId) (new : Option Rect) (s : State) :
    (applyScreen i new s).screenRect j = if i = j then new else s.screenRect j := by
  rw [← State.screenRect_setScreenRect]
  simp only [State.screenRect, applyScreen_layout]

@[simp] theorem computer_applyComputer (c d : Computer) (e : ComputerEntry) (s : State) :
    (applyComputer c e s).computer d = if c = d then e else s.computer d := by
  rw [← State.computer_setComputerEntry]
  simp only [State.computer, applyComputer_layout]

@[simp] theorem binding_applyInput (v w : InputId) (new : Option Head) (s : State) :
    (applyInput v new s).binding w = if v = w then new else s.binding w := by
  rw [← State.binding_setBinding]
  simp only [State.binding, applyInput_layout]

theorem binding_unbound (l : Layout) (v : Option InputId) (w : InputId) :
    (l.unbound v).inputs[w] = if v = some w then none else l.inputs[w] := by
  cases v <;> simp [Layout.unbound, Vector.getElem_set, Fin.ext_iff]

theorem binding_undefineHead (g : Head) (w : InputId) (s : State) (hd : s.headEntry g ≠ none) :
    (undefineHead g s).binding w = if s.headInput g = some w then none else s.binding w := by
  unfold State.binding
  rw [undefineHead_layout g s hd, binding_unbound]
  rfl

end Sys2Proof.Machine
end

section
/-!
PROOFS, the laws of the tables (O55): screens apart, heads inside, bindings, hotkey triggers.
-/

set_option Elab.async false
namespace Sys2Proof.Machine
open Sys2Proof Sys2Proof.Safety

/-! ### Laws that rest on the tables alone -/

/-- A law that rests on the layout tables and the hotkey table: it holds of the tables that a power-on reset leaves, and the records
that write the tables keep it. -/
structure TableLaw (law : State → Prop) : Prop where
  tables : ∀ s t, SameTables s t → law s → law t
  reset : law State.reset
  written : ∀ s t, TableWrite s t → law s → law t

theorem powerOnReset_sameTables (rateHigh : Bool) (observed : List Attach) (s : State) :
    SameTables State.reset (powerOnReset rateHigh observed s) := by
  have attach_layout (t : State) (a : Attach) : (observeAttach t a).layout = t.layout := by
    cases a <;> simp [observeAttach]
  have attach_table (t : State) (a : Attach) : (observeAttach t a).matcher.table = t.matcher.table := by
    cases a <;> simp [observeAttach]
  unfold powerOnReset
  constructor
  · rw [foldl_leaves (fun s => s.layout) observeAttach attach_layout]; rfl
  · rw [foldl_leaves (fun s => s.matcher.table) observeAttach attach_table]; rfl

@[simp] theorem stopSave_leaves (sv : Save) (st : SaveStep) (s : State) :
    (stopSave sv st s).layout = s.layout ∧ (stopSave sv st s).matcher = s.matcher := by
  simp [stopSave, countFree]

@[simp] theorem failSave_leaves (sv : Save) (st : SaveStep) (s : State) :
    (failSave sv st s).layout = s.layout ∧ (failSave sv st s).matcher = s.matcher := by
  simp [failSave]

@[simp] theorem cutSave_leaves (sv : Save) (s : State) :
    (cutSave sv s).layout = s.layout ∧ (cutSave sv s).matcher = s.matcher := by
  simp [cutSave, countFree]

@[simp] theorem saveComplete_leaves (r : SaveResult) (s : State) :
    (saveComplete r s).layout = s.layout ∧ (saveComplete r s).matcher = s.matcher := by
  unfold saveComplete
  repeat' split
  all_goals simp

@[simp] theorem saveTimeout_leaves (s : State) :
    (saveTimeout s).layout = s.layout ∧ (saveTimeout s).matcher = s.matcher := by
  unfold saveTimeout
  split <;> simp

@[simp] theorem softResetSave_leaves (s : State) :
    (softResetSave s).layout = s.layout ∧ (softResetSave s).matcher = s.matcher := by
  unfold softResetSave
  split <;> simp

@[simp] theorem softResetBlocks_sameTables (s : State) :
    (softResetBlocks s).layout = s.layout ∧ (softResetBlocks s).matcher.table = s.matcher.table := by
  have power_layout (t : State) : (allComputers.foldl (fun s c => softResetPower c s) t).layout = t.layout :=
    foldl_leaves (fun s => s.layout) _ (fun s c => by simp) allComputers t
  have power_table (t : State) :
      (allComputers.foldl (fun s c => softResetPower c s) t).matcher.table = t.matcher.table :=
    foldl_leaves (fun s => s.matcher.table) _ (fun s c => by simp) allComputers t
  simp [softResetBlocks, power_layout, power_table]

@[simp] theorem enqueue_leaves (it : RxItem) (s : State) :
    (enqueue it s).layout = s.layout ∧ (enqueue it s).matcher = s.matcher := by
  simp [enqueue]

@[simp] theorem enqueueMarker_leaves (it : RxItem) (s : State) :
    (enqueueMarker it s).layout = s.layout ∧ (enqueueMarker it s).matcher = s.matcher := by
  unfold enqueueMarker
  split <;> simp

@[simp] theorem judgeFrame_leaves (n : Nat) (bytes : List Byte) (check : Byte) (s : State) :
    (judgeFrame n bytes check s).layout = s.layout ∧ (judgeFrame n bytes check s).matcher = s.matcher := by
  unfold judgeFrame placeCheck placeRecord
  repeat' split
  all_goals simp

@[simp] theorem gapExpiry_leaves (s : State) : (gapExpiry s).layout = s.layout ∧ (gapExpiry s).matcher = s.matcher := by
  unfold gapExpiry
  split <;> simp

section
variable {law : State → Prop} (hl : TableLaw law)
include hl

theorem TableLaw.recordLaw : RecordLaw law where
  reply s t h := hl.tables s t (by rw [h]; exact ⟨rfl, rfl⟩)
  judged i s x h hs := by
    cases hw : writesTables i with
    | true => exact hl.written s _ (judged_tableWrite i s x hw h) hs
    | false =>
      obtain ⟨-, -, same⟩ := judged_done i s x h
      exact hl.tables s _ (same hw) hs

theorem TableLaw.byteArrives_keeps (b : Byte) (stopGood : Bool) (s : State) (hs : law s) : law (byteArrives b stopGood s) := by
  unfold byteArrives assemble
  repeat' split
  all_goals first
    | exact hs
    | exact hl.recordLaw.serve_keeps _ (hl.tables s _ (by simp [SameTables]) hs)
    | exact hl.tables s _ (by simp [SameTables]) hs

theorem TableLaw.profileLoad_keeps (answered : Bool) (s : State) (hs : law s) : law (profileLoad answered s) := by
  unfold profileLoad
  split
  · split
    · next t h =>
      exact hl.tables t _ (by simp [SameTables, endLoad, setStore]) (hl.recordLaw.judgeImage_keeps answered s t h hs)
    · exact hl.tables s _ (by simp [SameTables, endLoad, setStore]) hs
    · exact hl.tables s _ (by simp [SameTables, endLoad, setStore]) hs
  · exact hs

theorem TableLaw.replySent_keeps (s : State) (hs : law s) : law (replySent s) := by
  unfold replySent
  split
  · exact hs
  · exact hl.recordLaw.serve_keeps _ (hl.tables s _ (by simp [SameTables]) hs)

theorem TableLaw.softReset_keeps (s : State) (hs : law s) : law (softReset s) := by
  unfold softReset
  exact hl.recordLaw.serve_keeps _ (hl.tables s _ (by simp [SameTables]) hs)

/-- An event writes neither table, but for the power-on reset and the commands that take records: a load, and what serves the
receive queue. -/
theorem TableLaw.effect_keeps (i : Instr) (s : State) (hs : law s) : law (effect i s) := by
  cases i
  case powerOnReset rateHigh observed => exact hl.tables _ _ (powerOnReset_sameTables rateHigh observed s) hl.reset
  case profileLoadDone answered => exact hl.profileLoad_keeps answered s hs
  case byteReceived b stopGood => exact hl.byteArrives_keeps b stopGood s hs
  case replySent => exact hl.replySent_keeps s hs
  case softReset => exact hl.softReset_keeps s hs
  all_goals exact hl.tables s _ (by simp [SameTables, effect]) hs

theorem TableLaw.kept : Kept law :=
  CommandLaw.kept
    { hl.recordLaw with
      event := fun i s _ => hl.effect_keeps i s
      queue := fun s _ => hl.tables s _ ⟨rfl, rfl⟩
      tick := fun s => hl.tables s _ ⟨rfl, rfl⟩ }

end
end Sys2Proof.Machine
end

section
/-!
PROOFS, the laws of the tables (O55): each is a law of the tables, so it is enough that what the six records write keeps it.
-/

set_option Elab.async false
namespace Sys2Proof.Machine
open Sys2Proof Sys2Proof.Safety

/-! ### The input of a head (R11, R13) -/

theorem binding_of_headInput {s : State} {h : Head} {v : InputId} (hv : s.headInput h = some v) : s.binding v = some h := by
  simpa using List.find?_some hv

theorem headInput_eq_none_iff (s : State) (h : Head) : s.headInput h = none ↔ ∀ v, s.binding v ≠ some h := by
  simp [State.headInput, mem_allInputs]

theorem headInput_of_binding {s : State} (agree : BindingsAgree s) {h : Head} {v : InputId} (hv : s.binding v = some h) :
    s.headInput h = some v := by
  cases hi : s.headInput h with
  | none => exact absurd hv ((headInput_eq_none_iff s h).1 hi v)
  | some w => rw [agree.2 v w h hv (binding_of_headInput hi)]

/-! ### Screens (R2) -/

theorem overlapsOther_eq_false_iff (s : State) (i : ScreenId) (r : Rect) :
    s.overlapsOther i r = false ↔ ∀ j a, j ≠ i → s.screenRect j = some a → r.overlaps a = false := by
  simp only [State.overlapsOther, List.any_eq_false, Bool.and_eq_true, bne_iff_ne, not_and, Bool.not_eq_true,
    Option.any_eq_false]
  exact ⟨fun h j a hj => h j (mem_allScreens j) hj a, fun h j _ hj a => h j a hj⟩

theorem Rect.overlaps_comm (a b : Rect) : a.overlaps b = b.overlaps a := by
  unfold Rect.overlaps
  ac_rfl

theorem screensApart_of_screens {s t : State} (h : t.layout.screens = s.layout.screens) (hs : ScreensApart s) :
    ScreensApart t := by
  have same (i : ScreenId) : t.screenRect i = s.screenRect i := by simp only [State.screenRect, h]
  simpa only [ScreensApart, same] using hs

theorem screensApart_applyScreen (i : ScreenId) (new : Option Rect) (s : State)
    (checked : ∀ r, new = some r → r.fitsPlane = true ∧ s.overlapsOther i r = false) (hs : ScreensApart s) :
    ScreensApart (applyScreen i new s) := by
  obtain ⟨inPlane, apart⟩ := hs
  have free {r : Rect} (hr : new = some r) := (overlapsOther_eq_false_iff s i r).1 (checked r hr).2
  refine ⟨fun j r hj => ?_, fun j k a b hjk ha hb => ?_⟩
  · rw [screenRect_applyScreen] at hj
    split at hj
    · exact (checked r hj).1
    · exact inPlane j r hj
  · rw [screenRect_applyScreen] at ha hb
    split at ha <;> split at hb
    · next e f => exact absurd (e.symm.trans f) hjk
    · next e _ => subst e; exact free ha k b (Ne.symm hjk) hb
    · next _ f => subst f; rw [Rect.overlaps_comm]; exact free hb j a hjk ha
    · exact apart j k a b hjk ha hb

theorem screensApart_tableLaw : TableLaw ScreensApart where
  tables s t same := screensApart_of_screens (by rw [same.1])
  reset := by
    have unconfigured (i : ScreenId) : State.reset.screenRect i = none := by revert i; decide
    simp [ScreensApart, unconfigured]
  written s t hw hs := by
    cases hw with
    | screen i new checked => exact screensApart_applyScreen i new s checked hs
    | computer c e _ => exact screensApart_of_screens (by simp) hs
    | define g e _ => exact screensApart_of_screens (by simp) hs
    | undefine g => exact screensApart_of_screens (by simp) hs
    | input v new _ => exact screensApart_of_screens (by simp) hs
    | addHotkey n h _ => exact screensApart_of_screens rfl hs
    | removeHotkey n => exact screensApart_of_screens rfl hs

/-! ### Heads (R8) -/

theorem headsInside_of_tables {s t : State} (hh : t.layout.heads = s.layout.heads)
    (hc : t.layout.computers = s.layout.computers) (hs : HeadsInside s) : HeadsInside t := by
  simpa only [HeadsInside, State.headEntry, State.computer, hh, hc] using hs

theorem headsExceed_eq_false_iff (s : State) (c : Computer) (e : ComputerEntry) :
    s.headsExceed c e = false ↔ ∀ n d, s.headEntry ⟨c, n⟩ = some d → d.rect.fitsDesktop e.w e.h = true := by
  simp only [State.headsExceed, List.any_eq_false, Bool.not_eq_true, Option.any_eq_false, Bool.not_eq_false']
  exact ⟨fun h n d hd => h n (mem_allHeads n) d hd, fun h n _ d hd => h n d hd⟩

/-- A rectangle that fits one desktop and lies in another fits the other. -/
theorem Rect.fitsHead_of_fitsDesktop {r : Rect} {old new : ComputerEntry} (h : r.fitsHead old = true)
    (hd : r.fitsDesktop new.w new.h = true) : r.fitsHead new = true := by
  simp only [Rect.fitsHead, Bool.and_eq_true] at h ⊢
  exact ⟨h.1, hd⟩

theorem headsInside_applyComputer (c : Computer) (e : ComputerEntry) (s : State) (checked : s.headsExceed c e = false)
    (hs : HeadsInside s) : HeadsInside (applyComputer c e s) := by
  intro h d hd
  have entries : (applyComputer c e s).headEntry h = s.headEntry h := by simp [State.headEntry]
  have entry : s.headEntry h = some d := entries ▸ hd
  rw [computer_applyComputer]
  split
  · next hc =>
    subst hc
    exact Rect.fitsHead_of_fitsDesktop (hs h d entry) ((headsExceed_eq_false_iff s _ e).1 checked h.no d entry)
  · exact hs h d entry

theorem headsInside_tableLaw : TableLaw HeadsInside where
  tables s t same := headsInside_of_tables (by rw [same.1]) (by rw [same.1])
  reset := by
    have undefined (h : Head) : State.reset.headEntry h = none := by
      obtain ⟨c, n⟩ := h; revert c n; decide
    simp [HeadsInside, undefined]
  written s t hw hs := by
    cases hw with
    | screen i new _ => exact headsInside_of_tables (by simp) (by simp) hs
    | computer c e checked => exact headsInside_applyComputer c e s checked hs
    | define g e checked =>
      intro h d hd
      have computers : (defineHead g e s).computer h.computer = s.computer h.computer := by simp [State.computer]
      rw [computers]
      rw [headEntry_defineHead] at hd
      split at hd
      · next hg => cases hd; rw [← hg]; exact checked
      · exact hs h d hd
    | undefine g =>
      intro h d hd
      have computers : (undefineHead g s).computer h.computer = s.computer h.computer := by simp [State.computer]
      rw [computers]
      rw [headEntry_undefineHead] at hd
      split at hd
      · cases hd
      · exact hs h d hd
    | input v new _ => exact headsInside_of_tables (by simp) (by simp) hs
    | addHotkey n h _ => exact headsInside_of_tables rfl rfl hs
    | removeHotkey n => exact headsInside_of_tables rfl rfl hs

/-! ### Bindings (R11) -/

theorem bindingsAgree_of_tables {s t : State} (hh : t.layout.heads = s.layout.heads) (hi : t.layout.inputs = s.layout.inputs)
    (hs : BindingsAgree s) : BindingsAgree t := by
  simpa only [BindingsAgree, State.headEntry, State.binding, hh, hi] using hs

theorem bindingsAgree_applyInput (v : InputId) (new : Option Head) (s : State)
    (checked : ∀ g, new = some g → (s.headEntry g).isSome = true ∧ ∀ w, s.headInput g = some w → w = v)
    (hs : BindingsAgree s) : BindingsAgree (applyInput v new s) := by
  have entries (h : Head) : (applyInput v new s).headEntry h = s.headEntry h := by simp [State.headEntry]
  have only {w : InputId} {h : Head} (hn : new = some h) (hw : s.binding w = some h) : w = v :=
    (checked h hn).2 w (headInput_of_binding hs hw)
  refine ⟨fun w h hw => ?_, fun w u h hw hu => ?_⟩
  · rw [entries]
    rw [binding_applyInput] at hw
    split at hw
    · exact (checked h hw).1
    · exact hs.1 w h hw
  · rw [binding_applyInput] at hw hu
    split at hw <;> split at hu
    · next e f => exact e.symm.trans f
    · next e f => exact absurd (only hw hu).symm f
    · next e f => exact absurd (only hu hw).symm e
    · exact hs.2 w u h hw hu

theorem bindingsAgree_undefineHead (g : Head) (s : State) (hs : BindingsAgree s) : BindingsAgree (undefineHead g s) := by
  by_cases hd : s.headEntry g = none
  · rwa [undefineHead_undefined g s hd]
  · have kept {v : InputId} {h : Head} (hv : (undefineHead g s).binding v = some h) : s.binding v = some h ∧ g ≠ h := by
      rw [binding_undefineHead g v s hd] at hv
      split at hv
      · cases hv
      · next hi => exact ⟨hv, fun e => hi (e ▸ headInput_of_binding hs hv)⟩
    refine ⟨fun v h hv => ?_, fun v w h hv hw => hs.2 v w h (kept hv).1 (kept hw).1⟩
    obtain ⟨hv, hg⟩ := kept hv
    rw [headEntry_undefineHead, if_neg hg]
    exact hs.1 v h hv

theorem bindingsAgree_tableLaw : TableLaw BindingsAgree where
  tables s t same := bindingsAgree_of_tables (by rw [same.1]) (by rw [same.1])
  reset := by
    have unbound (v : InputId) : State.reset.binding v = none := by revert v; decide
    simp [BindingsAgree, unbound]
  written s t hw hs := by
    cases hw with
    | screen i new _ => exact bindingsAgree_of_tables (by simp) (by simp) hs
    | computer c e _ => exact bindingsAgree_of_tables (by simp) (by simp) hs
    | define g e _ =>
      have bindings (v : InputId) : (defineHead g e s).binding v = s.binding v := by simp [State.binding]
      refine ⟨fun v h hv => ?_, fun v w h hv hw => ?_⟩
      · rw [headEntry_defineHead]
        split
        · rfl
        · exact hs.1 v h (by rwa [bindings] at hv)
      · rw [bindings] at hv hw
        exact hs.2 v w h hv hw
    | undefine g => exact bindingsAgree_undefineHead g s hs
    | input v new checked => exact bindingsAgree_applyInput v new s checked hs
    | addHotkey n h _ => exact bindingsAgree_of_tables rfl rfl hs
    | removeHotkey n => exact bindingsAgree_of_tables rfl rfl hs

/-! ### Hotkey triggers (R116) -/

theorem hotkeysApart_of_table {s t : State} (h : t.matcher.table = s.matcher.table) (hs : HotkeysApart s) :
    HotkeysApart t := by
  simpa only [HotkeysApart, State.entry, h] using hs

theorem Trigger.clashes_comm (a b : Trigger) : a.clashes b = b.clashes a := by
  cases a <;> cases b <;> simp [Trigger.clashes, beq_eq_decide, eq_comm]

theorem hotkeysApart_tableLaw : TableLaw HotkeysApart where
  tables s t same := hotkeysApart_of_table same.2
  reset := by
    have empty (n : EntryNo) : State.reset.entry n = none := by revert n; decide
    simp [HotkeysApart, empty]
  written s t hw hs := by
    cases hw with
    | screen i new _ => exact hotkeysApart_of_table (by simp) hs
    | computer c e _ => exact hotkeysApart_of_table (by simp) hs
    | define g e _ => exact hotkeysApart_of_table (by simp) hs
    | undefine g => exact hotkeysApart_of_table (by simp) hs
    | input v new _ => exact hotkeysApart_of_table (by simp) hs
    | addHotkey n h checked =>
      intro m k a b hmk ha hb
      rw [State.entry_setHotkey] at ha hb
      split at ha <;> split at hb
      · next e f => exact absurd (e.symm.trans f) hmk
      · next e f => cases ha; rw [Trigger.clashes_comm]; exact checked k b (Ne.symm f) hb
      · next e f => cases hb; exact checked m a (Ne.symm e) ha
      · exact hs m k a b hmk ha hb
    | removeHotkey n =>
      intro m k a b hmk ha hb
      rw [State.entry_setHotkey] at ha hb
      split at ha <;> split at hb
      all_goals first
        | cases ha
        | cases hb
        | exact hs m k a b hmk ha hb

/-- Settles O55: the four laws rest on the layout tables and the hotkey table, which only six records and the resets write, and each
record's checks keep them. -/
theorem layoutLawsKept : Obligations.LayoutLawsKept := by
  unfold Obligations.LayoutLawsKept
  exact ⟨screensApart_tableLaw.kept, headsInside_tableLaw.kept, bindingsAgree_tableLaw.kept, hotkeysApart_tableLaw.kept⟩

end Sys2Proof.Machine
end

section
/-!
PROOFS, the Pointer Engine. What pointer entries, changes of pointer focus, warps and re-homing do to the pointer, and the events
they raise.
-/

set_option Elab.async false
namespace Sys2Proof.Machine
open Sys2Proof Sys2Proof.Safety

/-! ### Entries -/

@[simp] theorem setPlace_pointer (p : Option Place) (s : State) : (setPlace p s).pointer = { s.pointer with place := p } := rfl
@[simp] theorem setPush_pointer (p : Option Push) (s : State) : (setPush p s).pointer = { s.pointer with push := p } := rfl

/-- Handing a pointer entry to a computer changes nothing of the Pointer Engine but the swallow set (R155, R156). -/
theorem takePointer_pointer (c : Computer) (x y : Nat) (b : ButtonSet) (w : Int) (s : State) :
    ∃ swallow, (takePointer c x y b w s).pointer = { s.pointer with swallow := swallow } := by
  have placed (t : State) (ht : t.pointer = s.pointer) :
      ∃ swallow, (placePointer c x y b w t).pointer = { s.pointer with swallow := swallow } :=
    ⟨_, by rw [placePointer_swallow, ht]⟩
  have kept (t : State) (ht : t.pointer = s.pointer) :
      ∃ swallow, t.pointer = { s.pointer with swallow := swallow } := ⟨s.pointer.swallow, ht⟩
  simp only [takePointer]
  repeat' split
  all_goals first
    | exact placed _ (by simp)
    | exact kept _ (by simp)

@[simp] theorem takePointer_pointer_leaves (c : Computer) (x y : Nat) (b : ButtonSet) (w : Int) (s : State) :
    (takePointer c x y b w s).pointer.place = s.pointer.place ∧ (takePointer c x y b w s).pointer.focus = s.pointer.focus ∧
    (takePointer c x y b w s).pointer.rx = s.pointer.rx ∧ (takePointer c x y b w s).pointer.ry = s.pointer.ry ∧
    (takePointer c x y b w s).pointer.lastInterval = s.pointer.lastInterval ∧
    (takePointer c x y b w s).pointer.push = s.pointer.push ∧ (takePointer c x y b w s).pointer.glideLock = s.pointer.glideLock ∧
    (takePointer c x y b w s).pointer.buttons = s.pointer.buttons ∧
    (takePointer c x y b w s).pointer.lastAbs = s.pointer.lastAbs ∧ (takePointer c x y b w s).pointer.t1 = s.pointer.t1 ∧
    (takePointer c x y b w s).pointer.t2 = s.pointer.t2 ∧ (takePointer c x y b w s).pointer.t3 = s.pointer.t3 ∧
    (takePointer c x y b w s).pointer.g0 = s.pointer.g0 ∧ (takePointer c x y b w s).pointer.g1 = s.pointer.g1 ∧
    (takePointer c x y b w s).pointer.g2 = s.pointer.g2 ∧ (takePointer c x y b w s).pointer.g3 = s.pointer.g3 ∧
    (takePointer c x y b w s).pointer.barrier = s.pointer.barrier := by
  obtain ⟨swallow, h⟩ := takePointer_pointer c x y b w s
  simp [h]

@[simp] theorem swallowHeld_pointer_leaves (s : State) :
    (swallowHeld s).pointer.place = s.pointer.place ∧ (swallowHeld s).pointer.focus = s.pointer.focus ∧
    (swallowHeld s).pointer.rx = s.pointer.rx ∧ (swallowHeld s).pointer.ry = s.pointer.ry ∧
    (swallowHeld s).pointer.lastInterval = s.pointer.lastInterval ∧ (swallowHeld s).pointer.push = s.pointer.push ∧
    (swallowHeld s).pointer.glideLock = s.pointer.glideLock ∧ (swallowHeld s).pointer.buttons = s.pointer.buttons ∧
    (swallowHeld s).pointer.lastAbs = s.pointer.lastAbs ∧ (swallowHeld s).pointer.t1 = s.pointer.t1 ∧
    (swallowHeld s).pointer.t2 = s.pointer.t2 ∧ (swallowHeld s).pointer.t3 = s.pointer.t3 ∧
    (swallowHeld s).pointer.g0 = s.pointer.g0 ∧ (swallowHeld s).pointer.g1 = s.pointer.g1 ∧
    (swallowHeld s).pointer.g2 = s.pointer.g2 ∧ (swallowHeld s).pointer.g3 = s.pointer.g3 ∧
    (swallowHeld s).pointer.barrier = s.pointer.barrier := by
  simp [swallowHeld]

@[simp] theorem releaseButtons_pointer_leaves (c : Computer) (s : State) :
    (releaseButtons c s).pointer.place = s.pointer.place ∧ (releaseButtons c s).pointer.focus = s.pointer.focus ∧
    (releaseButtons c s).pointer.rx = s.pointer.rx ∧ (releaseButtons c s).pointer.ry = s.pointer.ry ∧
    (releaseButtons c s).pointer.lastInterval = s.pointer.lastInterval ∧ (releaseButtons c s).pointer.push = s.pointer.push ∧
    (releaseButtons c s).pointer.glideLock = s.pointer.glideLock ∧ (releaseButtons c s).pointer.buttons = s.pointer.buttons ∧
    (releaseButtons c s).pointer.lastAbs = s.pointer.lastAbs ∧ (releaseButtons c s).pointer.t1 = s.pointer.t1 ∧
    (releaseButtons c s).pointer.t2 = s.pointer.t2 ∧ (releaseButtons c s).pointer.t3 = s.pointer.t3 ∧
    (releaseButtons c s).pointer.g0 = s.pointer.g0 ∧ (releaseButtons c s).pointer.g1 = s.pointer.g1 ∧
    (releaseButtons c s).pointer.g2 = s.pointer.g2 ∧ (releaseButtons c s).pointer.g3 = s.pointer.g3 ∧
    (releaseButtons c s).pointer.barrier = s.pointer.barrier := by
  simp [releaseButtons]

@[simp] theorem leaveStandIn_pointer_leaves (c : Computer) (s : State) :
    (leaveStandIn c s).pointer.place = s.pointer.place ∧ (leaveStandIn c s).pointer.focus = s.pointer.focus ∧
    (leaveStandIn c s).pointer.rx = s.pointer.rx ∧ (leaveStandIn c s).pointer.ry = s.pointer.ry ∧
    (leaveStandIn c s).pointer.lastInterval = s.pointer.lastInterval ∧ (leaveStandIn c s).pointer.push = s.pointer.push ∧
    (leaveStandIn c s).pointer.glideLock = s.pointer.glideLock ∧ (leaveStandIn c s).pointer.buttons = s.pointer.buttons ∧
    (leaveStandIn c s).pointer.lastAbs = s.pointer.lastAbs ∧ (leaveStandIn c s).pointer.t1 = s.pointer.t1 ∧
    (leaveStandIn c s).pointer.t2 = s.pointer.t2 ∧ (leaveStandIn c s).pointer.t3 = s.pointer.t3 ∧
    (leaveStandIn c s).pointer.g0 = s.pointer.g0 ∧ (leaveStandIn c s).pointer.g1 = s.pointer.g1 ∧
    (leaveStandIn c s).pointer.g2 = s.pointer.g2 ∧ (leaveStandIn c s).pointer.g3 = s.pointer.g3 ∧
    (leaveStandIn c s).pointer.barrier = s.pointer.barrier := by
  unfold leaveStandIn
  split <;> simp

/-- After an entry is handed, or was not called for, its position is the computer's last absolute position (R74). -/
theorem handEntry_lastAbs (c : Computer) (x y : Nat) (b : ButtonSet) (w : Int) (s : State) :
    (handEntry c x y b w s).pointer.lastAbs = s.pointer.lastAbs.set c (x, y) := by
  unfold handEntry
  split
  · simp
  · next h =>
    have same : s.pointer.lastAbs[c] = (x, y) := by simp_all
    simp [← same]

@[simp] theorem handEntry_pointer_leaves (c : Computer) (x y : Nat) (b : ButtonSet) (w : Int) (s : State) :
    (handEntry c x y b w s).pointer.place = s.pointer.place ∧ (handEntry c x y b w s).pointer.focus = s.pointer.focus ∧
    (handEntry c x y b w s).pointer.rx = s.pointer.rx ∧ (handEntry c x y b w s).pointer.ry = s.pointer.ry ∧
    (handEntry c x y b w s).pointer.lastInterval = s.pointer.lastInterval ∧
    (handEntry c x y b w s).pointer.push = s.pointer.push ∧ (handEntry c x y b w s).pointer.glideLock = s.pointer.glideLock ∧
    (handEntry c x y b w s).pointer.buttons = s.pointer.buttons ∧ (handEntry c x y b w s).pointer.t1 = s.pointer.t1 ∧
    (handEntry c x y b w s).pointer.t2 = s.pointer.t2 ∧ (handEntry c x y b w s).pointer.t3 = s.pointer.t3 ∧
    (handEntry c x y b w s).pointer.g0 = s.pointer.g0 ∧ (handEntry c x y b w s).pointer.g1 = s.pointer.g1 ∧
    (handEntry c x y b w s).pointer.g2 = s.pointer.g2 ∧ (handEntry c x y b w s).pointer.g3 = s.pointer.g3 ∧
    (handEntry c x y b w s).pointer.barrier = s.pointer.barrier := by
  unfold handEntry
  split <;> simp

@[simp] theorem handPlace_pointer_leaves (w : Int) (s : State) :
    (handPlace w s).pointer.place = s.pointer.place ∧ (handPlace w s).pointer.focus = s.pointer.focus ∧
    (handPlace w s).pointer.rx = s.pointer.rx ∧ (handPlace w s).pointer.ry = s.pointer.ry ∧
    (handPlace w s).pointer.lastInterval = s.pointer.lastInterval ∧ (handPlace w s).pointer.push = s.pointer.push ∧
    (handPlace w s).pointer.glideLock = s.pointer.glideLock ∧ (handPlace w s).pointer.buttons = s.pointer.buttons ∧
    (handPlace w s).pointer.t1 = s.pointer.t1 ∧ (handPlace w s).pointer.t2 = s.pointer.t2 ∧
    (handPlace w s).pointer.t3 = s.pointer.t3 ∧ (handPlace w s).pointer.g0 = s.pointer.g0 ∧
    (handPlace w s).pointer.g1 = s.pointer.g1 ∧ (handPlace w s).pointer.g2 = s.pointer.g2 ∧
    (handPlace w s).pointer.g3 = s.pointer.g3 ∧ (handPlace w s).pointer.barrier = s.pointer.barrier := by
  unfold handPlace
  repeat' split
  all_goals simp

/-- The pointer focus is handed the pointer's mapped position (R74). -/
theorem handPlace_lastAbs (w : Int) (s : State) (p : Place) (c : Computer) (a : Nat × Nat) (hp : s.pointer.place = some p)
    (hc : s.pointer.focus = some c) (ha : s.mapPlace p = some a) : (handPlace w s).pointer.lastAbs[c] = a := by
  simp [handPlace, hp, hc, ha, handEntry_lastAbs]

/-! ### Pointer focus, warp and re-home -/

@[simp] theorem pointerFocusChange_pointer_leaves (a : Computer) (n : Option Computer) (s : State) :
    (pointerFocusChange a n s).pointer.place = s.pointer.place ∧ (pointerFocusChange a n s).pointer.rx = s.pointer.rx ∧
    (pointerFocusChange a n s).pointer.ry = s.pointer.ry ∧
    (pointerFocusChange a n s).pointer.lastInterval = s.pointer.lastInterval ∧
    (pointerFocusChange a n s).pointer.push = s.pointer.push ∧
    (pointerFocusChange a n s).pointer.glideLock = s.pointer.glideLock ∧
    (pointerFocusChange a n s).pointer.buttons = s.pointer.buttons ∧ (pointerFocusChange a n s).pointer.t1 = s.pointer.t1 ∧
    (pointerFocusChange a n s).pointer.t2 = s.pointer.t2 ∧ (pointerFocusChange a n s).pointer.t3 = s.pointer.t3 ∧
    (pointerFocusChange a n s).pointer.g0 = s.pointer.g0 ∧ (pointerFocusChange a n s).pointer.g1 = s.pointer.g1 ∧
    (pointerFocusChange a n s).pointer.g2 = s.pointer.g2 ∧ (pointerFocusChange a n s).pointer.g3 = s.pointer.g3 ∧
    (pointerFocusChange a n s).pointer.barrier = s.pointer.barrier ∧ (pointerFocusChange a n s).pointer.focus = n := by
  simp only [pointerFocusChange]
  split <;> simp

@[simp] theorem movePointer_pointer_leaves (p : Place) (s : State) :
    (movePointer p s).pointer.rx = s.pointer.rx ∧ (movePointer p s).pointer.ry = s.pointer.ry ∧
    (movePointer p s).pointer.lastInterval = s.pointer.lastInterval ∧ (movePointer p s).pointer.glideLock = s.pointer.glideLock ∧
    (movePointer p s).pointer.buttons = s.pointer.buttons ∧ (movePointer p s).pointer.t1 = s.pointer.t1 ∧
    (movePointer p s).pointer.t2 = s.pointer.t2 ∧ (movePointer p s).pointer.t3 = s.pointer.t3 ∧
    (movePointer p s).pointer.g0 = s.pointer.g0 ∧ (movePointer p s).pointer.g1 = s.pointer.g1 ∧
    (movePointer p s).pointer.g2 = s.pointer.g2 ∧ (movePointer p s).pointer.g3 = s.pointer.g3 ∧
    (movePointer p s).pointer.barrier = s.pointer.barrier := by
  simp only [movePointer]
  split <;> simp

@[simp] theorem parkPointer_pointer_leaves (s : State) :
    (parkPointer s).pointer.rx = s.pointer.rx ∧ (parkPointer s).pointer.ry = s.pointer.ry ∧
    (parkPointer s).pointer.lastInterval = s.pointer.lastInterval ∧ (parkPointer s).pointer.glideLock = s.pointer.glideLock ∧
    (parkPointer s).pointer.buttons = s.pointer.buttons ∧ (parkPointer s).pointer.t1 = s.pointer.t1 ∧
    (parkPointer s).pointer.t2 = s.pointer.t2 ∧ (parkPointer s).pointer.t3 = s.pointer.t3 ∧
    (parkPointer s).pointer.g0 = s.pointer.g0 ∧ (parkPointer s).pointer.g1 = s.pointer.g1 ∧
    (parkPointer s).pointer.g2 = s.pointer.g2 ∧ (parkPointer s).pointer.g3 = s.pointer.g3 ∧
    (parkPointer s).pointer.barrier = s.pointer.barrier := by
  simp only [parkPointer]
  split <;> simp

/-- The pointer stands where it was moved, its focus is the screen's computer, and no push is left (R81, R82). -/
@[simp] theorem movePointer_moved (p : Place) (s : State) :
    (movePointer p s).pointer.place = some p ∧ (movePointer p s).pointer.push = none ∧
    (movePointer p s).pointer.focus = s.sourceComputer p.screen := by
  simp only [movePointer]
  split
  · next h => simp [h]
  · simp

/-- A parked pointer has no place, no focus and no push (R82). -/
@[simp] theorem parkPointer_parked (s : State) :
    (parkPointer s).pointer.place = none ∧ (parkPointer s).pointer.push = none ∧ (parkPointer s).pointer.focus = none := by
  simp only [parkPointer]
  split
  · next h => simp [h]
  · simp

end Sys2Proof.Machine
end

section
/-!
PROOFS, the events that entries and notices raise: an entry raises COMPUTER_STATE and KEYS_DROPPED at most, a notice to the Pointer
Engine FOCUS_CHANGED besides.
-/

set_option Elab.async false
namespace Sys2Proof.Machine
open Sys2Proof Sys2Proof.Safety

/-- The kinds that an entry handed for a computer may raise (R153, R155, R165). -/
def entryKinds : List EventKind := [.computerState, .keysDropped]

/-- The kinds that a notice to the Pointer Engine may raise (R77). -/
def noticeKinds : List EventKind := [.computerState, .keysDropped, .focusChanged]

theorem not_mem_entryKinds {k : EventKind} (h : k ∉ noticeKinds) : k ∉ entryKinds := by
  simp only [noticeKinds, entryKinds, List.mem_cons, List.not_mem_nil, or_false, not_or] at h ⊢
  exact ⟨h.1, h.2.1⟩

theorem event_of_status {s t : State} (h : t.status = s.status) (k : EventKind) : t.event k = s.event k := by
  simp only [State.event, h]

/-- A raise leaves the events of every other kind. -/
theorem event_raise_of_ne (e : Event) (s : State) (k : EventKind) (h : e.kind ≠ k) : (raise e s).event k = s.event k := by
  rw [event_raise, if_neg h]

/-! ### Wakes and entries -/

theorem event_reportWake (s : State) (k : EventKind) : (reportWake s).event k = s.event k := rfl

@[simp] theorem event_setPowerState (c : Computer) (st : PowerState) (s : State) (k : EventKind) :
    (setPowerState c st s).event k = s.event k := by
  rw [setPowerState, event_of_status (followOutputs_leaves _).2.2.1, event_reportWake]
  exact event_of_status rfl k

@[simp] theorem event_changePower (c : Computer) (st : PowerState) (s : State) (k : EventKind) :
    (changePower c st s).event k =
      if k = .computerState then { s.event k with isPending := true, detail := some (.computerState c) } else s.event k := by
  simp only [changePower, event_raise, event_setPowerState, Event.kind, eq_comm (a := k)]
  split
  · next h => rw [h]
  · rfl

theorem startAttempt_status (left : Bool) (c : Computer) (k : Nat) (s : State) (h : s.hasMethod c = true) :
    (startAttempt left c k s).status = s.status := by
  obtain ⟨m, hm⟩ := attemptMethod_of_hasMethod s c k h
  simp [startAttempt, hm]

theorem event_wakeRequest (c : Computer) (s : State) (k : EventKind) (hm : s.hasMethod c = true) (hk : k ≠ .computerState) :
    (wakeRequest c s).event k = s.event k := by
  have attempt (st : PowerState) : (startAttempt false c 1 (changePower c st s)).event k = s.event k := by
    rw [event_of_status (startAttempt_status _ _ _ _ (by simpa using hm)), event_changePower, if_neg hk]
  unfold wakeRequest
  split <;> simp [hm, attempt]

theorem event_inputNotice (c : Computer) (s : State) (k : EventKind) (hk : k ≠ .computerState) :
    (inputNotice c s).event k = s.event k := by
  unfold inputNotice
  split
  · next h =>
    obtain ⟨-, hm⟩ := Bool.and_eq_true_iff.1 h
    split
    · rfl
    · exact event_wakeRequest c s k hm hk
    · split
      · exact event_wakeRequest c _ k (by simpa using hm) hk
      · rfl
  · rfl

theorem event_placePointer (c : Computer) (x y : Nat) (b : ButtonSet) (w : Int) (s : State) (k : EventKind)
    (hk : k ≠ .keysDropped) : (placePointer c x y b w s).event k = s.event k := by
  simp only [placePointer, refuseButtons]
  repeat' split
  all_goals first
    | rfl
    | exact event_raise_of_ne _ _ k hk.symm

theorem event_takePointer (c : Computer) (x y : Nat) (b : ButtonSet) (w : Int) (s : State) (k : EventKind)
    (hk : k ∉ entryKinds) : (takePointer c x y b w s).event k = s.event k := by
  simp only [entryKinds, List.mem_cons, List.not_mem_nil, or_false, not_or] at hk
  obtain ⟨hc, hd⟩ := hk
  simp only [takePointer]
  repeat' split
  all_goals simp [event_placePointer, event_inputNotice, hc, hd]

theorem event_releaseButtons (c : Computer) (s : State) (k : EventKind) (hk : k ∉ entryKinds) :
    (releaseButtons c s).event k = s.event k := event_takePointer _ _ _ _ _ s k hk

theorem event_handEntry (c : Computer) (x y : Nat) (b : ButtonSet) (w : Int) (s : State) (k : EventKind)
    (hk : k ∉ entryKinds) : (handEntry c x y b w s).event k = s.event k := by
  unfold handEntry
  split
  · exact event_takePointer _ _ _ _ _ _ k hk
  · rfl

theorem event_handPlace (w : Int) (s : State) (k : EventKind) (hk : k ∉ entryKinds) :
    (handPlace w s).event k = s.event k := by
  unfold handPlace
  repeat' split
  all_goals first
    | rfl
    | exact event_handEntry _ _ _ _ _ s k hk

theorem event_leaveStandIn (c : Computer) (s : State) (k : EventKind) (hk : k ∉ entryKinds) :
    (leaveStandIn c s).event k = s.event k := by
  unfold leaveStandIn
  split
  · exact event_releaseButtons c s k hk
  · rfl

/-! ### Pointer focus and notices -/

/-- The state after steps 1 and 2 of R77. -/
def leftStandIn (a : Computer) (n : Option Computer) (s : State) : State :=
  if a = n.getD s.keyboard.focus then s else leaveStandIn a s

/-- Steps 3 and 4 of R77: the pointer focus is taken and reported. -/
def takeFocus (n : Option Computer) (s : State) : State := raiseFocus (s.setPointer { s.pointer with focus := n })

theorem pointerFocusChange_eq (a : Computer) (n : Option Computer) (s : State) :
    pointerFocusChange a n s = handPlace 0 (takeFocus n (leftStandIn a n s)) := rfl

@[simp] theorem leftStandIn_leaves (a : Computer) (n : Option Computer) (s : State) :
    (leftStandIn a n s).layout = s.layout ∧ (leftStandIn a n s).screens = s.screens ∧
    (leftStandIn a n s).keyboard = s.keyboard ∧ (leftStandIn a n s).pointer.place = s.pointer.place := by
  unfold leftStandIn
  split <;> simp

theorem event_leftStandIn (a : Computer) (n : Option Computer) (s : State) (k : EventKind) (hk : k ∉ entryKinds) :
    (leftStandIn a n s).event k = s.event k := by
  unfold leftStandIn
  split
  · rfl
  · exact event_leaveStandIn a s k hk

@[simp] theorem takeFocus_leaves (n : Option Computer) (s : State) :
    (takeFocus n s).layout = s.layout ∧ (takeFocus n s).screens = s.screens ∧
    (takeFocus n s).pointer = { s.pointer with focus := n } := by
  simp [takeFocus, raiseFocus]

theorem event_takeFocus (n : Option Computer) (s : State) (k : EventKind) :
    (takeFocus n s).event k = if k = .focusChanged then
      { s.event k with isPending := true, detail := some (.focusChanged s.keyboard.focus n) } else s.event k := by
  rw [takeFocus, raiseFocus, event_raise]
  by_cases h : k = .focusChanged
  · subst h
    rfl
  · rw [if_neg h, if_neg (fun e => h e.symm)]
    rfl

theorem event_pointerFocusChange (a : Computer) (n : Option Computer) (s : State) (k : EventKind) (hk : k ∉ noticeKinds) :
    (pointerFocusChange a n s).event k = s.event k := by
  have focus : k ≠ .focusChanged := fun h => hk (by rw [h]; decide)
  rw [pointerFocusChange_eq, event_handPlace _ _ k (not_mem_entryKinds hk), event_takeFocus, if_neg focus,
    event_leftStandIn _ _ _ k (not_mem_entryKinds hk)]

/-- A change of pointer focus is reported with the key focus as it stands (R77, R100). -/
theorem raised_pointerFocusChange (a : Computer) (n : Option Computer) (s : State) :
    Raised (.focusChanged s.keyboard.focus n) (pointerFocusChange a n s) := by
  simp [Raised, Event.kind, pointerFocusChange_eq, event_handPlace, event_takeFocus, entryKinds]

theorem event_movePointer (p : Place) (s : State) (k : EventKind) (hk : k ∉ noticeKinds) :
    (movePointer p s).event k = s.event k := by
  simp only [movePointer]
  split
  · exact event_handPlace _ _ k (not_mem_entryKinds hk)
  · exact event_pointerFocusChange _ _ _ k hk

theorem event_parkPointer (s : State) (k : EventKind) (hk : k ∉ noticeKinds) : (parkPointer s).event k = s.event k := by
  simp only [parkPointer]
  split
  · rfl
  · exact event_pointerFocusChange _ _ _ k hk

theorem event_reHome (s : State) (k : EventKind) (hk : k ∉ noticeKinds) : (reHome s).event k = s.event k := by
  unfold reHome
  split
  · exact event_movePointer _ s k hk
  · exact event_parkPointer s k hk

theorem event_unpark (s : State) (k : EventKind) (hk : k ∉ noticeKinds) : (unpark s).event k = s.event k := by
  unfold unpark
  split
  · exact event_reHome s k hk
  · rfl

theorem event_dropPushOn (i : ScreenId) (s : State) (k : EventKind) : (dropPushOn i s).event k = s.event k :=
  event_of_status (dropPushOn_leaves i s).2.2.1 k

theorem event_sourceChanged (i : ScreenId) (s : State) (k : EventKind) (hk : k ∉ noticeKinds) :
    (sourceChanged i s).event k = s.event k := by
  rw [← event_dropPushOn i s k]
  simp only [sourceChanged, sourceUnderPointer]
  repeat' split
  all_goals first
    | rfl
    | exact event_unpark _ k hk
    | exact event_reHome _ k hk
    | exact event_pointerFocusChange _ _ _ k hk

theorem event_screenChanged (i : ScreenId) (s : State) (k : EventKind) (hk : k ∉ noticeKinds) :
    (screenChanged i s).event k = s.event k := by
  rw [← event_dropPushOn i s k]
  simp only [screenChanged]
  repeat' split
  all_goals first
    | rfl
    | exact event_unpark _ k hk
    | exact event_reHome _ k hk

/-! ### What the pointer sees of the screens -/

theorem eligible_of_tables {s t : State} (hl : t.layout = s.layout) (hs : t.screens = s.screens) (i : ScreenId) :
    t.eligible i = s.eligible i := by
  simp only [State.eligible, State.screenRect, State.screenRec, hl, hs]

theorem sourceComputer_of_tables {s t : State} (hl : t.layout = s.layout) (hs : t.screens = s.screens) (i : ScreenId) :
    t.sourceComputer i = s.sourceComputer i := by
  simp only [State.sourceComputer, eligible_of_tables hl hs]

theorem mapPlace_of_tables {s t : State} (hl : t.layout = s.layout) (hs : t.screens = s.screens) (p : Place) :
    t.mapPlace p = s.mapPlace p := by
  simp only [State.mapPlace, eligible_of_tables hl hs, State.headEntry, State.computer, hl]

theorem lowestEligible_of_tables {s t : State} (hl : t.layout = s.layout) (hs : t.screens = s.screens) :
    t.lowestEligible = s.lowestEligible := by
  simp only [State.lowestEligible, eligible_of_tables hl hs]

theorem eligible_eq_some_iff (s : State) (i : ScreenId) (r : Rect) (h : Head) :
    s.eligible i = some (r, h) ↔ s.screenRect i = some r ∧ (s.screenRec i).current = some h := by
  unfold State.eligible
  split <;> simp_all

theorem sourceComputer_of_eligible {s : State} {i : ScreenId} {r : Rect} {h : Head} (he : s.eligible i = some (r, h)) :
    s.sourceComputer i = some h.computer := by
  simp [State.sourceComputer, he]

theorem movePointer_same {p : Place} {s : State} (h : s.pointer.focus = s.sourceComputer p.screen) :
    movePointer p s = handPlace 0 (setPlace (some p) (setPush none s)) := if_pos h

theorem movePointer_other {p : Place} {s : State} (h : s.pointer.focus ≠ s.sourceComputer p.screen) :
    movePointer p s = handPlace 0 (takeFocus (s.sourceComputer p.screen)
      (leftStandIn s.standIn (s.sourceComputer p.screen) (setPlace (some p) (setPush none s)))) := if_neg h

/-- A place on an eligible screen is handed to the screen's computer in its absolute coordinates (R72, R74). -/
theorem movePointer_lastAbs (p : Place) (s : State) (r : Rect) (h : Head) (a : Nat × Nat)
    (he : s.eligible p.screen = some (r, h)) (ha : s.mapPlace p = some a) :
    (movePointer p s).pointer.lastAbs[h.computer] = a := by
  have source := sourceComputer_of_eligible he
  have abs : (setPlace (some p) (setPush none s)).mapPlace p = some a := ha
  by_cases hf : s.pointer.focus = s.sourceComputer p.screen
  · rw [movePointer_same hf]
    exact handPlace_lastAbs 0 _ p h.computer a rfl (hf.trans source) abs
  · rw [movePointer_other hf]
    refine handPlace_lastAbs 0 _ p h.computer a (by simp) (by simp [source]) ?_
    rwa [mapPlace_of_tables (s := setPlace (some p) (setPush none s)) (by simp) (by simp)]

theorem raised_movePointer (p : Place) (s : State) (hf : s.pointer.focus ≠ s.sourceComputer p.screen) :
    Raised (.focusChanged s.keyboard.focus (s.sourceComputer p.screen)) (movePointer p s) := by
  simp only [movePointer, if_neg hf]
  exact raised_pointerFocusChange s.standIn _ (setPlace (some p) (setPush none s))

end Sys2Proof.Machine
end

section
/-!
PROOFS, answers: what a record's command leaves of its owner's judgement, that a refusal changes nothing (O3), and where WARP takes
the pointer (O30).
-/

set_option Elab.async false
namespace Sys2Proof.Machine
open Sys2Proof Sys2Proof.Safety

/-! ### Answers and unchanged parts -/

theorem onlyChanges_reply {ps : List Part} {s u : State} (k : Nat) (r : Reply) (h : OnlyChanges ps s u) :
    OnlyChanges (.link :: ps) s (u.sendReply k r) := by
  intro p hp
  obtain ⟨hl, hp⟩ := not_or.1 (mt List.mem_cons.2 hp)
  have same := h p hp
  cases p
  case link => exact absurd rfl hl
  all_goals exact same

theorem onlyChanges_of_mem {ps qs : List Part} {s t : State} (h : OnlyChanges ps s t) (hq : ∀ p, p ∈ ps → p ∈ qs) :
    OnlyChanges qs s t := fun p hp => h p (mt (hq p) hp)

/-- What a record's owner leaves, with the link as it was, is answered with its reply (R188). -/
theorem exec_answered {i : Instr} {k : Nat} {b : List Nat} {s u : State} {r : Reply} (hr : i.record = some (k, b))
    (hh : handleRecord i s.fresh = (u, r)) : exec i s = .next (u.sendReply k r) := by
  rw [exec_record i k b s hr, answerRecord, hh]

theorem answers_sendReply {k : Nat} {s u : State} {r : Reply} (hl : u.link = s.link) :
    Answers k r.result r.body s (u.sendReply k r) := by
  refine ⟨?_, List.getLast?_concat⟩
  rw [State.sendReply_link, hl]
  rfl

theorem onlyChanges_fresh (s : State) : OnlyChanges [] s s.fresh := fun p _ => by cases p <;> rfl

/-- A refused record is answered with its result alone, and the link alone has changed (R1, R188). -/
theorem exec_refused {i : Instr} {k : Nat} {b : List Nat} {s : State} {r : Result} (hr : i.record = some (k, b))
    (hh : handleRecord i s.fresh = (s.fresh, ⟨r, []⟩)) :
    ∃ t, exec i s = .next t ∧ Answers k r [] s t ∧ OnlyChanges [.link] s t :=
  ⟨_, exec_answered hr hh, answers_sendReply rfl, onlyChanges_reply k _ (onlyChanges_fresh s)⟩

/-- A record that only reads is answered with its values, and the link alone has changed. -/
theorem exec_read {i : Instr} {k : Nat} {b : List Nat} {s : State} {r : Reply} (hr : i.record = some (k, b))
    (hh : handleRecord i s.fresh = (s.fresh, r)) :
    ∃ t, exec i s = .next t ∧ Answers k r.result r.body s t ∧ OnlyChanges [.link] s t :=
  ⟨_, exec_answered hr hh, answers_sendReply rfl, onlyChanges_reply k _ (onlyChanges_fresh s)⟩

/-! ### Every record gets one reply (O3) -/

/-- A sum of bytes is their sum as numbers modulo 256. -/
theorem toNat_foldl_add (l : List Byte) (a : Byte) :
    (l.foldl (· + ·) a).toNat = (a.toNat + (l.map BitVec.toNat).sum) % 256 := by
  induction l generalizing a with
  | nil => simp [Nat.mod_eq_of_lt a.isLt]
  | cons b l ih =>
    rw [List.foldl_cons, ih, BitVec.toNat_add, List.map_cons, List.sum_cons]
    omega

/-- A reply's frame is its start, length, kind, result and values, and the byte that brings their sum to 0 modulo 256 (R199). -/
theorem replyTo_bytes (k : Nat) (r : Result) (body : List Byte) : ∃ check : Byte,
    (replyTo k r body).bytes =
      [0xC5, BitVec.ofNat 8 (body.length + 2), BitVec.ofNat 8 (k + 0x80), r.code] ++ body ++ [check] ∧
    (body.length + 2 + (k + 0x80) + r.code.toNat + (body.map BitVec.toNat).sum + check.toNat) % 256 = 0 := by
  have sum := congrArg BitVec.toNat (frameBytes_sum (BitVec.ofNat 8 (k + 0x80)) (r.code :: body))
  refine ⟨checkByte (BitVec.ofNat 8 (body.length + 2) :: BitVec.ofNat 8 (k + 0x80) :: r.code :: body), ?_, ?_⟩
  · simp [replyTo, ReplyFrame.bytes, frameBytes]
  · rw [toNat_foldl_add] at sum
    simp only [frameBytes, List.drop_one, List.tail_cons, List.cons_append, List.map_cons, List.map_append, List.sum_cons,
      List.sum_append, List.map_nil, List.sum_nil, BitVec.toNat_ofNat, List.length_cons, Nat.add_assoc, Nat.reduceAdd] at sum
    change (0 + _) % 256 = 0 at sum
    omega

/-- Settles O3: an owner that does not accept a record leaves the state as it was, and the reply is laid out by R199. -/
theorem refusedRecordsChangeNothing : Obligations.RefusedRecordsChangeNothing := by
  intro i k b s hr
  obtain ⟨r, h⟩ | ⟨⟨u, ⟨r, body⟩⟩, hj, h⟩ := handleRecord_cases i s.fresh
  · obtain ⟨check, bytes, sum⟩ := replyTo_bytes k r []
    refine ⟨_, r, [], exec_answered hr h, rfl, ⟨check, ?_, sum⟩, fun _ _ => ⟨rfl, ?_, answers_sendReply rfl, rfl⟩⟩
    · rw [← bytes]; rfl
    · exact onlyChanges_reply k _ (onlyChanges_fresh s)
  · obtain ⟨done, replies, -⟩ := judged_done i s.fresh _ hj
    obtain ⟨check, bytes, sum⟩ := replyTo_bytes k r body
    refine ⟨_, r, body, exec_answered hr h, ?_, ⟨check, ?_, sum⟩, fun no na => absurd done (not_or.2 ⟨no, na⟩)⟩
    · exact congrArg (· ++ [replyTo k r body]) replies
    · rw [← bytes]; exact List.getLast?_concat

/-! ### WARP (O30) -/

theorem Rect.contains_iff (r : Rect) (x y : Nat) :
    r.contains x y = true ↔ r.x ≤ x ∧ x < r.x + r.w ∧ r.y ≤ y ∧ y < r.y + r.h := by
  simp only [Rect.contains, Bool.and_eq_true, decide_eq_true_eq]
  omega

/-- Two rectangles that hold one point overlap (R2). -/
theorem Rect.overlaps_of_contains {a b : Rect} {x y : Int} (ha : a.contains x y = true) (hb : b.contains x y = true) :
    a.overlaps b = true := by
  simp only [Rect.contains, Rect.overlaps, Bool.and_eq_true, decide_eq_true_eq] at *
  omega

/-- A point lies in one configured rectangle at most (R2). -/
theorem eq_of_contains {s : State} (apart : ScreensApart s) {i j : ScreenId} {a b : Rect} {x y : Int}
    (hi : s.screenRect i = some a) (hj : s.screenRect j = some b) (ha : a.contains x y = true) (hb : b.contains x y = true) :
    i = j := by
  by_contra hne
  have := apart.2 i j a b hne hi hj
  rw [Rect.overlaps_of_contains ha hb] at this
  cases this

theorem screenAt_eq_some {s : State} (apart : ScreensApart s) {i : ScreenId} {r : Rect} {h : Head} {x y : Int}
    (he : s.eligible i = some (r, h)) (hc : r.contains x y = true) : s.screenAt x y = some i := by
  cases hat : s.screenAt x y with
  | none =>
    have := List.find?_eq_none.1 hat i (mem_allScreens i)
    simp [he, hc] at this
  | some j =>
    have holds := List.find?_some hat
    split at holds
    · next b g hj =>
      rw [eq_of_contains apart ((eligible_eq_some_iff s i r h).1 he).1 ((eligible_eq_some_iff s j b g).1 hj).1 hc holds]
    · cases holds

theorem screenAt_eq_none {s : State} {x y : Int}
    (h : ∀ (i : ScreenId) (r : Rect) (h : Head), s.eligible i = some (r, h) → r.contains x y = false) :
    s.screenAt x y = none := by
  refine List.find?_eq_none.2 fun i _ => ?_
  split
  · next r g hi => simp [h i r g hi]
  · simp

theorem onlyChanges_movePointer (p : Place) (s : State) :
    OnlyChanges [.status, .pointer, .lines, .ports, .power] s (movePointer p s) := by
  intro q hq
  cases q <;> simp [Part.same] at hq ⊢

theorem mapPlace_eq {s : State} {p : Place} {r : Rect} {h : Head} {e : HeadEntry} (he : s.eligible p.screen = some (r, h))
    (hd : s.headEntry h = some e) :
    s.mapPlace p = some (mapAxis (p.x - r.x) r.w e.rect.x e.rect.w (s.computer h.computer).w,
      mapAxis (p.y - r.y) r.h e.rect.y e.rect.h (s.computer h.computer).h) := by
  simp [State.mapPlace, he, hd]

theorem judgeWarpComputer_home {c : Computer} {i : ScreenId} {r : Rect} {h : Head} {s : State} (hs : s.homeScreen c = some i)
    (he : s.eligible i = some (r, h)) :
    judgeWarpComputer c s = .ok (movePointer ⟨i, r.x + r.w / 2, r.y + r.h / 2⟩ s, ⟨.ok, []⟩) := by
  have rect : s.screenRect i = some r := ((eligible_eq_some_iff s i r h).1 he).1
  simp [judgeWarpComputer, fin?, hs, State.centerOf, rect, Rect.center, ok]

/-- A point inside a configured rectangle lies in the desk plane (R2). -/
theorem inPlane_of_contains {s : State} (apart : ScreensApart s) {i : ScreenId} {r : Rect} {x y : Nat}
    (hr : s.screenRect i = some r) (hc : r.contains x y = true) : x ≤ 16383 ∧ y ≤ 8191 := by
  have fits := apart.1 i r hr
  simp only [Rect.fitsPlane, Bool.and_eq_true, decide_eq_true_eq] at fits
  rw [Rect.contains_iff] at hc
  omega

theorem judgeWarpPosition_screen {i : ScreenId} {r : Rect} {h : Head} {x y : Nat} {s : State} (apart : ScreensApart s)
    (he : s.eligible i = some (r, h)) (hc : r.contains x y = true) :
    judgeWarpPosition x y s = .ok (movePointer ⟨i, x, y⟩ s, ⟨.ok, []⟩) := by
  rw [judgeWarpPosition, if_pos (inPlane_of_contains apart ((eligible_eq_some_iff s i r h).1 he).1 hc),
    screenAt_eq_some apart he hc]
  rfl

/-- Settles O30: both forms of WARP take the pointer to a place on an eligible screen, and the entry handed for it carries the
place's mapped position. -/
theorem warpMovesThePointer : Obligations.WarpMovesThePointer := by
  refine ⟨fun n s loaded hn => exec_refused rfl ?_, fun c s loaded home => exec_refused rfl ?_,
    fun x y s loaded out => exec_refused rfl ?_, fun x y s loaded hx hy none => exec_refused rfl ?_, ?_⟩
  · refine (whenLoaded_served (judgeWarpComputer n) s.fresh loaded).trans ?_
    rw [judgeWarpComputer, fin?, dif_neg (by omega)]
    rfl
  · refine (whenLoaded_served (judgeWarpComputer c) s.fresh loaded).trans ?_
    have home : s.fresh.homeScreen c = none := home
    simp [judgeWarpComputer, fin?, home, conclude]
  · refine (whenLoaded_served (judgeWarpPosition x y) s.fresh loaded).trans ?_
    rw [judgeWarpPosition, if_neg (by omega)]
    rfl
  · refine (whenLoaded_served (judgeWarpPosition x y) s.fresh loaded).trans ?_
    rw [judgeWarpPosition, if_pos ⟨hx, hy⟩, screenAt_eq_none (s := s.fresh) none]
    rfl
  · intro n x y i r h e s loaded apart he hd hn
    have taken : ∃ b, n.record = some (0x32, b) ∧
        handleRecord n s.fresh = (movePointer ⟨i, x, y⟩ s.fresh, ⟨.ok, []⟩) := by
      obtain ⟨rfl, hc⟩ | ⟨rfl, home, rfl, rfl⟩ := hn
      · refine ⟨_, rfl, (whenLoaded_served (judgeWarpPosition x y) s.fresh loaded).trans ?_⟩
        rw [judgeWarpPosition_screen (s := s.fresh) apart he hc]
        rfl
      · refine ⟨_, rfl, (whenLoaded_served (judgeWarpComputer _) s.fresh loaded).trans ?_⟩
        rw [judgeWarpComputer_home (s := s.fresh) home he]
        rfl
    obtain ⟨b, hr, hh⟩ := taken
    have source : s.sourceComputer i = some h.computer := sourceComputer_of_eligible he
    obtain ⟨place, push, focus⟩ := movePointer_moved ⟨i, x, y⟩ s.fresh
    obtain ⟨rx, ry, -⟩ := movePointer_pointer_leaves ⟨i, x, y⟩ s.fresh
    refine ⟨_, exec_answered hr hh, answers_sendReply (by simp [State.fresh]), place, focus.trans source, push, rx, ry,
      movePointer_lastAbs ⟨i, x, y⟩ s.fresh r h _ he (mapPlace_eq (s := s.fresh) he hd), fun other => ?_, ?_⟩
    · have raised := raised_movePointer ⟨i, x, y⟩ s.fresh (fun same => other (same.trans source))
      rwa [show s.fresh.sourceComputer i = some h.computer from source] at raised
    · exact onlyChanges_reply _ _ (onlyChanges_movePointer ⟨i, x, y⟩ s.fresh)

end Sys2Proof.Machine
end

section
/-!
PROOFS, the field forms of R198 and R201: which numbers name an identifier, a yes/no field, a head, a source or a computer entry, and
that GET_LAYOUT returns an entry in the form it was given (O22).
-/

set_option Elab.async false
namespace Sys2Proof.Machine
open Sys2Proof Sys2Proof.Safety

/-! ### Field forms (R198) -/

@[simp] theorem fin?_val {n : Nat} (i : Fin n) : fin? n i.val = some i := dif_pos i.isLt

theorem fin?_eq_none_iff (n k : Nat) : fin? n k = none ↔ n ≤ k := by
  unfold fin?
  split <;> simp <;> omega

theorem fin?_eq_some_iff {n k : Nat} {i : Fin n} : fin? n k = some i ↔ k = i.val := by
  constructor
  · intro h
    unfold fin? at h
    split at h
    · cases h; rfl
    · cases h
  · rintro rfl
    exact fin?_val i

@[simp] theorem yesNo?_toNat (b : Bool) : yesNo? b.toNat = some b := by cases b <;> rfl

theorem yesNo?_eq_none {n : Nat} (h : 2 ≤ n) : yesNo? n = none := by
  match n, h with
  | _ + 2, _ => rfl

@[simp] theorem head?_self (h : Head) : head? h.computer h.no = some h := by simp [head?]

theorem head?_eq_none {c h : Nat} (out : 6 ≤ c ∨ 4 ≤ h) : head? c h = none := by
  simp only [head?]
  obtain hc | hh := out
  · simp [(fin?_eq_none_iff 6 c).2 hc]
  · simp [(fin?_eq_none_iff 4 h).2 hh]

@[simp] theorem source?_none : source? 255 255 = some none := rfl

@[simp] theorem source?_self (h : Head) : source? h.computer h.no = some (some h) := by
  have bound := h.computer.isLt
  rw [source?, if_neg (by omega), head?_self]
  rfl

theorem source?_eq_none {c h : Nat} (out : ¬SourceInRange c h) : source? c h = none := by
  obtain ⟨notNone, noHead⟩ := not_or.1 out
  rw [source?, if_neg notNone, head?_eq_none (by omega)]
  rfl

/-! ### Computer entries (R6, R201) -/

theorem inputWake?_eq_some_iff {n : Nat} {m : InputWake} : inputWake? n = some m ↔ m.code.toNat = n := by
  match n with
  | 0 => cases m <;> decide
  | 1 => cases m <;> decide
  | 2 => cases m <;> decide
  | k + 3 => cases m <;> simp [inputWake?, InputWake.code]

theorem optId_some_toNat {n : Nat} (i : Fin n) (h : n ≤ 256) : (optId (some i)).toNat = i.val := by
  simp only [optId, byte, BitVec.toNat_ofNat]
  omega

theorem optFin?_four_eq_some_iff {n : Nat} {m : Option MapNo} : optFin? 4 n = some m ↔ (optId m).toNat = n := by
  cases m with
  | none =>
    simp only [optFin?, show (optId (none : Option MapNo)).toNat = 255 from rfl]
    split
    · simp_all
    · cases fin? 4 n <;> simp <;> omega
  | some i =>
    rw [optId_some_toNat i (by omega), optFin?]
    split
    · simp; omega
    · simp only [Option.map_eq_some_iff, fin?_eq_some_iff, Option.some.injEq, exists_eq_right]
      exact eq_comm

/-- The entry that a SET_COMPUTER record leaves, given its input-wake mode and its map. -/
def rawEntry (r : RawComputer) (mode : InputWake) (keymap : Option MapNo) : ComputerEntry :=
  { label := r.label.take r.labelLength, guarded := r.flags.testBit 0, takeClickSwallow := r.flags.testBit 1,
    holdDrop := r.flags.testBit 2, inputWake := mode, wakeOnFocus := r.flags.testBit 3, wakeLine := r.flags.testBit 4,
    pulseWidth := r.pulseWidth, activeHigh := r.flags.testBit 5, maxAttempts := r.maxAttempts, timeout := r.timeout,
    keymap := keymap, w := r.w, h := r.h }

/-- A SET_COMPUTER record in its ranges leaves the entry of its fields; any other is refused (R6). -/
theorem ofRaw_eq_some_iff (r : RawComputer) (e : ComputerEntry) : ComputerEntry.ofRaw r = some e ↔
    ComputerFieldsInRange r ∧ ∃ mode keymap, mode.code.toNat = r.inputWake ∧ (optId keymap).toNat = r.keymap ∧
      e = rawEntry r mode keymap := by
  simp only [ComputerEntry.ofRaw, Option.bind_eq_bind, Option.bind_eq_some_iff, inputWake?_eq_some_iff,
    optFin?_four_eq_some_iff]
  constructor
  · rintro ⟨mode, hm, keymap, hk, h⟩
    split at h
    · next fields =>
      simp only [List.all_eq_true, Bool.and_eq_true, decide_eq_true_eq, beq_iff_eq] at fields
      have wake : r.inputWake ≤ 2 := by rw [← hm]; cases mode <;> decide
      have map : r.keymap = 255 ∨ r.keymap < 4 := by
        rw [← hk]
        cases keymap with
        | none => exact .inl rfl
        | some i => right; rw [optId_some_toNat i (by omega)]; exact i.isLt
      obtain ⟨flags, w1, w2, m1, m2, t1, t2, x1, x2, y1, y2, len, text, pad⟩ := fields
      exact ⟨⟨flags, wake, w1, w2, m1, m2, t1, t2, map, x1, x2, y1, y2, len, text, pad⟩, mode, keymap, hm, hk,
        (Option.some.inj h).symm⟩
    · cases h
  · rintro ⟨⟨flags, -, w1, w2, m1, m2, t1, t2, -, x1, x2, y1, y2, len, text, pad⟩, mode, keymap, hm, hk, rfl⟩
    refine ⟨mode, hm, keymap, hk, ?_⟩
    rw [if_pos]
    · rfl
    · simp only [List.all_eq_true, Bool.and_eq_true, decide_eq_true_eq, beq_iff_eq]
      exact ⟨flags, w1, w2, m1, m2, t1, t2, x1, x2, y1, y2, len, text, pad⟩

theorem exists_ofRaw {r : RawComputer} (fields : ComputerFieldsInRange r) : ∃ e, ComputerEntry.ofRaw r = some e := by
  have wake : ∃ mode : InputWake, mode.code.toNat = r.inputWake := by
    have : r.inputWake ≤ 2 := fields.2.1
    interval_cases r.inputWake
    · exact ⟨.off, rfl⟩
    · exact ⟨.once, rfl⟩
    · exact ⟨.always, rfl⟩
  have map : ∃ keymap : Option MapNo, (optId keymap).toNat = r.keymap := by
    obtain ⟨-, -, -, -, -, -, -, -, h | h, -⟩ := fields
    · exact ⟨none, h.symm⟩
    · exact ⟨some ⟨r.keymap, h⟩, optId_some_toNat _ (by omega)⟩
  obtain ⟨mode, hm⟩ := wake
  obtain ⟨keymap, hk⟩ := map
  exact ⟨_, (ofRaw_eq_some_iff r _).2 ⟨fields, mode, keymap, hm, hk, rfl⟩⟩

theorem ofRaw_eq_none {r : RawComputer} (out : ¬ComputerFieldsInRange r) : ComputerEntry.ofRaw r = none :=
  Option.eq_none_iff_forall_ne_some.2 fun e h => out ((ofRaw_eq_some_iff r e).1 h).1

/-! ### The bytes of a computer entry -/

theorem byte_mod (n : Nat) : byte (n % 256) = byte n := BitVec.eq_of_toNat_eq (by simp [byte])

theorem map_byte_wordBytes (n : Nat) : (wordBytes n).map byte = word n := by
  simp [wordBytes, word, byte_mod]

theorem rawEntry_flags (r : RawComputer) (mode : InputWake) (keymap : Option MapNo) (h : r.flags < 64) :
    (rawEntry r mode keymap).flags = byte r.flags := by
  have roundTrip : ∀ n : Fin 64, flag (n.val.testBit 0) ||| flag (n.val.testBit 1) <<< 1 ||| flag (n.val.testBit 2) <<< 2
      ||| flag (n.val.testBit 3) <<< 3 ||| flag (n.val.testBit 4) <<< 4 ||| flag (n.val.testBit 5) <<< 5 = byte n.val := by
    decide
  exact roundTrip ⟨r.flags, h⟩

/-- A label and its pad are the twelve bytes of the record. -/
theorem labelBytes_take {label : List Nat} {k : Nat} (len : label.length = 12) (hk : k ≤ 12) (pad : ∀ ch ∈ label.drop k, ch = 0) :
    labelBytes (label.take k) = byte k :: label.map byte := by
  have taken : (label.take k).length = k := by simp [len, hk]
  have zeros : label.drop k = List.replicate (12 - k) 0 :=
    List.eq_replicate_iff.2 ⟨by simp [len], pad⟩
  rw [labelBytes, taken]
  conv_rhs => rw [← List.take_append_drop k label, zeros]
  simp [byte]

/-- A computer entry is returned in the form of the record that set it (R201). -/
theorem computerBytes_ofRaw {r : RawComputer} {e : ComputerEntry} (wf : r.wf = true) (h : ComputerEntry.ofRaw r = some e) :
    computerBytes e = r.bytes.map byte := by
  obtain ⟨⟨flags, -, -, -, -, -, -, -, -, -, -, -, -, len, -, pad⟩, mode, keymap, hm, hk, rfl⟩ := (ofRaw_eq_some_iff r e).1 h
  have twelve : r.label.length = 12 := by simp only [RawComputer.wf, Bool.and_eq_true, beq_iff_eq] at wf; exact wf.1.2
  have wake : mode.code = byte r.inputWake := BitVec.eq_of_toNat_eq (by simp only [byte, BitVec.toNat_ofNat]; omega)
  have map : optId keymap = byte r.keymap := BitVec.eq_of_toNat_eq (by simp only [byte, BitVec.toNat_ofNat]; omega)
  simp only [computerBytes, rawEntry_flags r mode keymap flags, RawComputer.bytes, List.map_append, List.map_cons, List.map_nil,
    map_byte_wordBytes]
  simp [rawEntry, wake, map, labelBytes_take twelve len pad]

/-! ### GET_LAYOUT (O22) -/

/-- The first screen of which something holds. -/
theorem find?_allScreens_eq_some_iff (p : ScreenId → Bool) (i : ScreenId) :
    allScreens.find? p = some i ↔ p i = true ∧ ∀ j : ScreenId, j < i → p j = false := by
  have numbered (k : Nat) (h : k < allScreens.length) : allScreens[k] = ⟨k, h⟩ := by
    have all : ∀ k : Fin 8, allScreens[k] = k := by decide
    exact all ⟨k, h⟩
  simp only [List.find?_eq_some_iff_getElem, numbered, Bool.not_eq_eq_eq_not, Bool.not_true]
  refine and_congr_right fun _ => ⟨?_, fun first => ⟨i.val, i.isLt, rfl, fun j hj => first ⟨j, by omega⟩ hj⟩⟩
  rintro ⟨k, hk, rfl, first⟩ j hj
  exact first j.val hj

theorem homeScreen_eq_some_iff (s : State) (c : Computer) (i : ScreenId) :
    s.homeScreen c = some i ↔ s.sourceComputer i = some c ∧ ∀ j : ScreenId, j < i → s.sourceComputer j ≠ some c := by
  simp [State.homeScreen, find?_allScreens_eq_some_iff]

/-- A GET_LAYOUT record past its BUSY step answers what its owner reads. -/
theorem exec_layout_read {i : Instr} {b : List Nat} {s : State} {j : State → Judged} {body : List Byte}
    (hr : i.record = some (0x14, b)) (hh : handleRecord i s.fresh = whenLoaded j s.fresh) (loaded : s.profile.state ≠ .loading)
    (hj : j s.fresh = ok s.fresh body) :
    ∃ t, exec i s = .next t ∧ OnlyChanges [.link] s t ∧ Answers 0x14 .ok body s t := by
  have done : handleRecord i s.fresh = (s.fresh, ⟨.ok, body⟩) := by
    rw [hh, whenLoaded_served j s.fresh loaded, hj]
    rfl
  obtain ⟨t, ht, answer, same⟩ := exec_read hr done
  exact ⟨t, ht, same, answer⟩

theorem exec_layout_outOfRange {i : Instr} {b : List Nat} {s : State} {j : State → Judged}
    (hr : i.record = some (0x14, b)) (hh : handleRecord i s.fresh = whenLoaded j s.fresh) (loaded : s.profile.state ≠ .loading)
    (hj : j s.fresh = .error .outOfRange) :
    ∃ t, exec i s = .next t ∧ Answers 0x14 .outOfRange [] s t ∧ OnlyChanges [.link] s t := by
  refine exec_refused hr ?_
  rw [hh, whenLoaded_served j s.fresh loaded, hj]
  rfl

theorem word_length (n : Nat) : (word n).length = 2 := rfl

/-- The reported rate of an average between 8 and 50 ms lies between 20 and 125 frames per second, in hundredths (R28). -/
theorem reportedRate_bounds {a : Nat} (h1 : 8000 ≤ a) (h2 : a ≤ 50000) :
    2000 ≤ reportedRate a ∧ reportedRate a ≤ 12500 := by
  have pos : 0 < a := by omega
  refine ⟨(Nat.le_div_iff_mul_le pos).2 (by omega), Nat.le_of_lt_succ ((Nat.div_lt_iff_lt_mul pos).2 (by omega))⟩

/-- Settles O22: each form of GET_LAYOUT reads its entry's stored and derived values. -/
theorem layoutReadsBack : Obligations.LayoutReadsBack := by
  refine ⟨fun i r s loaded hr => ?_, fun i s loaded hr => ?_, fun c r s loaded wf hr => ?_,
    fun c i s => homeScreen_eq_some_iff s c i, fun h e s loaded hd => ?_, fun h s loaded hd hv => ?_, fun v s loaded => ?_,
    fun c a ha h1 h2 hw => ⟨?_, reportedRate_bounds h1 h2⟩, fun n m s loaded => ⟨fun hn => ?_, fun hn => ?_, fun hn => ?_, fun hn => ?_⟩⟩
  · refine exec_layout_read rfl rfl loaded ?_
    have entry : s.fresh.screenRect i = some r := hr
    simp [judgeGetLayoutScreen, entry, screenBytes, rectBytes, centerBytes, Rect.center, flag]
  · refine exec_layout_read rfl rfl loaded ?_
    have entry : s.fresh.screenRect i = none := hr
    simp only [judgeGetLayoutScreen, fin?_val, entry]
    rfl
  · refine exec_layout_read rfl rfl loaded ?_
    have bytes : computerBytes (s.fresh.computer c) = r.bytes.map byte := computerBytes_ofRaw wf hr
    simp only [judgeGetLayoutComputer, fin?_val, bytes]
    rfl
  · refine exec_layout_read rfl rfl loaded ?_
    have entry : s.fresh.headEntry h = some e := hd
    have channel : headChannel s.fresh h = channelBytes (((s.headInput h).map s.channel).getD Channel.reset) := by
      have input : s.fresh.headInput h = s.headInput h := rfl
      rw [headChannel, input]
      cases s.headInput h <;> rfl
    simp only [judgeGetLayoutHead, head?_self, entry, channel]
    simp [headBytes, rectBytes, flag]
    rfl
  · refine exec_layout_read rfl rfl loaded ?_
    have entry : s.fresh.headEntry h = none := hd
    have input : s.fresh.headInput h = none := (headInput_eq_none_iff s h).2 hv
    simp only [judgeGetLayoutHead, head?_self, entry, headChannel, input]
    rfl
  · refine exec_layout_read rfl rfl loaded ?_
    have source : sourceBytes (s.fresh.binding v) =
        match s.binding v with | none => [0xFF, 0xFF] | some h => [byte h.computer, byte h.no] := by
      change sourceBytes (s.binding v) = _
      cases s.binding v <;> rfl
    simp only [judgeGetLayoutInput, fin?_val, source]
    rfl
  · simp [channelBytes, ha, reportedRate, byte]
  · exact exec_layout_outOfRange rfl rfl loaded (by rw [judgeGetLayoutScreen, (fin?_eq_none_iff 8 n).2 hn])
  · exact exec_layout_outOfRange rfl rfl loaded (by rw [judgeGetLayoutComputer, (fin?_eq_none_iff 6 n).2 hn])
  · exact exec_layout_outOfRange rfl rfl loaded (by rw [judgeGetLayoutHead, head?_eq_none hn])
  · exact exec_layout_outOfRange rfl rfl loaded (by rw [judgeGetLayoutInput, (fin?_eq_none_iff 16 n).2 hn])

end Sys2Proof.Machine
end

section
/-!
PROOFS, the size of the image (O11): each section's bodies have a bound, and the sections' bounds stay within the memory.
-/

set_option Elab.async false
namespace Sys2Proof.Machine
open Sys2Proof Sys2Proof.Safety

theorem length_flatMap_le {α β : Type} (l : List α) (f : α → List β) (n : Nat) (h : ∀ a, (f a).length ≤ n) :
    (l.flatMap f).length ≤ l.length * n := by
  rw [List.length_flatMap]
  simpa using List.sum_le_card_nsmul (l.map fun a => (f a).length) n (by simp only [List.mem_map]; rintro _ ⟨a, -, rfl⟩; exact h a)

theorem length_numbered (n : Nat) (cs : List (List Byte)) : (numbered n cs).length = (cs.map (·.length + 3)).sum := by
  induction cs generalizing n with
  | nil => rfl
  | cons c cs ih =>
    simp only [numbered, List.length_cons, List.length_append, word_length, ih, List.map_cons, List.sum_cons]
    omega

/-! ### The bodies (R201) -/

@[simp] theorem length_rectBytes (r : Rect) : (rectBytes r).length = 8 := rfl

@[simp] theorem length_screenBytes (e : Option Rect) : (screenBytes e).length = 9 := rfl

@[simp] theorem length_headBytes (e : Option HeadEntry) : (headBytes e).length = 11 := by cases e <;> rfl

@[simp] theorem length_sourceBytes (h : Option Head) : (sourceBytes h).length = 2 := by cases h <;> rfl

theorem length_computerBytes {e : ComputerEntry} (h : e.label.length ≤ 12) : (computerBytes e).length = 25 := by
  simp only [computerBytes, labelBytes, List.length_cons, List.length_append, word_length, List.length_map, List.length_replicate]
  omega

theorem length_sceneBytes {n : SceneNo} {sc : Scene} (h : sc.items.length ≤ 8) : (sceneBytes n (some sc)).length ≤ 28 := by
  have items := length_flatMap_le sc.items itemBytes 3 (fun i => by simp [itemBytes])
  simp only [sceneBytes, List.length_cons]
  omega

theorem length_mapBytes {m : MapNo} {ps : List (Nat × Nat)} (h : ps.length ≤ 64) : (mapBytes m ps).length ≤ 130 := by
  have pairs := length_flatMap_le ps (fun p => [byte p.1, byte p.2]) 2 (fun p => le_refl 2)
  simp only [mapBytes, List.length_cons]
  omega

@[simp] theorem length_hotkeyBytes (h : Hotkey) : (hotkeyBytes h).length = 8 := by
  obtain ⟨t, a, e⟩ := h
  have trigger : (triggerBytes t).length = 4 := by cases t <;> rfl
  have action : (actionBytes a).length = 3 := by cases a <;> rfl
  simp [hotkeyBytes, trigger, action]

@[simp] theorem length_lineConfigBytes (c : LineConfig) : (lineConfigBytes c).length = 8 := by
  have source : (outputBytes c.source).length = 2 := by cases c.source <;> rfl
  simp [lineConfigBytes, source]

/-! ### The sections (R195) -/

theorem length_computerSection {s : State} (h : ∀ c : Computer, (s.computer c).label.length ≤ 12) :
    (computerSection s).length ≤ 6 * 26 :=
  length_flatMap_le allComputers _ 26 fun c => by simp [length_computerBytes (h c)]

theorem length_headSection (s : State) : (headSection s).length ≤ 6 * (4 * 13) :=
  length_flatMap_le allComputers _ (4 * 13) fun c => length_flatMap_le allHeads _ 13 fun h => by simp

theorem length_inputSection (s : State) : (inputSection s).length ≤ 16 * 3 :=
  length_flatMap_le allInputs _ 3 fun v => by simp

theorem length_screenSection (s : State) : (screenSection s).length ≤ 8 * 10 :=
  length_flatMap_le allScreens _ 10 fun i => by simp

theorem length_sceneSection {s : State} (h : ∀ (n : SceneNo) (sc : Scene), s.scene n = some sc → sc.items.length ≤ 8) :
    (sceneSection s).length ≤ 16 * 28 := by
  refine length_flatMap_le allScenes _ 28 fun n => ?_
  cases hs : s.scene n with
  | none => simp
  | some sc => simpa using length_sceneBytes (h n sc hs)

theorem length_mapSection {s : State} (h : ∀ m : MapNo, s.keyboard.maps[m].length ≤ 64) : (mapSection s).length ≤ 4 * 130 :=
  length_flatMap_le allMaps _ 130 fun m => length_mapBytes (h m)

theorem length_hotkeySection (s : State) : (hotkeySection s).length ≤ 32 * 9 := by
  refine length_flatMap_le allEntries _ 9 fun n => ?_
  cases s.entry n <;> simp

theorem length_lineSection (s : State) : (lineSection s).length ≤ 8 * 9 :=
  length_flatMap_le allLines _ 9 fun l => by simp

/-! ### The image (R196, R203) -/

theorem length_image (s : State) : (image s).length = (imageBody s).length + 6 := by
  simp only [image, marker, List.length_append, word_length, List.length_cons, List.length_nil]
  omega

theorem length_imageBody (s : State) : (imageBody s).length =
    (computerSection s).length + (headSection s).length + (inputSection s).length + (screenSection s).length +
      (sceneSection s).length + (mapSection s).length + (hotkeySection s).length + (lineSection s).length + 70 := by
  have timing : (timingSection s).length = 4 := rfl
  have ballistics : (ballisticsBytes s.pointer).length = 7 := rfl
  have options : (keyOptionSection s).length = 4 := rfl
  have desk : (deskPowerBytes s.desk).length = 6 := rfl
  simp only [imageBody, length_numbered, sectionContents, List.map_cons, List.map_nil, List.sum_cons, List.sum_nil, timing,
    ballistics, options, desk, word_length, List.length_cons, List.length_nil]
  ring

theorem length_imageBody_le {s : State} (labels : ∀ c : Computer, (s.computer c).label.length ≤ 12)
    (scenes : ∀ (n : SceneNo) (sc : Scene), s.scene n = some sc → sc.items.length ≤ 8)
    (maps : ∀ m : MapNo, s.keyboard.maps[m].length ≤ 64) : (imageBody s).length ≤ 6138 := by
  have computers := length_computerSection labels
  have heads := length_headSection s
  have inputs := length_inputSection s
  have screens := length_screenSection s
  have scenes := length_sceneSection scenes
  have maps := length_mapSection maps
  have hotkeys := length_hotkeySection s
  have lines := length_lineSection s
  rw [length_imageBody]
  omega

theorem toNat_word {n : Nat} (h : n < 65536) : (byte (n / 256)).toNat * 256 + (byte n).toNat = n := by
  simp only [byte, BitVec.toNat_ofNat]
  omega

/-- Settles O11: the fifteen sections of a bounded configuration come to less than 6138 bytes. -/
theorem imageFitsTheMemory : Obligations.ImageFitsTheMemory := by
  intro s labels scenes maps
  have body := length_imageBody_le labels scenes maps
  have length := length_image s
  refine ⟨by omega, rfl, ?_⟩
  rw [length]
  exact toNat_word (by omega)

end Sys2Proof.Machine
end

section
/-!
PROOFS, the state after a power-on reset with nothing attached (O6): its records, and the laws they keep.
-/

set_option Elab.async false
namespace Sys2Proof.Machine
open Sys2Proof Sys2Proof.Safety

/-! ### The records -/

@[simp] theorem reset_computer (c : Computer) : State.reset.computer c = ComputerEntry.reset := by
  simp [State.computer, State.reset, Layout.reset]

@[simp] theorem reset_screenRect (i : ScreenId) : State.reset.screenRect i = none := by
  simp [State.screenRect, State.reset, Layout.reset]

@[simp] theorem reset_headEntry (h : Head) : State.reset.headEntry h = none := by
  simp [State.headEntry, State.reset, Layout.reset]

@[simp] theorem reset_binding (v : InputId) : State.reset.binding v = none := by
  simp [State.binding, State.reset, Layout.reset]

@[simp] theorem reset_channel (v : InputId) : State.reset.channel v = Channel.reset := by
  simp [State.channel, State.reset]

@[simp] theorem reset_screenRec (i : ScreenId) : State.reset.screenRec i = ScreenRec.reset := by
  simp [State.screenRec, State.reset, ScreenController.reset]

@[simp] theorem reset_lineRec (l : LineId) : State.reset.lineRec l = LineRec.reset := by
  simp [State.lineRec, State.reset, LineUnit.reset]

@[simp] theorem reset_port (c : Computer) : State.reset.port c = Port.reset := by
  simp [State.port, State.reset]

@[simp] theorem reset_powerRec (c : Computer) : State.reset.powerRec c = PowerRec.reset := by
  simp [State.powerRec, State.reset]

@[simp] theorem reset_event (k : EventKind) : State.reset.event k = EventRec.reset := by
  simp [State.event, State.reset, Status.reset]

@[simp] theorem reset_lastAbs (c : Computer) : State.reset.pointer.lastAbs[c] = (16384, 16384) := by
  simp [State.reset, PointerEngine.reset]

@[simp] theorem reset_entry (n : EntryNo) : State.reset.entry n = none := by
  simp [State.entry, State.reset, Matcher.reset]

@[simp] theorem reset_powerState (c : Computer) : State.reset.powerState c = .absent := by simp [State.powerState, PowerRec.reset]

@[simp] theorem reset_committedKeys (c : Computer) : State.reset.committedKeys c = KeyState.empty := by
  simp only [State.committedKeys, reset_port]
  rfl

@[simp] theorem reset_committedButtons (c : Computer) : State.reset.committedButtons c = 0 := by
  simp only [State.committedButtons, reset_port]
  rfl

/-! ### The laws -/

theorem attentionFollows_reset : AttentionFollows State.reset := by
  have line : State.reset.status.attention = false := rfl
  simp [AttentionFollows, line, EventRec.reset]

theorem conditionsAgree_reset : ConditionsAgree State.reset := by
  have wake : State.reset.status.wakeHolds = false := rfl
  have fault : State.reset.status.faultHolds = false := rfl
  simp [ConditionsAgree, wake, fault, ScreenRec.reset]

theorem holdQueuesFit_reset : HoldQueuesFit State.reset := by simp [HoldQueuesFit, Port.reset]

theorem portsAgree_reset : PortsAgree State.reset := by simp [PortsAgree, PortMatches, Port.reset]

theorem awayQueuesEmpty_reset : AwayQueuesEmpty State.reset := by simp [AwayQueuesEmpty, Port.reset]

theorem screensApart_reset : ScreensApart State.reset := by simp [ScreensApart]

theorem headsInside_reset : HeadsInside State.reset := by simp [HeadsInside]

theorem screensAgree_reset : ScreensAgree State.reset := by
  refine ⟨⟨by simp, by simp⟩, fun v => ⟨?_, by simp [Channel.reset]⟩, fun i => ?_⟩
  · simp [ChannelAgrees, Channel.reset]
  · simp [ScreenAgrees, ScreenRec.reset, ScreenState.live]

theorem policyKept_reset : PolicyKept State.reset := by simp [PolicyKept, ScreenRec.reset]

theorem sceneUnsettled_reset : SceneUnsettled State.reset := by
  have inFlight : State.reset.screens.inFlight = none := rfl
  simp [SceneUnsettled, inFlight, ScreenRec.reset]

theorem accumulatorsFit_reset : AccumulatorsFit State.reset := by unfold AccumulatorsFit; decide

theorem ballisticsFit_reset : BallisticsFit State.reset := by unfold BallisticsFit; decide

theorem coordinatesFit_reset : CoordinatesFit State.reset := by
  refine ⟨fun c => ?_, by simp [Port.reset]⟩
  rw [reset_lastAbs]
  decide

theorem pointerHome_reset : PointerHome State.reset := ⟨screensApart_reset, rfl⟩

theorem hotkeysApart_reset : HotkeysApart State.reset := by simp [HotkeysApart]

theorem outputsFollow_reset : OutputsFollow State.reset := by simp [OutputsFollow, LineRec.reset, LineConfig.reset]

theorem attemptsAgree_reset : AttemptsAgree State.reset := by
  simp [AttemptsAgree, ComputerEntry.reset, PowerRec.reset]

theorem idleTimerRuns_reset : IdleTimerRuns State.reset := by unfold IdleTimerRuns; decide

theorem keysHome_reset : KeysHome State.reset := by
  simp [KeysHome, ReleasesFit, Port.reset, KeyState.isEmpty, KeyState.empty]

theorem buttonsHome_reset : ButtonsHome State.reset := ⟨rfl, by simp, by simp⟩

/-- Settles O6: every record of State.reset is its block's power-on record, of which the laws are read off. -/
theorem resetHoldsThePowerOnValues : Obligations.ResetHoldsThePowerOnValues := by
  have screens (i : ScreenId) : State.reset.screenRect i = none ∧ (State.reset.screenRec i).state = .unused ∧
      (State.reset.screenRec i).current = none ∧ (State.reset.screenRec i).waiting = none ∧
      (State.reset.screenRec i).lockView = false := by simp [ScreenRec.reset]
  have ports (c : Computer) : (State.reset.port c).observed = .detached ∧ (State.reset.port c).permission = false ∧
      (State.reset.port c).queue = [] ∧ ((State.reset.port c).x, (State.reset.port c).y) = (16384, 16384) ∧
      State.reset.powerRec c =
        { state := .absent, attempt := 0, timer := none, method := none, pulse := none, armed := true, wakeHigh := true } := by
    simp [Port.reset, PowerRec.reset]
  exact ⟨reset_computer, screens, rfl, rfl, rfl,
    ⟨rfl, rfl, rfl, reset_lastAbs, rfl, rfl, rfl, rfl, rfl, rfl, rfl, rfl⟩, ⟨rfl, rfl, rfl⟩, ⟨rfl, rfl, rfl, rfl⟩,
    fun l => congrArg LineRec.config (reset_lineRec l), ports, ⟨rfl, rfl, rfl, rfl⟩, reset_event, rfl, rfl, rfl, rfl,
    rfl, ⟨Nat.zero_le 4, Nat.zero_le 12⟩, ⟨rfl, rfl⟩, attentionFollows_reset, conditionsAgree_reset, holdQueuesFit_reset,
    portsAgree_reset, awayQueuesEmpty_reset, screensApart_reset, headsInside_reset, screensAgree_reset, policyKept_reset,
    sceneUnsettled_reset, accumulatorsFit_reset, ballisticsFit_reset, coordinatesFit_reset, pointerHome_reset, ⟨by decide, by decide⟩,
    hotkeysApart_reset, outputsFollow_reset, attemptsAgree_reset, idleTimerRuns_reset, keysHome_reset, buttonsHome_reset, rfl⟩

end Sys2Proof.Machine
end

section
/-!
PROOFS, the power-on reset (O5): the blocks stand at their power-on values, and each attach that is observed moves its own port alone.
-/

set_option Elab.async false
namespace Sys2Proof.Machine
open Sys2Proof Sys2Proof.Safety

@[simp] theorem powerRec_setPowerState (c d : Computer) (st : PowerState) (s : State) :
    (setPowerState c st s).powerRec d = if c = d then { s.powerRec c with state := st } else s.powerRec d := by
  have same : (setPowerState c st s).power = (s.setPowerRec c { s.powerRec c with state := st }).power := by
    simp [setPowerState, reportWake]
  rw [← State.powerRec_setPowerRec]
  simp only [State.powerRec, same]

@[simp] theorem powerRec_changePower (c d : Computer) (st : PowerState) (s : State) :
    (changePower c st s).powerRec d = if c = d then { s.powerRec c with state := st } else s.powerRec d := by
  rw [← powerRec_setPowerState]
  simp [State.powerRec, changePower]

theorem attention_raise (e : Event) (s : State) : (raise e s).status.attention = (raise e s).wantsAttention := by
  have events : (raise e s).wantsAttention =
      (s.setEvent e.kind { s.event e.kind with isPending := true, detail := some e }).wantsAttention := by
    simp [State.wantsAttention, raise]
  rw [events]
  exact attention_judgeAttention _

theorem lineRec_of_mode_ne {r : LineRec} (h : r.config.mode ≠ .output) (s : State) : r.follow s = r :=
  if_neg fun both => h both.1

@[simp] theorem deskPort_setDeskPort (p q : DeskPort) (x : DeskPortRec) (s : State) :
    (setDeskPort p x s).deskPort q = if p = q then x else s.deskPort q := by
  cases p <;> cases q <;> rfl

theorem deskPort_raise (e : Event) (s : State) (p : DeskPort) : (raise e s).deskPort p = s.deskPort p := by
  cases p <;> simp [State.deskPort]

@[simp] theorem showLamps_keyboard (s : State) :
    (showLamps s).keyboard.focus = s.keyboard.focus ∧ (showLamps s).keyboard.held = s.keyboard.held ∧
    (showLamps s).keyboard.lamps = s.keyboard.lamps ∧ (showLamps s).keyboard.maps = s.keyboard.maps ∧
    (showLamps s).keyboard.stuckLimit = s.keyboard.stuckLimit ∧ (showLamps s).keyboard.kbPort = s.keyboard.kbPort ∧
    (showLamps s).keyboard.ptrPort = s.keyboard.ptrPort := by
  unfold showLamps
  split <;> simp [State.emit]

theorem deskPort_showLamps (s : State) (p : DeskPort) : (showLamps s).deskPort p = s.deskPort p := by
  cases p <;> simp [State.deskPort]

/-! ### The blocks, and the attaches observed so far -/

/-- Where an attach may leave its mark, besides the events. -/
def attachParts : List Part := [.status, .lines, .ports, .power, .keyboard]

/-- The state after a power-on reset, `b` being its blocks' values, once the attaches `seen` are observed. -/
structure Attached (b t : State) (seen : List Attach) : Prop where
  kept : OnlyChanges attachParts b t
  dial : t.lines.dial = b.lines.dial
  line : ∀ l : LineId, t.lineRec l = b.lineRec l ∧ (t.lineRec l).config.mode = .off
  port : ∀ c : Computer,
    (Attach.computer c ∈ seen → t.port c = { Port.reset with observed := .attached } ∧
      t.powerRec c = { PowerRec.reset with state := .starting }) ∧
    (Attach.computer c ∉ seen → t.port c = Port.reset ∧ t.powerRec c = PowerRec.reset)
  desk : ∀ p : DeskPort,
    (Attach.desk p ∈ seen → t.deskPort p = { state := .present, attached := true, lastReport := none }) ∧
    (Attach.desk p ∉ seen → t.deskPort p = DeskPortRec.reset)
  focus : t.keyboard.focus = 0
  held : t.keyboard.held = []
  lamps : t.keyboard.lamps = Vector.replicate 6 0
  maps : t.keyboard.maps = Vector.replicate 4 []
  stuck : t.keyboard.stuckLimit = 30
  disabled : ∀ k : EventKind, (t.event k).enabled = false
  quiet : t.status.attention = false
  raised : ∀ k : EventKind, (t.event k).isPending = true ↔
    (k = .computerState ∧ ∃ c, Attach.computer c ∈ seen) ∨ (k = .deskPort ∧ ∃ p, Attach.desk p ∈ seen)

theorem wantsAttention_of_disabled {s : State} (h : ∀ k, (s.event k).enabled = false) : s.wantsAttention = false := by
  refine Bool.eq_false_iff.2 fun wants => ?_
  obtain ⟨k, -, on⟩ := (wantsAttention_iff s).1 wants
  simp [h k] at on

theorem attached_powerOnState (rateHigh : Bool) (s : State) : Attached (powerOnState rateHigh s) (powerOnState rateHigh s) [] where
  kept := fun p _ => by cases p <;> rfl
  dial := rfl
  line l := ⟨rfl, by simp [State.lineRec, powerOnState, LineRec.reset, LineConfig.reset]⟩
  port c := by simpa using ⟨reset_port c, reset_powerRec c⟩
  desk p := ⟨by simp, fun _ => by cases p <;> rfl⟩
  focus := rfl
  held := rfl
  lamps := rfl
  maps := rfl
  stuck := rfl
  disabled k := congrArg EventRec.enabled (reset_event k)
  quiet := rfl
  raised k := by
    have event : (powerOnState rateHigh s).event k = EventRec.reset := reset_event k
    simp [event, EventRec.reset]

/-- A raise of an attach: the events are disabled, so the attention line and the lines stay as they are. -/
theorem disabled_raise {s : State} (e : Event) (h : ∀ k, (s.event k).enabled = false) (k : EventKind) :
    ((raise e s).event k).enabled = false := by
  rw [event_raise]
  split <;> simp [h]

theorem lineRec_raise_of_off (e : Event) (s : State) (l : LineId) (h : (s.lineRec l).config.mode = .off) :
    (raise e s).lineRec l = s.lineRec l := by
  obtain same | follows := lineRec_raise e s l
  · exact same
  · rw [follows, lineRec_of_mode_ne (by rw [h]; decide)]

theorem lineRec_changePower_of_off (c : Computer) (st : PowerState) (s : State) (l : LineId)
    (h : (s.lineRec l).config.mode = .off) : (changePower c st s).lineRec l = s.lineRec l := by
  have power : (setPowerState c st s).lineRec l = s.lineRec l := by
    rw [setPowerState, lineRec_followOutputs]
    exact lineRec_of_mode_ne (by rw [show ((reportWake (s.setPowerRec c _)).lineRec l) = s.lineRec l from rfl, h]; decide) _
  rw [changePower, lineRec_raise_of_off _ _ _ (by rw [power, h]), power]

@[simp] theorem dial_raise (e : Event) (s : State) : (raise e s).lines.dial = s.lines.dial := by
  unfold raise judgeAttention
  split <;> simp

@[simp] theorem dial_changePower (c : Computer) (st : PowerState) (s : State) :
    (changePower c st s).lines.dial = s.lines.dial := by simp [changePower, setPowerState, reportWake]

/-- An attach at a detached computer port starts the computer (R146, R164). -/
theorem busPowerAppears_eq (c : Computer) (s : State) (ho : (s.port c).observed = .detached) (hp : s.powerState c = .absent) :
    busPowerAppears c s = changePower c .starting (setObserved c .attached s) := by
  have power : (setObserved c .attached s).powerState c = .absent := hp
  rw [busPowerAppears, if_pos ho]
  simp [observe, power]

/-- An attach at an absent desk port (R87, R90). -/
theorem deskAttach_eq (p : DeskPort) (s : State) (h : s.deskPort p = DeskPortRec.reset) :
    deskAttach p s = raise (.deskPort p .attach) (portEnters p (setDeskPort p ⟨.present, true, none⟩ s)) := by
  simp [deskAttach, h, DeskPortRec.reset]

theorem portEnters_keyboard (p : DeskPort) (s : State) :
    (portEnters p s).keyboard.focus = s.keyboard.focus ∧ (portEnters p s).keyboard.held = s.keyboard.held ∧
    (portEnters p s).keyboard.lamps = s.keyboard.lamps ∧ (portEnters p s).keyboard.maps = s.keyboard.maps ∧
    (portEnters p s).keyboard.stuckLimit = s.keyboard.stuckLimit := by
  cases p <;> simp [portEnters]

theorem deskPort_portEnters (p q : DeskPort) (s : State) : (portEnters p s).deskPort q = s.deskPort q := by
  cases p
  · exact deskPort_showLamps s q
  · rfl

theorem setDeskPort_keyboard (p : DeskPort) (x : DeskPortRec) (s : State) :
    (setDeskPort p x s).keyboard.focus = s.keyboard.focus ∧ (setDeskPort p x s).keyboard.held = s.keyboard.held ∧
    (setDeskPort p x s).keyboard.lamps = s.keyboard.lamps ∧ (setDeskPort p x s).keyboard.maps = s.keyboard.maps ∧
    (setDeskPort p x s).keyboard.stuckLimit = s.keyboard.stuckLimit := by
  cases p <;> exact ⟨rfl, rfl, rfl, rfl, rfl⟩

theorem Attached.computer {b t : State} {seen : List Attach} (h : Attached b t seen) {c : Computer}
    (fresh : .computer c ∉ seen) : Attached b (busPowerAppears c t) (seen ++ [.computer c]) := by
  obtain ⟨port, power⟩ := (h.port c).2 fresh
  rw [busPowerAppears_eq c t (by rw [port]; rfl) (by rw [State.powerState, power]; rfl)]
  have keyboard : (changePower c .starting (setObserved c .attached t)).keyboard = t.keyboard := by simp
  have events (k : EventKind) : (setObserved c .attached t).event k = t.event k := rfl
  refine ⟨fun q hq => ?_, ?_, fun l => ?_, fun d => ?_, fun p => ?_, keyboard ▸ h.focus, keyboard ▸ h.held, keyboard ▸ h.lamps,
    keyboard ▸ h.maps, keyboard ▸ h.stuck, fun k => ?_, ?_, fun k => ?_⟩
  · have kept := h.kept q hq
    cases q <;> simp_all [Part.same, attachParts]
  · simpa [setObserved] using h.dial
  · have off : ((setObserved c .attached t).lineRec l).config.mode = .off := (h.line l).2
    rw [lineRec_changePower_of_off _ _ _ _ off]
    exact h.line l
  · have ports : (changePower c .starting (setObserved c .attached t)).port d =
        if c = d then { Port.reset with observed := .attached } else t.port d := by
      rw [← port, ← State.port_setPort]
      simp [State.port, setObserved]
    have recs : (changePower c .starting (setObserved c .attached t)).powerRec d =
        if c = d then { PowerRec.reset with state := .starting } else t.powerRec d := by
      rw [powerRec_changePower, ← power]
      rfl
    rw [ports, recs]
    by_cases hd : c = d
    · simp [hd]
    · simpa [hd, Ne.symm hd] using h.port d
  · have desk : (changePower c .starting (setObserved c .attached t)).deskPort p = t.deskPort p := by
      cases p <;> simp [State.deskPort]
    rw [desk]
    simpa using h.desk p
  · refine disabled_raise _ (fun k => ?_) k
    rw [event_setPowerState, events]
    exact h.disabled k
  · rw [changePower, attention_raise]
    exact wantsAttention_of_disabled (disabled_raise _ fun k => by rw [event_setPowerState, events]; exact h.disabled k)
  · rw [event_changePower, events]
    have before := h.raised k
    split <;> simp_all

theorem Attached.deskPort {b t : State} {seen : List Attach} (h : Attached b t seen) {p : DeskPort}
    (fresh : .desk p ∉ seen) : Attached b (deskAttach p t) (seen ++ [.desk p]) := by
  have port := (h.desk p).2 fresh
  rw [deskAttach_eq p t port]
  obtain ⟨focus, held, lamps, maps, stuck⟩ := portEnters_keyboard p (setDeskPort p ⟨.present, true, none⟩ t)
  obtain ⟨focus', held', lamps', maps', stuck'⟩ := setDeskPort_keyboard p ⟨.present, true, none⟩ t
  have keyboard (u : State) : (raise (.deskPort p .attach) u).keyboard = u.keyboard := by simp
  have status : (portEnters p (setDeskPort p ⟨.present, true, none⟩ t)).status = t.status := by cases p <;> simp [portEnters]
  have lines : (portEnters p (setDeskPort p ⟨.present, true, none⟩ t)).lines = t.lines := by cases p <;> simp [portEnters]
  have events (k : EventKind) : (portEnters p (setDeskPort p ⟨.present, true, none⟩ t)).event k = t.event k :=
    event_of_status status k
  have disabled : ∀ k, ((raise (.deskPort p .attach) (portEnters p (setDeskPort p ⟨.present, true, none⟩ t))).event k).enabled =
      false := disabled_raise _ fun k => by rw [events]; exact h.disabled k
  refine ⟨fun q hq => ?_, ?_, fun l => ?_, fun c => ?_, fun q => ?_, ?_, ?_, ?_, ?_, ?_, disabled, ?_, fun k => ?_⟩
  · have kept := h.kept q hq
    cases q <;> simp_all [Part.same, attachParts]
  · rw [dial_raise, lines, h.dial]
  · have same : (portEnters p (setDeskPort p ⟨.present, true, none⟩ t)).lineRec l = t.lineRec l := by simp only [State.lineRec, lines]
    rw [lineRec_raise_of_off _ _ _ (by rw [same]; exact (h.line l).2), same]
    exact h.line l
  · have port : (portEnters p (setDeskPort p ⟨.present, true, none⟩ t)).port c = t.port c := by
      cases p <;> simp [portEnters, State.port]
    have power : (portEnters p (setDeskPort p ⟨.present, true, none⟩ t)).powerRec c = t.powerRec c := by
      cases p <;> simp [portEnters, State.powerRec]
    simpa [State.port, State.powerRec, ← port, ← power] using h.port c
  · rw [deskPort_raise, deskPort_portEnters, deskPort_setDeskPort]
    by_cases hq : p = q
    · simp [hq]
    · simpa [hq, Ne.symm hq] using h.desk q
  · rw [keyboard, focus, focus', h.focus]
  · rw [keyboard, held, held', h.held]
  · rw [keyboard, lamps, lamps', h.lamps]
  · rw [keyboard, maps, maps', h.maps]
  · rw [keyboard, stuck, stuck', h.stuck]
  · rw [attention_raise]
    exact wantsAttention_of_disabled disabled
  · rw [event_raise, events]
    have before := h.raised k
    split
    · next hk => simp [← hk, Event.kind]
    · next hk =>
      have other : k ≠ .deskPort := Ne.symm hk
      simp_all

/-- Every attach observed across the reset leaves its own mark (R87, R146). -/
theorem Attached.foldl {b t : State} {seen : List Attach} (l : List Attach) (h : Attached b t seen) (nodup : l.Nodup)
    (fresh : ∀ a ∈ l, a ∉ seen) : Attached b (l.foldl observeAttach t) (seen ++ l) := by
  induction l generalizing t seen with
  | nil => simpa using h
  | cons a l ih =>
    obtain ⟨once, nodup⟩ := List.nodup_cons.1 nodup
    have next : Attached b (observeAttach t a) (seen ++ [a]) := by
      cases a with
      | computer c => exact h.computer (fresh _ (by simp))
      | desk p => exact h.deskPort (fresh _ (by simp))
    have rest : ∀ x ∈ l, x ∉ seen ++ [a] := by
      intro x hx
      have new := fresh x (List.mem_cons_of_mem a hx)
      have other : x ≠ a := fun e => once (e ▸ hx)
      simp [new, other]
    simpa using ih next nodup rest

/-- Settles O5: the attaches observed are folded over the blocks' power-on values. -/
theorem powerOnResetPutsEveryBlockAtItsValues : Obligations.PowerOnResetPutsEveryBlockAtItsValues := by
  intro rateHigh observed s nodup
  have h := Attached.foldl observed (attached_powerOnState rateHigh s.fresh) nodup (by simp)
  rw [List.nil_append] at h
  have kept (p : Part) (hp : p ∉ attachParts) := h.kept p hp
  have store := kept .profile (by decide)
  have screens := kept .screens (by decide)
  have memory (hs : s.profile.save = none) : memoryAtReset s.fresh = (s.profile.memory, s.profile.unreliable) := by
    simp only [memoryAtReset, show s.fresh.profile.save = none from hs]
    rfl
  have screen (i : ScreenId) : (powerOnReset rateHigh observed s.fresh).screenRec i =
      { ScreenRec.reset with lockPin := (s.screenRec i).lockPin } := by
    change (powerOnReset rateHigh observed s.fresh).screens.recs[i] = _
    rw [show (powerOnReset rateHigh observed s.fresh).screens = (powerOnState rateHigh s.fresh).screens from screens]
    simp [powerOnState, State.screenRec, State.fresh]
  refine ⟨_, rfl, kept .now (by decide), kept .pending (by decide), kept .link (by decide), congrArg Profile.state store,
    congrArg Profile.save store, fun hs => ⟨?_, ?_⟩, kept .layout (by decide), kept .sync (by decide),
    kept .pointer (by decide), kept .matcher (by decide), kept .desk (by decide), ?_, screen, h.dial, fun l => ?_, h.port,
    h.desk, h.focus, h.held, h.lamps, h.maps, h.stuck, h.quiet, fun k => ⟨h.disabled k, h.raised k⟩⟩
  · exact (congrArg Profile.memory store).trans (congrArg Prod.fst (memory hs))
  · exact (congrArg Profile.unreliable store).trans (congrArg Prod.snd (memory hs))
  · rw [show (powerOnReset rateHigh observed s.fresh).screens = (powerOnState rateHigh s.fresh).screens from screens]
    rfl
  · refine (h.line l).1.trans ?_
    simp [powerOnState, State.lineRec, State.fresh]

end Sys2Proof.Machine
end

section
/-!
PROOFS, SET_COMPUTER (O19): its entry, the arming and the resting level, and the key-focus computer's new target.
-/

set_option Elab.async false
namespace Sys2Proof.Machine
open Sys2Proof Sys2Proof.Safety

/-! ### Configuration records in the READY state -/

theorem handled_ready {i : Instr} {s u : State} {r : Reply} {j : State → Judged}
    (hh : handleRecord i s.fresh = whenReady j s.fresh) (ready : s.profile.state = .ready) (hj : j s.fresh = .ok (u, r)) :
    handleRecord i s.fresh = (u, r) := by
  rw [hh, whenReady_ready j s.fresh ready, hj]
  rfl

theorem exec_ready_refused {i : Instr} {k : Nat} {b : List Nat} {s : State} {r : Result} {j : State → Judged}
    (hr : i.record = some (k, b)) (hh : handleRecord i s.fresh = whenReady j s.fresh) (ready : s.profile.state = .ready)
    (hj : j s.fresh = .error r) : ∃ t, exec i s = .next t ∧ Answers k r [] s t ∧ OnlyChanges [.link] s t := by
  refine exec_refused hr ?_
  rw [hh, whenReady_ready j s.fresh ready, hj]
  rfl

/-! ### The target is handed on (R97) -/

theorem KeyState.sub_refl (k : KeyState) : k.sub k = true := by
  simp [KeyState.sub, subBits]

theorem KeyState.same_refl (k : KeyState) : k.same k = true := by simp [KeyState.same, KeyState.sub_refl]

theorem committedKeys_append (p : Port) (k : KeyState) : (p.append (.keyboard k)).committedKeys = k := by
  simp only [Port.append, Port.committedKeys, List.reverse_append, List.reverse_singleton, List.singleton_append]
  rfl

theorem committedKeys_setPort (c : Computer) (p : Port) (s : State) : (s.setPort c p).committedKeys c = p.committedKeys := by
  simp [State.committedKeys]

/-- A port with room takes a key state that differs from its committed one as an entry of its own (R150, R152). -/
theorem placeKeys_of_room {c : Computer} {k : KeyState} {s : State} (room : (s.port c).queue.length < 28)
    (differs : k.same (s.committedKeys c) = false) :
    placeKeys c k s = (s.setPort c ((s.port c).append (.keyboard k)), .taken) := by
  have differs : k.same (s.port c).committedKeys = false := differs
  have depth : (s.port c).queue.length < queueDepth := Nat.lt_trans room (by decide)
  have reserve : (s.port c).queue.length < reserveDepth := room
  simp [placeKeys, differs, depth, reserve]

/-- An AWAKE key-focus computer with room is handed the target whole (R97). -/
theorem retarget_committed {s : State} (awake : s.powerState s.keyboard.focus = .awake)
    (room : (s.port s.keyboard.focus).queue.length < 28) :
    (retarget s).target.same ((retarget s).committedKeys s.keyboard.focus) = true := by
  rw [retarget, handTarget]
  split
  · assumption
  · next differs =>
    have placed : takeKeys s.keyboard.focus s.target s =
        (s.setPort s.keyboard.focus ((s.port s.keyboard.focus).append (.keyboard s.target)), .taken) := by
      simp only [takeKeys, awake]
      exact placeKeys_of_room room (by simpa using differs)
    have target (p : Port) : (s.setPort s.keyboard.focus p).target = s.target := rfl
    rw [placed]
    simp only [target, committedKeys_setPort, committedKeys_append, KeyState.same_refl]

/-! ### The steps of an applied SET_COMPUTER (R7) -/

theorem powerRec_armOnce (c d : Computer) (old new : ComputerEntry) (s : State) :
    (armOnce c old new s).powerRec d = if c = d then
      { s.powerRec c with armed := (s.powerRec c).armed || (new.inputWake == .once && old.inputWake != .once) }
    else s.powerRec d := by
  unfold armOnce
  by_cases h : new.inputWake = .once ∧ old.inputWake ≠ .once
  · have arms : (new.inputWake == .once && old.inputWake != .once) = true := by
      rw [Bool.and_eq_true, beq_iff_eq, bne_iff_ne]; exact h
    rw [if_pos h, arms, Bool.or_true, State.powerRec_setPowerRec]
  · have keeps : (new.inputWake == .once && old.inputWake != .once) = false := by
      rw [← Bool.not_eq_true, Bool.and_eq_true, beq_iff_eq, bne_iff_ne]; exact h
    rw [if_neg h, keeps, Bool.or_false]
    split
    · next hd => rw [← hd]
    · rfl

theorem powerRec_moveRest (c d : Computer) (s : State) :
    (moveRest c s).powerRec d = if c = d then
      { s.powerRec c with wakeHigh := if (s.powerRec c).pulse.isSome then (s.powerRec c).wakeHigh else (s.computer c).restHigh }
    else s.powerRec d := by
  unfold moveRest
  split
  · next h =>
    split
    · next hd => rw [← hd]
    · rfl
  · rw [State.powerRec_setPowerRec]

/-- The state that a keymap's new target meets: the entry is written, the arming and the resting level have followed. -/
def settledComputer (c : Computer) (e : ComputerEntry) (s : State) : State :=
  moveRest c (armOnce c (s.computer c) e (s.setComputerEntry c e))

theorem applyComputer_eq (c : Computer) (e : ComputerEntry) (s : State) :
    applyComputer c e s = remap c (s.computer c) e (settledComputer c e s) := rfl

@[simp] theorem settledComputer_leaves (c : Computer) (e : ComputerEntry) (s : State) :
    (settledComputer c e s).now = s.now ∧ (settledComputer c e s).link = s.link ∧ (settledComputer c e s).profile = s.profile ∧
    (settledComputer c e s).sync = s.sync ∧ (settledComputer c e s).screens = s.screens ∧
    (settledComputer c e s).pointer = s.pointer ∧ (settledComputer c e s).keyboard = s.keyboard ∧
    (settledComputer c e s).matcher = s.matcher ∧ (settledComputer c e s).desk = s.desk ∧
    (settledComputer c e s).freeCount = s.freeCount ∧ (settledComputer c e s).pending = s.pending ∧
    (settledComputer c e s).status = s.status ∧ (settledComputer c e s).lines = s.lines ∧
    (settledComputer c e s).ports = s.ports := by
  simp [settledComputer]

theorem powerRec_settledComputer (c d : Computer) (e : ComputerEntry) (s : State) :
    (settledComputer c e s).powerRec d = if c = d then
      { s.powerRec c with
        armed := (s.powerRec c).armed || (e.inputWake == .once && (s.computer c).inputWake != .once),
        wakeHigh := if (s.powerRec c).pulse.isSome then (s.powerRec c).wakeHigh else !e.activeHigh }
    else s.powerRec d := by
  have entry : (armOnce c (s.computer c) e (s.setComputerEntry c e)).computer c = e := by
    have written : (s.setComputerEntry c e).computer c = e := by simp
    rw [← written]
    simp only [State.computer, armOnce_leaves]
    simp
  rw [settledComputer, powerRec_moveRest, powerRec_armOnce, powerRec_armOnce, entry]
  by_cases h : c = d
  · subst h
    simp only [if_true]
    rfl
  · simp only [if_neg h]
    rfl

theorem powerState_settledComputer (c d : Computer) (e : ComputerEntry) (s : State) :
    (settledComputer c e s).powerState d = s.powerState d := by
  rw [State.powerState, powerRec_settledComputer]
  split
  · next h => rw [← h]; rfl
  · rfl

theorem onlyChanges_settledComputer (c : Computer) (e : ComputerEntry) (s : State) :
    OnlyChanges [.layout, .power] s (settledComputer c e s) := by
  intro p hp
  cases p <;> simp [Part.same] at hp ⊢

theorem onlyChanges_applyComputer (c : Computer) (e : ComputerEntry) (s : State) :
    OnlyChanges [.layout, .power, .ports, .keyboard, .status, .lines] s (applyComputer c e s) := by
  intro p hp
  cases p <;> simp [Part.same] at hp ⊢

theorem applyComputer_unmapped {c : Computer} {e : ComputerEntry} {s : State}
    (h : s.keyboard.focus ≠ c ∨ (s.computer c).keymap = e.keymap) : applyComputer c e s = settledComputer c e s := by
  rw [applyComputer_eq, remap, if_neg]
  rintro ⟨focus, keymap⟩
  obtain other | same := h
  · exact other (by simpa using focus)
  · exact keymap same

theorem applyComputer_remapped {c : Computer} {e : ComputerEntry} {s : State} (hf : s.keyboard.focus = c)
    (hk : (s.computer c).keymap ≠ e.keymap) : applyComputer c e s = retarget (settledComputer c e s) := by
  rw [applyComputer_eq, remap, if_pos ⟨by simpa using hf, hk⟩]

/-! ### The checks (R6) -/

theorem headsExceed_iff (s : State) (c : Computer) (e : ComputerEntry) : s.headsExceed c e = true ↔
    ∃ (h : HeadNo) (d : HeadEntry), s.headEntry ⟨c, h⟩ = some d ∧ (e.w < d.rect.x + d.rect.w ∨ e.h < d.rect.y + d.rect.h) := by
  rw [← Bool.not_eq_false, headsExceed_eq_false_iff]
  simp only [Rect.fitsDesktop, Bool.and_eq_true, decide_eq_true_eq, not_forall]
  refine exists_congr fun h => exists_congr fun d => ?_
  constructor
  · rintro ⟨hd, out⟩; exact ⟨hd, by omega⟩
  · rintro ⟨hd, out⟩; exact ⟨hd, by omega⟩

theorem attemptsExceed_iff (s : State) (c : Computer) (e : ComputerEntry) :
    s.attemptsExceed c e = true ↔ s.powerState c = .waking ∧ e.maxAttempts < (s.powerRec c).attempt := by
  simp [State.attemptsExceed]

/-- Settles O19: the record's entry is written, and the arming, the resting level and the target follow it in that order. -/
theorem setComputerRules : Obligations.SetComputerRules := by
  refine ⟨fun n r s ready out => ?_, fun c r s ready fields conflict => ?_, fun c r s ready fields inside attempts => ?_⟩
  · refine exec_ready_refused rfl rfl ready (j := judgeSetComputer n r) ?_
    rw [judgeSetComputer]
    obtain hn | hr := out
    · rw [(fin?_eq_none_iff 6 n).2 hn]
    · rw [ofRaw_eq_none hr]
      split <;> simp_all
  · obtain ⟨e, he⟩ := exists_ofRaw fields
    obtain ⟨-, mode, keymap, -, -, rfl⟩ := (ofRaw_eq_some_iff r e).1 he
    refine exec_ready_refused rfl rfl ready (j := judgeSetComputer c r) ?_
    have exceeds : s.fresh.headsExceed c (rawEntry r mode keymap) = true ∨ s.fresh.attemptsExceed c (rawEntry r mode keymap) = true :=
      conflict.imp (headsExceed_iff s.fresh c _).2 (attemptsExceed_iff s.fresh c _).2
    simp only [judgeSetComputer, fin?_val, he, if_pos exceeds]
  · obtain ⟨e, he⟩ := exists_ofRaw fields
    obtain ⟨-, mode, keymap, hm, hk, rfl⟩ := (ofRaw_eq_some_iff r e).1 he
    have fits : ¬(s.fresh.headsExceed c (rawEntry r mode keymap) = true ∨ s.fresh.attemptsExceed c (rawEntry r mode keymap) = true) := by
      rw [headsExceed_iff, attemptsExceed_iff]
      rintro (⟨h, d, hd, out⟩ | ⟨waking, out⟩)
      · have := inside h d hd
        simp only [rawEntry] at out
        omega
      · have := attempts waking
        exact Nat.not_lt.2 this out
    have judged : judgeSetComputer c r s.fresh = .ok (applyComputer c (rawEntry r mode keymap) s.fresh, ⟨.ok, []⟩) := by
      simp only [judgeSetComputer, fin?_val, he, if_neg fits]
      rfl
    have entry : (applyComputer c (rawEntry r mode keymap) s.fresh).computer c = rawEntry r mode keymap := by simp
    have wake : (r.inputWake == 1) = (mode == .once) := by rw [← hm]; cases mode <;> rfl
    refine ⟨_, exec_answered rfl (handled_ready rfl ready judged), answers_sendReply (by simp [State.fresh]), ?_⟩
    have reads (d : Computer) : ((applyComputer c (rawEntry r mode keymap) s.fresh).sendReply 0x11 ⟨.ok, []⟩).computer d =
        (applyComputer c (rawEntry r mode keymap) s.fresh).computer d := rfl
    simp only [reads, entry]
    refine ⟨applyComputer_layout c _ s.fresh, rfl, rfl, rfl, rfl, rfl, rfl, rfl, hm, rfl, rfl, rfl, rfl, rfl, hk,
      fun unmapped => ⟨?_, fun d hd => ?_, ?_⟩, fun focus awake room remaps => ?_, ?_⟩
    · rw [applyComputer_unmapped (s := s.fresh) unmapped]
      refine (powerRec_settledComputer c c _ s.fresh).trans ?_
      rw [if_pos rfl, wake]
      rfl
    · rw [applyComputer_unmapped (s := s.fresh) unmapped]
      refine (powerRec_settledComputer c d _ s.fresh).trans ?_
      rw [if_neg (Ne.symm hd)]
      rfl
    · rw [applyComputer_unmapped (s := s.fresh) unmapped]
      exact onlyChanges_reply _ _ (onlyChanges_settledComputer c _ s.fresh)
    · rw [applyComputer_remapped (s := s.fresh) focus remaps]
      have held : (settledComputer c (rawEntry r mode keymap) s.fresh).keyboard.focus = c := by simpa using focus
      have := retarget_committed (s := settledComputer c (rawEntry r mode keymap) s.fresh)
        (by rw [held, powerState_settledComputer]; exact awake) (by rw [held]; simpa [State.port] using room)
      rwa [held] at this
    · exact onlyChanges_of_mem (onlyChanges_reply _ _ (onlyChanges_applyComputer c _ s.fresh)) (by decide)

end Sys2Proof.Machine
end

section
/-!
PROOFS, screen records: what each operation of the Screen Controller makes of a screen's record, with the map, the channels, the time
and the settings of the controller as they stand.
-/

set_option Elab.async false
namespace Sys2Proof.Machine
open Sys2Proof Sys2Proof.Safety

/-! ### What a record's next value rests on -/

/-- The controller's stored settings: the scenes, the start scene and the timing (R32, R50). -/
def ScreenController.settings (c : ScreenController) :=
  (c.scenes, c.startScene, c.linkLimit, c.powerValue, c.powerScale)

/-- The layout, the channels, the time and the controller's settings are the same in two states. -/
def SameContext (s t : State) : Prop :=
  t.layout = s.layout ∧ t.sync = s.sync ∧ t.now = s.now ∧ t.screens.settings = s.screens.settings

theorem SameContext.refl (s : State) : SameContext s s := ⟨rfl, rfl, rfl, rfl⟩

theorem SameContext.trans {s t u : State} (h : SameContext s t) (k : SameContext t u) : SameContext s u :=
  ⟨k.1.trans h.1, k.2.1.trans h.2.1, k.2.2.1.trans h.2.2.1, k.2.2.2.trans h.2.2.2⟩

theorem headState_of_tables {s t : State} (hl : t.layout = s.layout) (hs : t.sync = s.sync) (h : Head) :
    t.headState h = s.headState h := by
  simp only [State.headState, headInput_of_layout hl, State.channel, hs]

theorem headAlive_of_tables {s t : State} (hl : t.layout = s.layout) (hs : t.sync = s.sync) (h : Head) :
    t.headAlive h = s.headAlive h := by
  simp only [State.headAlive, headState_of_tables hl hs]

theorem selectionFor_of_layout {s t : State} (hl : t.layout = s.layout) (x : Option Head) :
    t.selectionFor x = s.selectionFor x := by
  have inputs : t.headInput = s.headInput := funext (headInput_of_layout hl)
  simp only [State.selectionFor, inputs]

/-- The link timer as it starts now (R34). -/
def State.linkTimer (s : State) : Timer := s.timer s.screens.linkLimit

theorem linkTimer_of_context {s t : State} (h : SameContext s t) : t.linkTimer = s.linkTimer := by
  obtain ⟨-, -, now, settings⟩ := h
  have limit : t.screens.linkLimit = s.screens.linkLimit := congrArg (fun x => x.2.2.1) settings
  simp only [State.linkTimer, State.timer, now, limit]

/-! ### Messages, timers and states -/

@[simp] theorem setScreenRec_settings (i : ScreenId) (x : ScreenRec) (s : State) :
    (s.setScreenRec i x).screens.settings = s.screens.settings := rfl

@[simp] theorem sendSelection_settings (i : ScreenId) (x : Selection) (s : State) :
    (sendSelection i x s).screens.settings = s.screens.settings := rfl

@[simp] theorem setLinkTimer_settings (i : ScreenId) (t : Option Timer) (s : State) :
    (setLinkTimer i t s).screens.settings = s.screens.settings := rfl

@[simp] theorem setPowerTimer_settings (i : ScreenId) (t : Option Timer) (s : State) :
    (setPowerTimer i t s).screens.settings = s.screens.settings := rfl

@[simp] theorem startLink_settings (i : ScreenId) (s : State) : (startLink i s).screens.settings = s.screens.settings := rfl

@[simp] theorem reportFault_screens (s : State) : (reportFault s).screens = s.screens := rfl

theorem setScreenRec_self (i : ScreenId) (s : State) : (s.setScreenRec i (s.screenRec i)).screens = s.screens := by
  simp [State.screenRec]

/-- Entering a state writes the state, whatever it raises. -/
theorem enterScreen_screens (i : ScreenId) (st : ScreenState) (s : State) :
    (enterScreen i st s).screens = (s.setScreenRec i { s.screenRec i with state := st }).screens := by
  simp only [enterScreen]
  split
  · next h =>
    subst h
    exact (setScreenRec_self i s).symm
  · split <;> simp

@[simp] theorem enterScreen_settings (i : ScreenId) (st : ScreenState) (s : State) :
    (enterScreen i st s).screens.settings = s.screens.settings := by
  rw [enterScreen_screens, setScreenRec_settings]

theorem screenRec_of_screens {s t : State} (h : t.screens = s.screens) (i : ScreenId) : t.screenRec i = s.screenRec i := by
  simp only [State.screenRec, h]

@[simp] theorem screenRec_raise (e : Event) (s : State) (i : ScreenId) : (raise e s).screenRec i = s.screenRec i :=
  screenRec_of_screens (by simp) i

@[simp] theorem screenRec_enterScreen (i j : ScreenId) (st : ScreenState) (s : State) :
    (enterScreen i st s).screenRec j = if i = j then { s.screenRec i with state := st } else s.screenRec j := by
  rw [screenRec_of_screens (enterScreen_screens i st s), State.screenRec_setScreenRec]

@[simp] theorem screenRec_sendSelection (i j : ScreenId) (x : Selection) (s : State) :
    (sendSelection i x s).screenRec j = if i = j then { s.screenRec i with selected := some x, lockView := false }
      else s.screenRec j := State.screenRec_setScreenRec s i j _

@[simp] theorem screenRec_setLinkTimer (i j : ScreenId) (t : Option Timer) (s : State) :
    (setLinkTimer i t s).screenRec j = if i = j then { s.screenRec i with linkTimer := t } else s.screenRec j :=
  State.screenRec_setScreenRec s i j _

@[simp] theorem screenRec_setPowerTimer (i j : ScreenId) (t : Option Timer) (s : State) :
    (setPowerTimer i t s).screenRec j = if i = j then { s.screenRec i with powerTimer := t } else s.screenRec j :=
  State.screenRec_setScreenRec s i j _

@[simp] theorem screenRec_startLink (i j : ScreenId) (s : State) :
    (startLink i s).screenRec j = if i = j then { s.screenRec i with linkTimer := some s.linkTimer } else s.screenRec j :=
  State.screenRec_setScreenRec s i j _

@[simp] theorem screenRec_setInFlight (x : Option InFlight) (s : State) (j : ScreenId) :
    (s.setInFlight x).screenRec j = s.screenRec j := rfl

@[simp] theorem setInFlight_settings (x : Option InFlight) (s : State) :
    (s.setInFlight x).screens.settings = s.screens.settings := rfl

/-! ### Sources (R36) -/

/-- A record after the source rule with its current source (R36). -/
def followed (s : State) (r : ScreenRec) : ScreenRec :=
  { r with
    selected := some (s.selectionFor r.current), lockView := false, powerTimer := none,
    state := match r.current with
      | none => .blank
      | some h => if s.headAlive h then .linking else .dark
    linkTimer := if r.current.any s.headAlive then some s.linkTimer else none }

theorem followed_of_context {s t : State} (h : SameContext s t) (r : ScreenRec) : followed t r = followed s r := by
  have alive : t.headAlive = s.headAlive := funext (headAlive_of_tables h.1 h.2.1)
  simp only [followed, selectionFor_of_layout h.1, alive, linkTimer_of_context h]

/-- The message of the source rule is sent and both timers are stopped. -/
def messaged (i : ScreenId) (s : State) : State :=
  setPowerTimer i none (setLinkTimer i none (sendSelection i (s.selectionFor (s.screenRec i).current) s))

theorem followSource_eq (i : ScreenId) (s : State) : followSource i s =
    match (s.screenRec i).current with
    | none => enterScreen i .blank (messaged i s)
    | some h => if (messaged i s).headAlive h then enterScreen i .linking (startLink i (messaged i s))
      else enterScreen i .dark (messaged i s) := rfl

theorem context_messaged (i : ScreenId) (s : State) : SameContext s (messaged i s) := by
  simp [SameContext, messaged]

theorem screenRec_messaged (i j : ScreenId) (s : State) : (messaged i s).screenRec j = if i = j then
    { s.screenRec i with
      selected := some (s.selectionFor (s.screenRec i).current), lockView := false, linkTimer := none, powerTimer := none }
    else s.screenRec j := by
  by_cases h : i = j <;> simp [messaged, h]

theorem context_followSource (i : ScreenId) (s : State) : SameContext s (followSource i s) := by
  refine (context_messaged i s).trans ?_
  rw [followSource_eq]
  repeat' split
  all_goals simp [SameContext]

theorem screenRec_followSource (i j : ScreenId) (s : State) :
    (followSource i s).screenRec j = if i = j then followed s (s.screenRec i) else s.screenRec j := by
  have alive (g : Head) : (messaged i s).headAlive g = s.headAlive g :=
    headAlive_of_tables (context_messaged i s).1 (context_messaged i s).2.1 g
  have timer : (messaged i s).linkTimer = s.linkTimer := linkTimer_of_context (context_messaged i s)
  rw [followSource_eq]
  by_cases hij : i = j
  · subst hij
    split
    · next h => simp [screenRec_messaged, followed, h]
    · next g h => by_cases ha : s.headAlive g <;> simp [screenRec_messaged, followed, h, alive, ha, timer]
  · rw [if_neg hij]
    repeat' split
    all_goals simp [screenRec_messaged, hij]

/-- A source is taken: the record names it alone, and follows it (R36). -/
theorem screenRec_takeSource (i j : ScreenId) (x : Option Head) (s : State) :
    (takeSource i x s).screenRec j = if i = j then followed s { s.screenRec i with current := x, waiting := none }
      else s.screenRec j := by
  have context : SameContext s (s.setScreenRec i { s.screenRec i with current := x, waiting := none }) :=
    ⟨rfl, rfl, rfl, rfl⟩
  have taken : (followSource i (s.setScreenRec i { s.screenRec i with current := x, waiting := none })).screenRec j =
      if i = j then followed s { s.screenRec i with current := x, waiting := none } else s.screenRec j := by
    rw [screenRec_followSource, followed_of_context context]
    by_cases h : i = j <;> simp [h]
  simp only [takeSource]
  split
  · rw [screenRec_raise, taken]
  · exact taken

theorem context_takeSource (i : ScreenId) (x : Option Head) (s : State) : SameContext s (takeSource i x s) := by
  have context : SameContext s (s.setScreenRec i { s.screenRec i with current := x, waiting := none }) :=
    ⟨rfl, rfl, rfl, rfl⟩
  have followed := context.trans (context_followSource i _)
  simp only [takeSource]
  split
  · exact followed.trans (by simp [SameContext])
  · exact followed

/-! ### The settling test and the notices leave every record -/

@[simp] theorem screenRec_settleAll (s : State) (i : ScreenId) : (settleAll s).screenRec i = s.screenRec i := by
  simp only [settleAll]
  repeat' split
  all_goals first
    | rfl
    | exact screenRec_raise _ _ i

@[simp] theorem settleAll_settings (s : State) : (settleAll s).screens.settings = s.screens.settings := by
  simp only [settleAll]
  repeat' split
  · rfl
  · rw [(raise_leaves _ _).2.2.2.2.2.1, setInFlight_settings]
  · rfl

theorem screenRec_onScreens (f : State → State) (s : State) (i : ScreenId) :
    (onScreens f s).screenRec i = (f s).screenRec i :=
  onScreens_reads (fun s => s.screenRec i) f (fun j s => screenRec_of_screens (by simp) i) (fun s => by simp) s

@[simp] theorem screenRec_lostWaiting (i j : ScreenId) (s : State) : (lostWaiting i s).screenRec j = s.screenRec j := by
  simp only [lostWaiting]
  repeat' split
  all_goals rfl

@[simp] theorem lostWaiting_settings (i : ScreenId) (s : State) : (lostWaiting i s).screens.settings = s.screens.settings := by
  simp only [lostWaiting]
  repeat' split
  all_goals rfl

/-! ### The same operation on every screen -/

/-- An operation on one screen, from a state: it leaves the context and the other records, and makes of the screen's record what `g`
makes of it. -/
structure ActsOn (i : ScreenId) (f : State → State) (g : ScreenRec → ScreenRec) (s : State) : Prop where
  context : SameContext s (f s)
  here : (f s).screenRec i = g (s.screenRec i)
  elsewhere : ∀ j, i ≠ j → (f s).screenRec j = s.screenRec j

theorem context_foldl {f : ScreenId → State → State} (context : ∀ i t, SameContext t (f i t)) (l : List ScreenId) (s : State) :
    SameContext s (l.foldl (fun s i => f i s) s) := by
  induction l generalizing s with
  | nil => exact .refl s
  | cons i l ih => exact (context i s).trans (ih (f i s))

theorem screenRec_foldl {f : ScreenId → State → State} {g : ScreenId → ScreenRec → ScreenRec} {s : State}
    (acts : ∀ i t, SameContext s t → ActsOn i (f i) (g i) t) (l : List ScreenId) (nodup : l.Nodup) (t : State)
    (context : SameContext s t) (j : ScreenId) :
    (l.foldl (fun s i => f i s) t).screenRec j = if j ∈ l then g j (t.screenRec j) else t.screenRec j := by
  induction l generalizing t with
  | nil => simp
  | cons i l ih =>
    obtain ⟨once, nodup⟩ := List.nodup_cons.1 nodup
    have act := acts i t context
    rw [List.foldl_cons, ih nodup (f i t) (context.trans act.context)]
    by_cases h : i = j
    · subst h
      simp [once, act.here]
    · simp [act.elsewhere j h, Ne.symm h]

/-- Done on every screen, an operation on one screen makes of each record what it makes of one. -/
theorem screenRec_eachScreen {f : ScreenId → State → State} {g : ScreenId → ScreenRec → ScreenRec} {s : State}
    (acts : ∀ i t, SameContext s t → ActsOn i (f i) (g i) t) (j : ScreenId) :
    (eachScreen f s).screenRec j = g j (s.screenRec j) := by
  rw [eachScreen, screenRec_foldl acts allScreens (by decide) s (.refl s) j, if_pos (mem_allScreens j)]

theorem context_eachScreen {f : ScreenId → State → State} (context : ∀ i t, SameContext t (f i t)) (s : State) :
    SameContext s (eachScreen f s) := context_foldl context allScreens s

end Sys2Proof.Machine
end

section
/-!
PROOFS, screens and heads: what clearing a head, sending its selection anew and its change of state make of a screen's record, and so
what a rebinding makes of it.
-/

set_option Elab.async false
namespace Sys2Proof.Machine
open Sys2Proof Sys2Proof.Safety

/-! ### What each operation makes of a record -/

/-- A record whose sources that name the head are cleared (R43). -/
def cleared (h : Head) (r : ScreenRec) : ScreenRec :=
  if r.current = some h then
    if r.state.isOn then
      { r with
        state := .blank, current := none, waiting := none, lockView := false, linkTimer := none, powerTimer := none,
        selected := some .blank }
    else { r with current := none, waiting := if r.waiting = some h then none else r.waiting }
  else if r.waiting = some h then { r with waiting := none } else r

/-- A record whose pending source, if it names the head, is cleared (log entry 14). -/
def dropped (h : Head) (r : ScreenRec) : ScreenRec := if r.waiting = some h then { r with waiting := none } else r

/-- A record after the head's selection is sent anew (R33). -/
def resent (s : State) (h : Head) (r : ScreenRec) : ScreenRec :=
  if r.current = some h ∧ r.state.isOn then
    { r with
      selected := some (s.selectionFor (some h)), lockView := false,
      state := if r.state = .showing then .linking else r.state,
      linkTimer := if r.state = .showing then some s.linkTimer else r.linkTimer }
  else r

/-- A record after the head left ALIVE (R38, R42). -/
def fallen (s : State) (h : Head) (r : ScreenRec) : ScreenRec :=
  if r.waiting = some h then followed s { r with current := some h, waiting := none }
  else if r.current = some h ∧ r.state.live then { r with state := .dark, linkTimer := none }
  else r

/-- A record after the head became ALIVE (R34, R38). -/
def risen (s : State) (h : Head) (r : ScreenRec) : ScreenRec :=
  if r.current = some h ∧ r.state = .dark then
    { r with
      state := if r.lockView then .showing else .linking, linkTimer := if r.lockView then none else some s.linkTimer }
  else r

theorem resent_of_context {s t : State} (c : SameContext s t) (h : Head) (r : ScreenRec) : resent t h r = resent s h r := by
  simp only [resent, selectionFor_of_layout c.1, linkTimer_of_context c]

theorem fallen_of_context {s t : State} (c : SameContext s t) (h : Head) (r : ScreenRec) : fallen t h r = fallen s h r := by
  simp only [fallen, followed_of_context c]

theorem risen_of_context {s t : State} (c : SameContext s t) (h : Head) (r : ScreenRec) : risen t h r = risen s h r := by
  simp only [risen, linkTimer_of_context c]

/-! ### The operations act so -/

theorem ActsOn.of_screenRec {i : ScreenId} {f : State → State} {g : ScreenRec → ScreenRec} {s : State}
    (context : SameContext s (f s))
    (recs : ∀ j, (f s).screenRec j = if i = j then g (s.screenRec i) else s.screenRec j) : ActsOn i f g s where
  context := context
  here := by rw [recs, if_pos rfl]
  elsewhere j h := by rw [recs, if_neg h]

theorem context_setScreenRec (i : ScreenId) (x : ScreenRec) (s : State) : SameContext s (s.setScreenRec i x) :=
  ⟨rfl, rfl, rfl, rfl⟩

theorem context_lostWaiting (i : ScreenId) (s : State) : SameContext s (lostWaiting i s) := by simp [SameContext]

theorem context_clearHeadOn (h : Head) (i : ScreenId) (s : State) : SameContext s (clearHeadOn h i s) := by
  simp only [clearHeadOn]
  split
  · split
    · refine SameContext.trans ?_ (context_takeSource i none _)
      split
      · exact context_lostWaiting i s
      · exact .refl s
    · exact context_setScreenRec i _ s
  · split
    · exact (context_setScreenRec i _ s).trans (context_lostWaiting i _)
    · exact .refl s

theorem screenRec_clearHeadOn (h : Head) (i j : ScreenId) (s : State) :
    (clearHeadOn h i s).screenRec j = if i = j then cleared h (s.screenRec i) else s.screenRec j := by
  simp only [clearHeadOn, cleared]
  repeat' split
  all_goals simp_all [screenRec_takeSource, followed, State.selectionFor]

theorem context_dropWaiting (h : Head) (i : ScreenId) (s : State) : SameContext s (dropWaiting h i s) := by
  simp only [dropWaiting]
  split
  · exact (context_setScreenRec i _ s).trans (context_lostWaiting i _)
  · exact .refl s

theorem screenRec_dropWaiting (h : Head) (i j : ScreenId) (s : State) :
    (dropWaiting h i s).screenRec j = if i = j then dropped h (s.screenRec i) else s.screenRec j := by
  simp only [dropWaiting, dropped]
  repeat' split
  all_goals simp_all

theorem context_resendFor (h : Head) (i : ScreenId) (s : State) : SameContext s (resendFor h i s) := by
  refine ⟨by simp, by simp, by simp, ?_⟩
  simp only [resendFor]
  repeat' split
  all_goals simp

theorem screenRec_resendFor (h : Head) (i j : ScreenId) (s : State) :
    (resendFor h i s).screenRec j = if i = j then resent s h (s.screenRec i) else s.screenRec j := by
  have timer : (sendSelection i (s.selectionFor (some h)) s).linkTimer = s.linkTimer := rfl
  simp only [resendFor, resent]
  repeat' split
  all_goals simp_all

theorem context_headLeaves (h : Head) (i : ScreenId) (s : State) : SameContext s (headLeaves h i s) := by
  simp only [headLeaves]
  repeat' split
  · exact context_takeSource i _ s
  · simp [SameContext]
  · exact .refl s

theorem screenRec_headLeaves (h : Head) (i j : ScreenId) (s : State) :
    (headLeaves h i s).screenRec j = if i = j then fallen s h (s.screenRec i) else s.screenRec j := by
  simp only [headLeaves, fallen]
  repeat' split
  all_goals simp_all [screenRec_takeSource]

theorem context_headRises (h : Head) (i : ScreenId) (s : State) : SameContext s (headRises h i s) := by
  refine ⟨by simp, by simp, by simp, ?_⟩
  simp only [headRises, linkUp]
  repeat' split
  all_goals simp

theorem screenRec_headRises (h : Head) (i j : ScreenId) (s : State) :
    (headRises h i s).screenRec j = if i = j then risen s h (s.screenRec i) else s.screenRec j := by
  simp only [headRises, risen, linkUp]
  repeat' split
  all_goals simp_all

/-! ### On every screen -/

/-- An operation on one screen that rests on the context alone makes the same of the records of all (R26, R38, R43). -/
theorem screenRec_each {f : ScreenId → State → State} {g : State → ScreenId → ScreenRec → ScreenRec}
    (context : ∀ i s, SameContext s (f i s))
    (recs : ∀ i j s, (f i s).screenRec j = if i = j then g s i (s.screenRec i) else s.screenRec j)
    (same : ∀ s t, SameContext s t → ∀ i r, g t i r = g s i r) (s : State) (j : ScreenId) :
    (eachScreen f s).screenRec j = g s j (s.screenRec j) :=
  screenRec_eachScreen (g := g s)
    (fun i t h => .of_screenRec (context i t) fun j => by rw [recs, same s t h]) j

theorem screenRec_each_dropWaiting (h : Head) (s : State) (j : ScreenId) :
    (eachScreen (dropWaiting h) s).screenRec j = dropped h (s.screenRec j) :=
  screenRec_each (g := fun _ _ => dropped h) (context_dropWaiting h) (screenRec_dropWaiting h) (fun _ _ _ _ _ => rfl) s j

theorem screenRec_each_clearHeadOn (h : Head) (s : State) (j : ScreenId) :
    (eachScreen (clearHeadOn h) s).screenRec j = cleared h (s.screenRec j) :=
  screenRec_each (g := fun _ _ => cleared h) (context_clearHeadOn h) (screenRec_clearHeadOn h) (fun _ _ _ _ _ => rfl) s j

/-- A head is cleared on the screens of a set alone (R10, R43). -/
theorem screenRec_clearHead (h : Head) (on : ScreenSet) (s : State) (j : ScreenId) :
    (clearHead h on s).screenRec j = if inSet on j then cleared h (s.screenRec j) else s.screenRec j := by
  rw [clearHead, screenRec_onScreens]
  refine screenRec_each (g := fun _ i r => if inSet on i then cleared h r else r) (fun i s => ?_) (fun i j s => ?_)
    (fun _ _ _ _ _ => rfl) s j
  · split
    · exact context_clearHeadOn h i s
    · exact .refl s
  · split
    · exact screenRec_clearHeadOn h i j s
    · split
      · next hij => rw [hij]
      · rfl

theorem context_resendHead (x : Option Head) (s : State) : SameContext s (resendHead x s) := by
  unfold resendHead
  split
  · exact context_eachScreen (context_resendFor _) s
  · exact .refl s

/-- The selection of a head, if any, is sent anew. -/
def resentFor (s : State) (x : Option Head) (r : ScreenRec) : ScreenRec :=
  match x with
  | some h => resent s h r
  | none => r

theorem screenRec_resendHead (x : Option Head) (s : State) (j : ScreenId) :
    (resendHead x s).screenRec j = resentFor s x (s.screenRec j) := by
  cases x with
  | none => rfl
  | some h =>
    exact screenRec_each (g := fun s _ => resent s h) (context_resendFor h) (screenRec_resendFor h)
      (fun s t c _ => resent_of_context c h) s j

/-- A head's state, which was ALIVE or not, is followed by a record. -/
def movedFor (s : State) (wasAlive : Bool) (x : Option Head) (r : ScreenRec) : ScreenRec :=
  match x with
  | some h =>
    if wasAlive ∧ ¬s.headAlive h then fallen s h r else if ¬wasAlive ∧ s.headAlive h then risen s h r else r
  | none => r

theorem movedFor_of_context {s t : State} (c : SameContext s t) (b : Bool) (x : Option Head) (r : ScreenRec) :
    movedFor t b x r = movedFor s b x r := by
  cases x with
  | none => rfl
  | some h => simp only [movedFor, headAlive_of_tables c.1 c.2.1, fallen_of_context c, risen_of_context c]

theorem resentFor_of_context {s t : State} (c : SameContext s t) (x : Option Head) (r : ScreenRec) :
    resentFor t x r = resentFor s x r := by
  cases x with
  | none => rfl
  | some h => exact resent_of_context c h r

theorem context_movedHead (b : Bool) (x : Option Head) (s : State) : SameContext s (movedHead b x s) := by
  unfold movedHead headMoved
  repeat' split
  · exact context_eachScreen (context_headLeaves _) s
  · exact context_eachScreen (context_headRises _) s
  · exact .refl s
  · exact .refl s

theorem screenRec_movedHead (b : Bool) (x : Option Head) (s : State) (j : ScreenId) :
    (movedHead b x s).screenRec j = movedFor s b x (s.screenRec j) := by
  cases x with
  | none => rfl
  | some h =>
    simp only [movedHead, headMoved, movedFor]
    split
    · exact screenRec_each (g := fun s _ => fallen s h) (context_headLeaves h) (screenRec_headLeaves h)
        (fun s t c _ => fallen_of_context c h) s j
    · split
      · exact screenRec_each (g := fun s _ => risen s h) (context_headRises h) (screenRec_headRises h)
          (fun s t c _ => risen_of_context c h) s j
      · rfl

/-! ### A rebinding (R11, R12) -/

/-- The map and the channel of a rebinding, before the screens are told. -/
def bound (v : InputId) (new : Option Head) (s : State) : State := bindChannel v new.isSome (s.setBinding v new)

/-- The screens follow a rebinding: the two heads' selections first, then their changes of state (R38; log entry 36). -/
theorem screenRec_rebind (v : InputId) (new : Option Head) (s : State) (j : ScreenId) :
    (rebind v new s).screenRec j =
      movedFor (bound v new s) (new.any s.headAlive) new (movedFor (bound v new s) ((s.binding v).any s.headAlive) (s.binding v)
        (resentFor (bound v new s) new (resentFor (bound v new s) (s.binding v) (s.screenRec j)))) := by
  have first := context_resendHead (s.binding v) (bound v new s)
  have second := first.trans (context_resendHead new _)
  have third := second.trans (context_movedHead ((s.binding v).any s.headAlive) (s.binding v) _)
  have start : (bound v new s).screenRec j = s.screenRec j := screenRec_of_screens (by simp [bound]) j
  rw [← start]
  change (movedHead _ new (movedHead _ (s.binding v) (resendHead new (resendHead (s.binding v) (bound v new s))))).screenRec j = _
  rw [screenRec_movedHead, screenRec_movedHead, screenRec_resendHead, screenRec_resendHead, movedFor_of_context third,
    movedFor_of_context second, resentFor_of_context first]

end Sys2Proof.Machine
end

section
/-!
PROOFS, SET_HEAD (O20): a narrowed policy clears the head where it may no longer be shown, an undefined head is cleared everywhere.
-/

set_option Elab.async false
namespace Sys2Proof.Machine
open Sys2Proof Sys2Proof.Safety

/-! ### The channel and the bindings of a rebinding -/

@[simp] theorem bound_layout (v : InputId) (new : Option Head) (s : State) :
    (bound v new s).layout = (s.setBinding v new).layout := by simp [bound]

@[simp] theorem binding_bound (v w : InputId) (new : Option Head) (s : State) :
    (bound v new s).binding w = if v = w then new else s.binding w := by
  rw [← State.binding_setBinding]
  simp only [State.binding, bound_layout]

theorem channel_reportSync (st : ChannelState) (u v : InputId) (s : State) : (reportSync st v s).channel u = s.channel u := by
  unfold reportSync
  split <;> simp [State.channel]

/-- A binding starts, stops or keeps the channel (R29). -/
theorem channel_bindChannel (u v : InputId) (on : Bool) (s : State) : (bindChannel v on s).channel u =
    if v = u ∧ (s.channel v).running ≠ on then { (s.channel v).cleared with running := on } else s.channel u := by
  simp only [bindChannel]
  split
  · next h => simp [h]
  · next h =>
    rw [channel_reportSync, State.channel_setChannel]
    simp [h]

theorem channel_bound (u v : InputId) (new : Option Head) (s : State) : (bound v new s).channel u =
    if v = u ∧ (s.channel v).running ≠ new.isSome then { (s.channel v).cleared with running := new.isSome } else s.channel u :=
  channel_bindChannel u v new.isSome (s.setBinding v new)

theorem rebind_sync (v : InputId) (new : Option Head) (s : State) : (rebind v new s).sync = (bound v new s).sync := by
  simp [rebind, bound]

theorem channel_rebind (u v : InputId) (new : Option Head) (s : State) :
    (rebind v new s).channel u = (bound v new s).channel u := by
  simp only [State.channel, rebind_sync]

/-! ### Records that no head concerned is a source of -/

theorem resentFor_of_ne (s : State) {x : Option Head} {r : ScreenRec} (h : x ≠ none → r.current ≠ x) : resentFor s x r = r := by
  cases x with
  | none => rfl
  | some a => exact if_neg fun ⟨hc, _⟩ => h (by simp) hc

theorem movedFor_of_ne (s : State) (b : Bool) {x : Option Head} {r : ScreenRec}
    (h : x ≠ none → r.current ≠ x ∧ r.waiting ≠ x) : movedFor s b x r = r := by
  cases x with
  | none => rfl
  | some a =>
    obtain ⟨hc, hw⟩ := h (by simp)
    simp [movedFor, fallen, risen, hc, hw]

theorem cleared_of_ne {h : Head} {r : ScreenRec} (hc : r.current ≠ some h) (hw : r.waiting ≠ some h) : cleared h r = r := by
  simp [cleared, hc, hw]

/-- No source of a cleared record names the head. -/
theorem cleared_ne (h : Head) (r : ScreenRec) : (cleared h r).current ≠ some h ∧ (cleared h r).waiting ≠ some h := by
  unfold cleared
  repeat' split
  all_goals simp_all

/-! ### A head is defined (R10) -/

theorem inSet_or (a b : ScreenSet) (i : ScreenId) : inSet (a ||| b) i = (inSet a i || inSet b i) := BitVec.getLsbD_or

theorem inSet_screenBit : ∀ i j : ScreenId, inSet (screenBit i) j = (i == j) := by decide

theorem inSet_foldl (p : ScreenId → Bool) (l : List ScreenId) (b : ScreenSet) (j : ScreenId) :
    inSet (l.foldl (fun b i => if p i then b ||| screenBit i else b) b) j = (inSet b j || l.any fun i => i == j && p i) := by
  induction l generalizing b with
  | nil => simp
  | cons i l ih =>
    rw [List.foldl_cons, ih, List.any_cons]
    cases hp : p i with
    | false => simp
    | true => simp [inSet_or, inSet_screenBit, Bool.or_assoc]

/-- The members of a set of screens formed by a test are the screens that pass it. -/
theorem inSet_screenSetOf (p : ScreenId → Bool) (i : ScreenId) : inSet (screenSetOf p) i = p i := by
  have none : inSet 0 i = false := by revert i; decide
  rw [screenSetOf, inSet_foldl, none, Bool.false_or]
  cases hp : p i with
  | false =>
    rw [List.any_eq_false]
    intro j _ both
    simp only [Bool.and_eq_true, beq_iff_eq] at both
    rw [both.1, hp] at both
    exact absurd both.2 (by decide)
  | true => exact List.any_eq_true.2 ⟨i, mem_allScreens i, by simp [hp]⟩

theorem inSet_forbidden (e : HeadEntry) (i : ScreenId) : inSet e.forbidden i = (e.isPrivate && !inSet e.allowed i) := by
  rw [HeadEntry.forbidden, inSet_screenSetOf, HeadEntry.allows]
  simp

/-- A narrowed policy clears the head's sources on the screens it may no longer be shown on, and no other change does (R10). -/
theorem screenRec_defineHead (h : Head) (e : HeadEntry) (s : State) (i : ScreenId) : (defineHead h e s).screenRec i =
    if (s.headEntry h).any (·.narrows e) && inSet e.forbidden i then cleared h (s.screenRec i) else s.screenRec i := by
  have unchanged : (s.setHeadEntry h (some e)).screenRec i = s.screenRec i := rfl
  simp only [defineHead]
  split
  · next hn => rw [screenRec_clearHead, unchanged, hn, Bool.true_and]
  · next hn => rw [unchanged, Bool.not_eq_true _ |>.mp hn, Bool.false_and]; rfl

theorem defineHead_of_wider {h : Head} {e : HeadEntry} {s : State} (wider : (s.headEntry h).any (·.narrows e) = false) :
    defineHead h e s = s.setHeadEntry h (some e) := by
  simp [defineHead, wider]

theorem defineHead_layout_heads (h : Head) (e : HeadEntry) (s : State) :
    (defineHead h e s).layout = { s.layout with heads := (defineHead h e s).layout.heads } := by
  rw [defineHead_layout]
  rfl

theorem onlyChanges_defineHead (h : Head) (e : HeadEntry) (s : State) :
    OnlyChanges [.status, .layout, .screens, .pointer, .lines, .ports, .power] s (defineHead h e s) := by
  intro p hp
  cases p <;> simp [Part.same] at hp ⊢

theorem onlyChanges_setHeadEntry (h : Head) (x : Option HeadEntry) (s : State) :
    OnlyChanges [.layout] s (s.setHeadEntry h x) := by
  intro p hp
  cases p
  case layout => exact absurd (List.mem_singleton.2 rfl) hp
  all_goals rfl

theorem onlyChanges_undefineHead (h : Head) (s : State) :
    OnlyChanges [.status, .layout, .sync, .screens, .pointer, .lines, .ports, .power] s (undefineHead h s) := by
  intro p hp
  cases p <;> simp [Part.same] at hp ⊢

/-! ### A head is undefined (R10) -/

theorem eachScreen_sync (f : ScreenId → State → State) (h : ∀ i s, (f i s).sync = s.sync) (s : State) :
    (eachScreen f s).sync = s.sync := eachScreen_leaves (fun s => s.sync) f h s

/-- Undefining a defined head, before the notices: its pending sources, its input, its current sources (log entry 14). -/
def undefined (h : Head) (s : State) : State :=
  eachScreen (clearHeadOn h) (unbindHead h (eachScreen (dropWaiting h) (s.setHeadEntry h none)))

theorem undefineHead_eq {h : Head} {s : State} (hd : s.headEntry h ≠ none) :
    undefineHead h s = onScreens (fun s => eachScreen (clearHeadOn h) (unbindHead h (eachScreen (dropWaiting h) s)))
      (s.setHeadEntry h none) := if_neg (by simpa using hd)

theorem screenRec_unbindHead (h : Head) (s : State) (i : ScreenId) (hc : (s.screenRec i).current ≠ some h)
    (hw : (s.screenRec i).waiting ≠ some h) : (unbindHead h s).screenRec i = s.screenRec i := by
  unfold unbindHead
  split
  · next v hv =>
    have binding := binding_of_headInput hv
    rw [screenRec_rebind, binding]
    rw [resentFor_of_ne _ (fun _ => hc), resentFor_of_ne _ (fun no => absurd rfl no), movedFor_of_ne _ _ (fun _ => ⟨hc, hw⟩)]
    rfl
  · rfl

theorem dropped_of_ne {h : Head} {r : ScreenRec} (hw : r.waiting ≠ some h) : dropped h r = r := if_neg hw

theorem screenRec_undefineHead (h : Head) (s : State) (hd : s.headEntry h ≠ none) (i : ScreenId) : ∃ u : State,
    (undefineHead h s).screenRec i = cleared h ((unbindHead h u).screenRec i) ∧ u.screenRec i = dropped h (s.screenRec i) := by
  refine ⟨eachScreen (dropWaiting h) (s.setHeadEntry h none), ?_, screenRec_each_dropWaiting h _ i⟩
  rw [undefineHead_eq hd, screenRec_onScreens, screenRec_each_clearHeadOn]

theorem channel_unbindHead (h : Head) (s : State) (u : InputId) : (unbindHead h s).channel u =
    if s.headInput h = some u ∧ (s.channel u).running = true then { (s.channel u).cleared with running := false }
    else s.channel u := by
  unfold unbindHead
  split
  · next v hv =>
    rw [channel_rebind, channel_bound, hv]
    by_cases huv : v = u
    · subst huv
      simp
    · simp [huv]
  · next hv => simp [hv]

theorem channel_undefineHead (h : Head) (s : State) (hd : s.headEntry h ≠ none) (u : InputId) :
    (undefineHead h s).channel u =
      if s.headInput h = some u ∧ (s.channel u).running = true then { (s.channel u).cleared with running := false }
      else s.channel u := by
  have dropped := context_eachScreen (context_dropWaiting h) (s.setHeadEntry h none)
  have same : (undefineHead h s).sync = (unbindHead h (eachScreen (dropWaiting h) (s.setHeadEntry h none))).sync := by
    rw [undefineHead_eq hd, onScreens_reads (fun s => s.sync) _ (fun i s => by simp) (fun s => by simp)]
    exact eachScreen_sync _ (fun i s => by simp) _
  have channels (u : InputId) : (eachScreen (dropWaiting h) (s.setHeadEntry h none)).channel u = s.channel u := by
    simp only [State.channel, dropped.2.1]
    rfl
  have input : (eachScreen (dropWaiting h) (s.setHeadEntry h none)).headInput h = s.headInput h := headInput_of_layout dropped.1 h
  rw [← channels, ← input, ← channel_unbindHead]
  simp only [State.channel, same]

theorem headInput_eq_some_iff {s : State} (agree : BindingsAgree s) (h : Head) (v : InputId) :
    s.headInput h = some v ↔ s.binding v = some h := ⟨binding_of_headInput, headInput_of_binding agree⟩

theorem cleared_stopped (c : Channel) : { c.cleared with running := false } = Channel.reset := rfl

/-! ### The record (R9) -/

theorem Rect.fitsHead_iff (r : Rect) (e : ComputerEntry) : r.fitsHead e = true ↔ RectOnDesktop r e := by
  simp only [Rect.fitsHead, Rect.fitsDesktop, Bool.and_eq_true, decide_eq_true_eq, RectOnDesktop]
  omega

/-- A record out of range whose other fields name members has a set of screens that is no byte. -/
theorem not_lt_of_outOfRange {c h d p a : Nat} {g : Head} {b q : Bool} (out : 6 ≤ c ∨ 4 ≤ h ∨ 2 ≤ d ∨ 2 ≤ p ∨ 256 ≤ a)
    (hg : head? c h = some g) (hd : yesNo? d = some b) (hp : yesNo? p = some q) : ¬a < 256 := by
  obtain hc | hh | hd' | hp' | ha := out
  · rw [head?_eq_none (.inl hc)] at hg; cases hg
  · rw [head?_eq_none (.inr hh)] at hg; cases hg
  · rw [yesNo?_eq_none hd'] at hd; cases hd
  · rw [yesNo?_eq_none hp'] at hp; cases hp
  · exact Nat.not_lt.2 ha

theorem judgeSetHead_outOfRange {c h d p a x y w hh : Nat} {s : State} (out : 6 ≤ c ∨ 4 ≤ h ∨ 2 ≤ d ∨ 2 ≤ p ∨ 256 ≤ a) :
    judgeSetHead c h d p a x y w hh s = .error .outOfRange := by
  unfold judgeSetHead
  split
  · next hg hd hp => rw [if_neg (not_lt_of_outOfRange out hg hd hp)]
  · next hg hd hp =>
    dsimp only
    rw [if_neg fun both => not_lt_of_outOfRange out hg hd hp both.1]
  · rfl

theorem judgeSetHead_define (h : Head) (p : Bool) (a : ScreenSet) (x y w hh : Nat) (s : State) :
    judgeSetHead h.computer h.no 1 p.toNat a.toNat x y w hh s =
      if Rect.fitsHead ⟨x, y, w, hh⟩ (s.computer h.computer) then .ok (defineHead h ⟨⟨x, y, w, hh⟩, p, a⟩ s, ⟨.ok, []⟩)
      else .error .outOfRange := by
  simp only [judgeSetHead, head?_self, yesNo?_toNat, show yesNo? 1 = some true from rfl, a.isLt, true_and,
    BitVec.ofNat_toNat, BitVec.setWidth_eq]
  rfl

theorem judgeSetHead_undefine (h : Head) (p : Bool) (a : ScreenSet) (x y w hh : Nat) (s : State) :
    judgeSetHead h.computer h.no 0 p.toNat a.toNat x y w hh s = .ok (undefineHead h s, ⟨.ok, []⟩) := by
  simp only [judgeSetHead, head?_self, yesNo?_toNat, show yesNo? 0 = some false from rfl, if_pos a.isLt]
  rfl

theorem narrows_eq_false_iff (old : HeadEntry) (r : Rect) (p : Bool) (a : ScreenSet) :
    old.narrows ⟨r, p, a⟩ = false ↔ (p = true → old.isPrivate = true ∧ subBits old.allowed a = true) := by
  cases p <;> simp [HeadEntry.narrows]

/-- Settles O20: a record whose head is no source of a screen touched is kept, and any other is cleared (R43). -/
theorem setHeadRules : Obligations.SetHeadRules := by
  refine ⟨fun c h d p a x y w hh s ready out => ?_, fun h p a x y w hh s ready outside => ?_,
    fun h p a x y w hh s ready inside => ?_, fun h p a x y w hh s ready hd => ?_,
    fun h p a x y w hh s ready hd agree channels => ?_⟩
  · exact exec_ready_refused rfl rfl ready (j := judgeSetHead c h d p a x y w hh) (judgeSetHead_outOfRange out)
  · exact exec_ready_refused rfl rfl ready (j := judgeSetHead h.computer h.no 1 p.toNat a.toNat x y w hh)
      ((judgeSetHead_define h p a x y w hh s.fresh).trans (if_neg (mt (Rect.fitsHead_iff _ _).1 outside)))
  · have judged := (judgeSetHead_define h p a x y w hh s.fresh).trans (if_pos ((Rect.fitsHead_iff _ _).2 inside))
    refine ⟨_, exec_answered rfl (handled_ready rfl ready judged), answers_sendReply (by simp [State.fresh]), ?_⟩
    refine ⟨(headEntry_defineHead h h _ s.fresh).trans (if_pos rfl),
      fun g hg => (headEntry_defineHead h g _ s.fresh).trans (if_neg (Ne.symm hg)),
      defineHead_layout_heads h _ s.fresh, fun wider => ?_,
      fun e he hp narrower => ?_, onlyChanges_of_mem (onlyChanges_reply _ _ (onlyChanges_defineHead h _ s.fresh)) (by decide)⟩
    · rw [defineHead_of_wider]
      · exact onlyChanges_reply _ _ (onlyChanges_setHeadEntry h _ s.fresh)
      · change (s.headEntry h).any _ = false
        cases he : s.headEntry h with
        | none => rfl
        | some e => exact (narrows_eq_false_iff e _ p a).2 (wider e he)
    · have narrows : (s.fresh.headEntry h).any (·.narrows ⟨⟨x, y, w, hh⟩, p, a⟩) = true := by
        rw [show s.fresh.headEntry h = some e from he, Option.any_some, ← Bool.not_eq_false, narrows_eq_false_iff]
        exact fun wider => narrower (wider hp)
      have recs (i : ScreenId) : ((defineHead h ⟨⟨x, y, w, hh⟩, p, a⟩ s.fresh).sendReply 0x12 ⟨.ok, []⟩).screenRec i =
          if inSet a i = false then cleared h (s.screenRec i) else s.screenRec i := by
        refine (screenRec_defineHead h ⟨⟨x, y, w, hh⟩, p, a⟩ s.fresh i).trans ?_
        rw [narrows, inSet_forbidden, hp]
        cases inSet a i <;> rfl
      refine ⟨fun i hi => ?_, fun i hi => ?_, fun i hi current => ?_⟩
      · rw [recs, if_pos hi]
        exact cleared_ne h _
      · rw [recs]
        obtain inside | ⟨hc, hw⟩ := hi
        · rw [inside]
          rfl
        · rw [cleared_of_ne hc hw, ite_self]
      · rw [recs, if_pos hi, cleared, if_pos current]
        split
        · next on => exact ⟨rfl, fun _ => ⟨rfl, rfl⟩, fun off => absurd on (by rw [off]; decide)⟩
        · next off => exact ⟨rfl, fun on => absurd on off, fun _ => rfl⟩
  · have judged := judgeSetHead_undefine h p a x y w hh s.fresh
    rw [undefineHead_undefined h s.fresh hd] at judged
    exact ⟨_, exec_answered rfl (handled_ready rfl ready judged), answers_sendReply rfl,
      onlyChanges_reply _ _ (onlyChanges_fresh s)⟩
  · have judged := judgeSetHead_undefine h p a x y w hh s.fresh
    refine ⟨_, exec_answered rfl (handled_ready rfl ready judged), answers_sendReply (by simp [State.fresh]), ?_⟩
    have undefines : s.fresh.headEntry h ≠ none := hd
    have input (v : InputId) : s.fresh.headInput h = some v ↔ s.binding v = some h := headInput_eq_some_iff agree h v
    refine ⟨(headEntry_undefineHead h h s.fresh).trans (if_pos rfl),
      fun g hg => (headEntry_undefineHead h g s.fresh).trans (if_neg (Ne.symm hg)), fun v => ⟨?_, fun hv => ?_, fun hv => ?_⟩,
      fun i => ?_, fun i hc hw => ?_, onlyChanges_of_mem (onlyChanges_reply _ _ (onlyChanges_undefineHead h s.fresh)) (by decide)⟩
    · refine (binding_undefineHead h v s.fresh undefines).trans ?_
      simp only [input]
      rfl
    · have running : (s.channel v).running = true := (channels v).2.2 (by rw [hv]; rfl)
      refine (channel_undefineHead h s.fresh undefines v).trans ?_
      rw [if_pos ⟨(input v).2 hv, running⟩, cleared_stopped]
    · refine (channel_undefineHead h s.fresh undefines v).trans ?_
      rw [if_neg fun both => hv ((input v).1 both.1)]
      rfl
    · obtain ⟨u, rec, -⟩ := screenRec_undefineHead h s.fresh undefines i
      change ((undefineHead h s.fresh).screenRec i).current ≠ _ ∧ ((undefineHead h s.fresh).screenRec i).waiting ≠ _
      rw [rec]
      exact cleared_ne h _
    · obtain ⟨u, rec, before⟩ := screenRec_undefineHead h s.fresh undefines i
      have same : u.screenRec i = s.screenRec i := before.trans (dropped_of_ne hw)
      refine rec.trans ?_
      rw [screenRec_unbindHead h u i (by rw [same]; exact hc) (by rw [same]; exact hw), same, cleared_of_ne hc hw]

end Sys2Proof.Machine
end

section
/-!
PROOFS, MAP_INPUT (O21): the channel and the screens of the heads that a rebinding concerns.
-/

set_option Elab.async false
namespace Sys2Proof.Machine
open Sys2Proof Sys2Proof.Safety

/-! ### Events of the Screen Controller -/

/-- The kinds that the Screen Controller raises (R39, R52). -/
def screenKinds : List EventKind := [.screenState, .screenFault, .sceneDone]

section
variable {k : EventKind} (hk : k ∉ screenKinds)
include hk

theorem event_enterScreen (i : ScreenId) (st : ScreenState) (s : State) : (enterScreen i st s).event k = s.event k := by
  have hs : (Event.screenState i).kind ≠ k := fun e => hk (by rw [← e]; simp [screenKinds, Event.kind])
  have hf : (Event.screenFault i).kind ≠ k := fun e => hk (by rw [← e]; simp [screenKinds, Event.kind])
  have entered (t : State) : (raise (.screenState i) (reportFault t)).event k = t.event k :=
    (event_raise_of_ne _ _ k hs).trans rfl
  simp only [enterScreen]
  split
  · rfl
  · split
    · rw [event_raise_of_ne _ _ k hf, entered]
      rfl
    · rw [entered]
      rfl

theorem event_followSource (i : ScreenId) (s : State) : (followSource i s).event k = s.event k := by
  rw [followSource_eq]
  repeat' split
  all_goals exact event_enterScreen hk _ _ _

theorem event_takeSource (i : ScreenId) (x : Option Head) (s : State) : (takeSource i x s).event k = s.event k := by
  have hs : (Event.screenState i).kind ≠ k := fun e => hk (by rw [← e]; simp [screenKinds, Event.kind])
  simp only [takeSource]
  split
  · rw [event_raise_of_ne _ _ k hs, event_followSource hk]
    rfl
  · rw [event_followSource hk]
    rfl

theorem event_settleAll (s : State) : (settleAll s).event k = s.event k := by
  have hd (n : SceneNo) (a b : Bool) : (Event.sceneDone n a b).kind ≠ k := fun e => hk (by rw [← e]; simp [screenKinds, Event.kind])
  simp only [settleAll]
  repeat' split
  · rfl
  · exact event_raise_of_ne _ _ k (hd _ _ _)
  · rfl

theorem event_resendFor (h : Head) (i : ScreenId) (s : State) : (resendFor h i s).event k = s.event k := by
  simp only [resendFor]
  repeat' split
  · exact event_enterScreen hk _ _ _
  · rfl
  · rfl

theorem event_headLeaves (h : Head) (i : ScreenId) (s : State) : (headLeaves h i s).event k = s.event k := by
  simp only [headLeaves]
  repeat' split
  · exact event_takeSource hk i _ s
  · exact event_enterScreen hk _ _ _
  · rfl

theorem event_headRises (h : Head) (i : ScreenId) (s : State) : (headRises h i s).event k = s.event k := by
  simp only [headRises, linkUp]
  repeat' split
  · exact (event_enterScreen hk _ _ _).trans (event_enterScreen hk _ _ _)
  · exact event_enterScreen hk _ _ _
  · rfl

theorem event_resendHead (x : Option Head) (s : State) : (resendHead x s).event k = s.event k := by
  unfold resendHead
  split
  · exact eachScreen_leaves (fun s => s.event k) _ (event_resendFor hk _) s
  · rfl

theorem event_movedHead (b : Bool) (x : Option Head) (s : State) : (movedHead b x s).event k = s.event k := by
  simp only [movedHead, headMoved]
  repeat' split
  · exact eachScreen_leaves (fun s => s.event k) _ (event_headLeaves hk _) s
  · exact eachScreen_leaves (fun s => s.event k) _ (event_headRises hk _) s
  · rfl
  · rfl

end

/-- A rebinding raises no SYNC_CHANGE but its channel's own (R27). -/
theorem event_applyInput {k : EventKind} (hk : k ∉ screenKinds) (hn : k ∉ noticeKinds) {v : InputId} {new : Option Head}
    {s : State} (h : s.binding v ≠ new) : (applyInput v new s).event k = (bound v new s).event k := by
  rw [applyInput, if_neg h, onScreens_reads (fun s => s.event k) _ (fun i s => event_sourceChanged i s k hn) (event_settleAll hk)]
  change (movedHead _ new (movedHead _ (s.binding v) (resendHead new (resendHead (s.binding v) (bound v new s))))).event k = _
  rw [event_movedHead hk, event_movedHead hk, event_resendHead hk, event_resendHead hk]

/-! ### The channel (R27, R29) -/

theorem bindChannel_kept {v : InputId} {on : Bool} {s : State} (h : (s.channel v).running = on) : bindChannel v on s = s := by
  simp [bindChannel, h]

theorem event_bindChannel_of_lost {v : InputId} {s : State} (on : Bool) (h : (s.channel v).state = .lost) (k : EventKind) :
    (bindChannel v on s).event k = s.event k := by
  simp only [bindChannel, h]
  split
  · rfl
  · simp [reportSync, Channel.cleared, State.event]

theorem raised_bindChannel {v : InputId} {on : Bool} {s : State} (running : (s.channel v).running ≠ on)
    (h : (s.channel v).state ≠ .lost) : Raised (.syncChange v) (bindChannel v on s) := by
  have changed : ChannelState.lost ≠ (s.channel v).state := Ne.symm h
  simp [bindChannel, running, reportSync, Channel.cleared, changed, Raised, Event.kind]

/-! ### Heads under a rebinding -/

theorem headState_of_unbound {s : State} {h : Head} (unbound : ∀ w, s.binding w ≠ some h) : s.headState h = .lost := by
  simp [State.headState, (headInput_eq_none_iff s h).2 unbound]

theorem headAlive_of_unbound {s : State} {h : Head} (unbound : ∀ w, s.binding w ≠ some h) : s.headAlive h = false := by
  simp [State.headAlive, headState_of_unbound unbound]

/-- The head that loses its input is bound to none. -/
theorem bound_unbound {s : State} (agree : BindingsAgree s) {v : InputId} {a : Head} {new : Option Head}
    (ha : s.binding v = some a) (hn : new ≠ some a) (w : InputId) : (bound v new s).binding w ≠ some a := by
  rw [binding_bound]
  split
  · exact hn
  · next h => exact fun hw => h (agree.2 v w a ha hw)

theorem headInput_bound {s : State} {v : InputId} {h : Head} (unbound : ∀ w, s.binding w ≠ some h) :
    (bound v (some h) s).headInput h = some v := by
  cases hi : (bound v (some h) s).headInput h with
  | none => exact absurd (by simp) ((headInput_eq_none_iff _ h).1 hi v)
  | some w =>
    have hw := binding_of_headInput hi
    rw [binding_bound] at hw
    split at hw
    · next e => rw [e]
    · exact absurd hw (unbound w)

theorem selectionFor_bound {s : State} {h : Head} {v : InputId} (hi : s.headInput h = some v) :
    s.selectionFor (some h) = .input v := by
  simp [State.selectionFor, hi]

theorem selectionFor_unbound {s : State} {h : Head} (unbound : ∀ w, s.binding w ≠ some h) : s.selectionFor (some h) = .blank := by
  simp [State.selectionFor, (headInput_eq_none_iff s h).2 unbound]

/-! ### Screens that stand on a head (R31) -/

section
variable {s : State} {i : ScreenId} {h : Head} (agree : ScreenAgrees s i)
include agree

theorem not_blank_of_current (current : (s.screenRec i).current = some h) : (s.screenRec i).state ≠ .blank := by
  obtain ⟨-, blank, -⟩ := agree
  intro hb
  rw [blank (.inr hb)] at current
  cases current

theorem dark_of_not_alive (current : (s.screenRec i).current = some h) (on : (s.screenRec i).state.isOn = true)
    (lost : s.headState h ≠ .alive) : (s.screenRec i).state = .dark := by
  have notBlank := not_blank_of_current agree current
  obtain ⟨-, -, live, -⟩ := agree
  by_contra notDark
  have alive : (s.screenRec i).state.live = true := by
    cases hs : (s.screenRec i).state <;> simp_all [ScreenState.isOn, ScreenState.live]
  obtain ⟨g, hg, up⟩ := live alive
  rw [current] at hg
  cases hg
  exact lost up

theorem live_of_alive (current : (s.screenRec i).current = some h) (on : (s.screenRec i).state.isOn = true)
    (up : s.headState h = .alive) : (s.screenRec i).state.live = true := by
  have notBlank := not_blank_of_current agree current
  obtain ⟨-, -, -, dark, -⟩ := agree
  by_contra notLive
  have isDark : (s.screenRec i).state = .dark := by
    cases hs : (s.screenRec i).state <;> simp_all [ScreenState.isOn, ScreenState.live]
  obtain ⟨g, hg, down⟩ := dark isDark
  rw [current] at hg
  cases hg
  exact down up

theorem linkTimer_of_dark (dark : (s.screenRec i).state = .dark) : (s.screenRec i).linkTimer = none := by
  obtain ⟨-, -, -, -, -, timer, -⟩ := agree
  by_contra running
  rw [timer (Option.isSome_iff_ne_none.2 running)] at dark
  cases dark

theorem alive_of_waiting (waiting : (s.screenRec i).waiting = some h) : s.headState h = .alive := by
  obtain ⟨-, -, -, -, wait, -⟩ := agree
  exact (wait h waiting).2

end

/-! ### Records under a rebinding -/

theorem screenRec_applyInput {v : InputId} {new : Option Head} {s : State} (h : s.binding v ≠ new) (i : ScreenId) :
    (applyInput v new s).screenRec i = (rebind v new s).screenRec i := by
  rw [applyInput, if_neg h, screenRec_onScreens]

/-- What follows a head that stays out of ALIVE touches nothing. -/
theorem movedFor_of_down {s : State} {x : Option Head} (down : x.any s.headAlive = false) (r : ScreenRec) :
    movedFor s false x r = r := by
  cases x with
  | none => rfl
  | some h => simp_all [movedFor]

/-- A head that no input was bound to becomes ALIVE with its new input, or stays down. -/
theorem movedFor_new {s : State} {h : Head} (b : State) (unbound : ∀ w, s.binding w ≠ some h) (r : ScreenRec) :
    movedFor b ((some h).any s.headAlive) (some h) r = if b.headAlive h then risen b h r else r := by
  simp [movedFor, headAlive_of_unbound unbound]

/-- A screen that stands on the head which loses its input: BLANK is sent, and it is DARK (R33, R38). -/
theorem screenRec_rebind_shown {s : State} {v : InputId} {a : Head} {new : Option Head} {i : ScreenId} (agree : ScreensAgree s)
    (ha : s.binding v = some a) (hn : new ≠ some a) (current : (s.screenRec i).current = some a)
    (waiting : (s.screenRec i).waiting ≠ some a) (waitingNew : new ≠ none → (s.screenRec i).waiting ≠ new)
    (on : (s.screenRec i).state.isOn = true) : (rebind v new s).screenRec i =
      { (s.screenRec i) with state := .dark, linkTimer := none, lockView := false, selected := some .blank } := by
  obtain ⟨bindings, -, screens⟩ := agree
  have unbound := bound_unbound bindings ha hn
  have blank : (bound v new s).selectionFor (some a) = .blank := selectionFor_unbound unbound
  have down : (bound v new s).headAlive a = false := headAlive_of_unbound unbound
  rw [screenRec_rebind, ha]
  generalize hb : bound v new s = b at blank down
  have sent : resentFor b (some a) (s.screenRec i) =
      { (s.screenRec i) with
        selected := some .blank, lockView := false,
        state := if (s.screenRec i).state = .showing then .linking else (s.screenRec i).state,
        linkTimer := if (s.screenRec i).state = .showing then some b.linkTimer else (s.screenRec i).linkTimer } := by
    simp [resentFor, resent, current, on, blank]
  have moved : movedFor b ((some a).any s.headAlive) (some a) (resentFor b (some a) (s.screenRec i)) =
      { (s.screenRec i) with state := .dark, linkTimer := none, lockView := false, selected := some .blank } := by
    rw [sent]
    by_cases up : s.headState a = .alive
    · have live := live_of_alive (screens i) current on up
      cases hs : (s.screenRec i).state <;>
        simp_all [movedFor, State.headAlive, fallen, ScreenState.live]
    · have dark := dark_of_not_alive (screens i) current on up
      have timer := linkTimer_of_dark (screens i) dark
      simp_all [movedFor, State.headAlive]
  rw [resentFor_of_ne b (x := new), moved, movedFor_of_ne]
  · exact fun some => ⟨by rw [show _ = _ from current]; exact Ne.symm hn, waitingNew some⟩
  · rw [sent]
    exact fun _ => by rw [show _ = _ from current]; exact Ne.symm hn

/-- A screen that waits for the head which loses its input takes it at once, and is DARK (R42). -/
theorem screenRec_rebind_waiting {s : State} {v : InputId} {a : Head} {new : Option Head} {i : ScreenId} (agree : ScreensAgree s)
    (ha : s.binding v = some a) (hn : new ≠ some a) (waiting : (s.screenRec i).waiting = some a) :
    (rebind v new s).screenRec i =
      { (s.screenRec i) with
        state := .dark, current := some a, waiting := none, linkTimer := none, powerTimer := none, lockView := false,
        selected := some .blank } := by
  obtain ⟨bindings, -, screens⟩ := agree
  have unbound := bound_unbound bindings ha hn
  have blank : (bound v new s).selectionFor (some a) = .blank := selectionFor_unbound unbound
  have down : (bound v new s).headAlive a = false := headAlive_of_unbound unbound
  have up : s.headAlive a = true := by simp [State.headAlive, alive_of_waiting (screens i) waiting]
  rw [screenRec_rebind, ha]
  generalize hb : bound v new s = b at blank down
  have kept (x : Option Head) (r : ScreenRec) : (resentFor b x r).waiting = r.waiting ∧ (resentFor b x r).lockPin = r.lockPin := by
    cases x with
    | none => exact ⟨rfl, rfl⟩
    | some h => simp only [resentFor, resent]; split <;> exact ⟨rfl, rfl⟩
  obtain ⟨waits, pin⟩ := kept new (resentFor b (some a) (s.screenRec i))
  obtain ⟨waits', pin'⟩ := kept (some a) (s.screenRec i)
  have moved : movedFor b ((some a).any s.headAlive) (some a) (resentFor b new (resentFor b (some a) (s.screenRec i))) =
      { (s.screenRec i) with
        state := .dark, current := some a, waiting := none, linkTimer := none, powerTimer := none, lockView := false,
        selected := some .blank } := by
    simp [movedFor, up, down, fallen, waits, waits', waiting, followed, blank, pin, pin']
  rw [moved, movedFor_of_ne]
  exact fun some => ⟨Ne.symm hn, Ne.symm some⟩

/-- A screen that stands on a head which gains its first input: the input is selected, and it links if the head is ALIVE (R33, R38). -/
theorem screenRec_rebind_gained {s : State} {v : InputId} {h : Head} {i : ScreenId} (agree : ScreensAgree s)
    (unbound : ∀ w, s.binding w ≠ some h) (current : (s.screenRec i).current = some h)
    (on : (s.screenRec i).state.isOn = true)
    (waiting : s.binding v = none ∨ (s.screenRec i).waiting ≠ s.binding v) : (rebind v (some h) s).screenRec i =
      { (s.screenRec i) with
        selected := some (.input v), lockView := false,
        state := if (bound v (some h) s).headAlive h then .linking else .dark,
        linkTimer := if (bound v (some h) s).headAlive h then some (bound v (some h) s).linkTimer else none } := by
  have dark := dark_of_not_alive (agree.2.2 i) current on (by simp [headState_of_unbound unbound])
  have timer := linkTimer_of_dark (agree.2.2 i) dark
  have input := selectionFor_bound (headInput_bound (v := v) unbound)
  have other : (s.screenRec i).current ≠ s.binding v := by rw [current]; exact Ne.symm (unbound v)
  rw [screenRec_rebind, movedFor_new _ unbound]
  generalize bound v (some h) s = b at input
  have sent : resentFor b (some h) (resentFor b (s.binding v) (s.screenRec i)) =
      { (s.screenRec i) with selected := some (.input v), lockView := false } := by
    rw [resentFor_of_ne b fun _ => other]
    have isOn : ScreenState.dark.isOn = true := rfl
    simp [resentFor, resent, current, input, dark, isOn]
  rw [sent, movedFor_of_ne]
  · by_cases up : b.headAlive h <;> simp [risen, up, current, dark, timer]
  · exact fun old => ⟨other, waiting.resolve_left old⟩

/-- A screen with no source among the heads of a rebinding is left as it was. -/
theorem screenRec_rebind_other {s : State} {v : InputId} {new : Option Head} {i : ScreenId}
    (old : s.binding v ≠ none → (s.screenRec i).current ≠ s.binding v ∧ (s.screenRec i).waiting ≠ s.binding v)
    (other : new ≠ none → (s.screenRec i).current ≠ new ∧ (s.screenRec i).waiting ≠ new) :
    (rebind v new s).screenRec i = s.screenRec i := by
  rw [screenRec_rebind, resentFor_of_ne _ fun h => (old h).1, resentFor_of_ne _ fun h => (other h).1, movedFor_of_ne _ _ old,
    movedFor_of_ne _ _ other]

/-! ### The record (R11) -/

theorem judgeMapInput_outOfRange {v c h : Nat} {s : State} (out : 16 ≤ v ∨ ¬SourceInRange c h) :
    judgeMapInput v c h s = .error .outOfRange := by
  unfold judgeMapInput
  obtain hv | hs := out
  · rw [(fin?_eq_none_iff 16 v).2 hv]
  · rw [source?_eq_none hs]
    split <;> simp_all

theorem judgeMapInput_unbind (v : InputId) (s : State) : judgeMapInput v 255 255 s = .ok (applyInput v none s, ⟨.ok, []⟩) := by
  simp only [judgeMapInput, fin?_val, source?_none]
  rfl

theorem judgeMapInput_head (v : InputId) (h : Head) (s : State) : judgeMapInput v h.computer h.no s =
    if (s.headInput h).any (· != v) then .error .conflict
    else if (s.headEntry h).isNone then .error .notPresent else .ok (applyInput v (some h) s, ⟨.ok, []⟩) := by
  simp only [judgeMapInput, fin?_val, source?_self]
  rfl

/-- A head bound to no other input, if it is defined, is bound (R11). -/
theorem judgeMapInput_bind {v : InputId} {h : Head} {s : State} (free : ∀ w, s.headInput h = some w → w = v)
    (defined : s.headEntry h ≠ none) : judgeMapInput v h.computer h.no s = .ok (applyInput v (some h) s, ⟨.ok, []⟩) := by
  have noConflict : (s.headInput h).any (· != v) = false := by
    cases hi : s.headInput h with
    | none => rfl
    | some w => simp [free w hi]
  rw [judgeMapInput_head, noConflict, if_neg (by decide), if_neg (by simpa using defined)]

theorem onlyChanges_applyInput (v : InputId) (new : Option Head) (s : State) :
    OnlyChanges [.status, .layout, .sync, .screens, .pointer, .lines, .ports, .power] s (applyInput v new s) := by
  intro p hp
  cases p <;> simp [Part.same] at hp ⊢

theorem channel_applyInput {v : InputId} {new : Option Head} {s : State} (h : s.binding v ≠ new) (u : InputId) :
    (applyInput v new s).channel u = (bound v new s).channel u := by
  have sync : (applyInput v new s).sync = (rebind v new s).sync := by
    rw [applyInput, if_neg h, onScreens_reads (fun s => s.sync) _ (fun i s => by simp) (fun s => by simp)]
  rw [← channel_rebind]
  simp only [State.channel, sync]

theorem sync_applyInput {v : InputId} {new : Option Head} {s : State} (h : s.binding v ≠ new) :
    (applyInput v new s).sync = (bound v new s).sync := by
  rw [applyInput, if_neg h, onScreens_reads (fun s => s.sync) _ (fun i s => by simp) (fun s => by simp), rebind_sync]

/-! ### The channel of an applied binding (R18, R29) -/

theorem lost_of_stopped {c : Channel} (agree : ChannelAgrees c) (stopped : c.running = false) : c.state = .lost := by
  obtain ⟨-, -, h⟩ := agree
  cases hs : c.state with
  | lost => rfl
  | acquiring => simp [hs, stopped] at h
  | alive => simp [hs, stopped] at h

theorem running_of_bound {s : State} (agree : ChannelsAgree s) {v : InputId} {h : Head} (hb : s.binding v = some h) :
    (s.channel v).running = true := (agree v).2.2 (by rw [hb]; rfl)

theorem stopped_of_unbound {s : State} (agree : ChannelsAgree s) {v : InputId} (hb : s.binding v = none) :
    (s.channel v).running = false := by
  rw [← Bool.not_eq_true, (agree v).2, hb]
  decide

theorem syncChange_not_screenKind : EventKind.syncChange ∉ screenKinds := by decide
theorem syncChange_not_noticeKind : EventKind.syncChange ∉ noticeKinds := by decide

theorem syncChange_applyInput {v : InputId} {new : Option Head} {s : State} (h : s.binding v ≠ new) :
    (applyInput v new s).event .syncChange = (bound v new s).event .syncChange :=
  event_applyInput syncChange_not_screenKind syncChange_not_noticeKind h

/-- An input's first binding starts its channel, which is LOST before and after (R29). -/
theorem applyInput_first {v : InputId} {h : Head} {s : State} (agree : ChannelsAgree s) (hb : s.binding v = none) :
    (applyInput v (some h) s).channel v = { Channel.reset with running := true } ∧
    (applyInput v (some h) s).event .syncChange = s.event .syncChange := by
  have new : s.binding v ≠ some h := by rw [hb]; simp
  have stopped := stopped_of_unbound agree hb
  constructor
  · rw [channel_applyInput new, channel_bound, if_pos ⟨rfl, by rw [stopped]; simp⟩]
    rfl
  · rw [syncChange_applyInput new]
    exact event_bindChannel_of_lost (s := s.setBinding v (some h)) true (lost_of_stopped (agree v).1 stopped) _

/-- A rebinding keeps the channel as it runs (R29). -/
theorem applyInput_rebound {v : InputId} {a h : Head} {s : State} (agree : ChannelsAgree s) (hb : s.binding v = some a)
    (new : s.binding v ≠ some h) : (applyInput v (some h) s).sync = s.sync ∧
      (applyInput v (some h) s).event .syncChange = s.event .syncChange := by
  have kept : bound v (some h) s = s.setBinding v (some h) :=
    bindChannel_kept (s := s.setBinding v (some h)) (running_of_bound agree hb)
  exact ⟨by rw [sync_applyInput new, kept]; rfl, by rw [syncChange_applyInput new, kept]; rfl⟩

theorem applyInput_unbound {v : InputId} {h : Head} {s : State} (agree : ChannelsAgree s) (hb : s.binding v = some h) :
    (applyInput v none s).channel v = Channel.reset ∧
    ((s.channel v).state ≠ .lost → Raised (.syncChange v) (applyInput v none s)) ∧
    ((s.channel v).state = .lost → (applyInput v none s).event .syncChange = s.event .syncChange) := by
  have new : s.binding v ≠ none := by rw [hb]; simp
  have running := running_of_bound agree hb
  refine ⟨?_, fun moved => ?_, fun lost => ?_⟩
  · rw [channel_applyInput new, channel_bound, if_pos ⟨rfl, by rw [running]; simp⟩]
    rfl
  · have raised : Raised (.syncChange v) (bound v none s) :=
      raised_bindChannel (s := s.setBinding v none) (fun stopped => by cases running.symm.trans stopped) moved
    unfold Raised at raised ⊢
    rwa [show (Event.syncChange v).kind = .syncChange from rfl, ← syncChange_applyInput new] at raised
  · rw [syncChange_applyInput new]
    exact event_bindChannel_of_lost (s := s.setBinding v none) false lost _

theorem channel_applyInput_other {v u : InputId} {new : Option Head} {s : State} (h : s.binding v ≠ new) (hu : u ≠ v) :
    (applyInput v new s).channel u = s.channel u := by
  rw [channel_applyInput h, channel_bound, if_neg fun both => hu both.1.symm]

theorem headAlive_bound_iff {s : State} {v : InputId} {h : Head} (unbound : ∀ w, s.binding w ≠ some h) :
    (bound v (some h) s).headAlive h = true ↔ ((bound v (some h) s).channel v).state = .alive := by
  simp [State.headAlive, State.headState, headInput_bound unbound]

/-- Settles O21: the head that loses its input goes dark on its screens, the head that gains one links as its channel allows. -/
theorem mapInputRules : Obligations.MapInputRules := by
  refine ⟨fun v c h s ready out => ?_, fun v w h s ready agree hw hb => ?_, fun v h s ready unbound hd => ?_,
    fun v h s ready agree hb => ?_, fun v h s ready agree unbound hd => ?_, fun v s ready hb => ?_,
    fun v h s ready agree hb => ?_, fun v a h s ready agree unbound hd hb => ?_⟩
  · exact exec_ready_refused rfl rfl ready (j := judgeMapInput v c h) (judgeMapInput_outOfRange out)
  · refine exec_ready_refused rfl rfl ready (j := judgeMapInput v h.computer h.no) ?_
    have input : s.fresh.headInput h = some w := headInput_of_binding agree hb
    rw [judgeMapInput_head, input, if_pos (by simpa using hw)]
  · refine exec_ready_refused rfl rfl ready (j := judgeMapInput v h.computer h.no) ?_
    have input : s.fresh.headInput h = none := (headInput_eq_none_iff s h).2 unbound
    have entry : s.fresh.headEntry h = none := hd
    rw [judgeMapInput_head, input, entry]
    rfl
  · have input : s.fresh.headInput h = some v := headInput_of_binding agree hb
    have defined : s.fresh.headEntry h ≠ none := Option.isSome_iff_ne_none.1 (agree.1 v h hb)
    have judged := judgeMapInput_bind (s := s.fresh) (v := v) (fun w hw => by rw [input] at hw; exact (Option.some.inj hw).symm)
      defined
    rw [applyInput, if_pos (show s.fresh.binding v = some h from hb)] at judged
    exact ⟨_, exec_answered rfl (handled_ready rfl ready judged), answers_sendReply rfl,
      onlyChanges_reply _ _ (onlyChanges_fresh s)⟩
  · have input : s.fresh.headInput h = none := (headInput_eq_none_iff s h).2 unbound
    have judged := judgeMapInput_bind (s := s.fresh) (v := v) (fun w hw => by rw [input] at hw; cases hw) hd
    have new : s.fresh.binding v ≠ some h := unbound v
    refine ⟨_, exec_answered rfl (handled_ready rfl ready judged), answers_sendReply (by simp [State.fresh]), ?_⟩
    refine ⟨applyInput_layout v (some h) s.fresh, fun hb => applyInput_first (s := s.fresh) agree.2.1 hb, fun hb => ?_,
      fun u hu => channel_applyInput_other new hu, fun i current on waiting => ?_,
      onlyChanges_of_mem (onlyChanges_reply _ _ (onlyChanges_applyInput v _ s.fresh)) (by decide)⟩
    · obtain ⟨a, ha⟩ := Option.ne_none_iff_exists'.1 hb
      exact applyInput_rebound (s := s.fresh) agree.2.1 ha new
    · have after := (screenRec_applyInput new i).trans
        (screenRec_rebind_gained (s := s.fresh) (v := v) agree unbound current on waiting)
      have channel := channel_applyInput new v
      change ((applyInput v (some h) s.fresh).screenRec i).selected = _ ∧ ((applyInput v (some h) s.fresh).screenRec i).lockView = _ ∧
        ((applyInput v (some h) s.fresh).screenRec i).state =
          if ((applyInput v (some h) s.fresh).channel v).state = .alive then .linking else .dark
      rw [after, channel]
      exact ⟨rfl, rfl, if_congr (headAlive_bound_iff (s := s.fresh) unbound) rfl rfl⟩
  · have judged := judgeMapInput_unbind v s.fresh
    rw [applyInput, if_pos (show s.fresh.binding v = none from hb)] at judged
    exact ⟨_, exec_answered rfl (handled_ready rfl ready judged), answers_sendReply rfl,
      onlyChanges_reply _ _ (onlyChanges_fresh s)⟩
  · have judged := judgeMapInput_unbind v s.fresh
    have new : s.fresh.binding v ≠ none := by rw [show s.fresh.binding v = some h from hb]; simp
    refine ⟨_, exec_answered rfl (handled_ready rfl ready judged), answers_sendReply (by simp [State.fresh]), ?_⟩
    obtain ⟨channel, raised, quiet⟩ := applyInput_unbound (s := s.fresh) agree.2.1 hb
    refine ⟨applyInput_layout v none s.fresh, channel, fun u hu => channel_applyInput_other new hu, raised, quiet,
      fun i current waiting on => ?_, fun i waiting => ?_,
      onlyChanges_of_mem (onlyChanges_reply _ _ (onlyChanges_applyInput v _ s.fresh)) (by decide)⟩
    · have after := (screenRec_applyInput new i).trans (screenRec_rebind_shown (s := s.fresh) agree hb (by simp) current waiting
        (fun no => absurd rfl no) on)
      change ((applyInput v none s.fresh).screenRec i).state = _ ∧ ((applyInput v none s.fresh).screenRec i).current = _ ∧
        ((applyInput v none s.fresh).screenRec i).linkTimer = _ ∧ ((applyInput v none s.fresh).screenRec i).selected = _
      rw [after]
      exact ⟨rfl, current, rfl, rfl⟩
    · have after := (screenRec_applyInput new i).trans (screenRec_rebind_waiting (s := s.fresh) agree hb (by simp) waiting)
      change ((applyInput v none s.fresh).screenRec i).current = _ ∧ ((applyInput v none s.fresh).screenRec i).waiting = _ ∧
        ((applyInput v none s.fresh).screenRec i).state = _
      rw [after]
      exact ⟨rfl, rfl, rfl⟩
  · have input : s.fresh.headInput h = none := (headInput_eq_none_iff s h).2 unbound
    have judged := judgeMapInput_bind (s := s.fresh) (v := v) (fun w hw => by rw [input] at hw; cases hw) hd
    have new : s.fresh.binding v ≠ some h := unbound v
    refine ⟨_, exec_answered rfl (handled_ready rfl ready judged), answers_sendReply (by simp [State.fresh]), ?_⟩
    have other : some h ≠ some a := by
      rintro e
      cases e
      exact unbound v hb
    have notWaiting (i : ScreenId) : (s.screenRec i).waiting ≠ some h := fun hw => by
      have alive := alive_of_waiting (agree.2.2 i) hw
      rw [headState_of_unbound unbound] at alive
      cases alive
    have old : s.fresh.binding v = some a := hb
    refine ⟨(applyInput_rebound (s := s.fresh) agree.2.1 hb new).1, fun i current waiting on => ?_, fun i waiting => ?_,
      fun i noCurrent noWaiting notNew => ?_⟩
    · exact (screenRec_applyInput new i).trans (screenRec_rebind_shown (s := s.fresh) agree hb other current waiting
        (fun _ => notWaiting i) on)
    · exact (screenRec_applyInput new i).trans (screenRec_rebind_waiting (s := s.fresh) agree hb other waiting)
    · refine (screenRec_applyInput new i).trans (screenRec_rebind_other (s := s.fresh) (fun _ => ?_) fun _ => ⟨notNew, notWaiting i⟩)
      rw [old]
      exact ⟨noCurrent, noWaiting⟩

end Sys2Proof.Machine
end

section
/-!
PROOFS, SET_SCREEN (O18): the screen's record when it is configured and unconfigured, and where the notice leaves the pointer.
-/

set_option Elab.async false
namespace Sys2Proof.Machine
open Sys2Proof Sys2Proof.Safety

/-! ### The pointer after a screen-changed notice (R69, R82) -/

@[simp] theorem dropPushOn_pointer (i : ScreenId) (s : State) :
    (dropPushOn i s).pointer.place = s.pointer.place ∧ (dropPushOn i s).pointer.focus = s.pointer.focus := by
  unfold dropPushOn
  repeat' split
  all_goals simp

theorem push_dropPushOn (i : ScreenId) (s : State) (q : Push) (hq : s.pointer.push = some q) (hi : q.screen = i) :
    (dropPushOn i s).pointer.push = none := by
  simp [dropPushOn, hq, hi]

theorem lowestEligible_eq_some_iff (s : State) (i : ScreenId) :
    s.lowestEligible = some i ↔ (s.eligible i).isSome = true ∧ ∀ j : ScreenId, j < i → s.eligible j = none := by
  simp [State.lowestEligible, find?_allScreens_eq_some_iff]

theorem lowestEligible_eq_none_iff (s : State) : s.lowestEligible = none ↔ ∀ j : ScreenId, s.eligible j = none := by
  simp [State.lowestEligible, mem_allScreens]

/-- The lowest-numbered eligible screen takes the pointer, or none does and it parks (R82). -/
theorem reHomed_reHome (s : State) : ReHomed (reHome s) := by
  unfold reHome
  cases hl : s.lowestEligible with
  | none =>
    refine .inl ⟨(parkPointer_parked s).1, fun j => ?_⟩
    exact (eligible_of_tables (by simp) (by simp) j).trans ((lowestEligible_eq_none_iff s).1 hl j)
  | some i =>
    obtain ⟨found, lowest⟩ := (lowestEligible_eq_some_iff s i).1 hl
    obtain ⟨⟨r, h⟩, he⟩ := Option.isSome_iff_exists.1 found
    have center : s.centerOf i = some ⟨i, r.x + r.w / 2, r.y + r.h / 2⟩ := by
      simp [State.centerOf, ((eligible_eq_some_iff s i r h).1 he).1, Rect.center]
    obtain ⟨place, -, focus⟩ := movePointer_moved ⟨i, r.x + r.w / 2, r.y + r.h / 2⟩ s
    have eligible (j : ScreenId) : (movePointer ⟨i, r.x + r.w / 2, r.y + r.h / 2⟩ s).eligible j = s.eligible j :=
      eligible_of_tables (by simp) (by simp) j
    rw [Option.bind_some, center]
    exact .inr ⟨i, r, h, (eligible i).trans he, fun j hj => (eligible j).trans (lowest j hj), place,
      focus.trans (sourceComputer_of_eligible he)⟩

theorem push_reHome (s : State) : (reHome s).pointer.push = none := by
  unfold reHome
  split
  · exact (movePointer_moved _ s).2.1
  · exact (parkPointer_parked s).2.1

theorem push_unpark (s : State) (h : s.pointer.push = none) : (unpark s).pointer.push = none := by
  unfold unpark
  split
  · exact push_reHome s
  · exact h

/-- A parked pointer re-homes, or no screen is eligible (R82). -/
theorem reHomed_unpark (s : State) (parked : s.pointer.place = none) : ReHomed (unpark s) := by
  unfold unpark
  split
  · exact reHomed_reHome s
  · next h => exact .inl ⟨parked, (lowestEligible_eq_none_iff s).1 (by simpa using h)⟩

theorem pointerFollows_screenChanged (i : ScreenId) (s : State) : PointerFollowsScreen i s (screenChanged i s) := by
  have place := (dropPushOn_pointer i s).1
  refine ⟨fun touched => ?_, fun ⟨p, hp, hi⟩ => ?_, fun ⟨q, hq, hi⟩ => ?_⟩
  · simp only [screenChanged, place]
    obtain parked | ⟨p, hp, hi⟩ := touched
    · rw [parked]
      exact reHomed_unpark _ (place.trans parked)
    · simp only [hp, if_pos hi]
      exact reHomed_reHome _
  · have kept : screenChanged i s = dropPushOn i s := by simp only [screenChanged, place, hp, if_neg hi]
    rw [kept]
    exact dropPushOn_pointer i s
  · have dropped := push_dropPushOn i s q hq hi
    simp only [screenChanged]
    repeat' split
    · exact push_unpark _ dropped
    · exact push_reHome _
    · exact dropped

/-- The pointer is followed from any state whose pointer is this one's. -/
theorem pointerFollows_of_pointer {i : ScreenId} {s t u : State} (h : PointerFollowsScreen i s t)
    (pointer : u.pointer = s.pointer) : PointerFollowsScreen i u t := by
  unfold PointerFollowsScreen
  rw [pointer]
  exact h

/-! ### Records of a screen configured and unconfigured (R35) -/

theorem screenRec_rest (i j : ScreenId) (sel : Selection) (st : ScreenState) (s : State) : (rest i sel st s).screenRec j =
    if i = j then
      { s.screenRec i with state := st, selected := some sel, lockView := false, linkTimer := none, powerTimer := none }
    else s.screenRec j := by
  by_cases h : i = j <;> simp [rest, h]

theorem screenRec_takeWaiting_other {i j : ScreenId} (h : i ≠ j) (s : State) : (takeWaiting i s).screenRec j = s.screenRec j := by
  simp only [takeWaiting, takeQuiet]
  repeat' split
  all_goals simp [h]

/-- The screen is BLANK before the desk's state is followed (R35). -/
def blanked (i : ScreenId) (s : State) : State := enterScreen i .blank (sendSelection i .blank s)

theorem screenRec_blanked (i j : ScreenId) (s : State) : (blanked i s).screenRec j =
    if i = j then { s.screenRec i with state := .blank, selected := some .blank, lockView := false } else s.screenRec j := by
  by_cases h : i = j <;> simp [blanked, h]

theorem configureScreen_eq (i : ScreenId) (s : State) : configureScreen i s =
    match s.desk.state with
    | .active => blanked i s
    | .standby => rest i .standby .standby (takeWaiting i (blanked i s))
    | .off => rest i .off .off (takeWaiting i (blanked i s)) := by
  have desk : (blanked i s).desk = s.desk := by simp [blanked]
  have on : ((blanked i s).screenRec i).state.isOn = true := by simp [screenRec_blanked, ScreenState.isOn]
  change (match (blanked i s).desk.state with
    | .active => blanked i s | .standby => screenStandby i (blanked i s) | .off => screenOff i (blanked i s)) = _
  rw [desk, screenStandby, if_pos on, screenOff, if_pos on]

theorem screenRec_configureScreen_other {i j : ScreenId} (h : i ≠ j) (s : State) :
    (configureScreen i s).screenRec j = s.screenRec j := by
  rw [configureScreen_eq]
  split <;> simp [screenRec_rest, screenRec_takeWaiting_other h, screenRec_blanked, h]

/-- A configured screen shows what the desk's state calls for (R35, R46, R47). -/
theorem screenRec_configureScreen (i : ScreenId) (s : State) :
    (s.desk.state = .active → (configureScreen i s).screenRec i =
      { s.screenRec i with state := .blank, selected := some .blank, lockView := false }) ∧
    (s.desk.state = .standby → ((configureScreen i s).screenRec i).state = .standby ∧
      ((configureScreen i s).screenRec i).selected = some .standby) ∧
    (s.desk.state = .off → ((configureScreen i s).screenRec i).state = .off ∧
      ((configureScreen i s).screenRec i).selected = some .off) := by
  refine ⟨fun h => ?_, fun h => ?_, fun h => ?_⟩ <;> rw [configureScreen_eq, h]
  · simp [screenRec_blanked]
  · simp [screenRec_rest]
  · simp [screenRec_rest]

theorem screenRec_unconfigureScreen (i j : ScreenId) (s : State) : (unconfigureScreen i s).screenRec j =
    if i = j then
      { s.screenRec i with
        state := .unused, current := none, waiting := none, linkTimer := none, powerTimer := none, lockView := false,
        selected := some .blank }
    else s.screenRec j := by
  simp only [unconfigureScreen, screenRec_settleAll]
  by_cases h : i = j <;> split <;> simp [h]

/-! ### The scene in flight -/

theorem inFlight_settleAll {s : State} {g : InFlight} (h : (settleAll s).screens.inFlight = some g) :
    ∃ f, s.screens.inFlight = some f ∧ ∀ i, inSet g.outstanding i = true → inSet f.outstanding i = true := by
  simp only [settleAll] at h
  split at h
  · next none => rw [none] at h; cases h
  · next f hf =>
    split at h
    · rw [(raise_leaves _ _).2.2.2.2.2.1] at h
      cases h
    · cases h
      refine ⟨f, hf, fun i hi => ?_⟩
      rw [inSet_screenSetOf, Bool.and_eq_true] at hi
      exact hi.1

/-- An unconfigured screen is not outstanding (R56). -/
theorem outstanding_unconfigureScreen {i : ScreenId} {s : State} {g : InFlight}
    (h : (unconfigureScreen i s).screens.inFlight = some g) : inSet g.outstanding i = false := by
  have removed (o : ScreenSet) : inSet (o &&& ~~~screenBit i) i = false := by
    have bit : inSet (screenBit i) i = true := by simp [inSet_screenBit]
    simp only [inSet] at bit ⊢
    simp [bit]
  obtain ⟨f, hf, sub⟩ := inFlight_settleAll h
  split at hf
  · cases hf
    exact Bool.eq_false_iff.2 fun hi => Bool.eq_false_iff.1 (removed _) (sub i hi)
  · next none => rw [none] at hf; cases hf

/-! ### Rectangles (R2) -/

theorem Rect.fitsPlane_iff (r : Rect) : r.fitsPlane = true ↔ RectInPlane r := by
  simp only [Rect.fitsPlane, Bool.and_eq_true, decide_eq_true_eq, RectInPlane]
  omega

/-- Rectangles of some width and height overlap exactly when they share a desk unit. -/
theorem Rect.overlaps_iff_meet {a b : Rect} (ha : RectInPlane a) (hb : RectInPlane b) :
    a.overlaps b = true ↔ RectsMeet a b := by
  refine ⟨fun h => ⟨max a.x b.x, max a.y b.y, ?_⟩, fun ⟨x, y, hx, hy⟩ => Rect.overlaps_of_contains hx hy⟩
  simp only [RectInPlane] at ha hb
  simp only [Rect.overlaps, Rect.contains, Bool.and_eq_true, decide_eq_true_eq] at h ⊢
  omega

/-! ### The record (R3, R4) -/

theorem judgeSetScreen_outOfRange {n f x y w h : Nat} {s : State} (out : 8 ≤ n ∨ 2 ≤ f ∨ (f = 1 ∧ ¬RectInPlane ⟨x, y, w, h⟩)) :
    judgeSetScreen n f x y w h s = .error .outOfRange := by
  unfold judgeSetScreen
  obtain hn | hf | ⟨rfl, hr⟩ := out
  · rw [(fin?_eq_none_iff 8 n).2 hn]
  · rw [yesNo?_eq_none hf]
    split <;> simp_all
  · have outside : ¬(Rect.fitsPlane ⟨x, y, w, h⟩ = true) := mt (Rect.fitsPlane_iff _).1 hr
    split
    · next hf => cases hf
    · exact if_pos outside
    · rfl

theorem judgeSetScreen_configure {i : ScreenId} {x y w h : Nat} {s : State} (inPlane : RectInPlane ⟨x, y, w, h⟩) :
    judgeSetScreen i 1 x y w h s = if s.overlapsOther i ⟨x, y, w, h⟩ then .error .conflict
      else .ok (applyScreen i (some ⟨x, y, w, h⟩) s, ⟨.ok, []⟩) := by
  have fits := (Rect.fitsPlane_iff _).2 inPlane
  simp only [judgeSetScreen, fin?_val, show yesNo? 1 = some true from rfl, fits, not_true_eq_false, if_false]
  rfl

theorem judgeSetScreen_unconfigure (i : ScreenId) (x y w h : Nat) (s : State) :
    judgeSetScreen i 0 x y w h s = .ok (applyScreen i none s, ⟨.ok, []⟩) := by
  simp only [judgeSetScreen, fin?_val, show yesNo? 0 = some false from rfl]
  rfl

/-- The rectangle meets no other screen's exactly when the check of R3 passes. -/
theorem overlapsOther_iff_meet {s : State} (apart : ScreensApart s) {i : ScreenId} {q : Rect} (inPlane : RectInPlane q) :
    s.overlapsOther i q = true ↔ ∃ j r, j ≠ i ∧ s.screenRect j = some r ∧ RectsMeet q r := by
  have plane {j : ScreenId} {r : Rect} (hr : s.screenRect j = some r) : RectInPlane r :=
    (Rect.fitsPlane_iff r).1 (apart.1 j r hr)
  rw [← Bool.not_eq_false, overlapsOther_eq_false_iff]
  simp only [not_forall, Bool.not_eq_false, exists_prop]
  refine exists_congr fun j => exists_congr fun r => and_congr_right fun _ => and_congr_right fun hr => ?_
  exact Rect.overlaps_iff_meet inPlane (plane hr)

theorem onlyChanges_applyScreen (i : ScreenId) (new : Option Rect) (s : State) :
    OnlyChanges [.status, .layout, .screens, .pointer, .lines, .ports, .power] s (applyScreen i new s) := by
  intro p hp
  cases p <;> simp [Part.same] at hp ⊢

theorem applyScreen_same {i : ScreenId} {new : Option Rect} {s : State} (h : s.screenRect i = new) : applyScreen i new s = s :=
  if_pos h

theorem applyScreen_configured {i : ScreenId} {r : Rect} {s : State} (h : s.screenRect i = none) :
    applyScreen i (some r) s = screenChanged i (configureScreen i (s.setScreenRect i (some r))) := by
  simp [applyScreen, h]

theorem applyScreen_unconfigured {i : ScreenId} {r : Rect} {s : State} (h : s.screenRect i = some r) :
    applyScreen i none s = screenChanged i (unconfigureScreen i (s.setScreenRect i none)) := by
  simp [applyScreen, h]

theorem applyScreen_moved {i : ScreenId} {q r : Rect} {s : State} (h : s.screenRect i = some q) (hr : q ≠ r) :
    applyScreen i (some r) s = screenChanged i (s.setScreenRect i (some r)) := by
  simp [applyScreen, h, hr]

theorem screenRec_screenChanged (i j : ScreenId) (s : State) : (screenChanged i s).screenRec j = s.screenRec j :=
  screenRec_of_screens (by simp) j

/-- A SET_SCREEN that changes the entry gives its screen-changed notice (R4). -/
theorem pointerFollows_applyScreen {i : ScreenId} {new : Option Rect} {s : State} (h : s.screenRect i ≠ new) :
    PointerFollowsScreen i s (applyScreen i new s) := by
  cases hs : s.screenRect i with
  | none =>
    cases new with
    | none => exact absurd hs h
    | some r =>
      rw [applyScreen_configured hs]
      exact pointerFollows_of_pointer (pointerFollows_screenChanged i _) (by simp)
  | some q =>
    cases new with
    | none =>
      rw [applyScreen_unconfigured hs]
      exact pointerFollows_of_pointer (pointerFollows_screenChanged i _) (by simp)
    | some r =>
      rw [applyScreen_moved hs fun e => h (hs.trans (congrArg some e))]
      exact pointerFollows_of_pointer (pointerFollows_screenChanged i _) rfl

theorem screenRec_applyScreen_other {i j : ScreenId} (h : j ≠ i) (new : Option Rect) (s : State) :
    (applyScreen i new s).screenRec j = s.screenRec j := by
  simp only [applyScreen]
  repeat' split
  · rfl
  · rw [screenRec_screenChanged, screenRec_configureScreen_other (Ne.symm h)]
    rfl
  · rw [screenRec_screenChanged, screenRec_unconfigureScreen, if_neg (Ne.symm h)]
    rfl
  · rw [screenRec_screenChanged]
    rfl

theorem applyScreen_screens {i : ScreenId} {r : Rect} {s : State} (h : s.screenRect i ≠ none) :
    (applyScreen i (some r) s).screens = s.screens := by
  obtain ⟨q, hq⟩ := Option.ne_none_iff_exists'.1 h
  by_cases hr : q = r
  · rw [applyScreen_same (hq.trans (congrArg some hr))]
  · simp [applyScreen_moved hq hr]

/-- Settles O18: a change of the entry configures, unconfigures or moves the screen, and then gives its notice. -/
theorem setScreenRules : Obligations.SetScreenRules := by
  refine ⟨fun n f x y w h s ready out => ?_, fun i j x y w h r s ready inPlane apart hj hr meet => ?_,
    fun i x y w h s ready inPlane apart free => ?_, fun i x y w h s ready hr => ?_, fun i x y w h r s ready hr => ?_⟩
  · exact exec_ready_refused rfl rfl ready (j := judgeSetScreen n f x y w h) (judgeSetScreen_outOfRange out)
  · refine exec_ready_refused rfl rfl ready (j := judgeSetScreen i 1 x y w h) ?_
    rw [judgeSetScreen_configure inPlane, if_pos ((overlapsOther_iff_meet (s := s.fresh) apart inPlane).2 ⟨j, r, hj, hr, meet⟩)]
  · have noConflict : ¬s.fresh.overlapsOther i ⟨x, y, w, h⟩ = true := fun conflict => by
      obtain ⟨j, r, hj, hr, meet⟩ := (overlapsOther_iff_meet (s := s.fresh) apart inPlane).1 conflict
      exact free j r hj hr meet
    have judged := (judgeSetScreen_configure (i := i) (s := s.fresh) inPlane).trans (if_neg noConflict)
    have first (hn : s.screenRect i = none) := applyScreen_configured (i := i) (r := ⟨x, y, w, h⟩) (s := s.fresh) hn
    obtain ⟨active, standby, off⟩ := screenRec_configureScreen i (s.fresh.setScreenRect i (some ⟨x, y, w, h⟩))
    have configured (hn : s.screenRect i = none) : (applyScreen i (some ⟨x, y, w, h⟩) s.fresh).screenRec i =
        (configureScreen i (s.fresh.setScreenRect i (some ⟨x, y, w, h⟩))).screenRec i := by
      rw [first hn, screenRec_screenChanged]
    refine ⟨_, exec_answered rfl (handled_ready rfl ready judged), answers_sendReply (by simp [State.fresh]),
      applyScreen_layout i _ s.fresh, fun j hj => screenRec_applyScreen_other hj _ s.fresh, fun hn hd => ?_, fun hn hd => ?_,
      fun hn hd => ?_, fun hn => applyScreen_screens (s := s.fresh) hn, fun same => ?_, fun changed _ => ?_,
      onlyChanges_of_mem (onlyChanges_reply _ _ (onlyChanges_applyScreen i _ s.fresh)) (by decide)⟩
    · change ((applyScreen i _ s.fresh).screenRec i).state = _ ∧ ((applyScreen i _ s.fresh).screenRec i).selected = _ ∧
        ((applyScreen i _ s.fresh).screenRec i).lockView = _
      rw [configured hn, active hd]
      exact ⟨rfl, rfl, rfl⟩
    · change ((applyScreen i _ s.fresh).screenRec i).state = _ ∧ ((applyScreen i _ s.fresh).screenRec i).selected = _
      rw [configured hn]
      exact standby hd
    · change ((applyScreen i _ s.fresh).screenRec i).state = _ ∧ ((applyScreen i _ s.fresh).screenRec i).selected = _
      rw [configured hn]
      exact off hd
    · rw [applyScreen_same (s := s.fresh) same]
      exact onlyChanges_reply _ _ (onlyChanges_fresh s)
    · exact pointerFollows_applyScreen (s := s.fresh) changed
  · have judged := judgeSetScreen_unconfigure i x y w h s.fresh
    rw [applyScreen_same (s := s.fresh) hr] at judged
    exact ⟨_, exec_answered rfl (handled_ready rfl ready judged), answers_sendReply rfl,
      onlyChanges_reply _ _ (onlyChanges_fresh s)⟩
  · have judged := judgeSetScreen_unconfigure i x y w h s.fresh
    have removed := applyScreen_unconfigured (s := s.fresh) hr
    refine ⟨_, exec_answered rfl (handled_ready rfl ready judged), answers_sendReply (by simp [State.fresh]),
      applyScreen_layout i _ s.fresh, fun j hj => screenRec_applyScreen_other hj _ s.fresh, ?_, fun g hg => ?_,
      fun _ => pointerFollows_applyScreen (s := s.fresh) (by rw [show s.fresh.screenRect i = some r from hr]; simp),
      onlyChanges_of_mem (onlyChanges_reply _ _ (onlyChanges_applyScreen i _ s.fresh)) (by decide)⟩
    · change (applyScreen i none s.fresh).screenRec i = _
      rw [removed, screenRec_screenChanged, screenRec_unconfigureScreen, if_pos rfl]
      rfl
    · change (applyScreen i none s.fresh).screens.inFlight = some g at hg
      rw [removed] at hg
      exact outstanding_unconfigureScreen (by simpa using hg)

end Sys2Proof.Machine
end

section
/-!
PROOFS, entries and what they disturb: an entry handed to a port keeps its observation and permission, the enable flags and the lines'
settings, and wakes a computer at most (R151, R166, R172).
-/

set_option Elab.async false
namespace Sys2Proof.Machine
open Sys2Proof Sys2Proof.Safety

/-! ### Steady steps -/

/-- A line is as it was, or its driven level alone follows (R141). -/
def LineFollows (a b : LineRec) : Prop :=
  b = a ∨ (a.config.mode = .output ∧ a.config.source.follows = true ∧ ∃ d, b = { a with driven := d })

theorem LineFollows.trans {a b c : LineRec} (h : LineFollows a b) (k : LineFollows b c) : LineFollows a c := by
  obtain rfl | ⟨mode, follows, d, rfl⟩ := h
  · exact k
  · obtain rfl | ⟨-, -, e, rfl⟩ := k
    · exact .inr ⟨mode, follows, d, rfl⟩
    · exact .inr ⟨mode, follows, e, rfl⟩

theorem lineFollows_follow (s : State) (r : LineRec) : LineFollows r (r.follow s) := by
  unfold LineRec.follow
  split
  · next h => exact .inr ⟨h.1, h.2, _, rfl⟩
  · exact .inl rfl

/-- The condition of WAKE_FAILED is as the computers stand (R189). -/
def WakeAgrees (s : State) : Prop := s.status.wakeHolds = true ↔ ∃ c, s.powerState c = .unresponsive

/-- A step that keeps the ports' observation and permission, the condition of SCREEN_FAULT, the enable flags and the lines. -/
structure Steady (s t : State) : Prop where
  observed : ∀ c, (t.port c).observed = (s.port c).observed
  permission : ∀ c, (t.port c).permission = (s.port c).permission
  fault : t.status.faultHolds = s.status.faultHolds
  enabled : ∀ k, (t.event k).enabled = (s.event k).enabled
  lines : ∀ l, LineFollows (s.lineRec l) (t.lineRec l)
  wake : WakeAgrees s → WakeAgrees t

theorem Steady.refl (s : State) : Steady s s :=
  ⟨fun _ => rfl, fun _ => rfl, rfl, fun _ => rfl, fun _ => .inl rfl, id⟩

theorem Steady.trans {s t u : State} (h : Steady s t) (k : Steady t u) : Steady s u where
  observed c := (k.observed c).trans (h.observed c)
  permission c := (k.permission c).trans (h.permission c)
  fault := k.fault.trans h.fault
  enabled e := (k.enabled e).trans (h.enabled e)
  lines l := (h.lines l).trans (k.lines l)
  wake a := k.wake (h.wake a)

/-- A steady step that leaves each power state, or wakes a computer that is down. -/
structure Nudged (s t : State) : Prop extends Steady s t where
  power : ∀ c, t.powerState c = s.powerState c ∨ ((s.powerState c).down = true ∧ t.powerState c = .waking)

theorem Nudged.refl (s : State) : Nudged s s := ⟨.refl s, fun _ => .inl rfl⟩

theorem Nudged.trans {s t u : State} (h : Nudged s t) (k : Nudged t u) : Nudged s u where
  toSteady := h.toSteady.trans k.toSteady
  power c := by
    obtain same | ⟨down, up⟩ := k.power c
    · rw [same]
      exact h.power c
    · obtain before | ⟨-, waking⟩ := h.power c
      · exact .inr ⟨before ▸ down, up⟩
      · rw [waking] at down
        cases down

theorem nudged_foldl {α : Type} {f : State → α → State} (h : ∀ s a, Nudged s (f s a)) (l : List α) (s : State) :
    Nudged s (l.foldl f s) := by
  induction l generalizing s with
  | nil => exact .refl s
  | cons a l ih => exact (h s a).trans (ih (f s a))

/-! ### Single writes -/

/-- A step that leaves the ports, the power records, the events and the lines. -/
theorem nudged_of_parts {s t : State} (ports : t.ports = s.ports) (power : t.power = s.power) (status : t.status = s.status)
    (lines : t.lines = s.lines) : Nudged s t where
  observed c := by simp only [State.port, ports]
  permission c := by simp only [State.port, ports]
  fault := by rw [status]
  enabled k := by rw [event_of_status status]
  lines l := .inl (by simp only [State.lineRec, lines])
  wake := by simp only [WakeAgrees, State.powerState, State.powerRec, power, status]; exact id
  power c := .inl (by simp only [State.powerState, State.powerRec, power])

theorem nudged_followOutputs (s : State) : Nudged s (followOutputs s) where
  observed c := by simp [State.port]
  permission c := by simp [State.port]
  fault := by simp
  enabled k := by rw [event_of_status (s := s) (t := followOutputs s) (by simp)]
  lines l := by rw [lineRec_followOutputs]; exact lineFollows_follow s _
  wake h := by simpa [WakeAgrees, State.powerState, State.powerRec] using h
  power c := .inl (by simp [State.powerState, State.powerRec])

theorem nudged_judgeAttention (s : State) : Nudged s (judgeAttention s) := by
  unfold judgeAttention
  split
  · exact .refl s
  · refine Nudged.trans ?_ (nudged_followOutputs _)
    exact ⟨⟨fun _ => rfl, fun _ => rfl, rfl, fun _ => rfl, fun _ => .inl rfl, id⟩, fun _ => .inl rfl⟩

/-- An event record with its enable flag kept. -/
theorem nudged_setEvent (k : EventKind) (x : EventRec) (s : State) (h : x.enabled = (s.event k).enabled) :
    Nudged s (s.setEvent k x) where
  observed _ := rfl
  permission _ := rfl
  fault := rfl
  enabled j := by
    rw [State.event_setEvent]
    split
    · next e => rw [← e, h]
    · rfl
  lines _ := .inl rfl
  wake := id
  power _ := .inl rfl

theorem nudged_raise (e : Event) (s : State) : Nudged s (raise e s) :=
  (nudged_setEvent e.kind { s.event e.kind with isPending := true, detail := some e } s rfl).trans (nudged_judgeAttention _)

theorem nudged_setPort {c : Computer} {p : Port} {s : State} (observed : p.observed = (s.port c).observed)
    (permission : p.permission = (s.port c).permission) : Nudged s (s.setPort c p) where
  observed d := by
    rw [State.port_setPort]
    split
    · next e => rw [← e, observed]
    · rfl
  permission d := by
    rw [State.port_setPort]
    split
    · next e => rw [← e, permission]
    · rfl
  fault := rfl
  enabled _ := rfl
  lines _ := .inl rfl
  wake := id
  power _ := .inl rfl

theorem nudged_setPowerRec {c : Computer} {r : PowerRec} {s : State} (state : r.state = s.powerState c) :
    Nudged s (s.setPowerRec c r) := by
  have same (d : Computer) : (s.setPowerRec c r).powerState d = s.powerState d := by
    rw [State.powerState_setPowerRec]
    split
    · next e => rw [← e, state]
    · rfl
  have wake (h : WakeAgrees s) : WakeAgrees (s.setPowerRec c r) := by
    unfold WakeAgrees
    simp only [same]
    exact h
  exact ⟨⟨fun _ => rfl, fun _ => rfl, rfl, fun _ => rfl, fun _ => .inl rfl, wake⟩, fun d => .inl (same d)⟩

/-! ### Power states and wakes -/

theorem wakeAgrees_reportWake (s : State) : WakeAgrees (reportWake s) := by
  change (allComputers.any fun c => s.powerState c == .unresponsive) = true ↔ ∃ c, s.powerState c = .unresponsive
  simp [List.any_eq_true, mem_allComputers]

theorem powerState_setPowerState (c d : Computer) (st : PowerState) (s : State) :
    (setPowerState c st s).powerState d = if c = d then st else s.powerState d := by
  rw [State.powerState, powerRec_setPowerState]
  split <;> rfl

theorem steady_setPowerState (c : Computer) (st : PowerState) (s : State) : Steady s (setPowerState c st s) := by
  refine Steady.trans (t := reportWake (s.setPowerRec c { s.powerRec c with state := st })) ?_
    (nudged_followOutputs _).toSteady
  exact ⟨fun _ => rfl, fun _ => rfl, rfl, fun _ => rfl, fun _ => .inl rfl, fun _ => wakeAgrees_reportWake _⟩

theorem nudged_changePower_waking {c : Computer} {s : State} (down : (s.powerState c).down = true) :
    Nudged s (changePower c .waking s) := by
  have moved : Nudged s (setPowerState c .waking s) := by
    refine ⟨steady_setPowerState c .waking s, fun d => ?_⟩
    rw [powerState_setPowerState]
    split
    · next e => exact .inr ⟨e ▸ down, rfl⟩
    · exact .inl rfl
  exact moved.trans (nudged_raise _ _)

theorem nudged_startAttempt {left : Bool} {c : Computer} {k : Nat} {s : State} (method : s.hasMethod c = true) :
    Nudged s (startAttempt left c k s) := by
  obtain ⟨m, hm⟩ := attemptMethod_of_hasMethod s c k method
  simp only [startAttempt, hm]
  refine Nudged.trans (nudged_setPowerRec (c := c) (r := { s.powerRec c with
    attempt := k, timer := some (s.timer (s.computer c).timeout), method := some m }) rfl) ?_
  cases m with
  | link =>
    simp only [signalWake, linkWake]
    split
    · exact nudged_of_parts rfl rfl rfl rfl
    · exact .refl _
  | line =>
    simp only [signalWake, startPulse]
    split
    · exact .refl _
    · exact nudged_setPowerRec rfl

theorem nudged_wakeRequest {c : Computer} {s : State} (method : s.hasMethod c = true) : Nudged s (wakeRequest c s) := by
  have start (down : (s.powerState c).down = true) : Nudged s (startAttempt false c 1 (changePower c .waking s)) :=
    (nudged_changePower_waking down).trans (nudged_startAttempt (by simpa using method))
  unfold wakeRequest
  split
  · next h => rw [if_pos method]; exact start (by rw [h]; rfl)
  · next h => rw [if_pos method]; exact start (by rw [h]; rfl)
  all_goals exact .refl s

theorem nudged_inputNotice (c : Computer) (s : State) : Nudged s (inputNotice c s) := by
  unfold inputNotice
  split
  · next h =>
    obtain ⟨-, method⟩ := Bool.and_eq_true_iff.1 h
    split
    · exact .refl s
    · exact nudged_wakeRequest method
    · split
      · exact (nudged_setPowerRec (c := c) (r := { s.powerRec c with armed := false }) rfl).trans
          (nudged_wakeRequest (by simpa using method))
      · exact .refl s
  · exact .refl s

/-! ### Entries -/

theorem nudged_refuseButtons (c : Computer) (b : ButtonSet) (s : State) : Nudged s (refuseButtons c b s) := by
  unfold refuseButtons
  split
  · exact .refl s
  · exact Nudged.trans (t := s.setPointer { s.pointer with swallow := s.pointer.swallow ||| b })
      (nudged_of_parts rfl rfl rfl rfl) (nudged_raise _ _)

theorem nudged_placePointer (c : Computer) (x y : Nat) (b : ButtonSet) (w : Int) (s : State) :
    Nudged s (placePointer c x y b w s) := by
  have merged : Nudged s (s.setPort c ((s.port c).mergePointer x y b w)) := nudged_setPort rfl rfl
  unfold placePointer
  dsimp only
  split
  · exact merged
  · split
    · exact nudged_setPort (p := (s.port c).append (.pointer x y b w)) rfl rfl
    · split
      · exact merged
      · exact (nudged_setPort (p := (s.port c).takeDirect x y b) rfl rfl).trans (nudged_refuseButtons _ _ _)

theorem nudged_takePointer (c : Computer) (x y : Nat) (b : ButtonSet) (w : Int) (s : State) :
    Nudged s (takePointer c x y b w s) := by
  have noticed : Nudged s (if pointerReleaseOnly (s.port c) x y b w then s else inputNotice c s) := by
    split
    · exact .refl s
    · exact nudged_inputNotice c s
  unfold takePointer
  split
  · exact nudged_placePointer c x y b w s
  · exact nudged_placePointer c x y b w s
  · exact noticed.trans (nudged_placePointer c x y b w _)
  · exact noticed.trans (nudged_placePointer c x y b w _)
  · dsimp only
    generalize (if pointerReleaseOnly (s.port c) x y b w then s else inputNotice c s) = t at noticed ⊢
    split
    · exact noticed.trans (nudged_placePointer c x y b w t)
    · exact noticed
  · exact .refl s

end Sys2Proof.Machine
end

section
/-!
PROOFS, the blocks of the soft reset: the entries they hand on, and what each makes of its own record (R30, R58, R85, R113, R145, R176,
R184).
-/

set_option Elab.async false
namespace Sys2Proof.Machine
open Sys2Proof Sys2Proof.Safety

/-! ### Keyboard entries -/

theorem nudged_placeKeys (c : Computer) (k : KeyState) (s : State) : Nudged s (placeKeys c k s).1 := by
  have appended : Nudged s (s.setPort c ((s.port c).append (.keyboard k))) := nudged_setPort rfl rfl
  have merged : Nudged s (s.setPort c ((s.port c).mergeTailKeys k)) := by
    apply nudged_setPort <;> unfold Port.mergeTailKeys <;> split <;> rfl
  unfold placeKeys
  dsimp only
  split
  · exact .refl s
  · split
    · split
      · exact appended
      · exact merged
    · split
      · exact appended
      · exact nudged_raise _ s

theorem nudged_discardKeys (c : Computer) (k : KeyState) (s : State) : Nudged s (discardKeys c k s).1 := by
  unfold discardKeys
  split
  · exact .refl s
  · exact nudged_raise _ s

theorem nudged_takeKeys (c : Computer) (k : KeyState) (s : State) : Nudged s (takeKeys c k s).1 := by
  have noticed : Nudged s (if k.sub (s.committedKeys c) then s else inputNotice c s) := by
    split
    · exact .refl s
    · exact nudged_inputNotice c s
  unfold takeKeys
  split
  · exact nudged_placeKeys c k s
  · exact nudged_placeKeys c k s
  · exact noticed.trans (nudged_placeKeys c k _)
  · exact noticed.trans (nudged_placeKeys c k _)
  · dsimp only
    generalize (if k.sub (s.committedKeys c) then s else inputNotice c s) = t at noticed ⊢
    split
    · exact noticed.trans (nudged_placeKeys c k t)
    · exact noticed.trans (nudged_discardKeys c k t)
  · exact nudged_discardKeys c k s

theorem nudged_releaseKeys (c : Computer) (s : State) : Nudged s (releaseKeys c s) := by
  unfold releaseKeys
  split
  · exact .refl s
  · exact nudged_takeKeys c .empty s

theorem nudged_releaseAllKeys (s : State) : Nudged s (releaseAllKeys s) :=
  nudged_foldl (fun s c => nudged_releaseKeys c s) allComputers s

/-! ### Pointer entries -/

theorem nudged_releaseAllButtons (s : State) : Nudged s (releaseAllButtons s) :=
  nudged_foldl (fun s c => by split; exacts [nudged_takePointer c _ _ 0 0 s, .refl s]) allComputers s

theorem nudged_setPointer (p : PointerEngine) (s : State) : Nudged s (s.setPointer p) := nudged_of_parts rfl rfl rfl rfl

theorem nudged_handPlace (w : Int) (s : State) : Nudged s (handPlace w s) := by
  unfold handPlace
  split
  · split
    · unfold handEntry
      split
      · exact (nudged_setPointer _ s).trans (nudged_takePointer _ _ _ _ _ _)
      · exact .refl s
    · exact .refl s
  · exact .refl s

theorem nudged_reHomeQuiet (s : State) : Nudged s (reHomeQuiet s) := by
  unfold reHomeQuiet
  split
  · exact (nudged_setPointer _ s).trans (nudged_handPlace 0 _)
  · exact nudged_setPointer _ s

/-- An entry without buttons is refused none, so the Pointer Engine is as it was (R155). -/
theorem takePointer_pointer_of_none (c : Computer) (x y : Nat) (w : Int) (s : State) :
    (takePointer c x y 0 w s).pointer = s.pointer := by
  have none_refused (p : Port) : refusedOf 0 p = 0 := by simp [refusedOf]
  have placed (t : State) (h : t.pointer = s.pointer) : (placePointer c x y 0 w t).pointer = s.pointer := by
    rw [placePointer_swallow, none_refused, show t.pointer.swallow ||| 0 = t.pointer.swallow from BitVec.or_zero, h]
  simp only [takePointer]
  repeat' split
  all_goals first
    | exact placed _ (by simp)
    | simp

theorem releaseAllButtons_pointer (s : State) : (releaseAllButtons s).pointer = s.pointer :=
  foldl_leaves State.pointer _ (fun s c => by split; exacts [takePointer_pointer_of_none c _ _ 0 s, rfl]) allComputers s

theorem handPlace_pointer_of_none {s : State} (h : s.delivered = 0) :
    ∃ a, (handPlace 0 s).pointer = { s.pointer with lastAbs := a } := by
  unfold handPlace
  split
  · split
    · unfold handEntry
      split
      · rw [h, takePointer_pointer_of_none]
        exact ⟨_, rfl⟩
      · exact ⟨s.pointer.lastAbs, rfl⟩
    · exact ⟨s.pointer.lastAbs, rfl⟩
  · exact ⟨s.pointer.lastAbs, rfl⟩

theorem reHomeQuiet_pointer {s : State} (h : s.delivered = 0) :
    ∃ p f a, (reHomeQuiet s).pointer = { s.pointer with place := p, focus := f, lastAbs := a } := by
  unfold reHomeQuiet
  split
  · next i _ =>
    obtain ⟨a, ha⟩ := handPlace_pointer_of_none
      (s := s.setPointer { s.pointer with place := s.centerOf i, focus := s.sourceComputer i }) h
    exact ⟨_, _, a, ha⟩
  · exact ⟨none, none, s.pointer.lastAbs, rfl⟩

/-! ### The Pointer Engine (R85) -/

theorem nudged_softResetPointer (s : State) : Nudged s (softResetPointer s) := by
  unfold softResetPointer swallowHeld
  exact ((nudged_setPointer _ s).trans (nudged_releaseAllButtons _)).trans ((nudged_setPointer _ _).trans (nudged_reHomeQuiet _))

/-- The Pointer Engine after a soft reset but for its place, its focus and the last absolute positions. -/
theorem softResetPointer_pointer (s : State) : ∃ p f a, (softResetPointer s).pointer = { s.pointer with
    rx := 0, ry := 0, push := none, glideLock := false, lastInterval := none,
    swallow := s.pointer.swallow ||| s.pointer.buttons, place := p, focus := f, lastAbs := a } := by
  have released : (releaseAllButtons (swallowHeld s)).pointer =
      { s.pointer with swallow := s.pointer.swallow ||| s.pointer.buttons } := by
    rw [releaseAllButtons_pointer, swallowHeld, State.setPointer_pointer]
  have delivered : s.pointer.buttons &&& ~~~(s.pointer.swallow ||| s.pointer.buttons) = 0 := by
    ext i hi
    simp
    grind
  simp only [softResetPointer, released]
  exact reHomeQuiet_pointer (s := State.setPointer _ (releaseAllButtons (swallowHeld s))) delivered

theorem softResetPointer_keyboard (s : State) : (softResetPointer s).keyboard = s.keyboard := by
  have released (t : State) : (releaseAllButtons t).keyboard = t.keyboard :=
    foldl_leaves State.keyboard _ (fun s c => by split <;> simp) allComputers t
  have homed (t : State) : (reHomeQuiet t).keyboard = t.keyboard := by
    unfold reHomeQuiet
    split <;> simp
  simp [softResetPointer, homed, released, swallowHeld]

/-! ### The Keyboard Engine and the Hotkey Matcher (R113, R133) -/

theorem nudged_softResetKeys (s : State) : Nudged s (softResetKeys s) := by
  have focused (t : State) : Nudged t (t.setKeyboard { t.keyboard with focus := 0 }) := nudged_of_parts rfl rfl rfl rfl
  have shown (t : State) : Nudged t (showLamps t) := nudged_of_parts (by simp) (by simp) (by simp) (by simp)
  unfold softResetKeys
  refine Nudged.trans ?_ (nudged_followOutputs _)
  refine Nudged.trans ?_ (shown _)
  refine Nudged.trans ?_ (focused _)
  refine Nudged.trans ?_ (nudged_releaseAllKeys _)
  exact nudged_of_parts (by simp) (by simp) (by simp) (by simp)

theorem releaseAllKeys_keyboard (s : State) : (releaseAllKeys s).keyboard = s.keyboard :=
  foldl_leaves State.keyboard _ (fun s c => by simp) allComputers s

theorem softResetKeys_keyboard (s : State) :
    (softResetKeys s).keyboard.focus = 0 ∧ (softResetKeys s).keyboard.maps = s.keyboard.maps ∧
    (softResetKeys s).keyboard.stuckLimit = s.keyboard.stuckLimit ∧ (softResetKeys s).keyboard.lamps = s.keyboard.lamps ∧
    (softResetKeys s).keyboard.kbPort = s.keyboard.kbPort ∧ (softResetKeys s).keyboard.ptrPort = s.keyboard.ptrPort ∧
    (softResetKeys s).keyboard.held = s.keyboard.held.map HeldKey.suppress := by
  simp [softResetKeys, releaseAllKeys_keyboard, markHeld]

theorem softResetKeys_matcher (s : State) :
    (softResetKeys s).matcher = { s.matcher with state := .idle, attempt := none, first := none, timer := none, slot := none } := by
  simp [softResetKeys, goIdle, Matcher.toIdle, State.setSlot]

end Sys2Proof.Machine
end

section
/-!
PROOFS, RESTART and the soft reset (O7): the screens, the lines, the power records and the events after it, and the blocks in R197's
order.
-/

set_option Elab.async false
namespace Sys2Proof.Machine
open Sys2Proof Sys2Proof.Safety

/-! ### The Screen Controller (R58) -/

/-- A screen's record after a soft reset: it shows its current source again, with nothing under way. -/
def ScreenRec.afterReset (s : State) (r : ScreenRec) : ScreenRec :=
  if r.state = .unused then r
  else
    { r with
      state := if r.current.isSome then .dark else .blank, waiting := none, linkTimer := none, powerTimer := none,
      lockView := false, selected := some (s.selectionFor r.current) }

theorem ScreenRec.afterReset_ne_fault (s : State) (r : ScreenRec) : (r.afterReset s).state ≠ .fault := by
  unfold ScreenRec.afterReset
  split
  · next h => rw [h]; decide
  · dsimp only
    split <;> decide

theorem context_softResetScreen (i : ScreenId) (s : State) : SameContext s (softResetScreen i s) := by
  unfold softResetScreen
  dsimp only
  split
  · exact .refl s
  · exact SameContext.trans (context_setScreenRec i _ s) (context_setScreenRec i _ _)

theorem screenRec_softResetScreen (i j : ScreenId) (s : State) :
    (softResetScreen i s).screenRec j = if i = j then (s.screenRec i).afterReset s else s.screenRec j := by
  unfold softResetScreen ScreenRec.afterReset
  by_cases h : i = j
  · subst h
    dsimp only
    split <;> simp
  · dsimp only
    split <;> simp [h]

theorem screenRec_softResetScreens (s : State) (i : ScreenId) :
    (softResetScreens s).screenRec i = (s.screenRec i).afterReset s := by
  have reported (t : State) : (reportFault t).screenRec i = t.screenRec i := rfl
  have inputs (s t : State) (h : SameContext s t) (r : ScreenRec) : r.afterReset t = r.afterReset s := by
    simp only [ScreenRec.afterReset, selectionFor_of_layout h.1]
  rw [softResetScreens, reported, screenRec_each (g := fun s _ r => r.afterReset s) context_softResetScreen
    screenRec_softResetScreen (fun s t h _ r => inputs s t h r), screenRec_setInFlight,
    inputs s (s.setInFlight none) ⟨rfl, rfl, rfl, rfl⟩]

theorem softResetScreens_settings (s : State) : (softResetScreens s).screens.settings = s.screens.settings := by
  rw [softResetScreens, reportFault_screens]
  exact (context_eachScreen context_softResetScreen (s.setInFlight none)).2.2.2

theorem softResetScreens_inFlight (s : State) : (softResetScreens s).screens.inFlight = none := by
  have kept (t : State) : (eachScreen softResetScreen t).screens.inFlight = t.screens.inFlight := by
    refine eachScreen_leaves (fun s => s.screens.inFlight) softResetScreen (fun i s => ?_) t
    unfold softResetScreen
    dsimp only
    split <;> rfl
  rw [softResetScreens, reportFault_screens, kept, State.setInFlight]
  rfl

theorem reportFault_status {s : State} (h : ∀ i, (s.screenRec i).state ≠ .fault) :
    (reportFault s).status = { s.status with faultHolds := false } := by
  have none_faults : (allScreens.any fun i => (s.screenRec i).state == .fault) = false := by simp [h]
  rw [reportFault, none_faults, State.setStatus_status]

/-- No screen is in FAULT after a soft reset, and the Screen Controller reports it; no event is left from it. -/
theorem softResetScreens_status (s : State) : (softResetScreens s).status = { s.status with faultHolds := false } := by
  have settled (i : ScreenId) : ((softResetScreens s).screenRec i).state ≠ .fault := by
    rw [screenRec_softResetScreens]
    exact ScreenRec.afterReset_ne_fault s _
  have kept : (eachScreen softResetScreen (s.setInFlight none)).status = s.status := by
    rw [eachScreen_leaves (fun s => s.status) softResetScreen (fun i s => by simp)]
    simp
  unfold softResetScreens at settled ⊢
  generalize eachScreen softResetScreen (s.setInFlight none) = t at settled kept ⊢
  rw [reportFault_status fun i => screenRec_of_screens (reportFault_screens t) i ▸ settled i, kept]

/-! ### The Lines (R145) -/

theorem lineRec_softResetLines (s : State) (l : LineId) : (softResetLines s).lineRec l = (s.lineRec l).softReset s := by
  simp [State.lineRec, softResetLines]

/-! ### The Power Manager (R176) -/

/-- A power record whose pulse, if one runs, has ended (R169). -/
def PowerRec.pulseEnded (restHigh : Bool) (r : PowerRec) : PowerRec :=
  if r.pulse.isSome then { r with pulse := none, wakeHigh := restHigh } else r

theorem PowerRec.pulseEnded_pulse (b : Bool) (r : PowerRec) : (r.pulseEnded b).pulse = none := by
  unfold PowerRec.pulseEnded
  split
  · rfl
  · next h => exact Option.not_isSome_iff_eq_none.1 h

@[simp] theorem PowerRec.pulseEnded_state (b : Bool) (r : PowerRec) : (r.pulseEnded b).state = r.state := by
  unfold PowerRec.pulseEnded
  split <;> rfl

/-- A power record after a soft reset: no pulse, and no wake under way. -/
def PowerRec.afterReset (restHigh : Bool) (r : PowerRec) : PowerRec :=
  if r.state = .waking ∨ r.state = .unresponsive then
    { (r.pulseEnded restHigh).noAttempt with armed := true, state := .asleep }
  else r.pulseEnded restHigh

theorem PowerRec.afterReset_pulse (b : Bool) (r : PowerRec) : (r.afterReset b).pulse = none := by
  unfold PowerRec.afterReset
  split <;> exact r.pulseEnded_pulse b

theorem PowerRec.afterReset_state (b : Bool) (r : PowerRec) :
    (r.afterReset b).state = if r.state = .waking ∨ r.state = .unresponsive then .asleep else r.state := by
  unfold PowerRec.afterReset
  split
  · rfl
  · exact r.pulseEnded_state b

/-- The first step of R176: a running pulse ends. -/
def stopPulse (c : Computer) (s : State) : State := if (s.powerRec c).pulse.isSome then endPulse c s else s

theorem softResetPower_eq (c : Computer) (s : State) : softResetPower c s =
    if (stopPulse c s).powerState c = .waking ∨ (stopPulse c s).powerState c = .unresponsive then
      setPowerState c .asleep ((stopPulse c s).setPowerRec c { ((stopPulse c s).powerRec c).noAttempt with armed := true })
    else stopPulse c s := rfl

theorem powerRec_stopPulse (c d : Computer) (s : State) :
    (stopPulse c s).powerRec d = if c = d then (s.powerRec c).pulseEnded (s.computer c).restHigh else s.powerRec d := by
  unfold stopPulse PowerRec.pulseEnded
  split
  · rw [endPulse, State.powerRec_setPowerRec]
  · split
    · next h => rw [h]
    · rfl

theorem powerRec_softResetPower (c d : Computer) (s : State) :
    (softResetPower c s).powerRec d =
      if c = d then (s.powerRec c).afterReset (s.computer c).restHigh else s.powerRec d := by
  have state : (stopPulse c s).powerState c = (s.powerRec c).state := by
    simp [State.powerState, powerRec_stopPulse]
  rw [softResetPower_eq, state, PowerRec.afterReset]
  by_cases h : c = d <;> split <;> simp [h, powerRec_stopPulse]

theorem nudged_stopPulse (c : Computer) (s : State) : Nudged s (stopPulse c s) := by
  unfold stopPulse
  split
  · exact nudged_setPowerRec (c := c) (r := { s.powerRec c with pulse := none, wakeHigh := (s.computer c).restHigh }) rfl
  · exact .refl s

theorem steady_softResetPower (c : Computer) (s : State) : Steady s (softResetPower c s) := by
  rw [softResetPower_eq]
  split
  · exact ((nudged_stopPulse c s).trans (nudged_setPowerRec (c := c)
      (r := { ((stopPulse c s).powerRec c).noAttempt with armed := true }) rfl)).toSteady.trans (steady_setPowerState c .asleep _)
  · exact (nudged_stopPulse c s).toSteady

theorem powerRec_softResetAll (s : State) (l : List Computer) (nodup : l.Nodup) (d : Computer) :
    (l.foldl (fun s c => softResetPower c s) s).powerRec d =
      if d ∈ l then (s.powerRec d).afterReset (s.computer d).restHigh else s.powerRec d := by
  induction l generalizing s with
  | nil => simp
  | cons c l ih =>
    obtain ⟨fresh, rest⟩ := List.nodup_cons.1 nodup
    have computer : (softResetPower c s).computer d = s.computer d := by simp [State.computer]
    rw [List.foldl_cons, ih _ rest, powerRec_softResetPower, computer]
    by_cases h : c = d
    · subst h
      simp [fresh]
    · simp [h, Ne.symm h]

theorem steady_foldl {α : Type} {f : State → α → State} (h : ∀ s a, Steady s (f s a)) (l : List α) (s : State) :
    Steady s (l.foldl f s) := by
  induction l generalizing s with
  | nil => exact .refl s
  | cons a l ih => exact (h s a).trans (ih (f s a))

/-! ### The Desk Power Manager (R184) -/

theorem nudged_softResetDesk (s : State) : Nudged s (softResetDesk s) :=
  Nudged.trans (t := s.setDesk { s.desk with state := .active, idleStart := some s.now, window := none })
    (nudged_of_parts rfl rfl rfl rfl) (nudged_followOutputs _)

theorem softResetDesk_desk (s : State) :
    (softResetDesk s).desk = { s.desk with state := .active, idleStart := some s.now, window := none } := by
  simp [softResetDesk]

/-! ### Events and the save (R192, R197) -/

theorem nudged_clearKind (k : EventKind) (s : State) : Nudged s (clearKind k s) := by
  unfold clearKind
  split
  · exact .refl s
  · exact nudged_setEvent k _ s rfl

theorem nudged_clearKinds (ks : List EventKind) (s : State) : Nudged s (clearKinds ks s) :=
  (nudged_foldl (fun s k => nudged_clearKind k s) ks s).trans (nudged_judgeAttention _)

/-- A kind that has no condition holding stays cleared, and is cleared where it is named. -/
theorem isPending_foldl_clearKind {s : State} (levels : ∀ j, s.levelHolds j = false) (ks : List EventKind) {k : EventKind}
    (hk : k ∈ ks ∨ (s.event k).isPending = false) :
    ((ks.foldl (fun s k => clearKind k s) s).event k).isPending = false := by
  induction ks generalizing s with
  | nil => simpa using hk
  | cons j ks ih =>
    have cleared : clearKind j s = s.setEvent j { s.event j with isPending := false, detail := none } := by
      simp [clearKind, levels j]
    rw [List.foldl_cons, cleared]
    refine ih (fun i => by simpa [State.levelHolds] using levels i) ?_
    rw [State.event_setEvent]
    split
    · exact .inr rfl
    · next h => exact hk.imp_left fun m => (List.mem_cons.1 m).resolve_left (Ne.symm h)

/-- Once no condition holds, every kind is cleared. -/
theorem isPending_clearKinds {s : State} (fault : s.status.faultHolds = false) (wake : s.status.wakeHolds = false)
    (ks : List EventKind) {k : EventKind} (hk : k ∈ ks) : ((clearKinds ks s).event k).isPending = false := by
  rw [clearKinds, event_judgeAttention]
  refine isPending_foldl_clearKind (fun j => ?_) ks (.inl hk)
  cases j <;> simp [State.levelHolds, fault, wake]

theorem nudged_cutSave (sv : Save) (s : State) : Nudged s (cutSave sv s) := by
  unfold cutSave failSave
  refine Nudged.trans ?_ (nudged_raise _ _)
  exact nudged_of_parts rfl rfl rfl rfl

end Sys2Proof.Machine
end

section
/-!
PROOFS, RESTART and the soft reset (O7): the blocks in R197's order, what follows them, and the statement.
-/

set_option Elab.async false
namespace Sys2Proof.Machine
open Sys2Proof Sys2Proof.Safety

/-! ### The blocks in their order (R197) -/

/-- The Power Manager acts on every computer. -/
def softResetPowers (s : State) : State := allComputers.foldl (fun s c => softResetPower c s) s

@[simp] theorem softResetPowers_leaves (s : State) :
    (softResetPowers s).now = s.now ∧ (softResetPowers s).link = s.link ∧ (softResetPowers s).profile = s.profile ∧
    (softResetPowers s).layout = s.layout ∧ (softResetPowers s).sync = s.sync ∧ (softResetPowers s).screens = s.screens ∧
    (softResetPowers s).pointer = s.pointer ∧ (softResetPowers s).keyboard = s.keyboard ∧
    (softResetPowers s).matcher = s.matcher ∧ (softResetPowers s).desk = s.desk ∧ (softResetPowers s).pending = s.pending := by
  have kept {β : Type} (g : State → β) (h : ∀ c s, g (softResetPower c s) = g s) : g (softResetPowers s) = g s :=
    foldl_leaves g _ (fun s c => h c s) allComputers s
  exact ⟨kept _ (by simp), kept _ (by simp), kept _ (by simp), kept _ (by simp), kept _ (by simp), kept _ (by simp),
    kept _ (by simp), kept _ (by simp), kept _ (by simp), kept _ (by simp), kept _ (by simp)⟩

theorem powerRec_softResetPowers (s : State) (c : Computer) :
    (softResetPowers s).powerRec c = (s.powerRec c).afterReset (s.computer c).restHigh := by
  rw [softResetPowers, powerRec_softResetAll s allComputers (by decide) c, if_pos (mem_allComputers c)]

theorem powerState_softResetPowers (s : State) (c : Computer) : (softResetPowers s).powerState c =
    if s.powerState c = .waking ∨ s.powerState c = .unresponsive then .asleep else s.powerState c := by
  rw [State.powerState, powerRec_softResetPowers, PowerRec.afterReset_state, State.powerState]

theorem steady_softResetPowers (s : State) : Steady s (softResetPowers s) :=
  steady_foldl (fun s c => steady_softResetPower c s) allComputers s

/-- The state in which the keys are released: the blocks before the Lines have acted. -/
def afterReleases (s : State) : State := softResetKeys (softResetPointer (softResetScreens (softResetSync s)))

theorem softResetBlocks_eq (s : State) :
    softResetBlocks s = softResetDesk (softResetPowers (softResetLines (afterReleases s))) := rfl

theorem nudged_afterReleases (s : State) : Nudged (softResetScreens (softResetSync s)) (afterReleases s) :=
  (nudged_softResetPointer _).trans (nudged_softResetKeys _)

/-- What the blocks after the releases disturb: the lines have their levels, and no more than that follows. -/
theorem steady_afterLines (s : State) : Steady (softResetLines s) (softResetDesk (softResetPowers (softResetLines s))) :=
  (steady_softResetPowers _).trans (nudged_softResetDesk _).toSteady

@[simp] theorem softResetBlocks_leaves (s : State) :
    (softResetBlocks s).now = s.now ∧ (softResetBlocks s).link = s.link ∧ (softResetBlocks s).profile = s.profile ∧
    (softResetBlocks s).pending = s.pending := by
  simp [softResetBlocks_eq, afterReleases]

theorem softResetBlocks_screens (s : State) : (softResetBlocks s).screens = (softResetScreens (softResetSync s)).screens := by
  simp [softResetBlocks_eq, afterReleases]

theorem channel_softResetBlocks (s : State) (v : InputId) :
    (softResetBlocks s).channel v = if (s.channel v).running then (s.channel v).cleared else s.channel v := by
  have synced : (softResetBlocks s).sync = (softResetSync s).sync := by simp [softResetBlocks_eq, afterReleases]
  simp [State.channel, synced, softResetSync]

theorem screenRec_softResetBlocks (s : State) (i : ScreenId) :
    (softResetBlocks s).screenRec i = (s.screenRec i).afterReset (softResetSync s) := by
  rw [screenRec_of_screens (softResetBlocks_screens s), screenRec_softResetScreens]
  exact congrArg (ScreenRec.afterReset _) (screenRec_of_screens (by simp) i)

theorem softResetBlocks_pointer (s : State) : ∃ p f a, (softResetBlocks s).pointer = { s.pointer with
    rx := 0, ry := 0, push := none, glideLock := false, lastInterval := none,
    swallow := s.pointer.swallow ||| s.pointer.buttons, place := p, focus := f, lastAbs := a } := by
  obtain ⟨p, f, a, h⟩ := softResetPointer_pointer (softResetScreens (softResetSync s))
  exact ⟨p, f, a, by simpa [softResetBlocks_eq, afterReleases] using h⟩

theorem softResetBlocks_keyboard (s : State) :
    (softResetBlocks s).keyboard.focus = 0 ∧ (softResetBlocks s).keyboard.maps = s.keyboard.maps ∧
    (softResetBlocks s).keyboard.stuckLimit = s.keyboard.stuckLimit ∧ (softResetBlocks s).keyboard.lamps = s.keyboard.lamps ∧
    (softResetBlocks s).keyboard.kbPort = s.keyboard.kbPort ∧ (softResetBlocks s).keyboard.ptrPort = s.keyboard.ptrPort ∧
    (softResetBlocks s).keyboard.held = s.keyboard.held.map HeldKey.suppress := by
  simp [softResetBlocks_eq, afterReleases, softResetKeys_keyboard, softResetPointer_keyboard]

theorem softResetBlocks_matcher (s : State) : (softResetBlocks s).matcher =
    { s.matcher with state := .idle, attempt := none, first := none, timer := none, slot := none } := by
  simp [softResetBlocks_eq, afterReleases, softResetKeys_matcher]

theorem softResetBlocks_desk (s : State) :
    (softResetBlocks s).desk = { s.desk with state := .active, idleStart := some s.now, window := none } := by
  simp [softResetBlocks_eq, softResetDesk_desk, afterReleases]

/-! ### Ports, power records and events -/

theorem port_softResetBlocks (s : State) (c : Computer) :
    ((softResetBlocks s).port c).observed = (s.port c).observed ∧
    ((softResetBlocks s).port c).permission = (s.port c).permission := by
  have before : (softResetScreens (softResetSync s)).port c = s.port c := by simp [State.port]
  have lines : (softResetLines (afterReleases s)).port c = (afterReleases s).port c := by simp [State.port]
  rw [softResetBlocks_eq, (steady_afterLines _).observed, (steady_afterLines _).permission, lines,
    (nudged_afterReleases s).observed, (nudged_afterReleases s).permission, before]
  exact ⟨rfl, rfl⟩

theorem enabled_softResetBlocks (s : State) (k : EventKind) :
    ((softResetBlocks s).event k).enabled = (s.event k).enabled := by
  have before : (softResetScreens (softResetSync s)).event k = s.event k := by
    simp [State.event, softResetScreens_status]
  rw [softResetBlocks_eq, (steady_afterLines _).enabled, event_of_status (s := afterReleases s) (by simp),
    (nudged_afterReleases s).enabled, before]

theorem powerRec_softResetBlocks (s : State) (c : Computer) :
    (softResetBlocks s).powerRec c = ((afterReleases s).powerRec c).afterReset (s.computer c).restHigh := by
  have power : (softResetBlocks s).power = (softResetPowers (softResetLines (afterReleases s))).power := by
    simp [softResetBlocks_eq]
  have entry : (softResetLines (afterReleases s)).computer c = s.computer c := by simp [State.computer, afterReleases]
  have lines : (softResetLines (afterReleases s)).powerRec c = (afterReleases s).powerRec c := by simp [State.powerRec]
  rw [State.powerRec, power, ← State.powerRec, powerRec_softResetPowers, lines, entry]

/-- The releases leave a power state, or wake a computer that was ASLEEP or UNRESPONSIVE (log entry 21). -/
theorem powerState_afterReleases (s : State) (c : Computer) : (afterReleases s).powerState c = s.powerState c ∨
    ((s.powerState c).down = true ∧ (afterReleases s).powerState c = .waking) := by
  have before : (softResetScreens (softResetSync s)).powerState c = s.powerState c := by
    simp [State.powerState, State.powerRec]
  rw [← before]
  exact (nudged_afterReleases s).power c

theorem powerState_softResetBlocks (s : State) (c : Computer) : (softResetBlocks s).powerState c =
    if s.powerState c = .waking ∨ s.powerState c = .unresponsive then .asleep else s.powerState c := by
  rw [State.powerState, powerRec_softResetBlocks, PowerRec.afterReset_state, ← State.powerState]
  obtain same | ⟨down, waking⟩ := powerState_afterReleases s c
  · rw [same]
  · rw [waking, if_pos (.inl rfl)]
    cases h : s.powerState c <;> simp_all [PowerState.down]

theorem powerRec_softResetBlocks_of_waking {s : State} {c : Computer}
    (h : s.powerState c = .waking ∨ s.powerState c = .unresponsive) :
    ((softResetBlocks s).powerRec c).attempt = 0 ∧ ((softResetBlocks s).powerRec c).timer = none ∧
    ((softResetBlocks s).powerRec c).method = none ∧ ((softResetBlocks s).powerRec c).armed = true := by
  have waking : ((afterReleases s).powerRec c).state = .waking ∨ ((afterReleases s).powerRec c).state = .unresponsive := by
    obtain same | ⟨-, waking⟩ := powerState_afterReleases s c
    · exact (congrArg (fun p => p = PowerState.waking ∨ p = .unresponsive) same).mpr h
    · exact .inl waking
  rw [powerRec_softResetBlocks, PowerRec.afterReset, if_pos waking]
  exact ⟨rfl, rfl, rfl, rfl⟩

theorem levels_softResetBlocks {s : State} (agrees : WakeAgrees s) :
    (softResetBlocks s).status.faultHolds = false ∧ (softResetBlocks s).status.wakeHolds = false := by
  have before : WakeAgrees (softResetScreens (softResetSync s)) := by
    unfold WakeAgrees at agrees ⊢
    simpa [softResetScreens_status, State.powerState, State.powerRec] using agrees
  have atLines : WakeAgrees (softResetLines (afterReleases s)) := by
    have after := (nudged_afterReleases s).wake before
    unfold WakeAgrees at after ⊢
    simpa [State.powerState, State.powerRec] using after
  have after : WakeAgrees (softResetBlocks s) := softResetBlocks_eq s ▸ (steady_afterLines _).wake atLines
  constructor
  · have lines : (softResetLines (afterReleases s)).status = (afterReleases s).status := by simp
    rw [softResetBlocks_eq, (steady_afterLines _).fault, lines, (nudged_afterReleases s).fault, softResetScreens_status]
  · refine Bool.eq_false_iff.2 fun holds => ?_
    obtain ⟨c, unresponsive⟩ := after.1 holds
    rw [powerState_softResetBlocks] at unresponsive
    split at unresponsive
    · cases unresponsive
    · next h => exact h (.inr unresponsive)

/-! ### Lines -/

/-- A line's record after a soft reset: its configuration, filter and pin as they were, an INPUT line's level taken as seen, and a
MANUAL output at its level. -/
structure LineRec.ResetTo (a b : LineRec) : Prop where
  config : b.config = a.config
  filtered : b.filtered = a.filtered
  timer : b.timer = a.timer
  pin : b.pin = a.pin
  suppressed : a.config.mode = .input → b.suppressed = (a.filtered == some true)
  driven : ∀ l, a.config.mode = .output → a.config.source = .manual l → b.driven = some l

theorem LineRec.resetTo_softReset (s : State) (r : LineRec) : r.ResetTo (r.softReset s) := by
  unfold LineRec.softReset
  split <;> constructor <;> simp_all [sourceLevel]

theorem LineRec.ResetTo.of_follows {a b c : LineRec} (h : a.ResetTo b) (k : LineFollows b c) : a.ResetTo c := by
  obtain rfl | ⟨mode, follows, d, rfl⟩ := k
  · exact h
  · refine ⟨h.config, h.filtered, h.timer, h.pin, h.suppressed, fun l _ source => ?_⟩
    rw [h.config, source] at follows
    cases follows

theorem LineRec.ResetTo.after_follows {a b c : LineRec} (k : LineFollows a b) (h : b.ResetTo c) : a.ResetTo c := by
  obtain rfl | ⟨mode, follows, d, rfl⟩ := k
  · exact h
  · exact ⟨h.config, h.filtered, h.timer, h.pin, h.suppressed, h.driven⟩

theorem lineRec_softResetBlocks (s : State) (l : LineId) : (s.lineRec l).ResetTo ((softResetBlocks s).lineRec l) := by
  have before : (softResetScreens (softResetSync s)).lineRec l = s.lineRec l := by simp [State.lineRec]
  have here : ((afterReleases s).lineRec l).ResetTo ((softResetLines (afterReleases s)).lineRec l) := by
    rw [lineRec_softResetLines]
    exact LineRec.resetTo_softReset _ _
  have followed : LineFollows (s.lineRec l) ((afterReleases s).lineRec l) := by
    rw [← before]
    exact (nudged_afterReleases s).lines l
  rw [softResetBlocks_eq]
  exact (here.after_follows followed).of_follows ((steady_afterLines _).lines l)

/-! ### After the blocks (R197) -/

@[simp] theorem softResetSave_keeps (s : State) :
    (softResetSave s).now = s.now ∧ (softResetSave s).link = s.link ∧ (softResetSave s).sync = s.sync ∧
    (softResetSave s).screens = s.screens ∧ (softResetSave s).pointer = s.pointer ∧
    (softResetSave s).keyboard = s.keyboard ∧ (softResetSave s).ports = s.ports ∧ (softResetSave s).power = s.power ∧
    (softResetSave s).desk = s.desk ∧ (softResetSave s).pending = s.pending := by
  unfold softResetSave
  split <;> simp [cutSave, failSave, stopSave, countFree]

theorem nudged_softResetSave (s : State) : Nudged s (softResetSave s) := by
  unfold softResetSave
  split
  · exact nudged_cutSave _ s
  · exact .refl s

theorem isPending_softResetSave (s : State) (k : EventKind) : ((softResetSave s).event k).isPending =
    ((s.event k).isPending || (decide (k = .profileDone) && s.profile.save.isSome)) := by
  unfold softResetSave
  split
  · next sv h =>
    have stopped : (stopSave sv (Config.freeSaveStep s.freeCount) (countFree 1 s)).event k = s.event k := rfl
    rw [cutSave, failSave, event_raise, h]
    by_cases e : k = .profileDone
    · simp [e, Event.kind]
    · simp [e, Ne.symm e, Event.kind, stopped]
  · next h => simp [h]

theorem softResetSave_of_none {s : State} (h : s.profile.save = none) : softResetSave s = s := by
  unfold softResetSave
  rw [h]

theorem softResetSave_of_save {s : State} (h : s.profile.save ≠ none) :
    (softResetSave s).profile.state = .ready ∧ (softResetSave s).profile.save = none ∧
    Raised (.profileDone .saveFailed) (softResetSave s) := by
  obtain ⟨sv, h⟩ := Option.ne_none_iff_exists'.1 h
  unfold softResetSave
  rw [h]
  simp [cutSave, failSave, stopSave, countFree, Raised]

/-- The blocks, the events and the save at a soft reset, before the start scene (R197). -/
def settled (s : State) : State := softResetSave (clearKinds allKinds (softResetBlocks s))

theorem steady_settled (s : State) : Steady (softResetBlocks s) (settled s) :=
  ((nudged_clearKinds _ _).trans (nudged_softResetSave _)).toSteady

@[simp] theorem settled_keeps (s : State) :
    (settled s).now = s.now ∧ (settled s).link = s.link ∧ (settled s).layout = s.layout ∧
    (settled s).sync = (softResetBlocks s).sync ∧ (settled s).screens = (softResetBlocks s).screens ∧
    (settled s).pointer = (softResetBlocks s).pointer ∧ (settled s).keyboard = (softResetBlocks s).keyboard ∧
    (settled s).matcher = (softResetBlocks s).matcher ∧ (settled s).power = (softResetBlocks s).power ∧
    (settled s).desk = (softResetBlocks s).desk ∧ (settled s).pending = s.pending := by
  simp [settled]

theorem softResetBlocks_settings (s : State) :
    (softResetBlocks s).screens.scenes = s.screens.scenes ∧ (softResetBlocks s).screens.startScene = s.screens.startScene ∧
    (softResetBlocks s).screens.linkLimit = s.screens.linkLimit ∧
    (softResetBlocks s).screens.powerValue = s.screens.powerValue ∧
    (softResetBlocks s).screens.powerScale = s.screens.powerScale := by
  have settings := softResetScreens_settings (softResetSync s)
  rw [softResetBlocks_screens]
  simpa only [ScreenController.settings, Prod.mk.injEq, softResetSync_leaves] using settings

/-- With no start scene and no record waiting, the soft reset ends with its flag. -/
theorem serve_applyStart {s : State} (replies : s.link.replies = []) (queue : s.link.queue = [])
    (start : s.screens.startScene = none) :
    serve ((applyStart s).setLink { (applyStart s).link with resetDue := false }) =
      s.setLink { s.link with resetDue := false } := by
  have applied : applyStart s = s := by
    unfold applyStart
    rw [start]
  rw [applied]
  unfold serve
  simp [replies, queue]

theorem softReset_eq {s : State} (queue : s.link.queue = []) (start : s.screens.startScene = none) : softReset s =
    (settled (s.setLink { s.link with replies := [] })).setLink { s.link with replies := [], resetDue := false } := by
  have link : (settled (s.setLink { s.link with replies := [] })).link = { s.link with replies := [] } := by simp
  have started : (settled (s.setLink { s.link with replies := [] })).screens.startScene = none := by
    simp [softResetBlocks_settings, start]
  unfold softReset
  dsimp only
  rw [← settled, serve_applyStart (by rw [link]) (by rw [link, queue]) started, link]

/-- The state a soft reset starts from: every reply is treated as sent (log entry 4). -/
def allSent (s : State) : State := s.fresh.setLink { s.link with replies := [] }

theorem exec_softReset {s : State} (queue : s.link.queue = []) (start : s.screens.startScene = none) :
    exec .softReset s = .next ((settled (allSent s)).setLink { s.link with replies := [], resetDue := false }) := by
  rw [exec_event .softReset s rfl]
  exact congrArg _ (softReset_eq (s := s.fresh) queue start)

/-! ### What is left, block by block -/

theorem channel_settled (s : State) (v : InputId) : (settled s).channel v = if (s.channel v).running then
    { state := .lost, running := true, lastEdge := none, window := [], average := none, lostTimer := none } else s.channel v := by
  have sync : (settled s).channel v = (softResetBlocks s).channel v := by simp [State.channel]
  rw [sync, channel_softResetBlocks]
  split
  · next running => simp [Channel.cleared, running]
  · rfl

theorem settled_inFlight (s : State) : (settled s).screens.inFlight = none := by
  simp [softResetBlocks_screens, softResetScreens_inFlight]

theorem settled_settings (s : State) :
    (settled s).screens.scenes = s.screens.scenes ∧ (settled s).screens.linkLimit = s.screens.linkLimit ∧
    (settled s).screens.powerValue = s.screens.powerValue ∧ (settled s).screens.powerScale = s.screens.powerScale := by
  simp [softResetBlocks_settings]

theorem screenRec_settled (s : State) (i : ScreenId) :
    (settled s).screenRec i = (s.screenRec i).afterReset (softResetSync s) := by
  rw [screenRec_of_screens (s := softResetBlocks s) (by simp), screenRec_softResetBlocks]

theorem ScreenRec.afterReset_of_unused (s : State) {r : ScreenRec} (h : r.state = .unused) : r.afterReset s = r := if_pos h

theorem ScreenRec.afterReset_of_used (s : State) {r : ScreenRec} (h : r.state ≠ .unused) :
    (r.afterReset s).state = (if r.current.isSome then .dark else .blank) ∧ (r.afterReset s).current = r.current ∧
    (r.afterReset s).waiting = none ∧ (r.afterReset s).linkTimer = none ∧ (r.afterReset s).powerTimer = none ∧
    (r.afterReset s).lockView = false := by
  simp [ScreenRec.afterReset, h]

theorem settled_pointer (s : State) :
    (settled s).pointer.rx = 0 ∧ (settled s).pointer.ry = 0 ∧ (settled s).pointer.push = none ∧
    (settled s).pointer.glideLock = false ∧ (settled s).pointer.lastInterval = none ∧
    (settled s).pointer.buttons = s.pointer.buttons ∧ (settled s).pointer.barrier = s.pointer.barrier ∧
    (settled s).pointer.swallow = s.pointer.swallow ||| s.pointer.buttons ∧
    ((settled s).pointer.t1, (settled s).pointer.t2, (settled s).pointer.t3) = (s.pointer.t1, s.pointer.t2, s.pointer.t3) ∧
    ((settled s).pointer.g0, (settled s).pointer.g1, (settled s).pointer.g2, (settled s).pointer.g3) =
      (s.pointer.g0, s.pointer.g1, s.pointer.g2, s.pointer.g3) := by
  obtain ⟨p, f, a, h⟩ := softResetBlocks_pointer s
  simp [h]

theorem settled_keyboard (s : State) :
    (settled s).keyboard.focus = 0 ∧ (settled s).keyboard.maps = s.keyboard.maps ∧
    (settled s).keyboard.stuckLimit = s.keyboard.stuckLimit ∧ (settled s).keyboard.lamps = s.keyboard.lamps ∧
    (settled s).keyboard.kbPort = s.keyboard.kbPort ∧ (settled s).keyboard.ptrPort = s.keyboard.ptrPort ∧
    (settled s).keyboard.held = s.keyboard.held.map HeldKey.suppress := by
  simp [softResetBlocks_keyboard]

theorem settled_matcher (s : State) : (settled s).matcher =
    { s.matcher with state := .idle, attempt := none, first := none, timer := none, slot := none } := by
  simp [softResetBlocks_matcher]

theorem settled_desk (s : State) :
    (settled s).desk = { s.desk with state := .active, idleStart := some s.now, window := none } := by
  simp [softResetBlocks_desk]

theorem lineRec_settled (s : State) (l : LineId) : (s.lineRec l).ResetTo ((settled s).lineRec l) :=
  (lineRec_softResetBlocks s l).of_follows ((steady_settled s).lines l)

theorem powerRec_settled (s : State) (c : Computer) : (settled s).powerRec c = (softResetBlocks s).powerRec c := by
  simp [State.powerRec]

theorem powerState_settled (s : State) (c : Computer) : (settled s).powerState c =
    if s.powerState c = .waking ∨ s.powerState c = .unresponsive then .asleep else s.powerState c := by
  rw [State.powerState, powerRec_settled, ← State.powerState, powerState_softResetBlocks]

theorem pulse_settled (s : State) (c : Computer) : ((settled s).powerRec c).pulse = none := by
  rw [powerRec_settled, powerRec_softResetBlocks, PowerRec.afterReset_pulse]

theorem powerRec_settled_of_waking {s : State} {c : Computer} (h : s.powerState c = .waking ∨ s.powerState c = .unresponsive) :
    ((settled s).powerRec c).attempt = 0 ∧ ((settled s).powerRec c).timer = none ∧
    ((settled s).powerRec c).method = none ∧ ((settled s).powerRec c).armed = true := by
  rw [powerRec_settled]
  exact powerRec_softResetBlocks_of_waking h

theorem port_settled (s : State) (c : Computer) :
    ((settled s).port c).observed = (s.port c).observed ∧ ((settled s).port c).permission = (s.port c).permission := by
  rw [(steady_settled s).observed, (steady_settled s).permission]
  exact port_softResetBlocks s c

theorem enabled_settled (s : State) (k : EventKind) : ((settled s).event k).enabled = (s.event k).enabled := by
  rw [(steady_settled s).enabled, enabled_softResetBlocks]

/-- Every event is cleared, and a save that was stopped is reported (R192, R197). -/
theorem isPending_settled {s : State} (agrees : WakeAgrees s) (k : EventKind) :
    ((settled s).event k).isPending = (decide (k = .profileDone) && s.profile.save.isSome) := by
  obtain ⟨fault, wake⟩ := levels_softResetBlocks agrees
  have member : k ∈ allKinds := by cases k <;> decide
  rw [settled, isPending_softResetSave, isPending_clearKinds fault wake allKinds member, Bool.false_or]
  simp

theorem settled_profile (s : State) : (s.profile.save = none → (settled s).profile = s.profile) ∧
    (s.profile.save ≠ none → (settled s).profile.state = .ready ∧ (settled s).profile.save = none ∧
      Raised (.profileDone .saveFailed) (settled s)) := by
  have profile : (clearKinds allKinds (softResetBlocks s)).profile = s.profile := by simp
  unfold settled
  constructor <;> intro h
  · rw [softResetSave_of_none (by rw [profile, h]), profile]
  · exact softResetSave_of_save (by rw [profile]; exact h)

/-! ### The statement -/

/-- Settles O7. The releases wake a computer that was ASLEEP or UNRESPONSIVE at most, and the Power Manager, acting after them, makes
it ASLEEP again (log entry 21); with no computer UNRESPONSIVE and no screen in FAULT then, every event is cleared. -/
theorem restartThenSoftReset : Obligations.RestartThenSoftReset := by
  unfold Obligations.RestartThenSoftReset
  refine ⟨fun s loaded => ?_, fun s queue start => ⟨_, exec_softReset queue start, ?_⟩⟩
  · have handled : handleRecord .restart s.fresh = (s.fresh.setLink { s.link with resetDue := true }, ⟨.ok, []⟩) :=
      if_neg loaded
    refine ⟨_, exec_answered (r := ⟨.ok, []⟩) rfl handled, rfl, rfl, fun p hp => ?_⟩
    cases p <;> first | rfl | simp at hp
  · obtain ⟨now, -, layout, -, -, -, -, -, -, -, pending⟩ := settled_keeps (allSent s)
    have channel := channel_settled (allSent s)
    have flight := settled_inFlight (allSent s)
    obtain ⟨scenes, limit, value, scale⟩ := settled_settings (allSent s)
    have screen := screenRec_settled (allSent s)
    obtain ⟨rx, ry, push, glide, interval, buttons, barrier, swallow, taps, glides⟩ := settled_pointer (allSent s)
    obtain ⟨keyFocus, maps, stuck, lamps, kb, ptr, held⟩ := settled_keyboard (allSent s)
    have matcher := settled_matcher (allSent s)
    have line := lineRec_settled (allSent s)
    have power := powerState_settled (allSent s)
    have pulse := pulse_settled (allSent s)
    have waking := fun c => powerRec_settled_of_waking (s := allSent s) (c := c)
    have port := port_settled (allSent s)
    have desk := settled_desk (allSent s)
    have enabled := enabled_settled (allSent s)
    have cleared := fun agrees => isPending_settled (s := allSent s) agrees
    obtain ⟨unsaved, saved⟩ := settled_profile (allSent s)
    generalize settled (allSent s) = t at *
    exact ⟨now, pending, rfl, layout, channel, flight, scenes, limit, value, scale,
      fun i h => (screen i).trans (ScreenRec.afterReset_of_unused _ h),
      fun i h => (screen i).symm ▸ ScreenRec.afterReset_of_used _ h,
      rx, ry, push, glide, interval, buttons, barrier, swallow, taps, glides,
      keyFocus, maps, stuck, lamps, kb, ptr, held, matcher,
      fun l => ⟨(line l).config, (line l).filtered, (line l).timer, (line l).pin, (line l).suppressed, (line l).driven⟩,
      fun c => ⟨power c, pulse c, waking c, port c⟩, desk, fun k => ⟨enabled k, fun agrees => cleared agrees.1 k⟩,
      unsaved, saved⟩

end Sys2Proof.Machine
end

section
/-!
PROOFS, sync channels: what an edge makes of a channel, how its change is recorded and reported, and what the Screen Controller makes
of a frame boundary and of a channel's change of state.
-/

set_option Elab.async false
namespace Sys2Proof.Machine
open Sys2Proof Sys2Proof.Safety

/-! ### The channel of an edge (R19 to R24) -/

theorem accepts_iff (c : Channel) (now : Nat) :
    c.accepts now = true ↔ c.running = true ∧ ∀ l, c.lastEdge = some l → 2000 ≤ now - l := by
  rw [Channel.accepts, Bool.and_eq_true, Option.all_eq_true]
  exact and_congr_right' (forall₂_congr fun l _ => decide_eq_true_iff)

theorem not_accepts {c : Channel} {now : Nat} (h : c.running = false ∨ ∃ l, c.lastEdge = some l ∧ now - l < 2000) :
    ¬c.accepts now = true := by
  rw [accepts_iff]
  rintro ⟨running, late⟩
  obtain stopped | ⟨l, last, early⟩ := h
  · rw [stopped] at running
    cases running
  · exact absurd early (Nat.not_lt.2 (late l last))

theorem accepts_of_last {c : Channel} {now l : Nat} (running : c.running = true) (last : c.lastEdge = some l)
    (late : 2000 ≤ now - l) : c.accepts now = true :=
  (accepts_iff c now).2 ⟨running, fun m hm => by rw [last] at hm; cases hm; exact late⟩

theorem validPeriod_iff (p : Nat) : validPeriod p = true ↔ 8000 ≤ p ∧ p ≤ 50000 := by
  simp [validPeriod]

theorem pushPeriod_eq_drop (p : Nat) {w : List Nat} (fits : w.length ≤ 4) :
    pushPeriod p w = (w ++ [p]).drop (w.length + 1 - 4) := by
  unfold pushPeriod
  split
  · next short => rw [Nat.sub_eq_zero_of_le (by omega), List.drop_zero]
  · next full =>
    rw [show w.length + 1 - 4 = 1 by omega, List.drop_append_of_le_length (by omega)]

theorem length_pushPeriod (p : Nat) (w : List Nat) :
    (pushPeriod p w).length = if w.length < 4 then w.length + 1 else w.length := by
  unfold pushPeriod
  split <;> simp
  omega

/-- The channel of an accepted edge before its period is looked at (R19). -/
def Channel.stamped (c : Channel) (now : Nat) : Channel := { c with lastEdge := some now, lostTimer := some ⟨now, 100000⟩ }

theorem edge_of_lost {c : Channel} {now : Nat} (lost : c.state = .lost) :
    c.edge now = { c.stamped now with state := .acquiring } := by
  simp [Channel.edge, Channel.measure, Channel.stamped, lost]

theorem edge_of_last {c : Channel} {now l : Nat} (known : c.state ≠ .lost) (last : c.lastEdge = some l) :
    c.edge now = if validPeriod (now - l) then (c.stamped now).addPeriod (now - l) else (c.stamped now).badPeriod := by
  cases hs : c.state <;> simp_all [Channel.edge, Channel.measure, Channel.stamped]

theorem addPeriod_of_short {c : Channel} (p : Nat) (short : c.window.length < 3) :
    c.addPeriod p = { c with window := pushPeriod p c.window } := by
  have few : (pushPeriod p c.window).length ≠ 4 := by
    rw [length_pushPeriod]
    split <;> omega
  simp [Channel.addPeriod, few]

theorem addPeriod_of_full {c : Channel} (p : Nat) (many : 3 ≤ c.window.length) (fits : c.window.length ≤ 4) :
    c.addPeriod p =
      { c with window := pushPeriod p c.window, state := .alive, average := some (meanOf (pushPeriod p c.window)) } := by
  have four : (pushPeriod p c.window).length = 4 := by
    rw [length_pushPeriod]
    split <;> omega
  simp [Channel.addPeriod, four]

/-- A period is added to the window, and may change the state and the average alone besides (R21, R23). -/
theorem addPeriod_keeps (c : Channel) (p : Nat) : (c.addPeriod p).lastEdge = c.lastEdge ∧
    (c.addPeriod p).lostTimer = c.lostTimer ∧ (c.addPeriod p).running = c.running ∧
    (c.addPeriod p).window = pushPeriod p c.window ∧ (c.state = .alive → (c.addPeriod p).state = .alive) := by
  simp only [Channel.addPeriod]
  split <;> simp

/-- Every accepted edge is the new last edge and restarts the lost timer, and an ALIVE channel stays ALIVE (R19, R22, R24). -/
theorem edge_keeps {c : Channel} {now l : Nat} (known : c.state ≠ .lost) (last : c.lastEdge = some l) :
    (c.edge now).lastEdge = some now ∧ (c.edge now).lostTimer = some ⟨now, 100000⟩ ∧ (c.edge now).running = c.running ∧
    (c.state = .alive → (c.edge now).state = .alive) := by
  rw [edge_of_last known last]
  split
  · obtain ⟨edge, timer, running, -, alive⟩ := addPeriod_keeps (c.stamped now) (now - l)
    exact ⟨edge, timer, running, alive⟩
  · exact ⟨rfl, rfl, rfl, id⟩

theorem edge_of_invalid {c : Channel} {now l : Nat} (known : c.state ≠ .lost) (last : c.lastEdge = some l)
    (invalid : now - l < 8000 ∨ 50000 < now - l) : c.edge now = { c.stamped now with window := [] } := by
  rw [edge_of_last known last, if_neg (by rw [validPeriod_iff]; omega)]
  rfl

theorem edge_of_valid {c : Channel} {now l : Nat} (known : c.state ≠ .lost) (last : c.lastEdge = some l)
    (above : 8000 ≤ now - l) (below : now - l ≤ 50000) : c.edge now = (c.stamped now).addPeriod (now - l) := by
  rw [edge_of_last known last, if_pos ((validPeriod_iff _).2 ⟨above, below⟩)]

/-- A valid period fills the window, and the fourth makes the channel ALIVE with their mean (R21, R23, R24). -/
theorem edge_measures {c : Channel} {now l : Nat} (agree : ChannelAgrees c) (known : c.state ≠ .lost)
    (last : c.lastEdge = some l) (above : 8000 ≤ now - l) (below : now - l ≤ 50000) :
    (c.edge now).window = (c.window ++ [now - l]).drop (c.window.length + 1 - 4) ∧
    (c.window.length < 3 → (c.edge now).state = c.state ∧ (c.edge now).average = c.average) ∧
    (3 ≤ c.window.length → (c.edge now).state = .alive ∧ (c.edge now).average = some (((c.edge now).window.sum + 2) / 4)) := by
  obtain ⟨-, fits, -⟩ := agree
  obtain ⟨-, -, -, window, -⟩ := addPeriod_keeps (c.stamped now) (now - l)
  rw [edge_of_valid known last above below]
  refine ⟨window.trans (pushPeriod_eq_drop _ fits), fun short => ?_, fun many => ?_⟩
  · rw [addPeriod_of_short (c := c.stamped now) _ short]
    exact ⟨rfl, rfl⟩
  · rw [addPeriod_of_full (c := c.stamped now) _ many fits]
    exact ⟨rfl, rfl⟩

/-- The fourth valid period brings an ACQUIRING channel to ALIVE (R24). -/
theorem edge_alive {c : Channel} {now l : Nat} (acquiring : c.state = .acquiring) (last : c.lastEdge = some l)
    (three : c.window.length = 3) (above : 8000 ≤ now - l) (below : now - l ≤ 50000) : (c.edge now).state = .alive := by
  have stamped : (c.stamped now).window.length = 3 := three
  rw [edge_of_valid (by rw [acquiring]; decide) last above below, addPeriod_of_full _ (by omega) (by omega)]

/-! ### The channel is recorded, and a change of its state reported (R27) -/

/-- A channel's new record, with SYNC_CHANGE if its state has changed: the Sync Monitor's part, before the screens are told. -/
def recorded (v : InputId) (c : Channel) (s : State) : State := reportSync (s.channel v).state v (s.setChannel v c)

theorem channel_recorded (v u : InputId) (c : Channel) (s : State) :
    (recorded v c s).channel u = if v = u then c else s.channel u := by
  rw [recorded, channel_reportSync, State.channel_setChannel]

@[simp] theorem recorded_leaves (v : InputId) (c : Channel) (s : State) :
    (recorded v c s).now = s.now ∧ (recorded v c s).layout = s.layout ∧ (recorded v c s).screens = s.screens ∧
    (recorded v c s).keyboard = s.keyboard := by
  simp [recorded]

theorem screenRec_recorded (v : InputId) (c : Channel) (s : State) (i : ScreenId) :
    (recorded v c s).screenRec i = s.screenRec i := screenRec_of_screens (by simp) i

theorem binding_recorded (v u : InputId) (c : Channel) (s : State) : (recorded v c s).binding u = s.binding u := by
  simp [State.binding]

theorem linkTimer_recorded (v : InputId) (c : Channel) (s : State) : (recorded v c s).linkTimer = s.linkTimer := by
  simp [State.linkTimer, State.timer]

theorem raised_recorded {v : InputId} {c : Channel} {s : State} (changed : c.state ≠ (s.channel v).state) :
    Raised (.syncChange v) (recorded v c s) := by
  simp [recorded, reportSync, changed, Raised, Event.kind]

theorem event_recorded {v : InputId} {c : Channel} {s : State} (same : c.state = (s.channel v).state) (k : EventKind) :
    (recorded v c s).event k = s.event k := by
  simp [recorded, reportSync, same, State.event]

theorem headState_of_binding {s : State} (agree : BindingsAgree s) {v : InputId} {h : Head} (hb : s.binding v = some h) :
    s.headState h = (s.channel v).state := by
  simp only [State.headState, headInput_of_binding agree hb]

/-- With the channel recorded, the head bound to the input has the channel's new state (R13). -/
theorem headAlive_recorded {s : State} (agree : BindingsAgree s) {v : InputId} {h : Head} (hb : s.binding v = some h)
    (c : Channel) : (recorded v c s).headAlive h = (c.state == .alive) := by
  have input : (recorded v c s).headInput h = some v :=
    (headInput_of_layout (by simp) h).trans (headInput_of_binding agree hb)
  simp [State.headAlive, State.headState, input, channel_recorded]

/-! ### A frame boundary (R41) -/

/-- A record whose pending source, if it is the head, is taken at the head's frame boundary (R41). -/
def takenAt (s : State) (h : Head) (r : ScreenRec) : ScreenRec :=
  if r.waiting = some h then followed s { r with current := some h, waiting := none } else r

/-- One screen at the frame boundary of a head. -/
def takeAt (h : Head) (i : ScreenId) (s : State) : State :=
  if (s.screenRec i).waiting = some h then takeSource i (some h) s else s

theorem frameBoundary_of_bound {v : InputId} {h : Head} {s : State} (hb : s.binding v = some h) :
    frameBoundary v s = onScreens (eachScreen (takeAt h)) s := by
  simp only [frameBoundary, hb]
  rfl

theorem frameBoundary_of_unbound {v : InputId} {s : State} (hb : s.binding v = none) : frameBoundary v s = s := by
  simp only [frameBoundary, hb]

theorem context_takeAt (h : Head) (i : ScreenId) (s : State) : SameContext s (takeAt h i s) := by
  unfold takeAt
  split
  · exact context_takeSource i _ s
  · exact .refl s

theorem screenRec_takeAt (h : Head) (i j : ScreenId) (s : State) :
    (takeAt h i s).screenRec j = if i = j then takenAt s h (s.screenRec i) else s.screenRec j := by
  simp only [takeAt, takenAt]
  split
  · exact screenRec_takeSource i j _ s
  · split
    · next hij => rw [hij]
    · rfl

theorem screenRec_frameBoundary {v : InputId} {h : Head} {s : State} (hb : s.binding v = some h) (i : ScreenId) :
    (frameBoundary v s).screenRec i = takenAt s h (s.screenRec i) := by
  rw [frameBoundary_of_bound hb, screenRec_onScreens]
  exact screenRec_each (g := fun s _ => takenAt s h) (context_takeAt h) (screenRec_takeAt h)
    (fun s t c _ r => by simp only [takenAt, followed_of_context c]) s i

/-! ### A change of a channel's state (R26) -/

theorem channelMoved_of_bound {v : InputId} {h : Head} {s : State} (hb : s.binding v = some h) (b : Bool) :
    channelMoved b v s = onScreens (movedHead b (some h)) s := by
  simp only [channelMoved, hb]
  rfl

theorem channelMoved_of_unbound {v : InputId} {s : State} (hb : s.binding v = none) (b : Bool) : channelMoved b v s = s := by
  simp only [channelMoved, hb]

theorem screenRec_channelMoved {v : InputId} {h : Head} {s : State} (hb : s.binding v = some h) (b : Bool) (i : ScreenId) :
    (channelMoved b v s).screenRec i = movedFor s b (some h) (s.screenRec i) := by
  rw [channelMoved_of_bound hb, screenRec_onScreens, screenRec_movedHead]

/-! ### What the screens leave when they are told -/

@[simp] theorem frameBoundary_keyboard (v : InputId) (s : State) : (frameBoundary v s).keyboard = s.keyboard := by
  cases hb : s.binding v with
  | none => rw [frameBoundary_of_unbound hb]
  | some h =>
    rw [frameBoundary_of_bound hb]
    exact onScreens_keyboard _ (eachScreen_leaves _ _ fun i s => by unfold takeAt; split <;> simp) s

@[simp] theorem channelMoved_keyboard (b : Bool) (v : InputId) (s : State) : (channelMoved b v s).keyboard = s.keyboard := by
  cases hb : s.binding v with
  | none => rw [channelMoved_of_unbound hb]
  | some h =>
    rw [channelMoved_of_bound hb]
    exact onScreens_keyboard _ (fun s => by simp) s

theorem event_frameBoundary {k : EventKind} (hk : k ∉ screenKinds) (hn : k ∉ noticeKinds) (v : InputId) (s : State) :
    (frameBoundary v s).event k = s.event k := by
  cases hb : s.binding v with
  | none => rw [frameBoundary_of_unbound hb]
  | some h =>
    rw [frameBoundary_of_bound hb,
      onScreens_reads (fun s => s.event k) _ (fun i s => event_sourceChanged i s k hn) (event_settleAll hk)]
    refine eachScreen_leaves (fun s => s.event k) _ (fun i s => ?_) s
    unfold takeAt
    split
    · exact event_takeSource hk i _ s
    · rfl

theorem event_channelMoved {k : EventKind} (hk : k ∉ screenKinds) (hn : k ∉ noticeKinds) (b : Bool) (v : InputId) (s : State) :
    (channelMoved b v s).event k = s.event k := by
  cases hb : s.binding v with
  | none => rw [channelMoved_of_unbound hb]
  | some h =>
    rw [channelMoved_of_bound hb,
      onScreens_reads (fun s => s.event k) _ (fun i s => event_sourceChanged i s k hn) (event_settleAll hk), event_movedHead hk]

/-! ### SCREEN_STATE when a head becomes ALIVE (R38, R39) -/

theorem pending_raise {k : EventKind} (e : Event) {s : State} (h : e.kind = k ∨ (s.event k).isPending = true) :
    ((raise e s).event k).isPending = true := by
  rw [event_raise]
  split
  · rfl
  · next ne => exact h.resolve_left ne

/-- A change of a screen's state makes SCREEN_STATE pending, and a pending SCREEN_STATE stays pending. -/
theorem screenState_enterScreen {i : ScreenId} {st : ScreenState} {s : State}
    (h : (s.screenRec i).state ≠ st ∨ (s.event .screenState).isPending = true) :
    ((enterScreen i st s).event .screenState).isPending = true := by
  simp only [enterScreen]
  split
  · next same => exact h.resolve_left fun changed => changed same
  · split
    · exact pending_raise _ (.inr (pending_raise _ (.inl rfl)))
    · exact pending_raise _ (.inl rfl)

theorem screenState_headRises {h : Head} {i : ScreenId} {s : State}
    (rises : ((s.screenRec i).current = some h ∧ (s.screenRec i).state = .dark) ∨ (s.event .screenState).isPending = true) :
    ((headRises h i s).event .screenState).isPending = true := by
  simp only [headRises]
  split
  · next dark =>
    have linking : ((enterScreen i .linking (startLink i s)).event .screenState).isPending = true :=
      screenState_enterScreen (.inl (by simp [dark.2]))
    unfold linkUp
    split
    · exact screenState_enterScreen (.inr linking)
    · exact linking
  · next still => exact rises.resolve_left still

theorem screenState_foldl_headRises {h : Head} {i : ScreenId} (l : List ScreenId) {s : State}
    (rises : (i ∈ l ∧ (s.screenRec i).current = some h ∧ (s.screenRec i).state = .dark) ∨
      (s.event .screenState).isPending = true) :
    ((l.foldl (fun s i => headRises h i s) s).event .screenState).isPending = true := by
  induction l generalizing s with
  | nil => exact rises.resolve_left fun ⟨no, _⟩ => absurd no List.not_mem_nil
  | cons j l ih =>
    refine ih ?_
    obtain ⟨member, dark⟩ | pending := rises
    · by_cases here : j = i
      · exact .inr (screenState_headRises (.inl (here ▸ dark)))
      · refine .inl ⟨(List.mem_cons.1 member).resolve_left (Ne.symm here), ?_⟩
        rwa [screenRec_headRises, if_neg here]
    · exact .inr (screenState_headRises (.inr pending))

theorem screenState_settleAll (s : State) : (settleAll s).event .screenState = s.event .screenState := by
  simp only [settleAll]
  repeat' split
  · rfl
  · exact event_raise_of_ne _ _ _ (by simp [Event.kind])
  · rfl

/-- A DARK screen on a head that has become ALIVE changes its state, and SCREEN_STATE says so (R38, R39). -/
theorem screenState_channelMoved {v : InputId} {h : Head} {i : ScreenId} {s : State} (hb : s.binding v = some h)
    (up : s.headAlive h = true) (current : (s.screenRec i).current = some h) (dark : (s.screenRec i).state = .dark) :
    ((channelMoved false v s).event .screenState).isPending = true := by
  have rising : movedHead false (some h) s = eachScreen (headRises h) s := by simp [movedHead, headMoved, up]
  rw [channelMoved_of_bound hb, onScreens_reads (fun s => s.event .screenState) _
    (fun i s => event_sourceChanged i s _ (by decide)) screenState_settleAll, rising]
  exact screenState_foldl_headRises allScreens (.inl ⟨mem_allScreens i, current, dark⟩)

end Sys2Proof.Machine
end

section
/-!
PROOFS, edges and the lost timer (O23): what an edge and an expiry of the lost timer leave of the channels, of SYNC_CHANGE and of the
screens of the channel's head.
-/

set_option Elab.async false
namespace Sys2Proof.Machine
open Sys2Proof Sys2Proof.Safety

/-! ### An edge (R19 to R27) -/

theorem syncEdge_ignored {v : InputId} {s : State} (h : ¬(s.channel v).accepts s.now = true) : syncEdge v s = s := if_neg h

theorem syncEdge_accepted {v : InputId} {s : State} (h : (s.channel v).accepts s.now = true) : syncEdge v s =
    if (s.channel v).state = .alive then frameBoundary v (recorded v ((s.channel v).edge s.now) s)
    else channelMoved false v (recorded v ((s.channel v).edge s.now) s) := if_pos h

@[simp] theorem syncEdge_keyboard (v : InputId) (s : State) : (syncEdge v s).keyboard = s.keyboard := by
  by_cases h : (s.channel v).accepts s.now = true
  · rw [syncEdge_accepted h]
    split <;> simp
  · rw [syncEdge_ignored h]

section
variable {v : InputId} {s : State} (accepted : (s.channel v).accepts s.now = true)
include accepted

theorem channel_syncEdge (u : InputId) :
    (syncEdge v s).channel u = if v = u then (s.channel v).edge s.now else s.channel u := by
  rw [← channel_recorded, syncEdge_accepted accepted]
  split <;> simp [State.channel]

theorem syncChange_syncEdge :
    (syncEdge v s).event .syncChange = (recorded v ((s.channel v).edge s.now) s).event .syncChange := by
  rw [syncEdge_accepted accepted]
  split
  · exact event_frameBoundary syncChange_not_screenKind syncChange_not_noticeKind v _
  · exact event_channelMoved syncChange_not_screenKind syncChange_not_noticeKind false v _

theorem raised_syncEdge (changed : ((s.channel v).edge s.now).state ≠ (s.channel v).state) :
    Raised (.syncChange v) (syncEdge v s) := by
  have raised := raised_recorded changed
  unfold Raised at raised ⊢
  rwa [show (Event.syncChange v).kind = .syncChange from rfl, ← syncChange_syncEdge accepted] at raised

end

/-- A screen that waits for the head of an ALIVE channel takes it at the edge: the input is selected, and it links (R36, R41). -/
theorem screenRec_syncEdge_taken {v : InputId} {l : Nat} {h : Head} {i : ScreenId} {s : State} (agree : BindingsAgree s)
    (accepted : (s.channel v).accepts s.now = true) (alive : (s.channel v).state = .alive)
    (last : (s.channel v).lastEdge = some l) (hb : s.binding v = some h) (waiting : (s.screenRec i).waiting = some h) :
    (syncEdge v s).screenRec i =
      { (s.screenRec i) with
        state := .linking, current := some h, waiting := none, lockView := false, linkTimer := some s.linkTimer,
        powerTimer := none, selected := some (.input v) } := by
  obtain ⟨-, -, -, still⟩ := edge_keeps (now := s.now) (by rw [alive]; decide) last
  have input : (recorded v ((s.channel v).edge s.now) s).selectionFor (some h) = .input v :=
    (selectionFor_of_layout (by simp) _).trans (selectionFor_bound (headInput_of_binding agree hb))
  have up := headAlive_recorded agree hb ((s.channel v).edge s.now)
  rw [syncEdge_accepted accepted, if_pos alive, screenRec_frameBoundary ((binding_recorded v v _ s).trans hb),
    screenRec_recorded]
  simp [takenAt, waiting, followed, input, up, still alive, linkTimer_recorded]

/-- A channel that becomes ALIVE raises its head on every screen, and no other screen moves (R26, R38). -/
theorem screenRec_syncEdge_risen {v : InputId} {h : Head} {s : State} (agree : BindingsAgree s)
    (accepted : (s.channel v).accepts s.now = true) (before : (s.channel v).state ≠ .alive)
    (after : ((s.channel v).edge s.now).state = .alive) (hb : s.binding v = some h) (i : ScreenId) :
    (syncEdge v s).screenRec i = risen s h (s.screenRec i) := by
  have up := headAlive_recorded agree hb ((s.channel v).edge s.now)
  rw [syncEdge_accepted accepted, if_neg before, screenRec_channelMoved ((binding_recorded v v _ s).trans hb),
    screenRec_recorded]
  simp [movedFor, up, after, risen, linkTimer_recorded]

/-- A DARK screen on a head that rises shows at once with its lock present, and links without it (R34, R38). -/
theorem risen_of_dark {h : Head} {r : ScreenRec} (s : State) (current : r.current = some h) (dark : r.state = .dark) :
    risen s h r = if r.lockView then { r with state := .showing, linkTimer := none }
      else { r with state := .linking, linkTimer := some s.linkTimer } := by
  rw [risen, if_pos ⟨current, dark⟩]
  split <;> rfl

theorem risen_of_other {h : Head} {r : ScreenRec} (s : State) (other : r.current ≠ some h ∨ r.state ≠ .dark) :
    risen s h r = r := if_neg fun ⟨current, dark⟩ => other.elim (absurd current) (absurd dark)

theorem screenState_syncEdge {v : InputId} {h : Head} {i : ScreenId} {s : State} (agree : BindingsAgree s)
    (accepted : (s.channel v).accepts s.now = true) (before : (s.channel v).state ≠ .alive)
    (after : ((s.channel v).edge s.now).state = .alive) (hb : s.binding v = some h)
    (current : (s.screenRec i).current = some h) (dark : (s.screenRec i).state = .dark) :
    ((syncEdge v s).event .screenState).isPending = true := by
  rw [syncEdge_accepted accepted, if_neg before]
  exact screenState_channelMoved ((binding_recorded v v _ s).trans hb) (by rw [headAlive_recorded agree hb, after]; rfl)
    (by rw [screenRec_recorded, current]) (by rw [screenRec_recorded, dark])

/-! ### The lost timer (R25) -/

/-- The Sync Monitor's part of an expiry of the lost timer. -/
def lapsed (v : InputId) (tm : Timer) (s : State) : State := recorded v (s.channel v).cleared (s.reach tm)

theorem lostExpiry_running {v : InputId} {tm : Timer} {s : State} (timer : (s.channel v).lostTimer = some tm) :
    lostExpiry v s = channelMoved ((s.channel v).state == .alive) v (lapsed v tm s) := by
  simp only [lostExpiry, timer]
  rfl

theorem lostExpiry_stopped {v : InputId} {s : State} (timer : (s.channel v).lostTimer = none) : lostExpiry v s = s := by
  simp only [lostExpiry, timer]

@[simp] theorem lostExpiry_keyboard (v : InputId) (s : State) : (lostExpiry v s).keyboard = s.keyboard := by
  cases timer : (s.channel v).lostTimer with
  | none => rw [lostExpiry_stopped timer]
  | some tm => rw [lostExpiry_running timer]; simp [lapsed]

theorem lostExpiry_now {v : InputId} {tm : Timer} {s : State} (timer : (s.channel v).lostTimer = some tm) :
    (lostExpiry v s).now = max s.now tm.due := by
  rw [lostExpiry_running timer]
  simp [lapsed, State.reach, State.advanceTo]

theorem channel_lostExpiry {v : InputId} {tm : Timer} {s : State} (timer : (s.channel v).lostTimer = some tm) (u : InputId) :
    (lostExpiry v s).channel u = if v = u then (s.channel v).cleared else s.channel u := by
  rw [← show (s.reach tm).channel u = s.channel u from rfl, ← channel_recorded, lostExpiry_running timer]
  simp [State.channel, lapsed]

/-- A channel whose lost timer runs is bound and out of LOST (R18). -/
theorem running_of_lostTimer {c : Channel} {tm : Timer} (agree : ChannelAgrees c) (timer : c.lostTimer = some tm) :
    c.running = true ∧ c.state ≠ .lost := by
  obtain ⟨-, -, h⟩ := agree
  cases hs : c.state <;> simp_all

theorem raised_lostExpiry {v : InputId} {tm : Timer} {s : State} (timer : (s.channel v).lostTimer = some tm)
    (known : (s.channel v).state ≠ .lost) : Raised (.syncChange v) (lostExpiry v s) := by
  have raised : Raised (.syncChange v) (lapsed v tm s) := raised_recorded (s := s.reach tm) (Ne.symm known)
  unfold Raised at raised ⊢
  rwa [lostExpiry_running timer, show (Event.syncChange v).kind = .syncChange from rfl,
    event_channelMoved syncChange_not_screenKind syncChange_not_noticeKind]

/-- The head of a channel that was ALIVE leaves ALIVE on every screen (R26, R38, R42). -/
theorem screenRec_lostExpiry {v : InputId} {tm : Timer} {h : Head} {s : State} (agree : BindingsAgree s)
    (timer : (s.channel v).lostTimer = some tm) (hb : s.binding v = some h) (alive : s.headState h = .alive) (i : ScreenId) :
    (lostExpiry v s).screenRec i = fallen (lapsed v tm s) h (s.screenRec i) := by
  have down : (lapsed v tm s).headAlive h = false := headAlive_recorded (s := s.reach tm) agree hb _
  have bindings : (lapsed v tm s).binding v = some h := (binding_recorded v v _ (s.reach tm)).trans hb
  have same : (lapsed v tm s).screenRec i = s.screenRec i := screenRec_recorded v _ (s.reach tm) i
  rw [headState_of_binding agree hb] at alive
  rw [lostExpiry_running timer, screenRec_channelMoved bindings, same]
  simp [movedFor, down, alive]

/-- Without its input's signal a screen that took the head is DARK (R36, R42). -/
theorem followed_lapsed {v : InputId} {h : Head} {s : State} (agree : BindingsAgree s) (hb : s.binding v = some h) (tm : Timer)
    (r : ScreenRec) (current : r.current = some h) : (followed (lapsed v tm s) r).state = .dark := by
  have down : (lapsed v tm s).headAlive h = false := headAlive_recorded (s := s.reach tm) agree hb _
  simp [followed, current, down]

/-! ### The statement -/

/-- An edge at a time, and what it may change (R26, R27). -/
theorem onlyChanges_syncEdge (v : InputId) (t : Nat) (s : State) :
    OnlyChanges [.now, .sync, .status, .lines, .screens, .pointer, .ports, .power] s (syncEdge v (s.fresh.advanceTo t)) := by
  intro p hp
  cases p <;> simp [Part.same, State.fresh, State.advanceTo] at hp ⊢

theorem onlyChanges_lostExpiry (v : InputId) (s : State) :
    OnlyChanges [.now, .sync, .status, .lines, .screens, .pointer, .ports, .power] s (lostExpiry v s.fresh) := by
  intro p hp
  cases p <;> simp [Part.same, State.fresh] at hp ⊢

/-- Settles O23: the channel alone decides what an edge or an expiry is, and the screens of its head follow. -/
theorem syncEdgesAreJudged : Obligations.SyncEdgesAreJudged := by
  refine ⟨fun v t0 s ignored => ?_, fun v t0 s running lost late => ?_, fun v t0 l s agree running known last late => ?_,
    fun v s timer => ?_, fun v tm s agree timer => ?_,
    fun v t0 l h i s agree running acquiring last three above below hb current dark => ?_⟩
  · refine ⟨_, exec_event _ s rfl, ?_⟩
    change (syncEdge v (s.fresh.advanceTo t0)).now = _ ∧ OnlyChanges _ _ (syncEdge v (s.fresh.advanceTo t0))
    rw [syncEdge_ignored (s := s.fresh.advanceTo t0) (not_accepts ignored)]
    exact ⟨rfl, fun p hp => by cases p <;> simp [Part.same, State.fresh, State.advanceTo] at hp ⊢⟩
  · have accepted := (accepts_iff (s.channel v) (max s.now t0)).2 ⟨running, late⟩
    have channel := channel_syncEdge (s := s.fresh.advanceTo t0) accepted
    have edge := edge_of_lost (now := max s.now t0) lost
    refine ⟨_, exec_event _ s rfl, (syncEdge_leaves v _).1, ?_, fun u hu => ?_, ?_, onlyChanges_syncEdge v t0 s⟩
    · exact (channel v).trans ((if_pos rfl).trans edge)
    · exact (channel u).trans (if_neg (Ne.symm hu))
    · refine raised_syncEdge (s := s.fresh.advanceTo t0) accepted fun same => ?_
      have acquiring : ((s.channel v).edge (max s.now t0)).state = .acquiring := by rw [edge]
      cases acquiring.symm.trans (same.trans lost)
  · have accepted := accepts_of_last running last late
    have channel := channel_syncEdge (s := s.fresh.advanceTo t0) accepted
    have here : (syncEdge v (s.fresh.advanceTo t0)).channel v = (s.channel v).edge (max s.now t0) := (channel v).trans (if_pos rfl)
    obtain ⟨edge, timer, runs, -⟩ := edge_keeps (now := max s.now t0) known last
    refine ⟨_, exec_event _ s rfl, (syncEdge_leaves v _).1, ?_⟩
    change ((syncEdge v (s.fresh.advanceTo t0)).channel v).lastEdge = _ ∧ _
    rw [show effect (.syncEdge v t0) s.fresh = syncEdge v (s.fresh.advanceTo t0) from rfl, here]
    refine ⟨edge, timer, runs.trans running, fun u hu => (channel u).trans (if_neg (Ne.symm hu)), fun invalid => ?_,
      edge_measures agree known last, raised_syncEdge (s := s.fresh.advanceTo t0) accepted, fun same => ?_,
      fun alive bindings h i hb waiting => ?_, onlyChanges_syncEdge v t0 s⟩
    · rw [edge_of_invalid known last invalid]
      exact ⟨rfl, rfl, rfl⟩
    · exact (syncChange_syncEdge (s := s.fresh.advanceTo t0) accepted).trans (event_recorded (s := s.fresh.advanceTo t0) same _)
    · rw [screenRec_syncEdge_taken (s := s.fresh.advanceTo t0) bindings accepted alive last hb waiting]
      exact ⟨rfl, rfl, rfl, rfl, rfl⟩
  · refine ⟨_, exec_event _ s rfl, ?_⟩
    rw [show effect (.lostTimerExpiry v) s.fresh = s.fresh from lostExpiry_stopped (s := s.fresh) timer]
    exact onlyChanges_fresh s
  · obtain ⟨bindings, channels, screens⟩ := agree
    obtain ⟨running, known⟩ := running_of_lostTimer (channels v).1 timer
    have channel := channel_lostExpiry (s := s.fresh) timer
    have shown {h : Head} {i : ScreenId} (hb : s.binding v = some h) (alive : s.headState h = .alive) :=
      screenRec_lostExpiry (s := s.fresh) bindings timer hb alive i
    refine ⟨_, exec_event _ s rfl, lostExpiry_now (s := s.fresh) timer, ?_, fun u hu => ?_,
      raised_lostExpiry (s := s.fresh) timer known, fun h i hb current notWaiting live => ?_, fun h i hb waiting => ?_,
      onlyChanges_lostExpiry v s⟩
    · refine (channel v).trans ((if_pos rfl).trans ?_)
      rw [← running]
      rfl
    · exact (channel u).trans (if_neg (Ne.symm hu))
    · obtain ⟨-, -, standsOn, -⟩ := screens i
      obtain ⟨g, hg, alive⟩ := standsOn live
      cases current.symm.trans hg
      exact (shown hb alive).trans ((if_neg notWaiting).trans (if_pos ⟨current, live⟩))
    · have after := (shown hb (alive_of_waiting (screens i) waiting)).trans (if_pos waiting)
      have darkened := followed_lapsed (s := s.fresh) bindings hb tm
        { (s.screenRec i) with current := some h, waiting := none } rfl
      rw [show effect (.lostTimerExpiry v) s.fresh = lostExpiry v s.fresh from rfl, after]
      exact ⟨rfl, rfl, darkened⟩
  · have accepted := accepts_of_last running last (Nat.le_trans (by decide) above)
    have before : (s.channel v).state ≠ .alive := by rw [acquiring]; decide
    have after := edge_alive acquiring last three above below
    have risen := screenRec_syncEdge_risen (s := s.fresh.advanceTo t0) agree accepted before after hb
    refine ⟨_, exec_event _ s rfl, ?_, ?_, (risen i).trans (risen_of_dark _ current dark),
      fun j other => (risen j).trans (risen_of_other _ other), ?_⟩
    · exact (congrArg Channel.state ((channel_syncEdge (s := s.fresh.advanceTo t0) accepted v).trans (if_pos rfl))).trans after
    · exact raised_syncEdge (s := s.fresh.advanceTo t0) accepted fun same => before (same.symm.trans after)
    · exact screenState_syncEdge (s := s.fresh.advanceTo t0) agree accepted before after hb current dark

end Sys2Proof.Machine
end

section
/-!
PROOFS, reads (O35): what the GET records answer, part by part, in the form the statement gives.
-/

set_option Elab.async false
namespace Sys2Proof.Machine
open Sys2Proof Sys2Proof.Safety

/-! ### Records served unless LOADING -/

/-- A record past its BUSY step is dealt with as its owner judges (R194). -/
theorem handled_loaded {i : Instr} {s u : State} {r : Reply} {j : State → Judged}
    (hh : handleRecord i s.fresh = whenLoaded j s.fresh) (loaded : s.profile.state ≠ .loading) (hj : j s.fresh = .ok (u, r)) :
    handleRecord i s.fresh = (u, r) := by
  rw [hh, whenLoaded_served j s.fresh loaded, hj]
  rfl

theorem exec_loaded_read {i : Instr} {k : Nat} {b : List Nat} {s : State} {j : State → Judged} {body : List Byte}
    (reply : List Byte) (hr : i.record = some (k, b)) (hh : handleRecord i s.fresh = whenLoaded j s.fresh)
    (loaded : s.profile.state ≠ .loading) (hj : j s.fresh = ok s.fresh reply) (hb : reply = body) :
    ∃ t, exec i s = .next t ∧ OnlyChanges [.link] s t ∧ Answers k .ok body s t := by
  subst hb
  obtain ⟨t, ht, answer, same⟩ := exec_read hr (handled_loaded hh loaded hj)
  exact ⟨t, ht, same, answer⟩

theorem exec_loaded_refused {i : Instr} {k : Nat} {b : List Nat} {s : State} {r : Result} {j : State → Judged}
    (hr : i.record = some (k, b)) (hh : handleRecord i s.fresh = whenLoaded j s.fresh) (loaded : s.profile.state ≠ .loading)
    (hj : j s.fresh = .error r) : ∃ t, exec i s = .next t ∧ Answers k r [] s t ∧ OnlyChanges [.link] s t := by
  refine exec_refused hr ?_
  rw [hh, whenLoaded_served j s.fresh loaded, hj]
  rfl

/-! ### Flags, levels and times as bytes (R198, R204) -/

theorem flag_eq_ite {b : Bool} {p : Prop} [Decidable p] (h : b = true ↔ p) : flag b = if p then 1 else 0 := if_congr h rfl rfl

theorem flightFlags_eq : ∀ a b : Bool, flightFlags a b = byte (a.toNat + 2 * b.toNat) := by decide

theorem flightBytes_eq (x : Option InFlight) : flightBytes x = match x with
    | none => [0xFF, 0, 0]
    | some g => [byte g.scene, g.outstanding, byte (g.incomplete.toNat + 2 * g.superseded.toNat)] := by
  cases x with
  | none => rfl
  | some g => simp only [flightBytes, flightFlags_eq]

/-- The four flags of a held-key record are the bits of one byte (R204). -/
theorem heldFlags_eq : ∀ a b c d : Bool, flag a ||| flag b <<< 1 ||| flag c <<< 2 ||| flag d <<< 3 =
    byte (a.toNat + 2 * b.toNat + 4 * c.toNat + 8 * d.toNat) := by
  decide

theorem heldBytes_eq (now : Nat) (k : HeldKey) : heldBytes now k = [byte k.code] ++
    word (min ((now - k.pressed) / 1000) 65535) ++
      [byte (k.suppressed.toNat + 2 * k.swallowed.toNat + 4 * k.stuck.toNat + 8 * k.deferred.toNat)] := by
  rw [heldBytes, heldFlags_eq]
  rfl

theorem optLevel_eq (x : Option Bool) : optLevel x = match x with
    | none => 0xFF
    | some true => 1
    | some false => 0 := by
  obtain _ | _ | _ := x <;> rfl

/-- The values of a table, in the order of its numbers. -/
theorem toList_eq_map {α : Type} {n : Nat} {l : List (Fin n)} (hl : l = List.finRange n) (v : Vector α n) :
    v.toList = l.map fun i => v[i] := by
  subst hl
  exact List.ext_getElem (by simp) (by simp)

/-! ### The replies -/

theorem placeBytes_eq (x : Option Place) : placeBytes x = match x with
    | none => [1, 0xFF, 0xFF, 0xFF, 0xFF, 0xFF]
    | some p => (0 : Byte) :: (word p.x ++ word p.y ++ [byte p.screen]) := by
  cases x <;> rfl

theorem slotBytes_eq (x : Option ReturnSlot) : slotBytes x = match x with
    | none => [0xFF, 0xFF, 0, 0, 0, 0]
    | some x => [byte x.computer, byte x.entry] ++ triggerBytes x.trigger := by
  cases x <;> rfl

theorem pushBytes_eq (x : Option Push) : pushBytes x = match x with
    | none => [0xFF, 0, 0]
    | some q => byte q.screen :: word q.amount := by
  cases x <;> rfl

theorem dialBytes_eq (x : Option Dial) : dialBytes x = match x with
    | none => [0xFF, 0xFF, 0]
    | some d => [if d.a then 1 else 0, if d.b then 1 else 0, BitVec.ofInt 8 d.count] := by
  cases x <;> rfl

/-- Settles O35: each GET record returns its part of the state as it stands. -/
theorem stateReads : Obligations.StateReads := by
  refine ⟨fun i s loaded => ?_, fun s loaded => ?_, fun s loaded => ?_, fun m s loaded => ?_, fun s loaded => ?_,
    fun s loaded => ?_, fun c s loaded => ?_, fun n s loaded => ⟨fun hn => ?_, fun hn => ?_, fun hn => ?_⟩⟩
  · refine exec_loaded_read (screenReply i s) rfl rfl loaded (by rw [judgeGetScreen, fin?_val]; rfl) ?_
    simp only [screenReply, flightBytes_eq, flag_eq_ite (Option.any_eq_true _ _), List.cons_append, List.nil_append,
      List.append_assoc]
    rfl
  · refine exec_loaded_read (pointerReply s.pointer) rfl rfl loaded rfl ?_
    simp only [pointerReply, placeBytes_eq, pushBytes_eq, toList_eq_map (l := allComputers) rfl, List.flatMap_map,
      List.append_assoc]
    rfl
  · refine exec_loaded_read (focusReply s) rfl rfl loaded rfl ?_
    simp only [focusReply, funext (heldBytes_eq s.now), toList_eq_map (l := allComputers) rfl, List.map_map, List.append_assoc]
    rfl
  · exact exec_loaded_read (mapBytes m s.keyboard.maps[m]) rfl rfl loaded (by rw [judgeGetFocusMap, fin?_val]; rfl) rfl
  · refine exec_loaded_read (matcherReply s) rfl rfl loaded rfl ?_
    simp only [matcherReply, slotBytes_eq, flag_eq_ite (Option.any_eq_true _ _), List.countP_eq_length_filter,
      List.append_assoc, List.cons_append]
    rfl
  · refine exec_loaded_read (s.lines.recs.toList.flatMap lineBytes ++ dialBytes s.lines.dial) rfl rfl loaded rfl ?_
    simp only [lineBytes, optLevel_eq, dialBytes_eq, toList_eq_map (l := allLines) rfl, List.flatMap_map]
    rfl
  · refine exec_loaded_read (computerReply c s) rfl rfl loaded (by rw [judgeGetComputer, fin?_val]; rfl) ?_
    simp only [computerReply, powerBytes, portBytes, leftBytes, List.countP_eq_length_filter, flag_eq_ite beq_iff_eq,
      List.append_assoc, List.cons_append, List.nil_append]
    rfl
  · exact exec_loaded_refused rfl rfl loaded (by rw [judgeGetScreen, (fin?_eq_none_iff 8 n).2 hn])
  · exact exec_loaded_refused rfl rfl loaded (by rw [judgeGetFocusMap, (fin?_eq_none_iff 4 n).2 hn])
  · exact exec_loaded_refused rfl rfl loaded (by rw [judgeGetComputer, (fin?_eq_none_iff 6 n).2 hn])

end Sys2Proof.Machine
end

section
/-!
PROOFS, what a screen command leaves and raises: the parts of State that it does not touch, SCREEN_STATE at a change of state or of
source, and the notices of an operation that changes no current source.
-/

set_option Elab.async false
namespace Sys2Proof.Machine
open Sys2Proof Sys2Proof.Safety

/-! ### Parts -/

theorem onlyChanges_trans {ps : List Part} {s t u : State} (h : OnlyChanges ps s t) (k : OnlyChanges ps t u) :
    OnlyChanges ps s u := by
  intro p hp
  have first := h p hp
  have second := k p hp
  cases p <;> exact Eq.trans second first

/-- A command begins with nothing handed on, which is no part of what it may change. -/
theorem onlyChanges_of_fresh {ps : List Part} {s t : State} (h : OnlyChanges ps s.fresh t) : OnlyChanges ps s t :=
  fun p hp => by
    have same := h p hp
    cases p <;> exact same

/-- An operation on the screens' records with its notices and the settling test leaves what they all leave. -/
theorem onlyChanges_onScreens {f : State → State} {s : State} (op : OnlyChanges [.status, .screens, .lines] s (f s)) :
    OnlyChanges [.status, .screens, .pointer, .lines, .ports, .power] s (onScreens f s) := by
  have noticed (l : List ScreenId) (t : State) : OnlyChanges [.status, .screens, .pointer, .lines, .ports, .power] t
      (l.foldl (fun t i => if ((f s).screenRec i).current = (s.screenRec i).current then t else sourceChanged i t) t) := by
    induction l generalizing t with
    | nil => exact fun p _ => by cases p <;> rfl
    | cons i l ih =>
      refine onlyChanges_trans ?_ (ih _)
      intro p hp
      dsimp only
      split
      · cases p <;> rfl
      · cases p <;> simp [Part.same] at hp ⊢
  have settled (t : State) : OnlyChanges [.status, .screens, .pointer, .lines, .ports, .power] t (settleAll t) := by
    intro p hp
    cases p <;> simp [Part.same] at hp ⊢
  exact onlyChanges_trans (onlyChanges_trans (onlyChanges_of_mem op (by decide)) (noticed allScreens _)) (settled _)

/-! ### Notices -/

/-- An operation that leaves every current source makes no notice (R44). -/
theorem withNotices_of_same {f : State → State} {s : State}
    (same : ∀ i, ((f s).screenRec i).current = (s.screenRec i).current) : withNotices f s = f s := by
  have none_due (l : List ScreenId) (t : State) :
      l.foldl (fun t i => if ((f s).screenRec i).current = (s.screenRec i).current then t else sourceChanged i t) t = t := by
    induction l generalizing t with
    | nil => rfl
    | cons i l ih => rw [List.foldl_cons, if_pos (same i), ih]
  exact none_due allScreens (f s)

theorem onScreens_of_same {f : State → State} {s : State}
    (same : ∀ i, ((f s).screenRec i).current = (s.screenRec i).current) : onScreens f s = settleAll (f s) :=
  congrArg settleAll (withNotices_of_same same)

/-! ### Events (R39) -/

theorem raised_of_event {e : Event} {s t : State} (h : t.event e.kind = s.event e.kind) (raised : Raised e s) : Raised e t := by
  rw [Raised, h]
  exact raised

theorem raised_raise (e : Event) (s : State) : Raised e (raise e s) := by simp [Raised]

theorem event_settleAll_of_ne {k : EventKind} (h : k ≠ .sceneDone) (s : State) : (settleAll s).event k = s.event k := by
  simp only [settleAll]
  repeat' split
  · rfl
  · exact event_raise_of_ne _ _ _ (Ne.symm h)
  · rfl

theorem screenState_onScreens (f : State → State) (s : State) :
    (onScreens f s).event .screenState = (f s).event .screenState :=
  onScreens_reads (fun s => s.event .screenState) f (fun i s => event_sourceChanged i s _ (by decide)) screenState_settleAll s

/-- A change of a screen's state raises SCREEN_STATE (R39). -/
theorem raised_enterScreen {i : ScreenId} {st : ScreenState} {s : State} (changed : (s.screenRec i).state ≠ st) :
    Raised (.screenState i) (enterScreen i st s) := by
  simp only [enterScreen, if_neg changed]
  split
  · exact raised_of_event (event_raise_of_ne _ _ _ (by simp [Event.kind])) (raised_raise _ _)
  · exact raised_raise _ _

/-- The entry into FAULT raises SCREEN_FAULT besides, and its condition holds (R39, R189). -/
theorem raised_enterFault {i : ScreenId} {s : State} (changed : (s.screenRec i).state ≠ .fault) :
    Raised (.screenFault i) (enterScreen i .fault s) ∧ (enterScreen i .fault s).status.faultHolds = true := by
  simp only [enterScreen, if_neg changed, if_true]
  refine ⟨raised_raise _ _, ?_⟩
  rw [(nudged_raise _ _).fault, (nudged_raise _ _).fault]
  simp only [reportFault, State.setStatus_status, List.any_eq_true]
  exact ⟨i, mem_allScreens i, by simp⟩

theorem raised_followSource {i : ScreenId} {s : State}
    (changed : (followed s (s.screenRec i)).state ≠ (s.screenRec i).state) : Raised (.screenState i) (followSource i s) := by
  have entered : ∃ st u, followSource i s = enterScreen i st u ∧ (u.screenRec i).state = (s.screenRec i).state := by
    rw [followSource_eq]
    repeat' split
    all_goals exact ⟨_, _, rfl, by simp [screenRec_messaged]⟩
  obtain ⟨st, u, eq, before⟩ := entered
  have after : st = (followed s (s.screenRec i)).state := by
    have state := congrArg ScreenRec.state (screenRec_followSource i i s)
    rw [eq] at state
    simpa using state
  rw [eq]
  exact raised_enterScreen (by rw [before, after]; exact changed.symm)

/-- A change of source raises SCREEN_STATE, whether or not the state changes (R39). -/
theorem raised_takeSource {i : ScreenId} {x : Option Head} {s : State} (changed : x ≠ (s.screenRec i).current) :
    Raised (.screenState i) (takeSource i x s) := by
  simp only [takeSource]
  split
  · exact raised_raise _ _
  · next differs =>
    have state := congrArg ScreenRec.state
      (screenRec_followSource i i (s.setScreenRec i { s.screenRec i with current := x, waiting := none }))
    refine raised_followSource fun same => differs ⟨?_, changed⟩
    rw [state, if_pos rfl, same]
    simp

end Sys2Proof.Machine
end

section
/-!
PROOFS, lock inputs and the screens' timers (O24): what a lock change and the expiries make of a screen's record, and what they raise.
-/

set_option Elab.async false
namespace Sys2Proof.Machine
open Sys2Proof Sys2Proof.Safety

/-! ### The record that the source rule leaves (R36) -/

theorem headAlive_iff {s : State} {h : Head} : s.headAlive h = true ↔ s.headState h = .alive := by
  simp [State.headAlive]

section
variable {s : State} {r : ScreenRec} {h : Head}

theorem followed_none (hc : r.current = none) : (followed s r).state = .blank ∧ (followed s r).linkTimer = none := by
  simp [followed, hc]

theorem followed_alive (hc : r.current = some h) (alive : s.headAlive h = true) :
    (followed s r).state = .linking ∧ (followed s r).linkTimer = some s.linkTimer := by
  simp [followed, hc, alive]

theorem followed_quiet (hc : r.current = some h) (quiet : s.headAlive h = false) :
    (followed s r).state = .dark ∧ (followed s r).linkTimer = none := by
  simp [followed, hc, quiet]

end

/-! ### Lock changes (R34) -/

/-- A record after its lock input changed (R34). -/
def locked (s : State) (b : Bool) (r : ScreenRec) : ScreenRec :=
  if (r.state = .linking ∨ r.state = .fault) ∧ b = true then
    { r with
      lockPin := b, lockView := b, state := .showing, linkTimer := if r.state = .linking then none else r.linkTimer }
  else if r.state = .showing ∧ b = false then
    { r with lockPin := b, lockView := b, state := .linking, linkTimer := some s.linkTimer }
  else { r with lockPin := b, lockView := b }

theorem locked_keeps (s : State) (b : Bool) (r : ScreenRec) : (locked s b r).lockPin = b ∧ (locked s b r).lockView = b ∧
    (locked s b r).current = r.current ∧ (locked s b r).waiting = r.waiting ∧ (locked s b r).selected = r.selected := by
  simp only [locked]
  repeat' split
  all_goals exact ⟨rfl, rfl, rfl, rfl, rfl⟩

theorem locked_kept {s : State} {b : Bool} {r : ScreenRec} (linking : r.state = .linking → b = true → False)
    (fault : r.state = .fault → b = true → False) (showing : r.state = .showing → b = false → False) :
    locked s b r = { r with lockPin := b, lockView := b } := by
  rw [locked, if_neg, if_neg]
  · exact fun h => showing h.1 h.2
  · exact fun h => h.1.elim (fun st => linking st h.2) (fun st => fault st h.2)

/-- The lock input as it is read, before the screen's state is judged. -/
def lockRead (i : ScreenId) (b : Bool) (s : State) : State :=
  s.setScreenRec i { s.screenRec i with lockPin := b, lockView := b }

theorem lockChange_eq (i : ScreenId) (b : Bool) (s : State) : lockChange i b s =
    match (s.screenRec i).state, b with
    | .linking, true => settleAll (enterScreen i .showing (setLinkTimer i none (lockRead i b s)))
    | .fault, true => settleAll (enterScreen i .showing (lockRead i b s))
    | .showing, false => settleAll (enterScreen i .linking (startLink i (lockRead i b s)))
    | _, _ => lockRead i b s := by
  have state : ((lockRead i b s).screenRec i).state = (s.screenRec i).state := by simp [lockRead]
  rw [← state]
  rfl

theorem screenRec_lockChange (i j : ScreenId) (b : Bool) (s : State) :
    (lockChange i b s).screenRec j = if i = j then locked s b (s.screenRec i) else s.screenRec j := by
  rw [lockChange_eq]
  by_cases h : i = j
  · subst h
    split
    · next h => simp [locked, lockRead, h]
    · next h => simp [locked, lockRead, h]
    · next h => simp [lockRead, locked, h]; rfl
    · next h₁ h₂ h₃ => simp [locked_kept h₁ h₂ h₃, lockRead]
  · split <;> simp [lockRead, h]

/-- A lock change that calls for no change of state is read and nothing more (log entry 35). -/
theorem lockChange_kept {i : ScreenId} {b : Bool} {s : State}
    (off : (s.screenRec i).state ≠ .linking ∧ (s.screenRec i).state ≠ .fault ∨ b = false)
    (on : (s.screenRec i).state ≠ .showing ∨ b = true) : lockChange i b s = lockRead i b s := by
  rw [lockChange_eq]
  split <;> simp_all

theorem raised_lockChange {i : ScreenId} {b : Bool} {s : State}
    (changed : (locked s b (s.screenRec i)).state ≠ (s.screenRec i).state) : Raised (.screenState i) (lockChange i b s) := by
  have entered {st : ScreenState} {u : State} (h : (u.screenRec i).state ≠ st) :
      Raised (.screenState i) (settleAll (enterScreen i st u)) :=
    raised_of_event (screenState_settleAll _) (raised_enterScreen h)
  rw [lockChange_eq]
  split
  · exact entered (by simp_all [lockRead])
  · exact entered (by simp_all [lockRead])
  · exact entered (by simp_all [lockRead])
  · next h₁ h₂ h₃ => exact absurd (by rw [locked_kept h₁ h₂ h₃]) changed

/-! ### The timers (R37, R48) -/

theorem faultHolds_settleAll (s : State) : (settleAll s).status.faultHolds = s.status.faultHolds := by
  simp only [settleAll]
  repeat' split
  · rfl
  · exact (nudged_raise _ _).fault
  · rfl

theorem linkExpiry_stopped {i : ScreenId} {s : State} (stopped : (s.screenRec i).linkTimer = none) : linkExpiry i s = s := by
  simp only [linkExpiry, stopped]

theorem linkExpiry_linking {i : ScreenId} {tm : Timer} {s : State} (timer : (s.screenRec i).linkTimer = some tm)
    (linking : (s.screenRec i).state = .linking) :
    linkExpiry i s = settleAll (enterScreen i .fault (setLinkTimer i none (s.reach tm))) := by
  simp only [linkExpiry, timer, if_pos linking]

theorem powerOnExpiry_stopped {i : ScreenId} {s : State} (stopped : (s.screenRec i).powerTimer = none) :
    powerOnExpiry i s = s := by
  simp only [powerOnExpiry, stopped]

/-- The source rule changes no current source, so the expiry of the power-on timer makes no notice (R48). -/
theorem powerOnExpiry_powering {i : ScreenId} {tm : Timer} {s : State} (timer : (s.screenRec i).powerTimer = some tm)
    (powering : (s.screenRec i).state = .powering) : powerOnExpiry i s = settleAll (followSource i (s.reach tm)) := by
  have same (j : ScreenId) : ((followSource i (s.reach tm)).screenRec j).current = ((s.reach tm).screenRec j).current := by
    rw [screenRec_followSource]
    split
    · next h => rw [← h]; rfl
    · rfl
  simp only [powerOnExpiry, timer, if_pos powering]
  exact onScreens_of_same same

/-! ### The statement -/

theorem lockChange_rules (i : ScreenId) (b : Bool) (s t : State) (ht : t = lockChange i b s) :
    (t.screenRec i).lockPin = b ∧ (t.screenRec i).lockView = b ∧ (t.screenRec i).current = (s.screenRec i).current ∧
    (t.screenRec i).waiting = (s.screenRec i).waiting ∧ (t.screenRec i).selected = (s.screenRec i).selected ∧
    (∀ j : ScreenId, j ≠ i → t.screenRec j = s.screenRec j) ∧
    ((s.screenRec i).state = .linking → b = true → (t.screenRec i).state = .showing ∧ (t.screenRec i).linkTimer = none ∧
      Raised (.screenState i) t) ∧
    ((s.screenRec i).state = .fault → b = true → (t.screenRec i).state = .showing ∧ Raised (.screenState i) t) ∧
    ((s.screenRec i).state = .showing → b = false → (t.screenRec i).state = .linking ∧
      (t.screenRec i).linkTimer = some s.linkTimer ∧ Raised (.screenState i) t) := by
  have here : t.screenRec i = locked s b (s.screenRec i) := by rw [ht, screenRec_lockChange, if_pos rfl]
  have raised (changed : (locked s b (s.screenRec i)).state ≠ (s.screenRec i).state) : Raised (.screenState i) t :=
    ht ▸ raised_lockChange changed
  obtain ⟨pin, view, current, waiting, selected⟩ := locked_keeps s b (s.screenRec i)
  rw [here]
  refine ⟨pin, view, current, waiting, selected, fun j hj => ?_, fun linking present => ?_, fun fault present => ?_,
    fun showing absent => ?_⟩
  · rw [ht, screenRec_lockChange, if_neg (Ne.symm hj)]
  · exact ⟨by simp [locked, linking, present], by simp [locked, linking, present],
      raised (by simp [locked, linking, present])⟩
  · exact ⟨by simp [locked, fault, present], raised (by simp [locked, fault, present])⟩
  · exact ⟨by simp [locked, showing, absent], by simp [locked, showing, absent], raised (by simp [locked, showing, absent])⟩

/-- Settles O24: each clause reads the record that the operation leaves, and the event of the state it enters. -/
theorem screenLinksAndTimers : Obligations.ScreenLinksAndTimers := by
  refine ⟨fun i b s => ?_, fun i s stopped => ?_, fun i tm s timer linking => ?_, fun i s stopped => ?_,
    fun i tm s timer powering => ?_⟩
  · obtain ⟨pin, view, current, waiting, selected, others, linking, fault, showing⟩ :=
      lockChange_rules i b s.fresh _ rfl
    refine ⟨_, exec_event _ s rfl, pin, view, current, waiting, selected, others, linking, fault, showing,
      fun off on => ?_, onlyChanges_of_fresh fun p hp => by cases p <;> simp [Part.same, effect] at hp ⊢⟩
    have kept : effect (.lockInputChange i b) s.fresh = lockRead i b s.fresh := lockChange_kept off on
    rw [kept]
    exact ⟨by simp [lockRead, State.screenRec], onlyChanges_of_fresh fun p hp => by cases p <;> simp [Part.same, lockRead] at hp ⊢⟩
  · exact ⟨_, exec_event _ s rfl, onlyChanges_of_fresh (by
      rw [effect, linkExpiry_stopped (s := s.fresh) stopped]; exact fun p _ => by cases p <;> rfl)⟩
  · refine ⟨_, exec_event _ s rfl, ?_⟩
    rw [effect, linkExpiry_linking (s := s.fresh) timer linking]
    have changed : ((setLinkTimer i none (s.fresh.reach tm)).screenRec i).state ≠ .fault := by
      rw [screenRec_setLinkTimer, if_pos rfl]
      exact ne_of_eq_of_ne linking (by decide)
    obtain ⟨fault, holds⟩ := raised_enterFault changed
    refine ⟨by simp, ?_, fun j hj => ?_, raised_of_event (screenState_settleAll _) (raised_enterScreen changed),
      raised_of_event (event_settleAll_of_ne (by simp [Event.kind]) _) fault, (faultHolds_settleAll _).trans holds,
      onlyChanges_of_fresh fun p hp => ?_⟩
    · simp
      exact ⟨rfl, rfl, rfl, rfl, rfl, rfl⟩
    · simp [Ne.symm hj]
      rfl
    · cases p <;> simp [Part.same] at hp ⊢
  · exact ⟨_, exec_event _ s rfl, onlyChanges_of_fresh (by
      rw [effect, powerOnExpiry_stopped (s := s.fresh) stopped]; exact fun p _ => by cases p <;> rfl)⟩
  · refine ⟨_, exec_event _ s rfl, ?_⟩
    rw [effect, powerOnExpiry_powering (s := s.fresh) timer powering]
    have here : (settleAll (followSource i (s.fresh.reach tm))).screenRec i =
        followed (s.fresh.reach tm) (s.screenRec i) := by
      rw [screenRec_settleAll, screenRec_followSource, if_pos rfl]; rfl
    have changed : (followed (s.fresh.reach tm) (s.screenRec i)).state ≠ (s.screenRec i).state := by
      rw [powering]
      simp only [followed]
      split
      · decide
      · split <;> decide
    refine ⟨by simp, ?_⟩
    rw [here]
    refine ⟨rfl, rfl, rfl, rfl, followed_none, fun h hc alive => ?_, fun h hc dead => ?_, fun j hj => ?_,
      raised_of_event (screenState_settleAll _) (raised_followSource changed), onlyChanges_of_fresh fun p hp => ?_⟩
    · rw [(settleAll_leaves _).1, (followSource_leaves _ _).1]
      exact followed_alive hc (headAlive_iff.2 alive)
    · exact followed_quiet hc (Bool.eq_false_iff.2 (dead ∘ headAlive_iff.1))
    · rw [screenRec_settleAll, screenRec_followSource, if_neg (Ne.symm hj)]
      rfl
    · cases p <;> simp [Part.same] at hp ⊢

end Sys2Proof.Machine
end

section
/-!
PROOFS, ASSIGN (O25): what a source given to a screen makes of the screen's record, by the state of the screen and of the head.
-/

set_option Elab.async false
namespace Sys2Proof.Machine
open Sys2Proof Sys2Proof.Safety

/-! ### A source given to a screen (R41, R49) -/

/-- A screen's record with a source in place at once, and nothing waiting. -/
def ScreenRec.given (x : Option Head) (r : ScreenRec) : ScreenRec := { r with current := x, waiting := none }

/-- A record after a source was given to its screen (R41, R49). -/
def assigned (s : State) (x : Option Head) (r : ScreenRec) : ScreenRec :=
  if r.state = .unused then r
  else if r.state.isOn = true ∧ x ≠ r.current then
    if x.any s.headAlive then { r with waiting := x } else followed s (r.given x)
  else r.given x

theorem assigned_of_context {s t : State} (h : SameContext s t) (x : Option Head) (r : ScreenRec) :
    assigned t x r = assigned s x r := by
  have alive : t.headAlive = s.headAlive := funext (headAlive_of_tables h.1 h.2.1)
  simp only [assigned, followed_of_context h, alive]

/-! ### The ways of R41 and R49, read off the record -/

section
variable {s : State} {x : Option Head} {r : ScreenRec}

theorem used_of_isOn {st : ScreenState} (on : st.isOn = true) : st ≠ .unused := by
  rintro rfl
  cases on

theorem assigned_same (on : r.state.isOn = true) (same : r.current = x) : assigned s x r = { r with waiting := none } := by
  rw [assigned, if_neg (used_of_isOn on), if_neg (fun h => h.2 same.symm), ScreenRec.given, ← same]

theorem assigned_waits (on : r.state.isOn = true) (differs : r.current ≠ x) (alive : x.any s.headAlive = true) :
    assigned s x r = { r with waiting := x } := by
  rw [assigned, if_neg (used_of_isOn on), if_pos ⟨on, differs.symm⟩, if_pos alive]

theorem assigned_alive {h : Head} (on : r.state.isOn = true) (differs : r.current ≠ some h) (alive : s.headState h = .alive) :
    assigned s (some h) r = { r with waiting := some h } :=
  assigned_waits on differs (headAlive_iff.2 alive)

theorem assigned_quiet (on : r.state.isOn = true) (differs : r.current ≠ x) (quiet : x.any s.headAlive = false) :
    assigned s x r = followed s (r.given x) := by
  rw [assigned, if_neg (used_of_isOn on), if_pos ⟨on, differs.symm⟩, quiet]
  rfl

theorem assigned_off (used : r.state ≠ .unused) (off : r.state.isOn = false) : assigned s x r = r.given x := by
  rw [assigned, if_neg used, off, if_neg (fun h => Bool.false_ne_true h.1)]

theorem assigned_low (low : r.state = .standby ∨ r.state = .powering ∨ r.state = .off) : assigned s x r = r.given x := by
  obtain h | h | h := low
  all_goals exact assigned_off (by rw [h]; decide) (by rw [h]; rfl)

end

/-! ### What assigning a source does -/

theorem assignSource_on {i : ScreenId} {x : Option Head} {s : State} (on : (s.screenRec i).state.isOn = true) :
    assignSource i x s = assignOn i x s := by
  cases h : (s.screenRec i).state <;> simp_all [assignSource, ScreenState.isOn]

theorem assignSource_off {i : ScreenId} {x : Option Head} {s : State} (used : (s.screenRec i).state ≠ .unused)
    (off : (s.screenRec i).state.isOn = false) : assignSource i x s = takeQuiet i x s := by
  cases h : (s.screenRec i).state <;> simp_all [assignSource, ScreenState.isOn]

theorem assignSource_unused {i : ScreenId} {x : Option Head} {s : State} (unused : (s.screenRec i).state = .unused) :
    assignSource i x s = s := by
  simp [assignSource, unused]

theorem assignOn_same {i : ScreenId} {x : Option Head} {s : State} (same : x = (s.screenRec i).current) :
    assignOn i x s = s.setScreenRec i { s.screenRec i with waiting := none } := by
  cases x <;> exact if_pos same

theorem assignOn_differs {i : ScreenId} {x : Option Head} {s : State} (differs : x ≠ (s.screenRec i).current) :
    assignOn i x s = if x.any s.headAlive then s.setScreenRec i { s.screenRec i with waiting := x } else takeSource i x s := by
  cases x <;> exact if_neg differs

theorem screenRec_takeQuiet (i j : ScreenId) (x : Option Head) (s : State) :
    (takeQuiet i x s).screenRec j = if i = j then (s.screenRec i).given x else s.screenRec j := by
  have written : (s.setScreenRec i ((s.screenRec i).given x)).screenRec j =
      if i = j then (s.screenRec i).given x else s.screenRec j := by simp
  simp only [takeQuiet]
  split
  · exact written
  · rw [screenRec_raise]
    exact written

theorem screenRec_assignSource (i j : ScreenId) (x : Option Head) (s : State) :
    (assignSource i x s).screenRec j = if i = j then assigned s x (s.screenRec i) else s.screenRec j := by
  by_cases unused : (s.screenRec i).state = .unused
  · rw [assignSource_unused unused, assigned, if_pos unused]
    split
    · next h => rw [h]
    · rfl
  by_cases on : (s.screenRec i).state.isOn = true
  · rw [assignSource_on on]
    by_cases same : x = (s.screenRec i).current
    · rw [assignOn_same same, assigned_same on same.symm, State.screenRec_setScreenRec]
    · rw [assignOn_differs same]
      split
      · next alive => rw [assigned_waits on (Ne.symm same) alive, State.screenRec_setScreenRec]
      · next quiet =>
        rw [assigned_quiet on (Ne.symm same) (Bool.eq_false_iff.2 quiet), screenRec_takeSource]
        rfl
  · rw [assignSource_off unused (Bool.eq_false_iff.2 on), assigned_off unused (Bool.eq_false_iff.2 on), screenRec_takeQuiet]

theorem context_raise (e : Event) (s : State) : SameContext s (raise e s) := by simp [SameContext]

theorem context_takeQuiet (i : ScreenId) (x : Option Head) (s : State) : SameContext s (takeQuiet i x s) := by
  have written := context_setScreenRec i ((s.screenRec i).given x) s
  simp only [takeQuiet]
  split
  · exact written
  · exact written.trans (context_raise _ _)

theorem context_assignSource (i : ScreenId) (x : Option Head) (s : State) : SameContext s (assignSource i x s) := by
  by_cases unused : (s.screenRec i).state = .unused
  · rw [assignSource_unused unused]
    exact .refl s
  by_cases on : (s.screenRec i).state.isOn = true
  · rw [assignSource_on on]
    by_cases same : x = (s.screenRec i).current
    · rw [assignOn_same same]
      exact context_setScreenRec i _ s
    · rw [assignOn_differs same]
      split
      · exact context_setScreenRec i _ s
      · exact context_takeSource i x s
  · rw [assignSource_off unused (Bool.eq_false_iff.2 on)]
    exact context_takeQuiet i x s

theorem onlyChanges_assignSource (i : ScreenId) (x : Option Head) (s : State) :
    OnlyChanges [.status, .screens, .lines] s (assignSource i x s) := by
  intro p hp
  cases p <;> simp [Part.same] at hp ⊢

theorem raised_assignSource {i : ScreenId} {x : Option Head} {s : State} (on : (s.screenRec i).state.isOn = true)
    (differs : x ≠ (s.screenRec i).current) (quiet : x.any s.headAlive = false) :
    Raised (.screenState i) (assignSource i x s) := by
  rw [assignSource_on on, assignOn_differs differs, quiet]
  exact raised_takeSource differs

/-! ### The checks (R40) -/

theorem sourceFits_iff {s : State} {i : ScreenId} {h : Head} {e : HeadEntry} (he : s.headEntry h = some e) :
    s.sourceFits i (some h) = true ↔ (e.isPrivate = true → inSet e.allowed i = true) := by
  simp only [State.sourceFits, he, HeadEntry.allows]
  cases e.isPrivate <;> simp

/-- ASSIGN of a source that fits its configured screen gives it to the screen (R40). -/
theorem judgeAssign_ok {i : ScreenId} {c n : Nat} {x : Option Head} {s : State} (hx : source? c n = some x)
    (configured : s.screenRect i ≠ none) (defined : ∀ h, x = some h → s.headEntry h ≠ none) (fits : s.sourceFits i x = true) :
    judgeAssign i c n s = ok (onScreens (assignSource i x) s) := by
  have present : ¬((s.screenRect i).isNone = true ∨ x.any (fun h => (s.headEntry h).isNone) = true) := by
    rw [Option.isNone_iff_eq_none, Option.any_eq_true]
    rintro (unconfigured | ⟨h, hx, undefined⟩)
    · exact configured unconfigured
    · exact defined h hx (Option.isNone_iff_eq_none.1 undefined)
  simp only [judgeAssign, fin?_val, hx, if_neg present, fits, not_true_eq_false, if_false]

theorem judgeAssign_notPresent {i : ScreenId} {c n : Nat} {x : Option Head} {s : State} (hx : source? c n = some x)
    (absent : s.screenRect i = none ∨ ∃ h, x = some h ∧ s.headEntry h = none) :
    judgeAssign i c n s = .error .notPresent := by
  have missing : (s.screenRect i).isNone = true ∨ x.any (fun h => (s.headEntry h).isNone) = true := by
    obtain unconfigured | ⟨h, rfl, undefined⟩ := absent
    · exact .inl (by rw [unconfigured]; rfl)
    · exact .inr (by simp [undefined])
  simp only [judgeAssign, fin?_val, hx, if_pos missing]

/-! ### The statement -/

/-- What a served ASSIGN leaves: the given screen's record, the others', and the parts that its notices may reach. -/
theorem exec_assign {i : ScreenId} {c n : Nat} {x : Option Head} {s : State} (loaded : s.profile.state ≠ .loading)
    (hj : judgeAssign i c n s.fresh = ok (onScreens (assignSource i x) s.fresh)) :
    ∃ t, exec (.assign i c n) s = .next t ∧ Answers 0x20 .ok [] s t ∧ (∀ j : ScreenId, j ≠ i → t.screenRec j = s.screenRec j) ∧
      t.screenRec i = assigned s x (s.screenRec i) ∧
      ((s.screenRec i).state.isOn = true → (s.screenRec i).current ≠ x → x.any s.headAlive = false →
        Raised (.screenState i) t) ∧
      OnlyChanges [.link, .status, .screens, .pointer, .lines, .ports, .power] s t := by
  have parts := onlyChanges_onScreens (onlyChanges_assignSource i x s.fresh)
  refine ⟨_, exec_answered rfl (handled_loaded rfl loaded hj), answers_sendReply (parts .link (by decide)), fun j hj => ?_, ?_,
    fun on differs quiet => ?_, onlyChanges_of_fresh (onlyChanges_reply _ _ parts)⟩
  · exact (screenRec_onScreens _ s.fresh j).trans ((screenRec_assignSource i j x s.fresh).trans (if_neg (Ne.symm hj)))
  · exact (screenRec_onScreens _ s.fresh i).trans ((screenRec_assignSource i i x s.fresh).trans (if_pos rfl))
  · exact raised_of_event (screenState_onScreens _ s.fresh) (raised_assignSource (s := s.fresh) on differs.symm quiet)

/-- Settles O25: the record after ASSIGN is `assigned`, whose cases are the ways of R41 and R49. -/
theorem assignBySourceAndState : Obligations.AssignBySourceAndState := by
  refine ⟨fun n c h s loaded out => ?_, fun i h s loaded absent => ?_, fun i h e s loaded configured he priv barred => ?_,
    fun i h e s loaded configured he allowed => ?_, fun i s loaded unconfigured => ?_, fun i s loaded configured => ?_⟩
  · refine exec_loaded_refused rfl rfl loaded (j := judgeAssign n c h) ?_
    rw [judgeAssign]
    obtain hn | hs := out
    · rw [(fin?_eq_none_iff 8 n).2 hn]
    · rw [source?_eq_none hs]
      split <;> simp_all
  · exact exec_loaded_refused rfl rfl loaded (judgeAssign_notPresent (s := s.fresh) (source?_self h)
      (absent.imp_right fun undefined => ⟨h, rfl, undefined⟩))
  · refine exec_loaded_refused rfl rfl loaded (j := judgeAssign i h.computer h.no) ?_
    have fits : s.fresh.sourceFits i (some h) = false := by
      rw [← Bool.not_eq_true, sourceFits_iff (s := s.fresh) he, barred]
      exact fun h => absurd (h priv) (by decide)
    have present : ¬((s.fresh.screenRect i).isNone = true ∨
        (some h).any (fun h => (s.fresh.headEntry h).isNone) = true) := by
      rintro (unconfigured | undefined)
      · exact configured (Option.isNone_iff_eq_none.1 unconfigured)
      · exact absurd (he.symm.trans (Option.isNone_iff_eq_none.1 undefined)) (by simp)
    simp only [judgeAssign, fin?_val, source?_self, if_neg present, fits, Bool.false_eq_true, not_false_eq_true, if_true]
  · obtain ⟨t, ht, answer, others, here, raised, parts⟩ := exec_assign loaded (judgeAssign_ok (s := s.fresh) (source?_self h)
      configured (fun g hg => by cases hg; exact fun none => by cases he.symm.trans none) ((sourceFits_iff (s := s.fresh) he).2 allowed))
    refine ⟨t, ht, answer, others, fun on same => ?_, fun on differs alive => ?_, fun on differs dead => ?_, fun low => ?_,
      parts⟩
    · rw [here, assigned_same on same]
    · rw [here, assigned_alive on differs alive]
    · have quiet : s.headAlive h = false := Bool.eq_false_iff.2 (dead ∘ headAlive_iff.1)
      rw [here, assigned_quiet on differs quiet]
      obtain ⟨dark, timer⟩ := followed_quiet (r := (s.screenRec i).given (some h)) rfl quiet
      exact ⟨rfl, rfl, dark, timer, rfl, raised on differs quiet⟩
    · rw [here, assigned_low low]
      rfl
  · exact exec_loaded_refused rfl rfl loaded (judgeAssign_notPresent (s := s.fresh) source?_none (.inl unconfigured))
  · obtain ⟨t, ht, answer, others, here, raised, parts⟩ := exec_assign loaded (judgeAssign_ok (s := s.fresh) source?_none
      configured (fun g hg => by cases hg) rfl)
    refine ⟨t, ht, answer, others, fun on same => ?_, fun on differs => ?_, fun low => ?_, parts⟩
    · rw [here, assigned_same on same]
    · rw [here, assigned_quiet on differs rfl]
      obtain ⟨blank, timer⟩ := followed_none (s := s) (r := (s.screenRec i).given none) rfl
      exact ⟨rfl, rfl, blank, timer, rfl, raised on differs rfl⟩
    · rw [here, assigned_low low]
      rfl

end Sys2Proof.Machine
end

section
/-!
PROOFS, screen timing (O26): the controller's settings through a scene and so through a soft reset, and where a timer reads them.
-/

set_option Elab.async false
namespace Sys2Proof.Machine
open Sys2Proof Sys2Proof.Safety

/-! ### What a scene leaves of the tables and the settings -/

theorem SameContext.of_fields {s t : State} (layout : t.layout = s.layout) (sync : t.sync = s.sync) (now : t.now = s.now)
    (screens : t.screens.settings = s.screens.settings) : SameContext s t := ⟨layout, sync, now, screens⟩

/-- Notices go to the owners of the pointer and the keys, and leave the controller. -/
theorem withNotices_screens (f : State → State) (s : State) : (withNotices f s).screens = (f s).screens := by
  unfold withNotices
  exact foldl_leaves State.screens _ (fun t i => by split <;> simp) allScreens (f s)

theorem context_withNotices {f : State → State} {s : State} (h : SameContext s (f s)) : SameContext s (withNotices f s) := by
  have reads {α : Type} (g : State → α) (kept : ∀ i t, g (sourceChanged i t) = g t) : g (withNotices f s) = g (f s) := by
    unfold withNotices
    exact foldl_leaves g _ (fun t i => by split; rfl; exact kept i t) allScreens (f s)
  exact h.trans (.of_fields (reads _ fun i t => by simp) (reads _ fun i t => by simp) (reads _ fun i t => by simp)
    (by rw [withNotices_screens]))

theorem context_setInFlight (x : Option InFlight) (s : State) : SameContext s (s.setInFlight x) := ⟨rfl, rfl, rfl, rfl⟩

theorem context_setIncomplete (s : State) : SameContext s (setIncomplete s) := by
  unfold setIncomplete
  split
  · exact context_setInFlight _ s
  · exact .refl s

theorem context_formRecord (n : SceneNo) (sc : Scene) (s : State) : SameContext s (formRecord n sc s) := by
  simp only [formRecord]
  split <;> exact context_setInFlight _ s

theorem context_applyItem (s : State) (it : SceneItem) : SameContext s (applyItem s it) := by
  unfold applyItem
  split
  · exact context_setIncomplete s
  · exact context_withNotices (context_assignSource it.screen it.source s)

theorem context_items (items : List SceneItem) (s : State) : SameContext s (items.foldl applyItem s) := by
  induction items generalizing s with
  | nil => exact .refl s
  | cons it items ih => exact (context_applyItem s it).trans (ih (applyItem s it))

theorem context_sceneFocus (sc : Scene) (s : State) : SameContext s (sceneFocus sc s) := by
  unfold sceneFocus
  split
  · exact .refl s
  · split
    · exact context_setIncomplete s
    · simp [SameContext]

theorem context_sceneWakes (sc : Scene) (s : State) : SameContext s (sceneWakes sc s) := by simp [SameContext]

theorem context_settleAll (s : State) : SameContext s (settleAll s) := by simp [SameContext]

theorem context_applySceneSteps (n : SceneNo) (sc : Scene) (s : State) : SameContext s (applySceneSteps n sc s) := by
  have formed := context_formRecord n sc s
  have items := formed.trans (context_items sc.items _)
  have focused := items.trans (context_sceneFocus sc _)
  have woken := focused.trans (context_sceneWakes sc _)
  exact woken.trans (context_settleAll _)

theorem applyStart_settings (s : State) : (applyStart s).screens.settings = s.screens.settings := by
  unfold applyStart applySceneNo
  repeat' split
  · exact (context_applySceneSteps _ _ s).2.2.2
  · rfl
  · rfl

/-! ### The soft reset with no record waiting -/

theorem serve_of_empty {s : State} (queue : s.link.queue = []) : serve s = s := by
  unfold serve
  split
  · rw [queue]
  · rfl

/-- With nothing waiting in the queue, what a soft reset ends with is the start scene's state, the reset done. -/
theorem softReset_of_empty {s : State} (queue : s.link.queue = []) : ∃ l : Link,
    softReset s = (applyStart (settled (s.setLink { s.link with replies := [] }))).setLink l := by
  unfold softReset
  dsimp only
  rw [← settled]
  exact ⟨_, serve_of_empty (by simp [queue])⟩

/-! ### The power-on time -/

theorem powerOnMs_of_context {s t : State} (h : SameContext s t) : t.powerOnMs = s.powerOnMs := by
  obtain ⟨-, -, -, settings⟩ := h
  simp only [ScreenController.settings, Prod.mk.injEq] at settings
  obtain ⟨-, -, -, value, scale⟩ := settings
  rw [State.powerOnMs, State.powerOnMs, value, scale]

theorem powerTimer_powerUp {i : ScreenId} {s : State} (powered : s.powerOnMs ≠ 0) :
    ((powerUp i s).screenRec i).powerTimer = some (s.timer s.powerOnMs) := by
  have selected : SameContext s (enterScreen i .powering (sendSelection i .blank s)) := by simp [SameContext]
  have started : (setPowerTimer i (some (s.timer s.powerOnMs)) (enterScreen i .powering (sendSelection i .blank s))).powerOnMs ≠ 0 :=
    (powerOnMs_of_context (selected.trans (context_setScreenRec i _ _))).trans_ne powered
  simp only [powerUp, if_neg started, screenRec_setPowerTimer, if_true]

/-- Settles O26: the timing record's checks and clamps, and the settings through every step of a soft reset. -/
theorem screenTimingSettings : Obligations.ScreenTimingSettings := by
  refine ⟨by decide, fun s => ?_, fun l v c s busy => ?_, fun l v c s ready out => ?_, fun l v c s ready hc hv => ?_,
    fun i s showing => ?_, fun i s off powered => ?_, fun s queue => ?_⟩
  · refine ⟨fun h => ?_, fun h => ?_, fun h => ?_⟩ <;> rw [State.powerOnMs, h] <;> rfl
  · refine exec_refused rfl (whenReady_busy _ s.fresh ?_)
    obtain h | h := busy <;> simp [h]
  · exact exec_ready_refused rfl rfl ready (if_neg (by omega))
  · have judged : judgeSetScreenTiming l v c s.fresh = ok (s.fresh.setScreens { s.screens with
        linkLimit := max 100 (min 10000 l), powerValue := v, powerScale := c }) := if_pos ⟨hc, hv⟩
    have clamped : max 100 (min 10000 l) = if l < 100 then 100 else if 10000 < l then 10000 else l := by
      split
      · omega
      · split <;> omega
    refine ⟨_, exec_answered rfl (handled_ready rfl ready judged), answers_sendReply (by simp [State.fresh]), ?_,
      onlyChanges_reply _ _ (onlyChanges_of_fresh fun p hp => by cases p <;> simp [Part.same] at hp ⊢)⟩
    rw [← clamped]
    rfl
  · exact ⟨_, exec_event _ s rfl, ((lockChange_rules i false s.fresh _ rfl).2.2.2.2.2.2.2.2 showing rfl).2.1⟩
  · simp only [screenResume, off]
    exact powerTimer_powerUp powered
  · obtain ⟨l, reset⟩ := softReset_of_empty (s := s.fresh) queue
    refine ⟨_, exec_event _ s rfl, ?_⟩
    rw [effect]
    have settings : (softReset s.fresh).screens.settings = s.screens.settings := by
      rw [reset, State.setLink_screens, applyStart_settings]
      simp [ScreenController.settings, softResetBlocks_settings]
    simp only [ScreenController.settings, Prod.mk.injEq] at settings
    exact settings.2.2

end Sys2Proof.Machine
end

section
/-!
PROOFS, the stored scenes (O27): a scene item's raw form, the range step over it, and the scene that STORE_SCENE leaves.
-/

set_option Elab.async false
namespace Sys2Proof.Machine
open Sys2Proof Sys2Proof.Safety

/-! ### The raw form of an item (R201) -/

/-- An item as STORE_SCENE brings it, NONE as 255 and 255. -/
def SceneItem.raw (it : SceneItem) : RawItem :=
  ⟨it.screen, it.source.elim 255 fun h => h.computer, it.source.elim 255 fun h => h.no⟩

@[simp] theorem ofRaw_raw (it : SceneItem) : SceneItem.ofRaw it.raw = some it := by
  obtain ⟨i, x⟩ := it
  cases x <;> simp [SceneItem.ofRaw, SceneItem.raw]

theorem exists_raw {r : RawItem} (screen : r.screen < 8) (source : SourceInRange r.computer r.head) :
    ∃ it : SceneItem, it.raw = r := by
  obtain ⟨i, c, h⟩ := r
  obtain ⟨rfl, rfl⟩ | ⟨hc, hh⟩ := source
  · exact ⟨⟨⟨i, screen⟩, none⟩, rfl⟩
  · exact ⟨⟨⟨i, screen⟩, some ⟨⟨c, hc⟩, ⟨h, hh⟩⟩⟩, rfl⟩

theorem ofRaw_item_eq_none {r : RawItem} (out : 8 ≤ r.screen ∨ ¬SourceInRange r.computer r.head) :
    SceneItem.ofRaw r = none := by
  rw [SceneItem.ofRaw]
  obtain screen | source := out
  · simp [(fin?_eq_none_iff 8 r.screen).2 screen]
  · simp [source?_eq_none source]

/-- A raw item names a screen and a head just when the item does. -/
theorem raw_names_iff {it : SceneItem} {i : ScreenId} {h : Head} :
    it.raw.screen = i.val ∧ it.raw.computer = h.computer.val ∧ it.raw.head = h.no.val ↔ it.screen = i ∧ it.source = some h := by
  obtain ⟨j, _ | g⟩ := it
  · have bound := h.computer.isLt
    simp only [SceneItem.raw, Option.elim_none, reduceCtorEq, and_false, iff_false]
    omega
  · obtain ⟨c, n⟩ := g
    obtain ⟨d, m⟩ := h
    simp [SceneItem.raw, Fin.ext_iff]

theorem itemBytes_eq (it : SceneItem) : itemBytes it = [byte it.raw.screen, byte it.raw.computer, byte it.raw.head] := by
  obtain ⟨i, x⟩ := it
  cases x <;> rfl

theorem exists_raws {items : List RawItem} (inRange : ∀ it ∈ items, it.screen < 8 ∧ SourceInRange it.computer it.head) :
    ∃ is : List SceneItem, is.map SceneItem.raw = items := by
  induction items with
  | nil => exact ⟨[], rfl⟩
  | cons r items ih =>
    obtain ⟨⟨screen, source⟩, rest⟩ := List.forall_mem_cons.1 inRange
    obtain ⟨it, rfl⟩ := exists_raw screen source
    obtain ⟨is, rfl⟩ := ih rest
    exact ⟨it :: is, rfl⟩

theorem mapM_raw (is : List SceneItem) : (is.map SceneItem.raw).mapM SceneItem.ofRaw = some is := by
  induction is with
  | nil => rfl
  | cons it is ih => simp [ih]

theorem mapM_eq_none_of_mem {α β : Type} {f : α → Option β} {a : α} {l : List α} (mem : a ∈ l) (none : f a = none) :
    l.mapM f = .none := by
  induction l with
  | nil => cases mem
  | cons b l ih =>
    obtain rfl | mem := List.mem_cons.1 mem
    · simp [none]
    · simp [ih mem]

theorem nodup_raw_iff (is : List SceneItem) :
    ((is.map SceneItem.raw).map RawItem.screen).Nodup ↔ (is.map (·.screen)).Nodup := by
  have eq : (is.map SceneItem.raw).map RawItem.screen = (is.map (·.screen)).map Fin.val := by
    rw [List.map_map, List.map_map]
    rfl
  rw [eq, List.nodup_map_iff Fin.val_injective]

/-! ### The range step of a scene (R50) -/

theorem optFin?_optId {n : Nat} (hn : n ≤ 255) (k : Option (Fin n)) : optFin? n (optId k).toNat = some k := by
  cases k with
  | none => rfl
  | some i =>
    have bound := i.isLt
    rw [optId_some_toNat i (by omega), optFin?, if_neg (by omega), fin?_val]
    rfl

theorem optFin?_eq_none {n k : Nat} (notNone : k ≠ 255) (out : n ≤ k) : optFin? n k = none := by
  rw [optFin?, if_neg notNone, (fin?_eq_none_iff n k).2 out]
  rfl

theorem sceneOfRaw_raw {is : List SceneItem} (length : is.length ≤ 8) (k : Option Computer) (w : Bool) :
    Scene.ofRaw (optId k).toNat w.toNat (is.map SceneItem.raw) = some ⟨is, k, w⟩ := by
  rw [Scene.ofRaw, mapM_raw]
  simp [optFin?_optId, length]

theorem sceneOfRaw_eq_none {k w : Nat} {items : List RawItem} (out : 8 < items.length ∨ (k ≠ 255 ∧ 6 ≤ k) ∨ 2 ≤ w ∨
    ∃ it ∈ items, 8 ≤ it.screen ∨ ¬SourceInRange it.computer it.head) : Scene.ofRaw k w items = none := by
  rw [Scene.ofRaw]
  obtain length | ⟨notNone, focus⟩ | wake | ⟨it, mem, item⟩ := out
  · simp [Nat.not_le.2 length]
  · simp [optFin?_eq_none notNone focus]
  · simp [yesNo?_eq_none wake]
  · simp [mapM_eq_none_of_mem mem (ofRaw_item_eq_none item)]

/-! ### The policy step (R50) -/

theorem breaksPolicy_iff {s : State} {it : SceneItem} : s.breaksPolicy it = true ↔
    ∃ h e, it.source = some h ∧ s.headEntry h = some e ∧ e.isPrivate = true ∧ inSet e.allowed it.screen = false := by
  rw [State.breaksPolicy]
  cases hx : it.source with
  | none => simp
  | some h => cases he : s.headEntry h <;> simp [HeadEntry.allows, he]

/-! ### STORE_SCENE past its range step -/

theorem judgeStoreScene_eq {n : SceneNo} {k : Option Computer} {w : Bool} {is : List SceneItem} {s : State}
    (length : is.length ≤ 8) : judgeStoreScene n (optId k).toNat w.toNat (is.map SceneItem.raw) s =
      if ¬(is.map (·.screen)).Nodup then .error .conflict
      else if is.any s.breaksPolicy then .error .refusedPolicy
      else ok (s.setScene n (if is.isEmpty then none else some ⟨is, k, w⟩)) := by
  simp only [judgeStoreScene, fin?_val, sceneOfRaw_raw length]

theorem judgeSetStartScene_some (n : SceneNo) (s : State) : judgeSetStartScene n s =
    if (s.scene n).isNone then .error .notFound else ok (s.setScreens { s.screens with startScene := some n }) := by
  have number : optFin? 16 n.val = some (some n) := by
    rw [optFin?, if_neg (by omega), fin?_val]
    rfl
  simp only [judgeSetStartScene, number]

theorem sceneBytes_stored (n : SceneNo) (k : Option Computer) (w : Bool) (is : List SceneItem) :
    sceneBytes n (if is.isEmpty then none else some ⟨is, k, w⟩) = if is.map SceneItem.raw = [] then [byte n, 0, 0xFF, 0] else
      [byte n, byte (is.map SceneItem.raw).length, optId k, if w then 1 else 0] ++
        (is.map SceneItem.raw).flatMap fun it => [byte it.screen, byte it.computer, byte it.head] := by
  cases is with
  | nil => rfl
  | cons it is =>
    have bytes : (fun it : SceneItem => itemBytes it) = fun it =>
      [byte it.raw.screen, byte it.raw.computer, byte it.raw.head] := funext itemBytes_eq
    simp only [List.isEmpty_cons, sceneBytes, List.flatMap_map, bytes, List.length_map]
    rfl

/-- A configuration record that writes the controller alone. -/
theorem exec_setScreens {i : Instr} {k : Nat} {b : List Nat} {s : State} {j : State → Judged} {x : ScreenController}
    (hr : i.record = some (k, b)) (hh : handleRecord i s.fresh = whenReady j s.fresh) (ready : s.profile.state = .ready)
    (hj : j s.fresh = ok (s.fresh.setScreens x)) : ∃ t, exec i s = .next t ∧ Answers k .ok [] s t ∧ t.screens = x ∧
      OnlyChanges [.link, .screens] s t := by
  refine ⟨_, exec_answered hr (handled_ready hh ready hj), answers_sendReply rfl, rfl,
    onlyChanges_of_fresh (onlyChanges_reply _ _ fun p hp => ?_)⟩
  cases p <;> simp [Part.same] at hp ⊢

/-- Settles O27: the range step inverts the raw form, so the checks and the stored scene are those of the items themselves. -/
theorem sceneStoreRules : Obligations.SceneStoreRules := by
  refine ⟨fun n k w items s ready out => ?_, fun n k w items s ready length inRange clash => ?_,
    fun n k w items s ready length inRange nodup breaks => ?_, fun n k w items s ready length inRange nodup keeps => ?_,
    fun n s loaded hn => ?_, fun n s ready hn notNone => ?_, fun n s ready empty => ?_, fun n s ready stored => ?_,
    fun s ready => ?_⟩
  · refine exec_ready_refused rfl rfl ready (j := judgeStoreScene n k w items) ?_
    rw [judgeStoreScene]
    obtain hn | out := out
    · rw [(fin?_eq_none_iff 16 n).2 hn]
    · rw [sceneOfRaw_eq_none out]
      split <;> simp_all
  · obtain ⟨is, rfl⟩ := exists_raws inRange
    rw [nodup_raw_iff] at clash
    refine exec_ready_refused rfl rfl ready (j := judgeStoreScene n _ _ _) ?_
    rw [judgeStoreScene_eq (by simpa using length), if_pos clash]
  · obtain ⟨is, rfl⟩ := exists_raws inRange
    rw [nodup_raw_iff] at nodup
    obtain ⟨r, h, i, e, raw, screen, computer, head, he, priv, barred⟩ := breaks
    obtain ⟨it, mem, rfl⟩ := List.mem_map.1 raw
    obtain ⟨rfl, source⟩ := raw_names_iff.1 ⟨screen, computer, head⟩
    have broken : is.any s.fresh.breaksPolicy = true :=
      List.any_eq_true.2 ⟨it, mem, breaksPolicy_iff.2 ⟨h, e, source, he, priv, barred⟩⟩
    refine exec_ready_refused rfl rfl ready (j := judgeStoreScene n _ _ _) ?_
    rw [judgeStoreScene_eq (by simpa using length), if_neg (not_not.2 nodup), if_pos broken]
  · obtain ⟨is, rfl⟩ := exists_raws inRange
    rw [nodup_raw_iff] at nodup
    have kept : ¬is.any s.fresh.breaksPolicy = true := by
      rw [List.any_eq_true]
      rintro ⟨it, mem, breaks⟩
      obtain ⟨h, e, source, he, priv, barred⟩ := breaksPolicy_iff.1 breaks
      obtain ⟨screen, computer, head⟩ := raw_names_iff.2 ⟨rfl, source⟩
      have allowed := keeps it.raw h it.screen e (List.mem_map_of_mem mem) screen computer head he priv
      rw [allowed] at barred
      cases barred
    have judged : judgeStoreScene n (optId k).toNat w.toNat (is.map SceneItem.raw) s.fresh =
        ok (s.fresh.setScene n (if is.isEmpty then none else some ⟨is, k, w⟩)) := by
      rw [judgeStoreScene_eq (by simpa using length), if_neg (not_not.2 nodup), if_neg kept]
    obtain ⟨t, ht, answer, screens, parts⟩ := exec_setScreens
      (i := .storeScene n (optId k).toNat w.toNat (is.map SceneItem.raw)) rfl rfl ready judged
    have stored : t.scene n = if is.isEmpty then none else some ⟨is, k, w⟩ := by simp [State.scene, screens]
    have loaded : t.profile.state ≠ .loading := by
      rw [parts .profile (by decide), ready]
      decide
    obtain ⟨u, hu, same, read⟩ := exec_loaded_read (i := .getScreenScene n) (sceneBytes n (t.scene n)) rfl rfl loaded
      (by rw [judgeGetScene, fin?_val]; rfl) ((congrArg (sceneBytes n) stored).trans (sceneBytes_stored n k w is))
    refine ⟨t, u, ht, answer, by rw [screens]; rfl, fun m hm => ?_, parts, hu, read⟩
    simp only [State.scene, screens]
    exact Vector.getElem_set_ne _ _ (fun eq => hm (Fin.ext eq.symm))
  · exact exec_loaded_refused rfl rfl loaded (by rw [judgeGetScene, (fin?_eq_none_iff 16 n).2 hn])
  · exact exec_ready_refused rfl rfl ready (j := judgeSetStartScene n) (by rw [judgeSetStartScene, optFin?_eq_none notNone hn])
  · refine exec_ready_refused rfl rfl ready (j := judgeSetStartScene n) ?_
    exact (judgeSetStartScene_some n s.fresh).trans (if_pos (Option.isNone_iff_eq_none.2 empty))
  · refine exec_setScreens rfl rfl ready (j := judgeSetStartScene n) ?_
    exact (judgeSetStartScene_some n s.fresh).trans (if_neg fun none => stored (Option.isNone_iff_eq_none.1 none))
  · exact exec_setScreens rfl rfl ready rfl

end Sys2Proof.Machine
end

section
/-!
PROOFS, desk power (O52): what the screens' records become as the desk enters STANDBY or OFF, the thresholds and the motion window.
-/

set_option Elab.async false
namespace Sys2Proof.Machine
open Sys2Proof Sys2Proof.Safety

/-! ### A screen as the desk enters low power (R46, R47) -/

/-- A record whose pending source, if any, was taken at once. -/
def ScreenRec.taken (r : ScreenRec) : ScreenRec :=
  { r with waiting := none, current := if r.waiting.isSome then r.waiting else r.current }

/-- A record after the message of a low-power state, with both timers stopped. -/
def rested (sel : Selection) (st : ScreenState) (r : ScreenRec) : ScreenRec :=
  { r with state := st, linkTimer := none, powerTimer := none, lockView := false, selected := some sel }

/-- A record as the desk enters a low-power state: `low` tells the low-power states that the screen leaves for it. -/
def lowered (low : ScreenState → Bool) (sel : Selection) (st : ScreenState) (r : ScreenRec) : ScreenRec :=
  if r.state.isOn then rested sel st r.taken else if low r.state then rested sel st r else r

def leavesForStandby (st : ScreenState) : Bool := st == .powering
def leavesForOff (st : ScreenState) : Bool := st == .standby || st == .powering

theorem screenRec_takeWaiting (i j : ScreenId) (s : State) :
    (takeWaiting i s).screenRec j = if i = j then (s.screenRec i).taken else s.screenRec j := by
  cases hw : (s.screenRec i).waiting with
  | some h => simp only [takeWaiting, hw, screenRec_takeQuiet, ScreenRec.given, ScreenRec.taken, Option.isSome_some, if_true]
  | none =>
    have kept : (s.screenRec i).taken = s.screenRec i := by
      cases hr : s.screenRec i
      simp_all [ScreenRec.taken]
    simp only [takeWaiting, hw]
    split
    · next h => rw [kept, h]
    · rfl

theorem context_takeWaiting (i : ScreenId) (s : State) : SameContext s (takeWaiting i s) := by
  unfold takeWaiting
  split
  · exact context_takeQuiet i _ s
  · exact .refl s

theorem context_rest (i : ScreenId) (sel : Selection) (st : ScreenState) (s : State) : SameContext s (rest i sel st s) := by
  simp [SameContext, rest]

/-- The form of both operations: a screen that is on, one in another state that it leaves, and any other. -/
def lowerScreen (low : ScreenState → Bool) (sel : Selection) (st : ScreenState) (i : ScreenId) (s : State) : State :=
  if (s.screenRec i).state.isOn then rest i sel st (takeWaiting i s)
  else if low (s.screenRec i).state then rest i sel st s
  else s

theorem screenStandby_eq : screenStandby = lowerScreen leavesForStandby .standby .standby := by
  funext i s
  simp only [screenStandby, lowerScreen, leavesForStandby, beq_iff_eq]

theorem screenOff_eq : screenOff = lowerScreen leavesForOff .off .off := by
  funext i s
  simp only [screenOff, lowerScreen, leavesForOff, Bool.or_eq_true, beq_iff_eq]

section
variable (low : ScreenState → Bool) (sel : Selection) (st : ScreenState)

theorem screenRec_lowerScreen (i j : ScreenId) (s : State) : (lowerScreen low sel st i s).screenRec j =
    if i = j then lowered low sel st (s.screenRec i) else s.screenRec j := by
  unfold lowerScreen lowered
  by_cases h : i = j
  · subst h
    split
    · simp [rested, screenRec_rest, screenRec_takeWaiting]
    · split <;> simp [rested, screenRec_rest]
  · split
    · simp [screenRec_rest, screenRec_takeWaiting, h]
    · split <;> simp [screenRec_rest, h]

theorem context_lowerScreen (i : ScreenId) (s : State) : SameContext s (lowerScreen low sel st i s) := by
  unfold lowerScreen
  split
  · exact (context_takeWaiting i s).trans (context_rest i sel st _)
  · split
    · exact context_rest i sel st s
    · exact .refl s

theorem onlyChanges_lowerScreen (i : ScreenId) (s : State) :
    OnlyChanges [.status, .screens, .lines] s (lowerScreen low sel st i s) := by
  intro p hp
  unfold lowerScreen
  split
  · cases p <;> simp [Part.same] at hp ⊢
  · split <;> cases p <;> simp [Part.same] at hp ⊢

theorem screenRec_eachLower (j : ScreenId) (s : State) :
    (eachScreen (lowerScreen low sel st) s).screenRec j = lowered low sel st (s.screenRec j) :=
  screenRec_each (g := fun _ _ r => lowered low sel st r) (context_lowerScreen low sel st) (screenRec_lowerScreen low sel st)
    (fun _ _ _ _ _ => rfl) s j

end

/-! ### The ways of R46 and R47, read off the record -/

section
variable {low : ScreenState → Bool} {sel : Selection} {st : ScreenState} {r : ScreenRec}

theorem lowered_on (on : r.state.isOn = true) : lowered low sel st r = rested sel st r.taken := if_pos on

theorem lowered_low (off : r.state.isOn = false) (leaves : low r.state = true) : lowered low sel st r = rested sel st r := by
  rw [lowered, off, leaves]
  rfl

theorem lowered_kept (off : r.state.isOn = false) (stays : low r.state = false) : lowered low sel st r = r := by
  rw [lowered, off, stays]
  rfl

end

/-! ### The desk's state (R181) -/

theorem onlyChanges_eachScreen {ps : List Part} {f : ScreenId → State → State} (h : ∀ i t, OnlyChanges ps t (f i t))
    (s : State) : OnlyChanges ps s (eachScreen f s) := by
  suffices ∀ (l : List ScreenId) (t : State), OnlyChanges ps t (l.foldl (fun s i => f i s) t) from this allScreens s
  intro l
  induction l with
  | nil => exact fun t p _ => by cases p <;> rfl
  | cons i l ih => exact fun t => onlyChanges_trans (h i t) (ih (f i t))

/-- The parts that the desk's entry into a low-power state may change. -/
def deskParts : List Part := [.desk, .status, .screens, .pointer, .lines, .ports, .power]

/-- What the desk's entry into a low-power state makes of the desk, the screens and the events. -/
theorem setDeskState_low {d : DeskState} {low : ScreenState → Bool} {sel : Selection} {st : ScreenState}
    (follow : ∀ t, screensFollow d t = onScreens (eachScreen (lowerScreen low sel st)) t) {s u : State}
    (hu : setDeskState d s = u) : u.desk = { s.desk with state := d, window := none } ∧ Raised (.deskPower d) u ∧
    (∀ j, u.screenRec j = lowered low sel st (s.screenRec j)) ∧ OnlyChanges deskParts s u := by
  subst hu
  have written : OnlyChanges deskParts s (followOutputs (s.setDesk { s.desk with state := d, window := none })) := by
    intro p hp
    cases p <;> simp [Part.same, deskParts] at hp ⊢
  have screens := onlyChanges_onScreens (onlyChanges_eachScreen (onlyChanges_lowerScreen low sel st)
    (followOutputs (s.setDesk { s.desk with state := d, window := none })))
  have raised (e : Event) (t : State) : OnlyChanges deskParts t (raise e t) := by
    intro p hp
    cases p <;> simp [Part.same, deskParts] at hp ⊢
  unfold setDeskState
  rw [follow]
  refine ⟨?_, raised_raise _ _, fun j => ?_,
    onlyChanges_trans written (onlyChanges_trans (onlyChanges_of_mem screens (by decide)) (raised _ _))⟩
  · have kept := screens .desk (by decide)
    simp only [raise_leaves]
    exact kept.trans (by simp)
  · rw [screenRec_raise, screenRec_onScreens, screenRec_eachLower]
    exact congrArg _ (screenRec_of_screens (by simp) j)

theorem screensFollow_standby (s : State) :
    screensFollow .standby s = onScreens (eachScreen (lowerScreen leavesForStandby .standby .standby)) s := by
  rw [← screenStandby_eq]
  rfl

theorem screensFollow_off (s : State) :
    screensFollow .off s = onScreens (eachScreen (lowerScreen leavesForOff .off .off)) s := by
  rw [← screenOff_eq]
  rfl

/-! ### The entries into low power, screen by screen -/

/-- What the screens' records are, in the form of R46 and R47. -/
theorem records_standby {s t : State} (recs : ∀ j, t.screenRec j = lowered leavesForStandby .standby .standby (s.screenRec j)) :
    (∀ j : ScreenId, (s.screenRec j).state.isOn = true → t.screenRec j = rested .standby .standby (s.screenRec j).taken) ∧
    (∀ j : ScreenId, (s.screenRec j).state = .powering → t.screenRec j = rested .standby .standby (s.screenRec j)) ∧
    (∀ j : ScreenId, (s.screenRec j).state = .unused ∨ (s.screenRec j).state = .standby ∨ (s.screenRec j).state = .off →
      t.screenRec j = s.screenRec j) := by
  refine ⟨fun j on => ?_, fun j powering => ?_, fun j kept => ?_⟩
  · rw [recs, lowered_on on]
  · rw [recs, lowered_low (by rw [powering]; rfl) (by rw [powering]; rfl)]
  · rw [recs]
    obtain h | h | h := kept <;> exact lowered_kept (by rw [h]; rfl) (by rw [h]; rfl)

theorem records_off {s t : State} (recs : ∀ j, t.screenRec j = lowered leavesForOff .off .off (s.screenRec j)) :
    (∀ j : ScreenId, (s.screenRec j).state.isOn = true → t.screenRec j = rested .off .off (s.screenRec j).taken) ∧
    (∀ j : ScreenId, (s.screenRec j).state = .powering ∨ (s.screenRec j).state = .standby →
      t.screenRec j = rested .off .off (s.screenRec j)) ∧
    (∀ j : ScreenId, (s.screenRec j).state = .unused ∨ (s.screenRec j).state = .off → t.screenRec j = s.screenRec j) := by
  refine ⟨fun j on => ?_, fun j low => ?_, fun j kept => ?_⟩
  · rw [recs, lowered_on on]
  · rw [recs]
    obtain h | h := low <;> exact lowered_low (by rw [h]; rfl) (by rw [h]; rfl)
  · rw [recs]
    obtain h | h := kept <;> exact lowered_kept (by rw [h]; rfl) (by rw [h]; rfl)

theorem onlyChanges_of_advanced {ps : List Part} {n : Nat} {s u : State} (h : OnlyChanges ps (s.fresh.advanceTo n) u) :
    OnlyChanges (.now :: ps) s u := by
  intro p hp
  have same := h p (fun mem => hp (List.mem_cons_of_mem _ mem))
  cases p
  case now => exact absurd (List.mem_cons_self ..) hp
  all_goals exact same

theorem enterStandby_active {s : State} (active : s.desk.state = .active) : enterStandby s = setDeskState .standby s :=
  if_pos active

theorem enterStandby_low {s : State} (low : s.desk.state ≠ .active) : enterStandby s = s := if_neg low

/-! ### The idle time (R179) -/

theorem idleReached_standby {s : State} {t0 : Nat} (active : s.desk.state = .active) (start : s.desk.idleStart = some t0)
    (first : s.desk.standbyAfter ≠ 0 ∧ (s.desk.offAfter = 0 ∨ s.desk.standbyAfter < s.desk.offAfter)) :
    idleReached s = setDeskState .standby (s.advanceTo (t0 + s.desk.standbyAfter)) := by
  simp only [idleReached, start, active, if_pos first]
  exact enterStandby_active active

theorem idleReached_off {s : State} {t0 : Nat} (start : s.desk.idleStart = some t0) (enabled : s.desk.offAfter ≠ 0)
    (first : s.desk.state = .standby ∨
      (s.desk.state = .active ∧ (s.desk.standbyAfter = 0 ∨ s.desk.offAfter ≤ s.desk.standbyAfter))) :
    idleReached s = enterOff (s.advanceTo (t0 + s.desk.offAfter)) := by
  obtain standby | ⟨active, later⟩ := first
  · simp only [idleReached, start, standby, if_pos enabled]
  · simp only [idleReached, start, active, if_pos enabled]
    exact if_neg (by omega)

theorem idleReached_none {s : State} (quiet : s.desk.idleStart = none ∨ s.desk.state = .off ∨
    (s.desk.state = .active ∧ s.desk.standbyAfter = 0 ∧ s.desk.offAfter = 0) ∨
    (s.desk.state = .standby ∧ s.desk.offAfter = 0)) : idleReached s = s := by
  unfold idleReached
  split
  · rfl
  · obtain stopped | off | ⟨active, standby, disabled⟩ | ⟨standby, disabled⟩ := quiet <;> simp_all

/-! ### The motion window (R180) -/

theorem motionExpiry_closed {s : State} (closed : s.desk.window = none) : motionExpiry s = s := by
  simp only [motionExpiry, closed]

theorem motionExpiry_open {s : State} {w : MotionWindow} (opened : s.desk.window = some w) :
    motionExpiry s = (s.reach w.timer).setDesk { s.desk with window := none } := by
  simp only [motionExpiry, opened]

/-! ### SET_DESK_POWER (R178) -/

/-- The desk with the six settings of a record. -/
def Desk.configured (sv sc ov oc dz : Nat) (wake : Bool) (d : Desk) : Desk :=
  { d with standbyValue := sv, standbyScale := sc, offValue := ov, offScale := oc, deadZone := dz, resumeWake := wake }

theorem restartForSettings_desk (s : State) :
    (restartForSettings s).desk = { s.desk with
      idleStart := if s.desk.state = .off then s.desk.idleStart else some s.now } := by
  unfold restartForSettings
  split <;> rfl

theorem onlyChanges_restartForSettings (s : State) : OnlyChanges [.desk] s (restartForSettings s) := by
  intro p hp
  unfold restartForSettings
  split <;> cases p <;> simp [Part.same] at hp ⊢

theorem deskReply_eq (s : State) : deskReply s =
    [byte s.desk.standbyValue, byte s.desk.standbyScale, byte s.desk.offValue, byte s.desk.offScale,
          byte s.desk.deadZone, if s.desk.resumeWake then 1 else 0, s.desk.state.code,
          if s.desk.idleStart.isSome then 1 else 0] ++
        word (match s.desk.idleStart with | none => 0 | some u => min 65535 ((s.now - u) / 100000)) ++
        (match s.desk.window with
          | none => ([0, 0, 0, 0, 0] : List Byte)
          | some w => (1 : Byte) :: (word w.sum ++ word ((w.timer.due - s.now) / 1000))) := by
  have idle : idleUnits s = match s.desk.idleStart with
      | none => 0
      | some u => min 65535 ((s.now - u) / 100000) := by
    unfold idleUnits
    cases s.desk.idleStart <;> rfl
  have window : windowBytes s = match s.desk.window with
      | none => ([0, 0, 0, 0, 0] : List Byte)
      | some w => (1 : Byte) :: (word w.sum ++ word ((w.timer.due - s.now) / 1000)) := by
    unfold windowBytes
    cases s.desk.window <;> rfl
  rw [deskReply, idle, window]
  rfl

theorem exec_setDeskPowerRead {s : State} (loaded : s.profile.state ≠ .loading) :
    ∃ t, exec .setDeskPowerRead s = .next t ∧ OnlyChanges [.link] s t ∧ Answers 0x71 .ok (deskReply s) s t :=
  exec_loaded_read (deskReply s) rfl rfl loaded rfl rfl

/-- Settles O52: the entries into low power lower every screen's record alike, and the thresholds tell which one is due. -/
theorem deskPowerRules : Obligations.DeskPowerRules := by
  refine ⟨fun sv sc ov oc dz rw s ready out => ?_, fun sv sc ov oc dz rw s ready hsv hsc hov hoc hdz hdz' => ?_,
    fun s loaded => ?_, fun d => ?_, fun s loaded low => ?_, fun i n s active cause => ?_,
    fun t0 s start enabled first => ?_, fun s quiet => ?_, fun s closed => ?_, fun w s opened => ?_⟩
  · refine exec_ready_refused rfl rfl ready (j := judgeSetDeskPower sv sc ov oc dz rw) ?_
    rw [judgeSetDeskPower]
    split
    · rfl
    · next wake hw =>
      rw [if_neg]
      intro fields
      have wakes : 2 ≤ rw := by omega
      rw [yesNo?_eq_none wakes] at hw
      cases hw
  · obtain ⟨u, hu⟩ : ∃ u, restartForSettings (s.fresh.setDesk (s.desk.configured sv sc ov oc dz rw)) = u := ⟨_, rfl⟩
    have judged : judgeSetDeskPower sv sc ov oc dz rw.toNat s.fresh = ok u (deskReply u) := by
      simp only [judgeSetDeskPower, yesNo?_toNat, ← hu]
      exact if_pos ⟨hsv, hov, hsc, hoc, hdz, hdz'⟩
    have desk : u.desk = _ := hu ▸ restartForSettings_desk _
    have parts : OnlyChanges [.desk] s u := onlyChanges_of_fresh (onlyChanges_trans
      (fun p hp => by cases p <;> simp [Part.same] at hp ⊢) (hu ▸ onlyChanges_restartForSettings _))
    have loaded : (u.sendReply 0x71 ⟨.ok, deskReply u⟩).profile.state ≠ .loading := by
      have kept : (u.sendReply 0x71 ⟨.ok, deskReply u⟩).profile = s.profile := parts .profile (by decide)
      rw [kept, ready]
      decide
    obtain ⟨v, hv, same, read⟩ := exec_setDeskPowerRead loaded
    exact ⟨_, v, exec_answered rfl (handled_ready rfl ready judged), desk, answers_sendReply (parts .link (by decide)),
      onlyChanges_reply _ _ parts, hv, read, same⟩
  · obtain ⟨t, ht, same, answer⟩ := exec_setDeskPowerRead loaded
    exact ⟨t, ht, same, (deskReply_eq s) ▸ answer⟩
  · refine ⟨fun h => ?_, fun h => ?_, fun h => ?_, fun h => ?_, fun h => ?_, fun h => ?_⟩
    all_goals
      simp only [Desk.standbyAfter, Desk.offAfter, threshold, h, idleScale]
      omega
  · have kept : enterStandby s.fresh = s.fresh := enterStandby_low low
    have judged : judgeDeskStandby s.fresh = ok s.fresh [s.desk.state.code] := by
      rw [judgeDeskStandby, kept]
      rfl
    obtain ⟨t, ht, same, answer⟩ :=
      exec_loaded_read (i := .deskStandby) [s.desk.state.code] rfl rfl loaded judged rfl
    exact ⟨t, ht, answer, same⟩
  · obtain ⟨rfl, rfl, loaded⟩ | ⟨t0, rfl, start, rfl, enabled, first⟩ := cause
    · obtain ⟨u, hu⟩ : ∃ u, setDeskState .standby s.fresh = u := ⟨_, rfl⟩
      obtain ⟨desk, raised, recs, parts⟩ := setDeskState_low screensFollow_standby hu
      obtain ⟨on, powering, kept⟩ := records_standby recs
      have judged : judgeDeskStandby s.fresh = ok u [1] := by
        rw [judgeDeskStandby, enterStandby_active (s := s.fresh) active, hu, desk]
        rfl
      exact ⟨_, exec_answered rfl (handled_loaded rfl loaded judged), parts .now (by decide),
        fun _ => answers_sendReply (parts .link (by decide)), desk, raised, on, powering, kept,
        onlyChanges_of_fresh (onlyChanges_of_mem (onlyChanges_reply _ _ parts) (by decide))⟩
    · obtain ⟨u, hu⟩ : ∃ u, setDeskState .standby (s.fresh.advanceTo (t0 + s.desk.standbyAfter)) = u := ⟨_, rfl⟩
      obtain ⟨desk, raised, recs, parts⟩ := setDeskState_low screensFollow_standby hu
      obtain ⟨on, powering, kept⟩ := records_standby recs
      have reached : effect .idleThresholdReached s.fresh = u :=
        (idleReached_standby (s := s.fresh) active start ⟨enabled, first⟩).trans hu
      exact ⟨u, reached ▸ exec_event _ s rfl, parts .now (by decide), nofun, desk, raised, on, powering, kept,
        onlyChanges_of_mem (onlyChanges_of_advanced parts) (by decide)⟩
  · obtain ⟨u, hu⟩ : ∃ u, enterOff (s.fresh.advanceTo (t0 + s.desk.offAfter)) = u := ⟨_, rfl⟩
    obtain ⟨desk, raised, recs, parts⟩ := setDeskState_low screensFollow_off hu
    obtain ⟨on, low, kept⟩ := records_off recs
    have reached : effect .idleThresholdReached s.fresh = u := (idleReached_off (s := s.fresh) start enabled first).trans hu
    have stopped : OnlyChanges deskParts (s.fresh.advanceTo (t0 + s.desk.offAfter)) u := onlyChanges_trans
      (fun p hp => by cases p <;> simp [Part.same, deskParts] at hp ⊢) parts
    exact ⟨u, reached ▸ exec_event _ s rfl, parts .now (by decide), desk, raised, on, low, kept,
      onlyChanges_of_mem (onlyChanges_of_advanced stopped) (by decide)⟩
  · exact ⟨_, exec_event _ s rfl, onlyChanges_of_fresh (by
      rw [effect, idleReached_none (s := s.fresh) quiet]; exact fun p _ => by cases p <;> rfl)⟩
  · exact ⟨_, exec_event _ s rfl, onlyChanges_of_fresh (by
      rw [effect, motionExpiry_closed (s := s.fresh) closed]; exact fun p _ => by cases p <;> rfl)⟩
  · refine ⟨_, exec_event _ s rfl, ?_⟩
    rw [effect, motionExpiry_open (s := s.fresh) opened]
    exact ⟨rfl, rfl, onlyChanges_of_fresh fun p hp => by cases p <;> simp [Part.same] at hp ⊢⟩

end Sys2Proof.Machine
end

section
/-!
PROOFS, wakes on the way: the notices of a change of source and a change of key focus leave each computer's power state, or take one
that is down to WAKING, or to UNRESPONSIVE where it has no wake method (R54, R101, R166, R172).
-/

set_option Elab.async false
namespace Sys2Proof.Machine
open Sys2Proof Sys2Proof.Safety

/-! ### The relation -/

/-- What a wake request makes of a computer that is down (R166). -/
def State.wokenState (s : State) (c : Computer) : PowerState := if s.hasMethod c then .waking else .unresponsive

/-- The wake methods are kept, and each power state is as it was or what a wake request makes of it. -/
structure Woken (s t : State) : Prop where
  method : ∀ c, t.hasMethod c = s.hasMethod c
  power : ∀ c, t.powerState c = s.powerState c ∨ ((s.powerState c).down = true ∧ t.powerState c = s.wokenState c)

theorem Woken.refl (s : State) : Woken s s := ⟨fun _ => rfl, fun _ => .inl rfl⟩

theorem Woken.wokenState {s t : State} (h : Woken s t) (c : Computer) : t.wokenState c = s.wokenState c := by
  rw [State.wokenState, State.wokenState, h.method]

theorem Woken.trans {s t u : State} (h : Woken s t) (k : Woken t u) : Woken s u where
  method c := (k.method c).trans (h.method c)
  power c := by
    obtain same | ⟨down, woken⟩ := k.power c
    · rw [same]
      exact h.power c
    · rw [h.wokenState] at woken
      obtain before | ⟨was, -⟩ := h.power c
      · exact .inr ⟨before ▸ down, woken⟩
      · exact .inr ⟨was, woken⟩

theorem woken_foldl {α : Type} {f : State → α → State} (h : ∀ s a, Woken s (f s a)) (l : List α) (s : State) :
    Woken s (l.foldl f s) := by
  induction l generalizing s with
  | nil => exact .refl s
  | cons a l ih => exact (h s a).trans (ih (f s a))

/-- A computer that was woken on the way stays so. -/
theorem Woken.stays {s t : State} (h : Woken s t) {c : Computer} (woken : s.powerState c = s.wokenState c) :
    t.powerState c = t.wokenState c := by
  rw [h.wokenState]
  obtain same | ⟨-, again⟩ := h.power c
  · rw [same, woken]
  · exact again

/-- A computer is ABSENT after just when it was before. -/
theorem Woken.absent_iff {s t : State} (h : Woken s t) (c : Computer) : t.powerState c = .absent ↔ s.powerState c = .absent := by
  obtain same | ⟨down, woken⟩ := h.power c
  · rw [same]
  · have never : s.wokenState c ≠ .absent := by
      unfold State.wokenState
      split <;> decide
    rw [woken]
    exact iff_of_false never (fun absent => by rw [absent] at down; cases down)

/-! ### Writes that leave the power records -/

theorem hasMethod_of_kept {s t : State} {c : Computer} (permission : (t.port c).permission = (s.port c).permission)
    (layout : t.layout = s.layout) : t.hasMethod c = s.hasMethod c := by
  simp only [State.hasMethod, permission, State.computer, layout]

theorem woken_of_kept {s t : State} (permission : ∀ c, (t.port c).permission = (s.port c).permission)
    (layout : t.layout = s.layout) (power : t.power = s.power) : Woken s t where
  method c := hasMethod_of_kept (permission c) layout
  power c := .inl (by simp only [State.powerState, State.powerRec, power])

theorem woken_of_parts {s t : State} (ports : t.ports = s.ports) (layout : t.layout = s.layout) (power : t.power = s.power) :
    Woken s t := woken_of_kept (fun c => by simp only [State.port, ports]) layout power

theorem woken_raise (e : Event) (s : State) : Woken s (raise e s) := woken_of_parts (by simp) (by simp) (by simp)

theorem woken_setPointer (p : PointerEngine) (s : State) : Woken s (s.setPointer p) := woken_of_parts rfl rfl rfl

theorem woken_placePointer (c : Computer) (x y : Nat) (b : ButtonSet) (w : Int) (s : State) :
    Woken s (placePointer c x y b w s) :=
  woken_of_kept (nudged_placePointer c x y b w s).permission (by simp) (by simp)

theorem woken_placeKeys (c : Computer) (k : KeyState) (s : State) : Woken s (placeKeys c k s).1 :=
  woken_of_kept (nudged_placeKeys c k s).permission (by simp) (by simp)

theorem woken_discardKeys (c : Computer) (k : KeyState) (s : State) : Woken s (discardKeys c k s).1 :=
  woken_of_kept (nudged_discardKeys c k s).permission (by simp) (by simp)

/-! ### Wake requests (R166) -/

theorem powerState_raise (e : Event) (s : State) (d : Computer) : (raise e s).powerState d = s.powerState d := by
  simp [State.powerState, State.powerRec]

theorem powerState_changePower (c d : Computer) (st : PowerState) (s : State) :
    (changePower c st s).powerState d = if c = d then st else s.powerState d := by
  rw [changePower, powerState_raise, powerState_setPowerState]

theorem powerState_startPulse (c d : Computer) (s : State) : (startPulse c s).powerState d = s.powerState d := by
  unfold startPulse
  split
  · rfl
  · rw [State.powerState_setPowerRec]
    split
    · next h => rw [← h]; rfl
    · rfl

theorem powerState_startAttempt {left : Bool} {c : Computer} {k : Nat} {s : State} (method : s.hasMethod c = true)
    (d : Computer) : (startAttempt left c k s).powerState d = s.powerState d := by
  obtain ⟨m, hm⟩ := attemptMethod_of_hasMethod s c k method
  have signalled (t : State) : (signalWake m left c t).powerState d = t.powerState d := by
    cases m with
    | link => simp only [signalWake, linkWake]; split <;> rfl
    | line => exact powerState_startPulse c d t
  simp only [startAttempt, hm, signalled, State.powerState_setPowerRec]
  split
  · next h => rw [← h]; rfl
  · rfl

theorem powerState_enterUnresponsive (c d : Computer) (s : State) :
    (enterUnresponsive c s).powerState d = if c = d then .unresponsive else s.powerState d := by
  have discarded (t : State) : (discardQueue c t).powerState d = t.powerState d := by
    simp [State.powerState, State.powerRec]
  rw [enterUnresponsive, powerState_raise, powerState_raise, discarded, powerState_setPowerState]
  split
  · rfl
  · next h => rw [State.powerState_setPowerRec, if_neg h]

theorem permission_enterUnresponsive (c d : Computer) (s : State) :
    ((enterUnresponsive c s).port d).permission = (s.port d).permission := by
  have raised (e : Event) (t : State) : (raise e t).port d = t.port d := by simp [State.port]
  have emptied (t : State) : (queueEmptied c t).port d = t.port d := by simp [State.port]
  have state (st : PowerState) (t : State) : (setPowerState c st t).port d = t.port d := by simp [State.port]
  rw [enterUnresponsive, raised, raised, discardQueue, emptied, State.port_setPort, state]
  split
  · next h =>
    subst h
    have discard (q : Port) : q.discard.permission = q.permission := rfl
    rw [discard, state]
    rfl
  · rfl

theorem wakeRequest_method {c : Computer} {s : State} (down : (s.powerState c).down = true) (method : s.hasMethod c = true) :
    wakeRequest c s = startAttempt false c 1 (changePower c .waking s) := by
  unfold wakeRequest
  split
  · exact if_pos method
  · exact if_pos method
  all_goals next h => rw [h] at down; cases down

theorem wakeRequest_up {c : Computer} {s : State} (up : (s.powerState c).down = false) : wakeRequest c s = s := by
  unfold wakeRequest
  split
  · next h => rw [h] at up; cases up
  · next h => rw [h] at up; cases up
  all_goals rfl

/-- Without a method a wake fails at once: the computer is UNRESPONSIVE after, the others' states and every permission are kept. -/
theorem wakeRequest_fails {c : Computer} {s : State} (down : (s.powerState c).down = true) (method : s.hasMethod c = false)
    (d : Computer) : (wakeRequest c s).powerState d = (if c = d then .unresponsive else s.powerState d) ∧
      ((wakeRequest c s).port d).permission = (s.port d).permission := by
  unfold wakeRequest
  split
  · rw [if_neg (by simp [method])]
    exact ⟨powerState_enterUnresponsive c d s, permission_enterUnresponsive c d s⟩
  · next h =>
    rw [if_neg (by simp [method]), powerState_raise]
    refine ⟨?_, (nudged_raise _ s).permission d⟩
    split
    · next e => rw [← e, h]
    · rfl
  all_goals next h => rw [h] at down; cases down

theorem powerState_wakeRequest (c d : Computer) (s : State) : (wakeRequest c s).powerState d =
    if c = d ∧ (s.powerState c).down = true then s.wokenState c else s.powerState d := by
  cases down : (s.powerState c).down with
  | false => rw [wakeRequest_up down, if_neg (fun h => Bool.false_ne_true h.2)]
  | true =>
    cases method : s.hasMethod c with
    | true =>
      rw [wakeRequest_method down method, powerState_startAttempt (by simpa using method), powerState_changePower,
        State.wokenState, method]
      simp
    | false =>
      rw [(wakeRequest_fails down method d).1, State.wokenState, method]
      simp

theorem permission_wakeRequest (c d : Computer) (s : State) :
    ((wakeRequest c s).port d).permission = (s.port d).permission := by
  cases method : s.hasMethod c with
  | true => exact (nudged_wakeRequest method).permission d
  | false =>
    cases down : (s.powerState c).down with
    | false => rw [wakeRequest_up down]
    | true => exact (wakeRequest_fails down method d).2

theorem woken_wakeRequest (c : Computer) (s : State) : Woken s (wakeRequest c s) where
  method d := hasMethod_of_kept (permission_wakeRequest c d s) (by simp)
  power d := by
    rw [powerState_wakeRequest]
    split
    · next h =>
      obtain ⟨rfl, down⟩ := h
      exact .inr ⟨down, rfl⟩
    · exact .inl rfl

theorem woken_disarm (c : Computer) (s : State) : Woken s (s.setPowerRec c { s.powerRec c with armed := false }) where
  method d := hasMethod_setPowerRec s c d _
  power d := by
    rw [State.powerState_setPowerRec]
    split
    · next h => exact .inl (by rw [← h]; rfl)
    · exact .inl rfl

theorem woken_inputNotice (c : Computer) (s : State) : Woken s (inputNotice c s) := by
  unfold inputNotice
  split
  · split
    · exact .refl s
    · exact woken_wakeRequest c s
    · split
      · exact (woken_disarm c s).trans (woken_wakeRequest c _)
      · exact .refl s
  · exact .refl s

/-! ### Entries (R151) -/

theorem woken_takePointer (c : Computer) (x y : Nat) (b : ButtonSet) (w : Int) (s : State) :
    Woken s (takePointer c x y b w s) := by
  have noticed : Woken s (if pointerReleaseOnly (s.port c) x y b w then s else inputNotice c s) := by
    split
    · exact .refl s
    · exact woken_inputNotice c s
  unfold takePointer
  split
  · exact woken_placePointer c x y b w s
  · exact woken_placePointer c x y b w s
  · exact noticed.trans (woken_placePointer c x y b w _)
  · exact noticed.trans (woken_placePointer c x y b w _)
  · dsimp only
    generalize (if pointerReleaseOnly (s.port c) x y b w then s else inputNotice c s) = t at noticed ⊢
    split
    · exact noticed.trans (woken_placePointer c x y b w t)
    · exact noticed
  · exact .refl s

theorem woken_takeKeys (c : Computer) (k : KeyState) (s : State) : Woken s (takeKeys c k s).1 := by
  have noticed : Woken s (if k.sub (s.committedKeys c) then s else inputNotice c s) := by
    split
    · exact .refl s
    · exact woken_inputNotice c s
  unfold takeKeys
  split
  · exact woken_placeKeys c k s
  · exact woken_placeKeys c k s
  · exact noticed.trans (woken_placeKeys c k _)
  · exact noticed.trans (woken_placeKeys c k _)
  · dsimp only
    generalize (if k.sub (s.committedKeys c) then s else inputNotice c s) = t at noticed ⊢
    split
    · exact noticed.trans (woken_placeKeys c k t)
    · exact noticed.trans (woken_discardKeys c k t)
  · exact woken_discardKeys c k s

theorem woken_releaseKeys (c : Computer) (s : State) : Woken s (releaseKeys c s) := by
  unfold releaseKeys
  split
  · exact .refl s
  · exact woken_takeKeys c .empty s

theorem woken_handEntry (c : Computer) (x y : Nat) (b : ButtonSet) (w : Int) (s : State) : Woken s (handEntry c x y b w s) := by
  unfold handEntry
  split
  · exact (woken_setPointer _ s).trans (woken_takePointer c x y b w _)
  · exact .refl s

theorem woken_handPlace (w : Int) (s : State) : Woken s (handPlace w s) := by
  unfold handPlace
  split
  · split
    · exact woken_handEntry _ _ _ _ w s
    · exact .refl s
  · exact .refl s

/-! ### The pointer's notices (R77, R82) -/

theorem woken_leaveStandIn (a : Computer) (s : State) : Woken s (leaveStandIn a s) := by
  unfold leaveStandIn swallowHeld
  refine Woken.trans ?_ (woken_setPointer _ _)
  split
  · exact woken_takePointer a _ _ 0 0 s
  · exact .refl s

theorem woken_pointerFocusChange (a : Computer) (n : Option Computer) (s : State) : Woken s (pointerFocusChange a n s) := by
  rw [pointerFocusChange_eq, leftStandIn, takeFocus, raiseFocus]
  refine Woken.trans ?_ ((woken_setPointer _ _).trans ((woken_raise _ _).trans (woken_handPlace 0 _)))
  split
  · exact .refl s
  · exact woken_leaveStandIn a s

theorem woken_movePointer (p : Place) (s : State) : Woken s (movePointer p s) := by
  have set : Woken s (setPlace (some p) (setPush none s)) := (woken_setPointer _ s).trans (woken_setPointer _ _)
  unfold movePointer
  dsimp only
  split
  · exact set.trans (woken_handPlace 0 _)
  · exact set.trans (woken_pointerFocusChange _ _ _)

theorem woken_parkPointer (s : State) : Woken s (parkPointer s) := by
  have set : Woken s (setPlace none (setPush none s)) := (woken_setPointer _ s).trans (woken_setPointer _ _)
  unfold parkPointer
  dsimp only
  split
  · exact set
  · exact set.trans (woken_pointerFocusChange _ _ _)

theorem woken_reHome (s : State) : Woken s (reHome s) := by
  unfold reHome
  split
  · exact woken_movePointer _ s
  · exact woken_parkPointer s

theorem woken_sourceChanged (i : ScreenId) (s : State) : Woken s (sourceChanged i s) := by
  have dropped : Woken s (dropPushOn i s) := woken_of_parts (by simp) (by simp) (by simp)
  have under (t : State) : Woken t (sourceUnderPointer i t) := by
    unfold sourceUnderPointer
    split
    · exact woken_reHome t
    · split
      · exact .refl t
      · exact woken_pointerFocusChange _ _ t
  unfold sourceChanged unpark
  dsimp only
  split
  · split
    · exact dropped.trans (woken_reHome _)
    · exact dropped
  · split
    · exact dropped.trans (under _)
    · exact dropped

/-! ### The change of key focus (R101) -/

theorem woken_releaseAtFocus (a : Computer) (s : State) : Woken s (releaseAtFocus a s) := by
  unfold releaseAtFocus swallowHeld
  split
  · exact (woken_takePointer a _ _ 0 0 s).trans (woken_setPointer _ _)
  · split
    · exact woken_setPointer _ s
    · exact .refl s

theorem woken_moveKeyFocus (b : Computer) (s : State) : Woken s (moveKeyFocus b s) :=
  woken_of_parts (by simp [moveKeyFocus]) (by simp [moveKeyFocus]) (by simp [moveKeyFocus])

theorem woken_focusWake (b : Computer) (s : State) : Woken s (focusWake b s) := by
  unfold focusWake
  split
  · exact woken_wakeRequest b s
  · exact .refl s

/-- Steps 1 to 6 of the focus change sequence. -/
def focusMoved (c : Computer) (s : State) : State :=
  moveKeyFocus c (releaseAtFocus s.keyboard.focus (releaseKeys s.keyboard.focus s))

theorem focusRequest_same {c : Computer} {s : State} (h : s.keyboard.focus = c) : focusRequest false c s = s := if_pos h

theorem focusRequest_moves {c : Computer} {s : State} (h : s.keyboard.focus ≠ c) :
    focusRequest false c s = focusWake c ((raiseFocus (focusMoved c s)).setSlot none) := by
  simp only [focusRequest, if_neg h, focusChange, focusMoved, Bool.false_eq_true, if_false]

theorem woken_focusMoved (c : Computer) (s : State) : Woken s (focusMoved c s) :=
  ((woken_releaseKeys _ s).trans (woken_releaseAtFocus _ _)).trans (woken_moveKeyFocus c _)

theorem woken_focusRequest (c : Computer) (s : State) : Woken s (focusRequest false c s) := by
  by_cases h : s.keyboard.focus = c
  · rw [focusRequest_same h]
    exact .refl s
  · have raised : Woken (focusMoved c s) ((raiseFocus (focusMoved c s)).setSlot none) :=
      woken_of_parts (by simp) (by simp) (by simp)
    rw [focusRequest_moves h]
    exact ((woken_focusMoved c s).trans raised).trans (woken_focusWake c _)

/-! ### The key focus after -/

theorem focus_enterUnresponsive (c : Computer) (s : State) :
    (enterUnresponsive c s).keyboard.focus = s.keyboard.focus := by
  have emptied (t : State) : (queueEmptied c t).keyboard.focus = t.keyboard.focus := by
    unfold queueEmptied
    split <;> rfl
  simp [enterUnresponsive, discardQueue, emptied]

theorem focus_wakeRequest (c : Computer) (s : State) : (wakeRequest c s).keyboard.focus = s.keyboard.focus := by
  cases method : s.hasMethod c with
  | true => rw [wakeRequest_keyboard c s method]
  | false =>
    unfold wakeRequest
    split
    · rw [if_neg (by simp [method])]
      exact focus_enterUnresponsive c s
    · rw [if_neg (by simp [method]), (raise_leaves _ s).2.2.2.2.2.2.2.1]
    all_goals rfl

theorem focus_focusRequest (c : Computer) (s : State) : (focusRequest false c s).keyboard.focus = c := by
  by_cases h : s.keyboard.focus = c
  · rw [focusRequest_same h, h]
  · rw [focusRequest_moves h]
    have moved : ((raiseFocus (focusMoved c s)).setSlot none).keyboard.focus = c := by
      simp [focusMoved, moveKeyFocus]
    unfold focusWake
    split
    · rw [focus_wakeRequest, moved]
    · exact moved

end Sys2Proof.Machine
end

section
/-!
PROOFS, applying a scene (O28): the record in flight, the items, the key focus and the wakes, step by step of R51.
-/

set_option Elab.async false
namespace Sys2Proof.Machine
open Sys2Proof Sys2Proof.Safety

/-! ### The record in flight (R51 step 1, R52, R53) -/

theorem inSet_named (sc : Scene) (i : ScreenId) : inSet sc.named i = true ↔ ∃ it ∈ sc.items, it.screen = i := by
  have fold (l : List SceneItem) (b : ScreenSet) :
      inSet (l.foldl (fun b it => b ||| screenBit it.screen) b) i = true ↔ inSet b i = true ∨ ∃ it ∈ l, it.screen = i := by
    induction l generalizing b with
    | nil => simp
    | cons it l ih => simp [ih, inSet_or, inSet_screenBit, or_assoc]
  have empty : inSet 0 i = false := by simp [inSet]
  rw [Scene.named, fold, empty]
  simp

/-- The outstanding set of a record before any screen has settled. -/
def sceneHeld (sc : Scene) (s : State) : ScreenSet :=
  let fresh := screenSetOf fun i => inSet sc.named i && (s.screenRect i).isSome
  match s.screens.inFlight with
  | none => fresh
  | some f => (f.outstanding &&& ~~~sc.named) ||| fresh

theorem inSet_sceneHeld (sc : Scene) (s : State) (i : ScreenId) : inSet (sceneHeld sc s) i = true ↔ SceneHolds sc s i := by
  have removed (a b : ScreenSet) : inSet (a &&& ~~~b) i = true ↔ inSet a i = true ∧ ¬inSet b i = true := by
    have bound := i.isLt
    simp [inSet, bound]
  have fresh : inSet (screenSetOf fun i => inSet sc.named i && (s.screenRect i).isSome) i = true ↔
      (∃ it ∈ sc.items, it.screen = i) ∧ s.screenRect i ≠ none := by
    rw [inSet_screenSetOf, Bool.and_eq_true, inSet_named, Option.isSome_iff_ne_none]
  have others : (¬∃ it ∈ sc.items, it.screen = i) ↔ ∀ it ∈ sc.items, it.screen ≠ i := by simp
  simp only [sceneHeld, SceneHolds]
  cases hf : s.screens.inFlight with
  | none => simp [fresh]
  | some f =>
    rw [inSet_or, Bool.or_eq_true, removed, fresh, inSet_named, others, or_comm, and_comm (a := inSet f.outstanding i = true)]
    simp

theorem formRecord_screens (n : SceneNo) (sc : Scene) (s : State) : (formRecord n sc s).screens = { s.screens with
    inFlight := some ⟨n, sceneHeld sc s, s.screens.inFlight.any (·.incomplete), s.screens.inFlight.isSome⟩ } := by
  cases hf : s.screens.inFlight <;> simp [formRecord, sceneHeld, hf]

theorem screenRec_formRecord (n : SceneNo) (sc : Scene) (s : State) (i : ScreenId) :
    (formRecord n sc s).screenRec i = s.screenRec i := by
  simp only [State.screenRec, formRecord_screens]

theorem screenSetOf_eq_zero_iff (p : ScreenId → Bool) : screenSetOf p = 0 ↔ ∀ i, p i = false := by
  constructor
  · intro zero i
    rw [← inSet_screenSetOf p i, zero]
    simp [inSet]
  · intro none
    refine BitVec.eq_of_getLsbD_eq fun i hi => ?_
    have empty : inSet (screenSetOf p) ⟨i, hi⟩ = false := (inSet_screenSetOf p _).trans (none _)
    simpa [inSet] using empty

/-- The settling test with a screen of the record that has not settled: the record stays with those that have not (R52). -/
theorem settleAll_held {s : State} {f : InFlight} (h : s.screens.inFlight = some f) {i : ScreenId}
    (outstanding : inSet f.outstanding i = true) (unsettled : (s.screenRec i).settled = false) :
    ∃ g, (settleAll s).screens.inFlight = some g ∧ g.scene = f.scene ∧ g.incomplete = f.incomplete ∧
      g.superseded = f.superseded ∧
      ∀ j, inSet g.outstanding j = true ↔ inSet f.outstanding j = true ∧ (s.screenRec j).settled = false := by
  have left : screenSetOf (fun i => inSet f.outstanding i && !(s.screenRec i).settled) ≠ 0 := by
    rw [Ne, screenSetOf_eq_zero_iff]
    intro none
    have := none i
    rw [outstanding, unsettled] at this
    cases this
  simp only [settleAll, h, if_neg left]
  exact ⟨_, rfl, rfl, rfl, rfl, fun j => by rw [inSet_screenSetOf]; simp⟩

/-- The settling test with every screen of the record settled ends it (R52). -/
theorem settleAll_done {s : State} {f : InFlight} (h : s.screens.inFlight = some f)
    (settled : ∀ i, inSet f.outstanding i = true → (s.screenRec i).settled = true) :
    (settleAll s).screens.inFlight = none ∧ Raised (.sceneDone f.scene f.incomplete f.superseded) (settleAll s) := by
  have empty : screenSetOf (fun i => inSet f.outstanding i && !(s.screenRec i).settled) = 0 := by
    rw [screenSetOf_eq_zero_iff]
    intro i
    cases hi : inSet f.outstanding i
    · rfl
    · rw [settled i hi]
      rfl
  simp only [settleAll, h, if_pos empty]
  exact ⟨by simp, raised_raise _ _⟩

/-! ### The items (R51 step 2) -/

theorem sourceFits_of_layout {s t : State} (h : t.layout = s.layout) (i : ScreenId) (x : Option Head) :
    t.sourceFits i x = s.sourceFits i x := by
  cases x <;> simp only [State.sourceFits, State.headEntry, h]

theorem skips_of_layout {s t : State} (h : t.layout = s.layout) (it : SceneItem) : t.skips it = s.skips it := by
  simp only [State.skips, sourceFits_of_layout h, State.screenRect, h]

theorem skips_iff (s : State) (it : SceneItem) :
    s.skips it = true ↔ s.screenRect it.screen = none ∨ s.sourceFits it.screen it.source = false := by
  simp [State.skips]

theorem skips_eq_false_iff (s : State) (it : SceneItem) :
    s.skips it = false ↔ s.screenRect it.screen ≠ none ∧ s.sourceFits it.screen it.source = true := by
  rw [← Bool.not_eq_true, skips_iff, not_or, Bool.not_eq_false]

theorem screenRec_setIncomplete (s : State) (i : ScreenId) : (setIncomplete s).screenRec i = s.screenRec i := by
  unfold setIncomplete
  split <;> rfl

theorem inFlight_setIncomplete {s : State} {f : InFlight} (h : s.screens.inFlight = some f) :
    (setIncomplete s).screens.inFlight = some { f with incomplete := true } := by
  unfold setIncomplete
  rw [h]
  rfl

theorem inFlight_enterScreen (i : ScreenId) (st : ScreenState) (s : State) :
    (enterScreen i st s).screens.inFlight = s.screens.inFlight := by
  rw [enterScreen_screens]
  rfl

theorem inFlight_followSource (i : ScreenId) (s : State) : (followSource i s).screens.inFlight = s.screens.inFlight := by
  have sent : (messaged i s).screens.inFlight = s.screens.inFlight := rfl
  rw [followSource_eq]
  repeat' split
  all_goals exact (inFlight_enterScreen i _ _).trans sent

theorem inFlight_takeSource (i : ScreenId) (x : Option Head) (s : State) :
    (takeSource i x s).screens.inFlight = s.screens.inFlight := by
  simp only [takeSource]
  split
  · rw [(raise_leaves _ _).2.2.2.2.2.1]
    exact inFlight_followSource i _
  · exact inFlight_followSource i _

theorem inFlight_takeQuiet (i : ScreenId) (x : Option Head) (s : State) :
    (takeQuiet i x s).screens.inFlight = s.screens.inFlight := by
  simp only [takeQuiet]
  split
  · rfl
  · rw [(raise_leaves _ _).2.2.2.2.2.1]
    rfl

theorem inFlight_assignSource (i : ScreenId) (x : Option Head) (s : State) :
    (assignSource i x s).screens.inFlight = s.screens.inFlight := by
  by_cases unused : (s.screenRec i).state = .unused
  · rw [assignSource_unused unused]
  by_cases on : (s.screenRec i).state.isOn = true
  · rw [assignSource_on on]
    by_cases same : x = (s.screenRec i).current
    · rw [assignOn_same same]
      rfl
    · rw [assignOn_differs same]
      split
      · rfl
      · exact inFlight_takeSource i x s
  · rw [assignSource_off unused (Bool.eq_false_iff.2 on)]
    exact inFlight_takeQuiet i x s

theorem applyItem_skipped {s : State} {it : SceneItem} (h : s.skips it = true) : applyItem s it = setIncomplete s := if_pos h

theorem applyItem_taken {s : State} {it : SceneItem} (h : s.skips it = false) :
    applyItem s it = withNotices (assignSource it.screen it.source) s := if_neg (by rw [h]; decide)

theorem screenRec_applyItem (s : State) (it : SceneItem) (j : ScreenId) : (applyItem s it).screenRec j =
    if it.screen = j ∧ s.skips it = false then assigned s it.source (s.screenRec j) else s.screenRec j := by
  cases h : s.skips it with
  | true => rw [applyItem_skipped h, screenRec_setIncomplete, if_neg (fun h => by cases h.2)]
  | false =>
    rw [applyItem_taken h, screenRec_of_screens (withNotices_screens _ s), screenRec_assignSource]
    by_cases e : it.screen = j
    · rw [if_pos e, if_pos ⟨e, rfl⟩, e]
    · rw [if_neg e, if_neg (fun h => e h.1)]

theorem inFlight_applyItem {s : State} {f : InFlight} (h : s.screens.inFlight = some f) (it : SceneItem) :
    (applyItem s it).screens.inFlight = some { f with incomplete := f.incomplete || s.skips it } := by
  cases hs : s.skips it with
  | true => rw [applyItem_skipped hs, inFlight_setIncomplete h, Bool.or_true]
  | false => rw [applyItem_taken hs, withNotices_screens, inFlight_assignSource, h, Bool.or_false]

theorem keyboard_applyItem (s : State) (it : SceneItem) : (applyItem s it).keyboard = s.keyboard := by
  unfold applyItem
  split
  · simp
  · exact withNotices_leaves State.keyboard _ (fun s => by simp) (fun i s => by simp) s

theorem woken_applyItem (s : State) (it : SceneItem) : Woken s (applyItem s it) := by
  unfold applyItem
  split
  · exact woken_of_parts (by simp) (by simp) (by simp)
  · refine Woken.trans (t := assignSource it.screen it.source s) (woken_of_parts (by simp) (by simp) (by simp)) ?_
    unfold withNotices
    refine woken_foldl (fun t i => ?_) allScreens _
    split
    · exact .refl t
    · exact woken_sourceChanged i t

section
variable {items : List SceneItem}

/-- A screen that no item names keeps its record. -/
theorem screenRec_items_other {s : State} {j : ScreenId} (other : ∀ it ∈ items, it.screen ≠ j) :
    (items.foldl applyItem s).screenRec j = s.screenRec j := by
  induction items generalizing s with
  | nil => rfl
  | cons it items ih =>
    obtain ⟨here, rest⟩ := List.forall_mem_cons.1 other
    rw [List.foldl_cons, ih rest, screenRec_applyItem, if_neg (fun h => here h.1)]

/-- An item that is not skipped is dealt with as an ASSIGN of its source to its screen (R41, R49). -/
theorem screenRec_items_taken {s : State} {it : SceneItem} (nodup : (items.map SceneItem.screen).Nodup) (mem : it ∈ items)
    (taken : s.skips it = false) :
    (items.foldl applyItem s).screenRec it.screen = assigned s it.source (s.screenRec it.screen) := by
  induction items generalizing s with
  | nil => cases mem
  | cons jt items ih =>
    obtain ⟨once, nodup⟩ := List.nodup_cons.1 nodup
    rw [List.foldl_cons]
    obtain rfl | mem := List.mem_cons.1 mem
    · rw [screenRec_items_other (fun kt hk e => once (List.mem_map.2 ⟨kt, hk, e⟩)), screenRec_applyItem, if_pos ⟨rfl, taken⟩]
    · have other : jt.screen ≠ it.screen := fun e => once (List.mem_map.2 ⟨it, mem, e.symm⟩)
      have context := context_applyItem s jt
      rw [ih nodup mem (by rw [skips_of_layout context.1, taken]), assigned_of_context context, screenRec_applyItem,
        if_neg (fun h => other h.1)]

theorem inFlight_items {s : State} {f : InFlight} (h : s.screens.inFlight = some f) :
    (items.foldl applyItem s).screens.inFlight = some { f with incomplete := f.incomplete || items.any s.skips } := by
  induction items generalizing s f with
  | nil => simpa using h
  | cons it items ih =>
    have skips : (applyItem s it).skips = s.skips := funext (skips_of_layout (context_applyItem s it).1)
    rw [List.foldl_cons, ih (inFlight_applyItem h it), skips, List.any_cons, Bool.or_assoc]

theorem keyboard_items (s : State) : (items.foldl applyItem s).keyboard = s.keyboard :=
  foldl_leaves State.keyboard _ keyboard_applyItem items s

theorem woken_items (s : State) : Woken s (items.foldl applyItem s) := woken_foldl woken_applyItem items s

end

/-! ### The key focus (R54) -/

theorem screenRec_sceneFocus (sc : Scene) (s : State) (i : ScreenId) : (sceneFocus sc s).screenRec i = s.screenRec i := by
  unfold sceneFocus
  split
  · rfl
  · split
    · exact screenRec_setIncomplete s i
    · exact screenRec_of_screens (by simp) i

theorem inFlight_sceneFocus {sc : Scene} {s : State} {f : InFlight} (h : s.screens.inFlight = some f) :
    (sceneFocus sc s).screens.inFlight =
      some { f with incomplete := f.incomplete || sc.keyFocus.any fun c => s.powerState c == .absent } := by
  cases hk : sc.keyFocus with
  | none => simpa [sceneFocus, hk] using h
  | some c =>
    simp only [sceneFocus, hk, Option.any_some]
    split
    · next absent => rw [inFlight_setIncomplete h, absent]; simp
    · next present => simp [h, beq_eq_false_iff_ne.2 present]

theorem focus_sceneFocus (sc : Scene) (s : State) : (sceneFocus sc s).keyboard.focus = match sc.keyFocus with
    | some c => if s.powerState c = .absent then s.keyboard.focus else c
    | none => s.keyboard.focus := by
  cases hk : sc.keyFocus with
  | none => simp [sceneFocus, hk]
  | some c =>
    simp only [sceneFocus, hk]
    split
    · simp
    · exact focus_focusRequest c s

theorem woken_sceneFocus (sc : Scene) (s : State) : Woken s (sceneFocus sc s) := by
  unfold sceneFocus
  split
  · exact .refl s
  · split
    · exact woken_of_parts (by simp) (by simp) (by simp)
    · exact woken_focusRequest _ s

/-! ### The wakes (R54) -/

/-- The wake of one computer that a scene shows. -/
def sceneWake (sc : Scene) (s : State) (c : Computer) : State :=
  if s.sceneShows sc c ∧ (s.powerState c).down then wakeRequest c s else s

theorem sceneWakes_eq {sc : Scene} (s : State) (wake : sc.wake = true) :
    sceneWakes sc s = allComputers.foldl (sceneWake sc) s := if_pos wake

theorem woken_sceneWake (sc : Scene) (s : State) (c : Computer) : Woken s (sceneWake sc s c) := by
  unfold sceneWake
  split
  · exact woken_wakeRequest c s
  · exact .refl s

theorem sceneShows_of_layout {s t : State} (h : t.layout = s.layout) (sc : Scene) (c : Computer) :
    t.sceneShows sc c = s.sceneShows sc c := by
  simp only [State.sceneShows, skips_of_layout h]

theorem focus_sceneWakes (sc : Scene) (s : State) : (sceneWakes sc s).keyboard.focus = s.keyboard.focus := by
  unfold sceneWakes
  split
  · exact foldl_leaves (fun s => s.keyboard.focus) _ (fun t c => by split; exacts [focus_wakeRequest c t, rfl]) allComputers s
  · rfl

/-- At its turn a computer that the scene shows is woken, if it was not on the way. -/
theorem powerState_sceneWake {sc : Scene} {s u : State} {c : Computer} (woken : Woken s u) (shows : u.sceneShows sc c = true)
    (state : (s.powerState c).down = true ∨ s.powerState c = s.wokenState c) :
    (sceneWake sc u c).powerState c = u.wokenState c := by
  unfold sceneWake
  cases down : (u.powerState c).down with
  | true => rw [if_pos ⟨shows, rfl⟩, powerState_wakeRequest, if_pos ⟨rfl, down⟩]
  | false =>
    rw [if_neg (fun h => Bool.false_ne_true h.2), woken.wokenState]
    obtain same | ⟨-, after⟩ := woken.power c
    · obtain was | was := state
      · rw [same, was] at down
        cases down
      · rw [same, was]
    · exact after

theorem powerState_sceneWakes {sc : Scene} {s : State} {c : Computer} (wake : sc.wake = true) (shows : s.sceneShows sc c = true)
    (state : (s.powerState c).down = true ∨ s.powerState c = s.wokenState c) :
    (sceneWakes sc s).powerState c = s.wokenState c := by
  obtain ⟨before, after, split⟩ := List.append_of_mem (mem_allComputers c)
  rw [sceneWakes_eq s wake, split, List.foldl_append, List.foldl_cons]
  have earlier : Woken s (before.foldl (sceneWake sc) s) := woken_foldl (woken_sceneWake sc) before s
  have layout : (before.foldl (sceneWake sc) s).layout = s.layout :=
    foldl_leaves State.layout _ (fun t c => by unfold sceneWake; split <;> simp) before s
  have turn := powerState_sceneWake earlier ((sceneShows_of_layout layout sc c).trans shows) state
  have here := woken_sceneWake sc (before.foldl (sceneWake sc) s) c
  have later := woken_foldl (woken_sceneWake sc) after (sceneWake sc (before.foldl (sceneWake sc) s) c)
  rw [later.stays (turn.trans (here.wokenState c).symm), later.wokenState, here.wokenState, earlier.wokenState]

/-! ### The steps together -/

/-- The state before the wakes of a scene: the record formed, the items dealt with, the key focus moved. -/
def sceneFocused (n : SceneNo) (sc : Scene) (s : State) : State :=
  sceneFocus sc (sc.items.foldl applyItem (formRecord n sc s))

theorem applySceneSteps_eq (n : SceneNo) (sc : Scene) (s : State) :
    applySceneSteps n sc s = settleAll (sceneWakes sc (sceneFocused n sc s)) := rfl

/-- Something of the scene could not be done (R51, R53, R54). -/
def sceneIncomplete (sc : Scene) (s : State) : Bool :=
  s.screens.inFlight.any (·.incomplete) || sc.items.any s.skips || sc.keyFocus.any fun c => s.powerState c == .absent

theorem sceneIncomplete_iff (sc : Scene) (s : State) : sceneIncomplete sc s = true ↔
    (∃ it ∈ sc.items, s.screenRect it.screen = none ∨ s.sourceFits it.screen it.source = false) ∨
      (∃ c, sc.keyFocus = some c ∧ s.powerState c = .absent) ∨
      (∃ g, s.screens.inFlight = some g ∧ g.incomplete = true) := by
  simp only [sceneIncomplete, Bool.or_eq_true, Option.any_eq_true, List.any_eq_true, skips_iff, beq_iff_eq]
  exact (or_assoc.trans or_comm).trans or_assoc

section
variable (n : SceneNo) (sc : Scene) (s : State)

theorem woken_formRecord : Woken s (formRecord n sc s) := woken_of_parts (by simp) (by simp) (by simp)

theorem woken_sceneItems : Woken s (sc.items.foldl applyItem (formRecord n sc s)) :=
  (woken_formRecord n sc s).trans (woken_items _)

theorem woken_sceneFocused : Woken s (sceneFocused n sc s) := (woken_sceneItems n sc s).trans (woken_sceneFocus sc _)

theorem inFlight_sceneFocused : (sceneFocused n sc s).screens.inFlight =
    some ⟨n, sceneHeld sc s, sceneIncomplete sc s, s.screens.inFlight.isSome⟩ := by
  have formed : (formRecord n sc s).screens.inFlight =
      some ⟨n, sceneHeld sc s, s.screens.inFlight.any (·.incomplete), s.screens.inFlight.isSome⟩ := by
    rw [formRecord_screens]
  have skips : (formRecord n sc s).skips = s.skips := funext (skips_of_layout (by simp))
  have absent : (fun c => (sc.items.foldl applyItem (formRecord n sc s)).powerState c == PowerState.absent) =
      fun c => s.powerState c == PowerState.absent := by
    funext c
    rw [Bool.eq_iff_iff, beq_iff_eq, beq_iff_eq]
    exact (woken_sceneItems n sc s).absent_iff c
  rw [sceneFocused, inFlight_sceneFocus (inFlight_items formed), skips, absent]
  rfl

theorem screenRec_applySceneSteps (i : ScreenId) : (applySceneSteps n sc s).screenRec i =
    (sc.items.foldl applyItem (formRecord n sc s)).screenRec i := by
  rw [applySceneSteps_eq, screenRec_settleAll, screenRec_of_screens (sceneWakes_leaves sc _).2.2.2.2.2.1, sceneFocused,
    screenRec_sceneFocus]

theorem screenRec_applySceneSteps_other {i : ScreenId} (other : ∀ it ∈ sc.items, it.screen ≠ i) :
    (applySceneSteps n sc s).screenRec i = s.screenRec i := by
  rw [screenRec_applySceneSteps, screenRec_items_other other, screenRec_formRecord]

theorem screenRec_applySceneSteps_taken {it : SceneItem} (nodup : (sc.items.map SceneItem.screen).Nodup) (mem : it ∈ sc.items)
    (taken : s.skips it = false) :
    (applySceneSteps n sc s).screenRec it.screen = assigned s it.source (s.screenRec it.screen) := by
  have context := context_formRecord n sc s
  rw [screenRec_applySceneSteps, screenRec_items_taken nodup mem (by rw [skips_of_layout context.1, taken]),
    assigned_of_context context, screenRec_formRecord]

theorem focus_applySceneSteps : (applySceneSteps n sc s).keyboard.focus = match sc.keyFocus with
    | some c => if s.powerState c = .absent then s.keyboard.focus else c
    | none => s.keyboard.focus := by
  have settled (t : State) : (settleAll t).keyboard = t.keyboard := by simp
  have before : (sc.items.foldl applyItem (formRecord n sc s)).keyboard = s.keyboard := by
    rw [keyboard_items]
    simp
  rw [applySceneSteps_eq, settled, focus_sceneWakes, sceneFocused, focus_sceneFocus, before]
  cases sc.keyFocus with
  | none => rfl
  | some c => exact if_congr ((woken_sceneItems n sc s).absent_iff c) rfl rfl

theorem powerState_applySceneSteps {c : Computer} (wake : sc.wake = true) (shows : s.sceneShows sc c = true)
    (down : (s.powerState c).down = true) : (applySceneSteps n sc s).powerState c = s.wokenState c := by
  have settled (t : State) : (settleAll t).powerState c = t.powerState c := by simp [State.powerState, State.powerRec]
  have woken := woken_sceneFocused n sc s
  have layout : (sceneFocused n sc s).layout = s.layout := by
    rw [sceneFocused, (sceneFocus_leaves sc _).2.2.2.1]
    exact ((context_formRecord n sc s).trans (context_items sc.items _)).1
  rw [applySceneSteps_eq, settled, powerState_sceneWakes wake ((sceneShows_of_layout layout sc c).trans shows),
    woken.wokenState]
  rw [woken.wokenState]
  obtain same | ⟨-, after⟩ := woken.power c
  · exact .inl (same ▸ down)
  · exact .inr after

end

/-- The record in flight after the settling test that ends a scene (R52). -/
theorem inFlight_applySceneSteps (n : SceneNo) (sc : Scene) (s : State) :
    ((∃ i : ScreenId, SceneHolds sc s i ∧ ((applySceneSteps n sc s).screenRec i).settled = false) →
      ∃ g, (applySceneSteps n sc s).screens.inFlight = some g ∧ g.scene = n ∧ g.incomplete = sceneIncomplete sc s ∧
        g.superseded = s.screens.inFlight.isSome ∧
        ∀ i : ScreenId, inSet g.outstanding i = true ↔ SceneHolds sc s i ∧ ((applySceneSteps n sc s).screenRec i).settled = false) ∧
    ((∀ i : ScreenId, SceneHolds sc s i → ((applySceneSteps n sc s).screenRec i).settled = true) →
      (applySceneSteps n sc s).screens.inFlight = none ∧
        Raised (.sceneDone n (sceneIncomplete sc s) s.screens.inFlight.isSome) (applySceneSteps n sc s)) := by
  have formed : (sceneWakes sc (sceneFocused n sc s)).screens.inFlight =
      some ⟨n, sceneHeld sc s, sceneIncomplete sc s, s.screens.inFlight.isSome⟩ := by
    rw [(sceneWakes_leaves sc _).2.2.2.2.2.1, inFlight_sceneFocused]
  have recs (i : ScreenId) : (applySceneSteps n sc s).screenRec i = (sceneWakes sc (sceneFocused n sc s)).screenRec i := by
    rw [applySceneSteps_eq, screenRec_settleAll]
  simp only [recs, ← inSet_sceneHeld]
  rw [applySceneSteps_eq]
  exact ⟨fun ⟨i, held, unsettled⟩ => settleAll_held formed held unsettled, fun settled => settleAll_done formed settled⟩

theorem onlyChanges_applySceneSteps (n : SceneNo) (sc : Scene) (s : State) :
    OnlyChanges [.status, .screens, .pointer, .keyboard, .matcher, .lines, .ports, .power] s (applySceneSteps n sc s) := by
  intro p hp
  cases p <;> simp [Part.same] at hp ⊢

theorem sceneShows_of_item {sc : Scene} {s : State} {it : SceneItem} {h : Head} {c : Computer} (mem : it ∈ sc.items)
    (taken : s.skips it = false) (source : it.source = some h) (computer : h.computer = c) : s.sceneShows sc c = true := by
  refine List.any_eq_true.2 ⟨it, mem, ?_⟩
  rw [taken, source, ← computer]
  simp

/-! ### An item's screen, read off the record -/

section
variable {s : State} {x : Option Head} {r : ScreenRec}

theorem assigned_shows (on : r.state.isOn = true) (quiet : x.any s.headAlive = false) :
    (assigned s x r).current = x ∧ (assigned s x r).waiting = none := by
  by_cases same : r.current = x
  · rw [assigned_same on same]
    exact ⟨same, rfl⟩
  · rw [assigned_quiet on same quiet]
    exact ⟨rfl, rfl⟩

theorem assigned_pends {h : Head} (on : r.state.isOn = true) (alive : s.headState h = .alive) :
    (assigned s (some h) r).current = r.current ∧
      (assigned s (some h) r).waiting = if r.current = some h then none else some h := by
  by_cases same : r.current = some h
  · rw [assigned_same on same, if_pos same]
    exact ⟨rfl, rfl⟩
  · rw [assigned_alive on same alive, if_neg same]
    exact ⟨rfl, rfl⟩

end

/-- What R41 and R49 make of an item's screen. -/
theorem item_rules {s t : State} {i : ScreenId} {x : Option Head} (here : t.screenRec i = assigned s x (s.screenRec i)) :
    ((s.screenRec i).state = .standby ∨ (s.screenRec i).state = .powering ∨ (s.screenRec i).state = .off →
      (t.screenRec i).current = x ∧ (t.screenRec i).state = (s.screenRec i).state) ∧
    ((s.screenRec i).state.isOn = true → x = none ∨ (∃ h, x = some h ∧ s.headState h ≠ .alive) →
      (t.screenRec i).current = x ∧ (t.screenRec i).waiting = none) ∧
    ((s.screenRec i).state.isOn = true → ∀ h, x = some h → s.headState h = .alive →
      (t.screenRec i).current = (s.screenRec i).current ∧
      (t.screenRec i).waiting = if (s.screenRec i).current = some h then none else some h) := by
  rw [here]
  refine ⟨fun low => ?_, fun on quiet => assigned_shows on ?_, fun on h source alive => ?_⟩
  · rw [assigned_low low]
    exact ⟨rfl, rfl⟩
  · obtain rfl | ⟨h, rfl, dead⟩ := quiet
    · rfl
    · exact Bool.eq_false_iff.2 (dead ∘ headAlive_iff.1)
  · rw [source]
    exact assigned_pends on alive

/-- Settles O28: the four steps of R51, each read off the state that it leaves. -/
theorem applySceneFormsOneRecord : Obligations.ApplySceneFormsOneRecord := by
  refine ⟨fun n s loaded hn => ?_, fun n s loaded empty => ?_, fun n sc s loaded stored nodup => ?_⟩
  · exact exec_loaded_refused rfl rfl loaded (by rw [judgeApplyScene, (fin?_eq_none_iff 16 n).2 hn])
  · refine exec_loaded_refused rfl rfl loaded (j := judgeApplyScene n) ?_
    have none : s.fresh.scene n = none := empty
    simp only [judgeApplyScene, fin?_val, none]
  · obtain ⟨u, hu⟩ : ∃ u, applySceneSteps n sc s.fresh = u := ⟨_, rfl⟩
    have judged : judgeApplyScene n s.fresh = accepted u := by
      have some : s.fresh.scene n = some sc := stored
      simp only [judgeApplyScene, fin?_val, some, hu]
    obtain ⟨held, done⟩ := inFlight_applySceneSteps n sc s.fresh
    have other (i : ScreenId) := screenRec_applySceneSteps_other n sc s.fresh (i := i)
    have taken (it : SceneItem) := screenRec_applySceneSteps_taken n sc s.fresh (it := it) nodup
    have power (c : Computer) := powerState_applySceneSteps n sc s.fresh (c := c)
    have focus := focus_applySceneSteps n sc s.fresh
    have parts := onlyChanges_applySceneSteps n sc s.fresh
    simp only [hu] at held done other taken power focus parts
    refine ⟨_, sceneIncomplete sc s, exec_answered rfl (handled_loaded rfl loaded judged),
      answers_sendReply (parts .link (by decide)), sceneIncomplete_iff sc s, held, done,
      fun wake c it h mem configured fits source computer down => ?_, other, fun it mem configured fits => ?_, focus,
      onlyChanges_of_fresh (onlyChanges_reply _ _ parts)⟩
    · refine power c wake (sceneShows_of_item mem ((skips_eq_false_iff s.fresh it).2 ⟨configured, fits⟩) source computer) ?_
      have before : s.fresh.powerState c = s.powerState c := rfl
      obtain asleep | unresponsive := down
      · rw [before, asleep]
        rfl
      · rw [before, unresponsive]
        rfl
    · exact item_rules (s := s.fresh) (taken it mem ((skips_eq_false_iff s.fresh it).2 ⟨configured, fits⟩))

end Sys2Proof.Machine
end

section
/-!
PROOFS, the profile load, first part: what a load that takes nothing leaves, and why an image is refused (O9).
-/

set_option Elab.async false
namespace Sys2Proof.Machine
open Sys2Proof Sys2Proof.Safety

/-! ### Quiet raises (R189, R141) -/

theorem quiet_raise (e : Event) (s : State) : Quiet [e.kind] s (raise e s) := by
  refine ⟨fun k => ⟨(nudged_raise e s).enabled k, fun hk => event_raise_of_ne e s k fun same => hk (by simp [same])⟩,
    dial_raise e s, (nudged_raise e s).lines⟩

/-- A state whose events and lines are another's is as quiet. -/
theorem quiet_of_same {ks : List EventKind} {s t u : State} (status : t.status = s.status) (lines : t.lines = s.lines)
    (h : Quiet ks t u) : Quiet ks s u := by
  obtain ⟨events, dial, recs⟩ := h
  refine ⟨fun k => ?_, ?_, fun l => ?_⟩
  · rw [← event_of_status status k]
    exact events k
  · rw [← lines]
    exact dial
  · have same : t.lineRec l = s.lineRec l := by simp only [State.lineRec, lines]
    rw [← same]
    exact recs l

/-! ### The end of a load (R195) -/

/-- A load that takes nothing ends READY with PROFILE_DONE. -/
theorem endLoad_rules (o : ProfileOutcome) (s : State) : (endLoad o s).profile = { s.profile with state := .ready } ∧
    Raised (.profileDone o) (endLoad o s) ∧ Quiet [.profileDone] s (endLoad o s) ∧
    OnlyChanges [.profile, .status, .lines] s (endLoad o s) := by
  refine ⟨by simp [endLoad, setStore], raised_raise _ _, quiet_of_same rfl rfl (quiet_raise (.profileDone o) (setStore .ready s)),
    fun p hp => ?_⟩
  cases p <;> simp [Part.same, endLoad, setStore] at hp ⊢

/-- The statement's form of such an end. -/
theorem exec_load {answered : Bool} {s : State} {o : ProfileOutcome} (ends : profileLoad answered s.fresh = endLoad o s.fresh) :
    ∃ t, exec (.profileLoadDone answered) s = .next t ∧ t.profile = { s.profile with state := .ready } ∧
      Raised (.profileDone o) t ∧ Quiet [.profileDone] s t ∧ OnlyChanges [.profile, .status, .lines] s t := by
  obtain ⟨profile, raised, quiet, parts⟩ := endLoad_rules o s.fresh
  refine ⟨_, exec_event _ s rfl, ?_⟩
  rw [effect, ends]
  exact ⟨profile, raised, quiet_of_same (s := s) rfl rfl quiet, onlyChanges_of_fresh parts⟩

section
variable {s : State} (loading : s.profile.state = .loading)
include loading

theorem profileLoad_unanswered : profileLoad false s = endLoad .badImage s := by
  rw [profileLoad, if_pos loading]
  rfl

theorem profileLoad_unmarked (unmarked : Memory.readMany s.profile.memory 0 2 ≠ marker) :
    profileLoad true s = endLoad .defaults s := by
  have judged : judgeImage true s = .defaults := if_pos unmarked
  simp only [profileLoad, if_pos loading, judged]

theorem profileLoad_bad (marked : Memory.readMany s.profile.memory 0 2 = marker)
    (bad : s.profile.unreliable = true ∨ loadImage s = none) : profileLoad true s = endLoad .badImage s := by
  have judged : judgeImage true s = .badImage := by
    simp only [judgeImage, marked]
    obtain unreliable | bad := bad
    · simp [unreliable]
    · simp [bad]
  simp only [profileLoad, if_pos loading, judged]

theorem profileLoad_good {u : State} (marked : Memory.readMany s.profile.memory 0 2 = marker)
    (reliable : s.profile.unreliable = false) (good : loadImage s = some u) :
    profileLoad true s = endLoad .loaded (applyStart u) := by
  have judged : judgeImage true s = .loaded u := by simp [judgeImage, marked, reliable, good]
  simp only [profileLoad, if_pos loading, judged]

end

/-! ### The sections of an image (R203) -/

theorem word16_word {n : Nat} (h : n < 65536) : word16 (byte (n / 256)).toNat (byte n).toNat = n := toNat_word h

/-- A numbered section at the front of the bytes is read back. -/
theorem takeSection_numbered {n : Nat} {c : List Byte} {cs : List (List Byte)} {rest : List Nat} (hn : n < 256)
    (hc : c.length < 65536) : takeSection n ((numbered n (c :: cs)).map BitVec.toNat ++ rest) =
      some (c.map BitVec.toNat, (numbered (n + 1) cs).map BitVec.toNat ++ rest) := by
  have number : (byte n).toNat = n := by simp [byte]; omega
  have count := word16_word hc
  have bytes : (numbered n (c :: cs)).map BitVec.toNat ++ rest = n :: (byte (c.length / 256)).toNat :: (byte c.length).toNat ::
      (c.map BitVec.toNat ++ ((numbered (n + 1) cs).map BitVec.toNat ++ rest)) := by
    simp [numbered, word, number]
  rw [bytes]
  simp only [takeSection, count]
  rw [if_pos ⟨trivial, by simp⟩]
  simp

theorem imageRecords_cons {n : Nat} {f : SectionForm} {fs : List SectionForm} {bs contents rest : List Nat}
    (h : takeSection n bs = some (contents, rest)) (bad : f.bodies contents = none ∨ imageRecords (n + 1) fs rest = none) :
    imageRecords n (f :: fs) bs = none := by
  simp only [imageRecords, h]
  obtain bad | bad := bad
  · simp [bad]
  · rw [bad]
    cases f.bodies contents <;> rfl

/-- Where the bytes after whole sections are malformed, the image is. -/
theorem imageRecords_after {cs : List (List Byte)} {fs : List SectionForm} {n : Nat} {rest : List Nat}
    (lengths : ∀ c ∈ cs, c.length < 65536) (numbers : n + cs.length ≤ 256) (fits : cs.length ≤ fs.length)
    (bad : imageRecords (n + cs.length) (fs.drop cs.length) rest = none) :
    imageRecords n fs ((numbered n cs).map BitVec.toNat ++ rest) = none := by
  induction cs generalizing fs n with
  | nil => exact bad
  | cons c cs ih =>
    obtain ⟨here, later⟩ := List.forall_mem_cons.1 lengths
    rw [List.length_cons] at numbers fits bad
    cases fs with
    | nil => simp at fits
    | cons f fs =>
      refine imageRecords_cons (takeSection_numbered (by omega) here) (.inr ?_)
      refine ih later (by omega) (by simpa using fits) ?_
      rwa [Nat.add_right_comm, Nat.add_assoc]

/-- Where the contents of a section are not the bodies it must hold, the image is malformed. -/
theorem imageRecords_bodies {cs : List (List Byte)} {fs : List SectionForm} {n j : Nat} {f : SectionForm} {c : List Byte}
    {rest : List Nat} (lengths : ∀ d ∈ cs, d.length < 65536) (numbers : n + cs.length ≤ 256) (form : fs[j]? = some f)
    (section_ : cs[j]? = some c) (bad : f.bodies (c.map BitVec.toNat) = none) :
    imageRecords n fs ((numbered n cs).map BitVec.toNat ++ rest) = none := by
  induction cs generalizing fs n j with
  | nil => simp at section_
  | cons d cs ih =>
    obtain ⟨here, later⟩ := List.forall_mem_cons.1 lengths
    rw [List.length_cons] at numbers
    cases fs with
    | nil => simp at form
    | cons g fs =>
      refine imageRecords_cons (takeSection_numbered (by omega) here) ?_
      cases j with
      | zero =>
        cases form
        cases section_
        exact .inl bad
      | succ j => exact .inr (ih later (by omega) form section_)

theorem takeSection_eq_none {n : Nat} {bs : List Nat} (bad : bs.length < 3 ∨ (∃ m r, bs = m :: r ∧ m ≠ n) ∨
    ∃ m hi lo r, bs = m :: hi :: lo :: r ∧ r.length < hi * 256 + lo) : takeSection n bs = none := by
  unfold takeSection
  split
  · next m hi lo r =>
    rw [if_neg]
    rintro ⟨rfl, fits⟩
    obtain short | ⟨m, r, bytes, other⟩ | ⟨m, hi, lo, r, bytes, short⟩ := bad
    · simp at short
      omega
    · cases bytes
      exact other rfl
    · cases bytes
      exact absurd fits (by simpa [word16] using short)
  · rfl

theorem loadRecords_append (before : List (Nat × List Nat)) (r : Nat × List Nat) (after : List (Nat × List Nat)) (s : State) :
    loadRecords (before ++ r :: after) s =
      (loadRecords before s).bind fun u => (loadRecord u r).bind (loadRecords after) := by
  induction before generalizing s with
  | nil => rfl
  | cons b before ih =>
    simp only [List.cons_append, loadRecords, Option.bind_assoc]
    congr 1
    exact funext ih

theorem loadImage_eq {s : State} {body : List Nat} (h : Memory.imageBody s.profile.memory = some body) :
    loadImage s = (imageRecords 1 sectionForms body).bind fun rs => loadRecords rs s := by
  simp only [loadImage, h]
  cases imageRecords 1 sectionForms body <;> rfl

/-- A refused image has no records, or has one that is refused where it stands (R195). -/
theorem loadImage_refused {s : State} {body : List Nat} (h : Memory.imageBody s.profile.memory = some body)
    (refused : ImageRefused s body) : loadImage s.fresh = none := by
  rw [loadImage_eq (s := s.fresh) h]
  obtain ⟨cs, rest, lengths, rfl, bad⟩ | ⟨cs, j, f, c, count, lengths, rfl, form, contents, bad⟩ |
    ⟨before, after, r, u, records, reached, bad⟩ := refused
  · have forms : sectionForms.length = 15 := rfl
    have fits : cs.length ≤ 15 := by omega
    suffices imageRecords (1 + cs.length) (sectionForms.drop cs.length) rest = none by
      rw [imageRecords_after lengths (by omega) (forms ▸ fits) this]
      rfl
    · by_cases full : cs.length = 15
      · have left : rest ≠ [] := by
          obtain ⟨short, -⟩ | ⟨-, left⟩ | ⟨short, -⟩ | ⟨short, -⟩ := bad
          · omega
          · exact left
          · omega
          · omega
        rw [full]
        cases rest with
        | nil => exact absurd rfl left
        | cons b rest => rfl
      · obtain ⟨f, fs, drop⟩ : ∃ f fs, sectionForms.drop cs.length = f :: fs :=
          List.exists_cons_of_length_pos (by rw [List.length_drop]; omega)
        have none : takeSection (1 + cs.length) rest = none := by
          refine takeSection_eq_none ?_
          obtain ⟨-, short⟩ | ⟨all, -⟩ | ⟨-, n, r, bytes, other⟩ | ⟨-, n, hi, lo, r, bytes, short⟩ := bad
          · exact .inl short
          · exact absurd all full
          · exact .inr (.inl ⟨n, r, bytes, by omega⟩)
          · exact .inr (.inr ⟨n, hi, lo, r, bytes, short⟩)
        rw [drop]
        simp only [imageRecords, none]
  · have none := imageRecords_bodies (rest := []) lengths (by omega : 1 + cs.length ≤ 256) form contents bad
    rw [List.append_nil] at none
    rw [none]
    rfl
  · rw [records, Option.bind_some, loadRecords_append, reached, Option.bind_some, bad]
    rfl

/-! ### What the records of an image leave -/

theorem restartForSettings_profile (s : State) : (restartForSettings s).profile = s.profile :=
  onlyChanges_restartForSettings s .profile (by decide)

theorem judgeConfiguration_profile {i : Instr} {s : State} {h : Handled} (hj : judgeConfiguration i s = .ok h) :
    h.1.profile = s.profile := by
  cases i
  all_goals simp only [judgeConfiguration, judgeSetEventMask, judgeSetScreen, judgeSetComputer, judgeSetHead, judgeMapInput,
    judgeStoreScene, judgeSetStartScene, judgeSetScreenTiming, judgeSetBallistics, judgeSetGlide, judgeSetKeymap,
    judgeSetKeyOptions, judgeAddHotkey, judgeSetLine, judgeSetDeskPower, ok, reduceCtorEq] at hj
  all_goals repeat' split at hj
  all_goals cases hj
  all_goals simp [restartForSettings_profile]

theorem loadRecord_profile {s u : State} {r : Nat × List Nat} (h : loadRecord s r = some u) : u.profile = s.profile := by
  unfold loadRecord at h
  split at h
  · split at h
    · next hj =>
      cases h
      exact judgeConfiguration_profile hj
    · cases h
  · cases h

theorem loadRecords_profile {rs : List (Nat × List Nat)} {s u : State} (h : loadRecords rs s = some u) :
    u.profile = s.profile := by
  induction rs generalizing s with
  | nil =>
    cases h
    rfl
  | cons r rs ih =>
    obtain ⟨v, first, rest⟩ := Option.bind_eq_some_iff.1 h
    exact (ih rest).trans (loadRecord_profile first)

theorem loadImage_profile {s u : State} (h : loadImage s = some u) : u.profile = s.profile := by
  unfold loadImage at h
  split at h
  · cases h
  · split at h
    · cases h
    · exact loadRecords_profile h

end Sys2Proof.Machine
end

section
/-!
PROOFS, the profile load, second part: applying a scene reads neither the store nor what was handed on before it, so the start scene of a
load does what APPLY_SCENE would do (R55).
-/

set_option Elab.async false
namespace Sys2Proof.Machine
open Sys2Proof Sys2Proof.Safety

/-! ### Another store, and other words handed on before -/

/-- The same state with another store, and with `o` handed on before what it has handed on. -/
def State.beside (p : Profile) (o : List Output) (s : State) : State := { s with profile := p, out := o ++ s.out }

section
variable (p : Profile) (o : List Output) (s : State)

@[simp] theorem beside_parts :
    (s.beside p o).now = s.now ∧ (s.beside p o).link = s.link ∧ (s.beside p o).status = s.status ∧
    (s.beside p o).profile = p ∧ (s.beside p o).layout = s.layout ∧ (s.beside p o).sync = s.sync ∧
    (s.beside p o).screens = s.screens ∧ (s.beside p o).pointer = s.pointer ∧ (s.beside p o).keyboard = s.keyboard ∧
    (s.beside p o).matcher = s.matcher ∧ (s.beside p o).lines = s.lines ∧ (s.beside p o).ports = s.ports ∧
    (s.beside p o).power = s.power ∧ (s.beside p o).desk = s.desk :=
  ⟨rfl, rfl, rfl, rfl, rfl, rfl, rfl, rfl, rfl, rfl, rfl, rfl, rfl, rfl⟩

@[simp] theorem beside_reads :
    (s.beside p o).wantsAttention = s.wantsAttention ∧ (s.beside p o).lowestEligible = s.lowestEligible ∧
    (s.beside p o).standIn = s.standIn ∧ (s.beside p o).delivered = s.delivered :=
  ⟨rfl, rfl, rfl, rfl⟩

@[simp] theorem beside_screen (i : ScreenId) :
    (s.beside p o).screenRec i = s.screenRec i ∧ (s.beside p o).screenRect i = s.screenRect i ∧
    (s.beside p o).sourceComputer i = s.sourceComputer i ∧ (s.beside p o).centerOf i = s.centerOf i :=
  ⟨rfl, rfl, rfl, rfl⟩

@[simp] theorem centerOf_beside : (s.beside p o).centerOf = s.centerOf := rfl

@[simp] theorem beside_computer (c : Computer) :
    (s.beside p o).port c = s.port c ∧ (s.beside p o).powerRec c = s.powerRec c ∧
    (s.beside p o).powerState c = s.powerState c ∧ (s.beside p o).computer c = s.computer c ∧
    (s.beside p o).hasMethod c = s.hasMethod c ∧ (s.beside p o).committedKeys c = s.committedKeys c ∧
    (s.beside p o).committedButtons c = s.committedButtons c :=
  ⟨rfl, rfl, rfl, rfl, rfl, rfl, rfl⟩

@[simp] theorem headAlive_beside (h : Head) : (s.beside p o).headAlive h = s.headAlive h := rfl
@[simp] theorem selectionFor_beside (x : Option Head) : (s.beside p o).selectionFor x = s.selectionFor x := rfl
@[simp] theorem event_beside (k : EventKind) : (s.beside p o).event k = s.event k := rfl
@[simp] theorem timer_beside (ms : Nat) : (s.beside p o).timer ms = s.timer ms := rfl
@[simp] theorem mapPlace_beside (q : Place) : (s.beside p o).mapPlace q = s.mapPlace q := rfl
@[simp] theorem skips_beside (it : SceneItem) : (s.beside p o).skips it = s.skips it := rfl
@[simp] theorem sceneShows_beside (sc : Scene) (c : Computer) : (s.beside p o).sceneShows sc c = s.sceneShows sc c := rfl
@[simp] theorem attemptMethod_beside (c : Computer) (k : Nat) : attemptMethod (s.beside p o) c k = attemptMethod s c k := rfl

@[simp] theorem setStatus_beside (x : Status) : (s.beside p o).setStatus x = (s.setStatus x).beside p o := rfl
@[simp] theorem setPointer_beside (x : PointerEngine) : (s.beside p o).setPointer x = (s.setPointer x).beside p o := rfl
@[simp] theorem setKeyboard_beside (x : KeyboardEngine) : (s.beside p o).setKeyboard x = (s.setKeyboard x).beside p o := rfl
@[simp] theorem setHeld_beside (x : List HeldKey) : (s.beside p o).setHeld x = (s.setHeld x).beside p o := rfl
@[simp] theorem setInFlight_beside (x : Option InFlight) : (s.beside p o).setInFlight x = (s.setInFlight x).beside p o := rfl
@[simp] theorem setSlot_beside (x : Option ReturnSlot) : (s.beside p o).setSlot x = (s.setSlot x).beside p o := rfl

@[simp] theorem setScreenRec_beside (i : ScreenId) (x : ScreenRec) :
    (s.beside p o).setScreenRec i x = (s.setScreenRec i x).beside p o := rfl

@[simp] theorem setPort_beside (c : Computer) (x : Port) : (s.beside p o).setPort c x = (s.setPort c x).beside p o := rfl

@[simp] theorem setPowerRec_beside (c : Computer) (x : PowerRec) :
    (s.beside p o).setPowerRec c x = (s.setPowerRec c x).beside p o := rfl

@[simp] theorem setEvent_beside (k : EventKind) (x : EventRec) :
    (s.beside p o).setEvent k x = (s.setEvent k x).beside p o := rfl

@[simp] theorem emit_beside (x : Output) : (s.beside p o).emit x = (s.emit x).beside p o := by
  simp [State.beside, State.emit]

@[simp] theorem ite_beside (c : Prop) [Decidable c] (t : State) :
    (if c then s.beside p o else t.beside p o) = (if c then s else t).beside p o := by
  split <;> rfl

/-! ### Events and outputs -/

@[simp] theorem followOutputs_beside : followOutputs (s.beside p o) = (followOutputs s).beside p o := rfl

@[simp] theorem judgeAttention_beside : judgeAttention (s.beside p o) = (judgeAttention s).beside p o := by
  simp [judgeAttention]

@[simp] theorem raise_beside (e : Event) : raise e (s.beside p o) = (raise e s).beside p o := by
  simp [raise]

@[simp] theorem reportFault_beside : reportFault (s.beside p o) = (reportFault s).beside p o := rfl

@[simp] theorem reportWake_beside : reportWake (s.beside p o) = (reportWake s).beside p o := rfl

/-! ### Screens -/

@[simp] theorem sendSelection_beside (i : ScreenId) (x : Selection) :
    sendSelection i x (s.beside p o) = (sendSelection i x s).beside p o := by
  simp [sendSelection]

@[simp] theorem enterScreen_beside (i : ScreenId) (st : ScreenState) :
    enterScreen i st (s.beside p o) = (enterScreen i st s).beside p o := by
  simp [enterScreen]

@[simp] theorem followSource_beside (i : ScreenId) : followSource i (s.beside p o) = (followSource i s).beside p o := by
  simp only [followSource, startLink, setLinkTimer, setPowerTimer, beside_screen, selectionFor_beside, sendSelection_beside,
    setScreenRec_beside, headAlive_beside, timer_beside, beside_parts, enterScreen_beside, ite_beside]
  split <;> rfl

@[simp] theorem takeSource_beside (i : ScreenId) (x : Option Head) :
    takeSource i x (s.beside p o) = (takeSource i x s).beside p o := by
  simp [takeSource]

@[simp] theorem takeQuiet_beside (i : ScreenId) (x : Option Head) :
    takeQuiet i x (s.beside p o) = (takeQuiet i x s).beside p o := by
  simp [takeQuiet]

@[simp] theorem assignOn_beside (i : ScreenId) (x : Option Head) :
    assignOn i x (s.beside p o) = (assignOn i x s).beside p o := by
  cases x <;> simp [assignOn]

@[simp] theorem assignSource_beside (i : ScreenId) (x : Option Head) :
    assignSource i x (s.beside p o) = (assignSource i x s).beside p o := by
  simp only [assignSource, beside_screen, takeQuiet_beside, assignOn_beside]
  split <;> rfl

@[simp] theorem settleAll_beside : settleAll (s.beside p o) = (settleAll s).beside p o := by
  simp only [settleAll, beside_parts, beside_screen, setInFlight_beside, raise_beside, ite_beside]
  split <;> rfl

/-! ### Computers and their ports -/

@[simp] theorem queueEmptied_beside (c : Computer) : queueEmptied c (s.beside p o) = (queueEmptied c s).beside p o := by
  simp [queueEmptied, markHeld]

@[simp] theorem setPowerState_beside (c : Computer) (st : PowerState) :
    setPowerState c st (s.beside p o) = (setPowerState c st s).beside p o := by
  simp [setPowerState]

@[simp] theorem enterUnresponsive_beside (c : Computer) :
    enterUnresponsive c (s.beside p o) = (enterUnresponsive c s).beside p o := by
  simp [enterUnresponsive, discardQueue]

@[simp] theorem signalWake_beside (m : Method) (left : Bool) (c : Computer) :
    signalWake m left c (s.beside p o) = (signalWake m left c s).beside p o := by
  cases m <;> simp [signalWake, linkWake, startPulse]

@[simp] theorem startAttempt_beside (left : Bool) (c : Computer) (k : Nat) :
    startAttempt left c k (s.beside p o) = (startAttempt left c k s).beside p o := by
  simp only [startAttempt, attemptMethod_beside, enterUnresponsive_beside, beside_computer, timer_beside, setPowerRec_beside,
    signalWake_beside]
  split <;> rfl

@[simp] theorem wakeRequest_beside (c : Computer) : wakeRequest c (s.beside p o) = (wakeRequest c s).beside p o := by
  simp only [wakeRequest, changePower, beside_computer, setPowerState_beside, raise_beside, startAttempt_beside,
    enterUnresponsive_beside, ite_beside]
  split <;> rfl

@[simp] theorem inputNotice_beside (c : Computer) : inputNotice c (s.beside p o) = (inputNotice c s).beside p o := by
  simp only [inputNotice, beside_computer, setPowerRec_beside, wakeRequest_beside, ite_beside]
  repeat' split
  all_goals rfl

/-! ### Pointer and keyboard entries -/

@[simp] theorem refuseButtons_beside (c : Computer) (b : ButtonSet) :
    refuseButtons c b (s.beside p o) = (refuseButtons c b s).beside p o := by
  simp [refuseButtons]

@[simp] theorem placePointer_beside (c : Computer) (x y : Nat) (b : ButtonSet) (w : Int) :
    placePointer c x y b w (s.beside p o) = (placePointer c x y b w s).beside p o := by
  simp [placePointer]

@[simp] theorem takePointer_beside (c : Computer) (x y : Nat) (b : ButtonSet) (w : Int) :
    takePointer c x y b w (s.beside p o) = (takePointer c x y b w s).beside p o := by
  simp only [takePointer, beside_computer, inputNotice_beside, ite_beside, placePointer_beside]
  split <;> rfl

@[simp] theorem discardKeys_beside (c : Computer) (k : KeyState) :
    discardKeys c k (s.beside p o) = ((discardKeys c k s).1.beside p o, (discardKeys c k s).2) := by
  simp only [discardKeys, beside_computer, raise_beside]
  split <;> rfl

@[simp] theorem placeKeys_beside (c : Computer) (k : KeyState) :
    placeKeys c k (s.beside p o) = ((placeKeys c k s).1.beside p o, (placeKeys c k s).2) := by
  simp only [placeKeys, beside_computer, setPort_beside, raise_beside]
  repeat' split
  all_goals rfl

@[simp] theorem takeKeys_beside (c : Computer) (k : KeyState) :
    takeKeys c k (s.beside p o) = ((takeKeys c k s).1.beside p o, (takeKeys c k s).2) := by
  simp only [takeKeys, beside_computer, inputNotice_beside, ite_beside, placeKeys_beside, discardKeys_beside]
  repeat' split
  all_goals rfl

/-! ### Focus -/

@[simp] theorem showLamps_beside : showLamps (s.beside p o) = (showLamps s).beside p o := by
  simp [showLamps]

@[simp] theorem raiseFocus_beside : raiseFocus (s.beside p o) = (raiseFocus s).beside p o := by
  simp [raiseFocus]

@[simp] theorem releaseButtons_beside (c : Computer) :
    releaseButtons c (s.beside p o) = (releaseButtons c s).beside p o := by
  simp [releaseButtons]

@[simp] theorem swallowHeld_beside : swallowHeld (s.beside p o) = (swallowHeld s).beside p o := rfl

@[simp] theorem releaseKeys_beside (c : Computer) : releaseKeys c (s.beside p o) = (releaseKeys c s).beside p o := by
  simp [releaseKeys]

@[simp] theorem releaseAtFocus_beside (c : Computer) :
    releaseAtFocus c (s.beside p o) = (releaseAtFocus c s).beside p o := by
  simp [releaseAtFocus]

@[simp] theorem moveKeyFocus_beside (c : Computer) : moveKeyFocus c (s.beside p o) = (moveKeyFocus c s).beside p o := by
  simp [moveKeyFocus, markHeld]

@[simp] theorem focusWake_beside (c : Computer) : focusWake c (s.beside p o) = (focusWake c s).beside p o := by
  simp [focusWake]

@[simp] theorem focusRequest_beside (momentary : Bool) (c : Computer) :
    focusRequest momentary c (s.beside p o) = (focusRequest momentary c s).beside p o := by
  simp [focusRequest, focusChange]

@[simp] theorem handEntry_beside (c : Computer) (x y : Nat) (b : ButtonSet) (w : Int) :
    handEntry c x y b w (s.beside p o) = (handEntry c x y b w s).beside p o := by
  simp [handEntry]

@[simp] theorem handPlace_beside (w : Int) : handPlace w (s.beside p o) = (handPlace w s).beside p o := by
  simp only [handPlace, beside_parts, mapPlace_beside, beside_reads, handEntry_beside]
  repeat' split
  all_goals rfl

@[simp] theorem pointerFocusChange_beside (c : Computer) (x : Option Computer) :
    pointerFocusChange c x (s.beside p o) = (pointerFocusChange c x s).beside p o := by
  simp [pointerFocusChange, leaveStandIn]

@[simp] theorem movePointer_beside (q : Place) : movePointer q (s.beside p o) = (movePointer q s).beside p o := by
  simp [movePointer, setPlace, setPush]

@[simp] theorem parkPointer_beside : parkPointer (s.beside p o) = (parkPointer s).beside p o := by
  simp [parkPointer, setPlace, setPush]

@[simp] theorem reHome_beside : reHome (s.beside p o) = (reHome s).beside p o := by
  simp only [reHome, beside_reads, centerOf_beside, movePointer_beside, parkPointer_beside]
  split <;> rfl

@[simp] theorem dropPushOn_beside (i : ScreenId) : dropPushOn i (s.beside p o) = (dropPushOn i s).beside p o := by
  simp only [dropPushOn, setPush, beside_parts, setPointer_beside, ite_beside]
  split <;> rfl

@[simp] theorem sourceUnderPointer_beside (i : ScreenId) :
    sourceUnderPointer i (s.beside p o) = (sourceUnderPointer i s).beside p o := by
  simp only [sourceUnderPointer, beside_screen, beside_parts, beside_reads, reHome_beside, pointerFocusChange_beside, ite_beside]
  split <;> rfl

@[simp] theorem sourceChanged_beside (i : ScreenId) :
    sourceChanged i (s.beside p o) = (sourceChanged i s).beside p o := by
  simp only [sourceChanged, unpark, dropPushOn_beside, beside_parts, beside_reads, reHome_beside, sourceUnderPointer_beside,
    ite_beside]
  split <;> rfl

/-! ### A scene -/

/-- A fold of a step that `beside` passes through. -/
theorem foldl_beside {α : Type} {f : State → α → State} (step : ∀ s a, f (s.beside p o) a = (f s a).beside p o) (l : List α) :
    l.foldl f (s.beside p o) = (l.foldl f s).beside p o := by
  induction l generalizing s with
  | nil => rfl
  | cons a l ih => rw [List.foldl_cons, step, ih, List.foldl_cons]

theorem withNotices_beside {f : State → State} (step : f (s.beside p o) = (f s).beside p o) :
    withNotices f (s.beside p o) = (withNotices f s).beside p o := by
  simp only [withNotices, step, beside_screen]
  exact foldl_beside p o _ (fun t i => by simp) _

@[simp] theorem setIncomplete_beside : setIncomplete (s.beside p o) = (setIncomplete s).beside p o := by
  simp only [setIncomplete, beside_parts, setInFlight_beside]
  split <;> rfl

@[simp] theorem applyItem_beside (it : SceneItem) : applyItem (s.beside p o) it = (applyItem s it).beside p o := by
  simp [applyItem, withNotices_beside]

@[simp] theorem formRecord_beside (n : SceneNo) (sc : Scene) :
    formRecord n sc (s.beside p o) = (formRecord n sc s).beside p o := by
  simp only [formRecord, beside_parts, beside_screen, setInFlight_beside]
  split <;> rfl

@[simp] theorem sceneFocus_beside (sc : Scene) : sceneFocus sc (s.beside p o) = (sceneFocus sc s).beside p o := by
  simp only [sceneFocus, beside_computer, setIncomplete_beside, focusRequest_beside, ite_beside]
  split <;> rfl

@[simp] theorem sceneWakes_beside (sc : Scene) : sceneWakes sc (s.beside p o) = (sceneWakes sc s).beside p o := by
  simp [sceneWakes, foldl_beside]

/-- A scene is applied with any store, and whatever was handed on before. -/
theorem applySceneSteps_beside (n : SceneNo) (sc : Scene) :
    applySceneSteps n sc (s.beside p o) = (applySceneSteps n sc s).beside p o := by
  simp [applySceneSteps, foldl_beside]

end

/-- What APPLY_SCENE leaves with the store READY (R51). -/
theorem exec_applyScene_ready {u : State} {n : SceneNo} {sc : Scene} (stored : u.scene n = some sc) :
    exec (.applyScene n) (setStore .ready u) =
      .next ((applySceneSteps n sc (setStore .ready u).fresh).sendReply 0x22 ⟨.accepted, []⟩) := by
  refine exec_answered rfl (handled_loaded rfl (j := judgeApplyScene n) (by simp [setStore]) ?_)
  have here : (setStore .ready u).fresh.scene n = some sc := stored
  simp only [judgeApplyScene, fin?_val, here, accepted]

/-- The start scene of a load is applied as APPLY_SCENE applies it with the store READY, but for the store and what is handed on. -/
theorem applyStart_beside {u : State} {n : SceneNo} {sc : Scene} (start : u.screens.startScene = some n)
    (stored : u.scene n = some sc) :
    applyStart u = (applySceneSteps n sc (setStore .ready u).fresh).beside u.profile u.out := by
  have same : u = (setStore .ready u).fresh.beside u.profile u.out := by simp [State.beside, setStore, State.setProfile, State.fresh]
  rw [← applySceneSteps_beside, ← same]
  simp only [applyStart, applySceneNo, start, stored]

/-! ### The load -/

/-- A good image is taken whole, its start scene is applied, and the load ends (R195). -/
theorem exec_goodLoad {s u : State} (loading : s.profile.state = .loading) (reliable : s.profile.unreliable = false)
    (marked : Memory.readMany s.profile.memory 0 2 = marker) (good : loadImage s.fresh = some u) :
    exec (.profileLoadDone true) s = .next (endLoad .loaded (applyStart u)) := by
  rw [exec_event _ s rfl, effect, profileLoad_good (s := s.fresh) loading marked reliable good]

/-- Settles O9: each end of the load is the end the judgement of the image gives it. -/
theorem profileLoadEnds : Obligations.ProfileLoadEnds := by
  refine ⟨fun answered s other => ?_, fun s loading => exec_load (profileLoad_unanswered (s := s.fresh) loading),
    fun s loading unmarked => exec_load (profileLoad_unmarked (s := s.fresh) loading unmarked),
    fun s loading marked broken => exec_load (profileLoad_bad (s := s.fresh) loading marked (.inr ?_)),
    fun s u loading reliable marked good start => ?_, fun s body loading marked image bad => ?_,
    fun s u n sc loading reliable marked good start stored => ?_⟩
  · refine ⟨_, exec_event _ s rfl, ?_⟩
    have idle : profileLoad answered s.fresh = s.fresh := if_neg other
    rw [effect, idle]
    exact onlyChanges_fresh s
  · have none : Memory.imageBody s.fresh.profile.memory = none := broken
    simp only [loadImage, none]
  · have still : applyStart u = u := by simp only [applyStart, start]
    obtain ⟨profile, raised, quiet, parts⟩ := endLoad_rules .loaded u
    rw [loadImage_profile good] at profile
    refine ⟨_, exec_goodLoad loading reliable marked good, ?_⟩
    rw [still]
    exact ⟨profile, raised, parts .layout (by decide), parts .screens (by decide), parts .sync (by decide),
      parts .pointer (by decide), parts .keyboard (by decide), parts .matcher (by decide), parts .desk (by decide),
      parts .ports (by decide), parts .power (by decide), quiet⟩
  · refine exec_load (profileLoad_bad (s := s.fresh) loading marked ?_)
    exact bad.symm.imp_right fun refused => loadImage_refused image refused
  · obtain ⟨profile, raised, quiet, parts⟩ := endLoad_rules .loaded (applyStart u)
    rw [(applyStart_leaves u).2.2.1, loadImage_profile good] at profile
    refine ⟨_, _, exec_goodLoad loading reliable marked good, exec_applyScene_ready stored, ?_⟩
    rw [applyStart_beside start stored] at profile raised quiet parts ⊢
    exact ⟨profile, raised, parts .layout (by decide), parts .screens (by decide), parts .sync (by decide),
      parts .pointer (by decide), parts .keyboard (by decide), parts .matcher (by decide), parts .desk (by decide),
      parts .ports (by decide), parts .power (by decide), quiet_of_same rfl rfl quiet⟩

end Sys2Proof.Machine
end

section
/-!
PROOFS, entries at the ports: what a keyboard entry and a pointer entry make of the committed states of the port they are handed to,
and that they touch no other computer (R150 to R156).
-/

set_option Elab.async false
namespace Sys2Proof.Machine
open Sys2Proof Sys2Proof.Safety

/-! ### Committed states (R150) -/

theorem findSome?_split {α : Type} (f : Entry → Option α) {es ks : List Entry} {e : Entry} {a : α} (he : f e = some a)
    (hk : ∀ k ∈ ks, f k = none) : (es ++ e :: ks).reverse.findSome? f = some a := by
  have none_after : ks.reverse.findSome? f = none := List.findSome?_eq_none_iff.2 fun k hk' => hk k (List.mem_reverse.1 hk')
  simp [none_after, he]

theorem pointer?_of_keyboard {e : Entry} (h : e.isPointer = false) : e.pointer? = none := by
  cases e with
  | keyboard k => rfl
  | pointer => cases h

/-- The newest pointer entry gives the committed pointer state. -/
theorem committedPointer_of_split {p : Port} {es ks : List Entry} {x y : Nat} {b : ButtonSet} {w : Int}
    (queue : p.queue = es ++ .pointer x y b w :: ks) (keys : ∀ e ∈ ks, e.isPointer = false) :
    p.committedPointer = (x, y, b) := by
  rw [Port.committedPointer, queue, findSome?_split (a := (x, y, b)) Entry.pointer? rfl
    fun k hk => pointer?_of_keyboard (keys k hk)]
  rfl

/-- Without a pointer entry the committed pointer state is the presented one. -/
theorem committedPointer_of_none {p : Port} (keys : ∀ e ∈ p.queue, e.isPointer = false) :
    p.committedPointer = (p.x, p.y, p.buttons) := by
  have none_waits : p.queue.reverse.findSome? Entry.pointer? = none :=
    List.findSome?_eq_none_iff.2 fun k hk => pointer?_of_keyboard (keys k (List.mem_reverse.1 hk))
  rw [Port.committedPointer, none_waits]
  rfl

/-- Pointer entries do not count for the committed key state. -/
theorem committedKeys_of_same_keys {p q : Port} (presented : q.keys = p.keys)
    (entries : q.queue.filterMap Entry.keys? = p.queue.filterMap Entry.keys?) : q.committedKeys = p.committedKeys := by
  have newest (l : List Entry) : l.reverse.findSome? Entry.keys? = (l.filterMap Entry.keys?).getLast? := by
    rw [← List.head?_filterMap, List.filterMap_reverse, List.head?_reverse]
  rw [Port.committedKeys, Port.committedKeys, newest, newest, entries, presented]

/-- Keyboard entries do not count for the committed pointer state. -/
theorem committedPointer_of_same_pointers {p q : Port} (x : q.x = p.x) (y : q.y = p.y) (buttons : q.buttons = p.buttons)
    (entries : q.queue.filterMap Entry.pointer? = p.queue.filterMap Entry.pointer?) :
    q.committedPointer = p.committedPointer := by
  have newest (l : List Entry) : l.reverse.findSome? Entry.pointer? = (l.filterMap Entry.pointer?).getLast? := by
    rw [← List.head?_filterMap, List.filterMap_reverse, List.head?_reverse]
  rw [Port.committedPointer, Port.committedPointer, newest, newest, entries, x, y, buttons]

end Sys2Proof.Machine

namespace Sys2Proof.Safety
open Sys2Proof Sys2Proof.Machine

/-! ### A pointer entry that is placed (R154, R155) -/

section
variable {x y : Nat} {b : ButtonSet} {w : Int} {p q : Port}

theorem PointerPlaced.committedKeys (h : PointerPlaced x y b w p q) : q.committedKeys = p.committedKeys := by
  obtain ⟨es, x0, y0, w0, queue, rfl⟩ | ⟨-, -, rfl⟩ | ⟨-, -, es, ks, x0, y0, b0, w0, queue, -, rfl⟩ | ⟨-, -, rfl⟩ := h
  · exact committedKeys_of_same_keys rfl (by simp [queue, List.filterMap_cons, Entry.keys?])
  · exact committedKeys_of_same_keys rfl (by simp [List.filterMap_cons, Entry.keys?])
  · exact committedKeys_of_same_keys rfl (by simp [queue, List.filterMap_cons, Entry.keys?])
  · exact committedKeys_of_same_keys rfl rfl

/-- A placed entry is the port's newest pointer state, but where it is taken against the presented one. -/
theorem PointerPlaced.committedPointer (h : PointerPlaced x y b w p q) : q.committedPointer = (x, y, b) ∨
    (28 ≤ p.queue.length ∧ p.committedButtons = p.buttons ∧ q.committedPointer = (x, y, p.buttons &&& b)) := by
  obtain ⟨es, x0, y0, w0, -, rfl⟩ | ⟨-, -, rfl⟩ | ⟨-, -, es, ks, x0, y0, b0, w0, -, keys, rfl⟩ | ⟨long, keys, rfl⟩ := h
  · exact .inl (committedPointer_of_split rfl (by simp))
  · exact .inl (committedPointer_of_split rfl (by simp))
  · exact .inl (committedPointer_of_split rfl keys)
  · refine .inr ⟨long, by rw [Port.committedButtons, committedPointer_of_none keys], ?_⟩
    exact committedPointer_of_none keys

theorem PointerPlaced.committedPointer_of_short (h : PointerPlaced x y b w p q) (short : p.queue.length < 28) :
    q.committedPointer = (x, y, b) :=
  h.committedPointer.resolve_right fun ⟨long, _, _⟩ => by omega

/-- The port's buttons after an entry without buttons. -/
theorem PointerPlaced.released (h : PointerPlaced x y 0 w p q) : q.committedPointer = (x, y, 0) := by
  obtain same | ⟨-, -, same⟩ := h.committedPointer
  · exact same
  · rw [same, show p.buttons &&& 0 = 0 from BitVec.and_zero]

/-- A pointer entry adds nothing above the reserve. -/
theorem PointerPlaced.tail (h : PointerPlaced x y b w p q)
    (fits : 28 < p.queue.length → ∃ k, p.queue.getLast? = some (.keyboard k)) :
    28 < q.queue.length → ∃ k, q.queue.getLast? = some (.keyboard k) := by
  obtain ⟨es, x0, y0, w0, queue, rfl⟩ | ⟨-, short, rfl⟩ | ⟨-, -, es, ks, x0, y0, b0, w0, queue, keys, rfl⟩ | ⟨-, -, rfl⟩ := h
  · intro long
    obtain ⟨k, last⟩ := fits (by simpa [queue] using long)
    simp [queue] at last
  · intro long
    simp at long
    omega
  · intro long
    obtain ⟨k, last⟩ := fits (by simpa [queue] using long)
    refine ⟨k, ?_⟩
    cases ks with
    | nil => simp [queue] at last
    | cons e es => simpa [queue] using last
  · exact fits

theorem PointerPlaced.inRange (h : PointerPlaced x y b w p q) (fits : ∀ e ∈ p.queue, EntryInRange e)
    (here : x ≤ 32767 ∧ y ≤ 32767) : ∀ e ∈ q.queue, EntryInRange e := by
  obtain ⟨es, x0, y0, w0, queue, rfl⟩ | ⟨-, -, rfl⟩ | ⟨-, -, es, ks, x0, y0, b0, w0, queue, -, rfl⟩ | ⟨-, -, rfl⟩ := h
  · simp only [queue, List.mem_append] at fits ⊢
    rintro e (mem | mem)
    · exact fits e (.inl mem)
    · rw [List.mem_singleton.1 mem]
      exact here
  · intro e mem
    obtain mem | mem := List.mem_append.1 mem
    · exact fits e mem
    · rw [List.mem_singleton.1 mem]
      exact here
  · simp only [queue, List.mem_append, List.mem_cons] at fits ⊢
    rintro e (mem | rfl | mem)
    · exact fits e (.inl mem)
    · exact here
    · exact fits e (.inr (.inr mem))
  · exact fits

end

/-! ### The other computers -/

theorem OthersKept.refl (cs : List Computer) (s : State) : OthersKept cs s s := fun _ _ => ⟨rfl, rfl⟩

theorem OthersKept.trans {cs : List Computer} {s t u : State} (h : OthersKept cs s t) (k : OthersKept cs t u) :
    OthersKept cs s u := fun d hd => ⟨(k d hd).1.trans (h d hd).1, (k d hd).2.trans (h d hd).2⟩

theorem OthersKept.mono {cs ds : List Computer} {s t : State} (h : OthersKept cs s t) (sub : ∀ c, c ∈ cs → c ∈ ds) :
    OthersKept ds s t := fun d hd => h d fun mem => hd (sub d mem)

end Sys2Proof.Safety

namespace Sys2Proof.Machine
open Sys2Proof Sys2Proof.Safety

/-! ### A keyboard entry that is placed (R150 to R153) -/

theorem KeyState.same_empty_iff (k : KeyState) : KeyState.empty.same k = true ↔ k.isEmpty = true := by
  have all_bits : k.mods &&& 255#8 = k.mods := BitVec.and_allOnes
  simp [KeyState.same, KeyState.sub, KeyState.isEmpty, KeyState.empty, subBits, List.isEmpty_iff, List.eq_nil_iff_forall_not_mem,
    all_bits]

theorem KeyState.empty_sub (k : KeyState) : KeyState.empty.sub k = true := by
  simp [KeyState.sub, KeyState.empty, subBits]

theorem committedPointer_append_keys (p : Port) (k : KeyState) :
    (p.append (.keyboard k)).committedPointer = p.committedPointer :=
  committedPointer_of_same_pointers rfl rfl rfl (by simp [Port.append, List.filterMap_cons, Entry.pointer?])

/-- A full queue whose tail is a keyboard entry takes the key state there. -/
theorem mergeTailKeys_eq {p : Port} {k0 k : KeyState} (tail : p.queue.getLast? = some (.keyboard k0)) :
    p.mergeTailKeys k = { p with queue := p.queue.dropLast ++ [.keyboard k] } := by
  simp [Port.mergeTailKeys, tail]

/-- What a keyboard entry does to the port it is handed to: nothing, an append, or a merge into the tail. -/
inductive KeysPlaced (k : KeyState) (p : Port) : Port → Prop
  | kept : KeysPlaced k p p
  | appended : KeysPlaced k p (p.append (.keyboard k))
  | merged (es : List Entry) (k0 : KeyState) : p.queue = es ++ [.keyboard k0] →
      KeysPlaced k p { p with queue := es ++ [.keyboard k] }

theorem keysPlaced_mergeTailKeys (k : KeyState) (p : Port) : KeysPlaced k p (p.mergeTailKeys k) := by
  unfold Port.mergeTailKeys
  split
  · next k0 last =>
    obtain ⟨es, queue⟩ := List.getLast?_eq_some_iff.1 last
    rw [queue, List.dropLast_concat]
    exact .merged es k0 queue
  · exact .kept

theorem keysPlaced_placeKeys (c : Computer) (k : KeyState) (s : State) :
    KeysPlaced k (s.port c) ((placeKeys c k s).1.port c) := by
  unfold placeKeys
  dsimp only
  repeat' split
  all_goals simp [KeysPlaced.kept, KeysPlaced.appended, keysPlaced_mergeTailKeys]

section
variable {k : KeyState} {p q : Port}

theorem KeysPlaced.committedPointer (h : KeysPlaced k p q) : q.committedPointer = p.committedPointer := by
  cases h with
  | kept => rfl
  | appended => exact committedPointer_append_keys p k
  | merged es k0 queue => exact committedPointer_of_same_pointers rfl rfl rfl (by simp [queue, List.filterMap_cons, Entry.pointer?])

theorem KeysPlaced.committedKeys (h : KeysPlaced k p q) : q.committedKeys = p.committedKeys ∨ q.committedKeys = k := by
  cases h with
  | kept => exact .inl rfl
  | appended => exact .inr (committedKeys_append p k)
  | merged es k0 queue => exact .inr (by simp [Port.committedKeys, List.findSome?_cons, Entry.keys?])

theorem KeysPlaced.tail (h : KeysPlaced k p q) (fits : 28 < p.queue.length → ∃ k, p.queue.getLast? = some (.keyboard k)) :
    28 < q.queue.length → ∃ k, q.queue.getLast? = some (.keyboard k) := by
  cases h with
  | kept => exact fits
  | appended => exact fun _ => ⟨k, by simp [Port.append]⟩
  | merged es k0 queue => exact fun _ => ⟨k, by simp⟩

theorem KeysPlaced.inRange (h : KeysPlaced k p q) (fits : ∀ e ∈ p.queue, EntryInRange e) :
    ∀ e ∈ q.queue, EntryInRange e := by
  cases h with
  | kept => exact fits
  | appended =>
    intro e mem
    obtain mem | mem := List.mem_append.1 mem
    · exact fits e mem
    · rw [List.mem_singleton.1 mem]
      trivial
  | merged es k0 queue =>
    intro e mem
    obtain mem | mem := List.mem_append.1 mem
    · exact fits e (by simp [queue, mem])
    · rw [List.mem_singleton.1 mem]
      trivial

end

/-- An empty key state leaves the port with none committed, the queue's tail being a keyboard entry where it is full (R153). -/
theorem placeKeys_releases (c : Computer) (s : State)
    (fits : 28 < (s.port c).queue.length → ∃ k, (s.port c).queue.getLast? = some (.keyboard k)) :
    ((placeKeys c .empty s).1.committedKeys c).isEmpty = true := by
  unfold placeKeys
  dsimp only
  split
  · next same => exact (KeyState.same_empty_iff _).1 same
  · rw [if_pos (KeyState.empty_sub _)]
    split
    · rw [committedKeys_setPort, committedKeys_append]
      rfl
    · next full =>
      obtain ⟨k0, tail⟩ := fits (by simp [queueDepth] at full; omega)
      rw [committedKeys_setPort, mergeTailKeys_eq tail]
      simp [Port.committedKeys, List.findSome?_cons, Entry.keys?, KeyState.isEmpty, KeyState.empty]

/-! ### Taking an entry (R151) -/

/-- ABSENT or UNRESPONSIVE: the states in which a computer takes no entry (R151). -/
def PowerState.away : PowerState → Bool
  | .absent => true
  | .unresponsive => true
  | _ => false

theorem PowerState.away_iff (p : PowerState) : p.away = true ↔ p = .absent ∨ p = .unresponsive := by
  cases p <;> simp [PowerState.away]

theorem inputNotice_up {c : Computer} {s : State} (up : (s.powerState c).down = false) : inputNotice c s = s := by
  simp [inputNotice, up]

/-- An input notice leaves a power state, or wakes a computer that is down (R172). -/
theorem powerState_inputNotice (c : Computer) (s : State) :
    (inputNotice c s).powerState c = s.powerState c ∨ (inputNotice c s).powerState c = .waking :=
  ((nudged_inputNotice c s).power c).imp_right And.right

/-- The input notice of a pointer entry, if it carries input (R151, R172). -/
def pointerNotice (c : Computer) (x y : Nat) (b : ButtonSet) (w : Int) (s : State) : State :=
  if pointerReleaseOnly (s.port c) x y b w then s else inputNotice c s

/-- The input notice of a keyboard entry, if it bears a press (R151, R172). -/
def keysNotice (c : Computer) (k : KeyState) (s : State) : State :=
  if k.sub (s.committedKeys c) then s else inputNotice c s

theorem pointerNotice_eq (c : Computer) (x y : Nat) (b : ButtonSet) (w : Int) (s : State) :
    pointerNotice c x y b w s = s ∨ pointerNotice c x y b w s = inputNotice c s := by
  unfold pointerNotice
  split <;> simp

theorem keysNotice_eq (c : Computer) (k : KeyState) (s : State) : keysNotice c k s = s ∨ keysNotice c k s = inputNotice c s := by
  unfold keysNotice
  split <;> simp

theorem powerState_noticed {c : Computer} {s t : State} (h : t = s ∨ t = inputNotice c s) :
    t.powerState c = s.powerState c ∨ t.powerState c = .waking := by
  obtain rfl | rfl := h
  · exact .inl rfl
  · exact powerState_inputNotice c s

/-- A pointer entry is an input notice, then a placing unless the computer takes no entry (R151). -/
theorem takePointer_eq (c : Computer) (x y : Nat) (b : ButtonSet) (w : Int) (s : State) : takePointer c x y b w s =
    if ((pointerNotice c x y b w s).powerState c).away then pointerNotice c x y b w s
    else placePointer c x y b w (pointerNotice c x y b w s) := by
  have after := powerState_noticed (pointerNotice_eq c x y b w s)
  have up (h : (s.powerState c).down = false) : pointerNotice c x y b w s = s := by
    simp only [pointerNotice, inputNotice_up h, ite_self]
  have placed (h : (s.powerState c).away = false) : ((pointerNotice c x y b w s).powerState c).away = false := by
    obtain same | same := after <;> rw [same]
    exacts [h, rfl]
  rw [takePointer]
  cases state : s.powerState c <;> rw [state] at up placed
  case absent => rw [up rfl]; exact (if_pos (by rw [state]; rfl)).symm
  case starting => rw [up rfl] at placed ⊢; exact (if_neg (by rw [placed rfl]; decide)).symm
  case awake => rw [up rfl] at placed ⊢; exact (if_neg (by rw [placed rfl]; decide)).symm
  case asleep => exact (if_neg (by rw [placed rfl]; decide)).symm
  case waking => exact (if_neg (by rw [placed rfl]; decide)).symm
  case unresponsive =>
    change (if (pointerNotice c x y b w s).powerState c = .waking then placePointer c x y b w (pointerNotice c x y b w s)
      else pointerNotice c x y b w s) = _
    obtain same | same := after <;> simp only [same, state, PowerState.away, reduceCtorEq, if_true, if_false, Bool.false_eq_true]

/-- A keyboard entry is an input notice, then a placing, or a discard where the computer takes no entry (R151). -/
theorem takeKeys_eq (c : Computer) (k : KeyState) (s : State) : takeKeys c k s =
    if ((keysNotice c k s).powerState c).away then discardKeys c k (keysNotice c k s)
    else placeKeys c k (keysNotice c k s) := by
  have after := powerState_noticed (keysNotice_eq c k s)
  have up (h : (s.powerState c).down = false) : keysNotice c k s = s := by
    simp only [keysNotice, inputNotice_up h, ite_self]
  have placed (h : (s.powerState c).away = false) : ((keysNotice c k s).powerState c).away = false := by
    obtain same | same := after <;> rw [same]
    exacts [h, rfl]
  rw [takeKeys]
  cases state : s.powerState c <;> rw [state] at up placed
  case absent => rw [up rfl]; exact (if_pos (by rw [state]; rfl)).symm
  case starting => rw [up rfl] at placed ⊢; exact (if_neg (by rw [placed rfl]; decide)).symm
  case awake => rw [up rfl] at placed ⊢; exact (if_neg (by rw [placed rfl]; decide)).symm
  case asleep => exact (if_neg (by rw [placed rfl]; decide)).symm
  case waking => exact (if_neg (by rw [placed rfl]; decide)).symm
  case unresponsive =>
    change (if (keysNotice c k s).powerState c = .waking then placeKeys c k (keysNotice c k s)
      else discardKeys c k (keysNotice c k s)) = _
    obtain same | same := after <;> simp only [same, state, PowerState.away, reduceCtorEq, if_true, if_false, Bool.false_eq_true]

/-! ### Entries and wakes leave the other computers -/

theorem othersKept_of_parts {cs : List Computer} {s t : State} (ports : t.ports = s.ports) (power : t.power = s.power) :
    OthersKept cs s t := fun d _ => ⟨by simp only [State.port, ports], by simp only [State.powerRec, power]⟩

theorem othersKept_setPort (c : Computer) (p : Port) (s : State) : OthersKept [c] s (s.setPort c p) := by
  intro d hd
  rw [State.port_setPort, if_neg fun h => hd (by simp [h])]
  exact ⟨rfl, rfl⟩

theorem othersKept_setPowerRec (c : Computer) (r : PowerRec) (s : State) : OthersKept [c] s (s.setPowerRec c r) := by
  intro d hd
  rw [State.powerRec_setPowerRec, if_neg fun h => hd (by simp [h])]
  exact ⟨rfl, rfl⟩

theorem othersKept_raise (cs : List Computer) (e : Event) (s : State) : OthersKept cs s (raise e s) :=
  othersKept_of_parts (by simp) (by simp)

theorem othersKept_setPowerState (c : Computer) (st : PowerState) (s : State) : OthersKept [c] s (setPowerState c st s) :=
  (othersKept_setPowerRec c { s.powerRec c with state := st } s).trans (othersKept_of_parts (by simp [setPowerState]) (by simp [setPowerState]))

theorem othersKept_enterUnresponsive (c : Computer) (s : State) : OthersKept [c] s (enterUnresponsive c s) := by
  have emptied (t : State) : OthersKept [c] t (queueEmptied c t) := othersKept_of_parts (by simp) (by simp)
  unfold enterUnresponsive discardQueue
  exact (((((othersKept_setPowerRec c _ s).trans (othersKept_setPowerState c _ _)).trans (othersKept_setPort c _ _)).trans
    (emptied _)).trans (othersKept_raise _ _ _)).trans (othersKept_raise _ _ _)

theorem othersKept_startAttempt (left : Bool) (c : Computer) (k : Nat) (s : State) :
    OthersKept [c] s (startAttempt left c k s) := by
  have signalled (m : Method) (t : State) : OthersKept [c] t (signalWake m left c t) := by
    cases m with
    | link => exact othersKept_of_parts (by simp [signalWake]) (by simp [signalWake])
    | line =>
      simp only [signalWake, startPulse]
      split
      · exact .refl _ _
      · exact othersKept_setPowerRec c _ t
  unfold startAttempt
  split
  · exact othersKept_enterUnresponsive c s
  · exact (othersKept_setPowerRec c _ s).trans (signalled _ _)

theorem othersKept_wakeRequest (c : Computer) (s : State) : OthersKept [c] s (wakeRequest c s) := by
  have woken (t : State) : OthersKept [c] t (startAttempt false c 1 (changePower c .waking t)) :=
    ((othersKept_setPowerState c .waking t).trans (othersKept_raise _ _ _)).trans (othersKept_startAttempt _ c 1 _)
  unfold wakeRequest
  split
  · split
    · exact woken s
    · exact othersKept_enterUnresponsive c s
  · split
    · exact woken s
    · exact othersKept_raise _ _ s
  all_goals exact .refl _ s

theorem othersKept_inputNotice (c : Computer) (s : State) : OthersKept [c] s (inputNotice c s) := by
  unfold inputNotice
  repeat' split
  · exact .refl _ s
  · exact othersKept_wakeRequest c s
  · exact (othersKept_setPowerRec c _ s).trans (othersKept_wakeRequest c _)
  all_goals exact .refl _ s

theorem othersKept_placePointer (c : Computer) (x y : Nat) (b : ButtonSet) (w : Int) (s : State) :
    OthersKept [c] s (placePointer c x y b w s) := by
  have refused (b : ButtonSet) (t : State) : OthersKept [c] t (refuseButtons c b t) := othersKept_of_parts (by simp) (by simp)
  simp only [placePointer]
  repeat' split
  · exact othersKept_setPort c _ s
  · exact othersKept_setPort c _ s
  · exact othersKept_setPort c _ s
  · exact (othersKept_setPort c _ s).trans (refused _ _)

theorem othersKept_takePointer (c : Computer) (x y : Nat) (b : ButtonSet) (w : Int) (s : State) :
    OthersKept [c] s (takePointer c x y b w s) := by
  have noticed : OthersKept [c] s (pointerNotice c x y b w s) := by
    unfold pointerNotice
    split
    · exact .refl _ s
    · exact othersKept_inputNotice c s
  rw [takePointer_eq]
  split
  · exact noticed
  · exact noticed.trans (othersKept_placePointer c x y b w _)

theorem othersKept_placeKeys (c : Computer) (k : KeyState) (s : State) : OthersKept [c] s (placeKeys c k s).1 := by
  simp only [placeKeys]
  repeat' split
  · exact .refl _ s
  · exact othersKept_setPort c _ s
  · exact othersKept_setPort c _ s
  · exact othersKept_setPort c _ s
  · exact othersKept_raise _ _ s

theorem othersKept_discardKeys (cs : List Computer) (c : Computer) (k : KeyState) (s : State) :
    OthersKept cs s (discardKeys c k s).1 := othersKept_of_parts (by simp) (by simp)

theorem othersKept_takeKeys (c : Computer) (k : KeyState) (s : State) : OthersKept [c] s (takeKeys c k s).1 := by
  have noticed : OthersKept [c] s (keysNotice c k s) := by
    unfold keysNotice
    split
    · exact .refl _ s
    · exact othersKept_inputNotice c s
  rw [takeKeys_eq]
  split
  · exact noticed.trans (othersKept_discardKeys _ c k _)
  · exact noticed.trans (othersKept_placeKeys c k _)

theorem othersKept_releaseKeys (c : Computer) (s : State) : OthersKept [c] s (releaseKeys c s) := by
  unfold releaseKeys
  split
  · exact .refl _ s
  · exact othersKept_takeKeys c .empty s

theorem othersKept_releaseButtons (c : Computer) (s : State) : OthersKept [c] s (releaseButtons c s) :=
  othersKept_takePointer c _ _ 0 0 s

end Sys2Proof.Machine
end

section
/-!
PROOFS, the laws of the pointer, the keys and the idle timer as what a step keeps: relations between two states that compose, and the
steps of one part, one port or one power state that satisfy them (R59, R60, R64, R72, R73, R77, R93, R101, R177).
-/

set_option Elab.async false
namespace Sys2Proof.Machine
open Sys2Proof Sys2Proof.Safety

/-! ### What a step keeps -/

/-- The ballistics settings and the barrier (R60). -/
def PointerEngine.settings (p : PointerEngine) : List Nat := [p.t1, p.t2, p.t3, p.g0, p.g1, p.g2, p.g3, p.barrier]

/-- The codes of the desk held set (R93). -/
def State.heldCodes (s : State) : List Nat := s.keyboard.held.map (·.code)

/-- A step that keeps the settings, the held codes, and the laws that do not speak of where the pointer is. -/
structure Sound (s t : State) : Prop where
  settings : t.pointer.settings = s.pointer.settings
  codes : t.heldCodes = s.heldCodes
  accumulators : AccumulatorsFit s → AccumulatorsFit t
  coordinates : CoordinatesFit s → CoordinatesFit t
  idle : IdleTimerRuns s → IdleTimerRuns t
  swallow : SwallowInside s → SwallowInside t
  keys : KeysHome s → KeysHome t

/-- A sound step that also keeps the laws of the pointer's place and focus. -/
structure Tame (s t : State) : Prop extends Sound s t where
  buttons : ButtonsHome s → ButtonsHome t
  home : PointerHome s → PointerHome t

/-- A step that keeps the nine laws of O57, O59 and O60. -/
structure Keeps (s t : State) : Prop where
  accumulators : AccumulatorsFit s → AccumulatorsFit t
  ballistics : BallisticsFit s → BallisticsFit t
  coordinates : CoordinatesFit s → CoordinatesFit t
  idle : IdleTimerRuns s → IdleTimerRuns t
  swallow : SwallowInside s → SwallowInside t
  held : HeldSetFits s → HeldSetFits t
  keys : KeysHome s → KeysHome t
  buttons : ButtonsHome s → ButtonsHome t
  home : PointerHome s → PointerHome t

theorem Sound.refl (s : State) : Sound s s := ⟨rfl, rfl, id, id, id, id, id⟩

theorem Sound.trans {s t u : State} (h : Sound s t) (k : Sound t u) : Sound s u where
  settings := k.settings.trans h.settings
  codes := k.codes.trans h.codes
  accumulators := k.accumulators ∘ h.accumulators
  coordinates := k.coordinates ∘ h.coordinates
  idle := k.idle ∘ h.idle
  swallow := k.swallow ∘ h.swallow
  keys := k.keys ∘ h.keys

theorem Tame.refl (s : State) : Tame s s := ⟨.refl s, id, id⟩

theorem Tame.trans {s t u : State} (h : Tame s t) (k : Tame t u) : Tame s u :=
  ⟨h.toSound.trans k.toSound, k.buttons ∘ h.buttons, k.home ∘ h.home⟩

theorem Keeps.refl (s : State) : Keeps s s := ⟨id, id, id, id, id, id, id, id, id⟩

theorem Keeps.trans {s t u : State} (h : Keeps s t) (k : Keeps t u) : Keeps s u where
  accumulators := k.accumulators ∘ h.accumulators
  ballistics := k.ballistics ∘ h.ballistics
  coordinates := k.coordinates ∘ h.coordinates
  idle := k.idle ∘ h.idle
  swallow := k.swallow ∘ h.swallow
  held := k.held ∘ h.held
  keys := k.keys ∘ h.keys
  buttons := k.buttons ∘ h.buttons
  home := k.home ∘ h.home

theorem sound_foldl {α : Type} {f : State → α → State} (h : ∀ s a, Sound s (f s a)) (l : List α) (s : State) :
    Sound s (l.foldl f s) := by
  induction l generalizing s with
  | nil => exact .refl s
  | cons a l ih => exact (h s a).trans (ih (f s a))

theorem tame_foldl {α : Type} {f : State → α → State} (h : ∀ s a, Tame s (f s a)) (l : List α) (s : State) :
    Tame s (l.foldl f s) := by
  induction l generalizing s with
  | nil => exact .refl s
  | cons a l ih => exact (h s a).trans (ih (f s a))

theorem ballisticsFit_of_settings {s t : State} (same : t.pointer.settings = s.pointer.settings) (fits : BallisticsFit s) :
    BallisticsFit t := by
  simp only [PointerEngine.settings, List.cons.injEq, and_true] at same
  obtain ⟨t1, t2, t3, g0, g1, g2, g3, barrier⟩ := same
  simpa only [BallisticsFit, t1, t2, t3, g0, g1, g2, g3, barrier] using fits

theorem heldSetFits_of_codes {s t : State} (same : t.heldCodes = s.heldCodes) (fits : HeldSetFits s) : HeldSetFits t := by
  have length : t.keyboard.held.length = s.keyboard.held.length := by
    simpa [State.heldCodes] using congrArg List.length same
  obtain ⟨bound, distinct⟩ := fits
  refine ⟨length ▸ bound, ?_⟩
  rw [show t.keyboard.held.map (·.code) = s.keyboard.held.map (·.code) from same]
  exact distinct

theorem Tame.keeps {s t : State} (h : Tame s t) : Keeps s t where
  accumulators := h.accumulators
  ballistics := ballisticsFit_of_settings h.settings
  coordinates := h.coordinates
  idle := h.idle
  swallow := h.swallow
  held := heldSetFits_of_codes h.codes
  keys := h.keys
  buttons := h.buttons
  home := h.home

/-! ### The laws of the ports, port by port -/

/-- What the law of R101 rests on at one port. -/
def KeysFit (p : Port) (st : PowerState) : Prop :=
  (28 < p.queue.length → ∃ k, p.queue.getLast? = some (.keyboard k)) ∧ (st.away = true → p.committedKeys.isEmpty = true)

theorem keysHome_iff (s : State) : KeysHome s ↔
    ∀ c, KeysFit (s.port c) (s.powerState c) ∧ (c ≠ s.keyboard.focus → (s.committedKeys c).isEmpty = true) := by
  simp only [KeysHome, ReleasesFit, KeysFit, PowerState.away_iff, State.committedKeys, forall_and]

/-- No button is committed but at one computer, which takes entries (R77). -/
def ButtonsAt (d : Computer) (s : State) : Prop :=
  ∀ c, ((s.powerState c).away = true → s.committedButtons c = 0) ∧ (c ≠ d → s.committedButtons c = 0)

theorem buttonsHome_iff (s : State) :
    ButtonsHome s ↔ s.pointer.place.isSome = s.pointer.focus.isSome ∧ ButtonsAt s.standIn s := by
  simp only [ButtonsHome, ButtonsAt, PowerState.away_iff, forall_and]

theorem standIn_of_parts {s t : State} (place : t.pointer.place.isSome = s.pointer.place.isSome)
    (focus : t.pointer.focus = s.pointer.focus) (keys : t.keyboard.focus = s.keyboard.focus) : t.standIn = s.standIn := by
  simp only [State.standIn, focus, keys]
  cases h : t.pointer.place <;> cases k : s.pointer.place <;> cases s.pointer.focus <;> simp_all

/-- A step at one computer's port and power state keeps the law of R101 when it does so there. -/
theorem keysHome_of_othersKept {c : Computer} {s t : State} (others : OthersKept [c] s t)
    (focus : t.keyboard.focus = s.keyboard.focus)
    (here : KeysFit (s.port c) (s.powerState c) → (c ≠ s.keyboard.focus → (s.committedKeys c).isEmpty = true) →
      KeysFit (t.port c) (t.powerState c) ∧ (c ≠ s.keyboard.focus → (t.committedKeys c).isEmpty = true))
    (home : KeysHome s) : KeysHome t := by
  rw [keysHome_iff] at home ⊢
  intro d
  rw [focus]
  by_cases e : d = c
  · rw [e]
    exact here (home c).1 (home c).2
  · obtain ⟨port, power⟩ := others d (by simpa using e)
    simp only [State.powerState, State.committedKeys, port, power]
    exact home d

theorem buttonsAt_of_othersKept {c d : Computer} {s t : State} (others : OthersKept [c] s t)
    (here : (((s.powerState c).away = true → s.committedButtons c = 0) ∧ (c ≠ d → s.committedButtons c = 0)) →
      ((t.powerState c).away = true → t.committedButtons c = 0) ∧ (c ≠ d → t.committedButtons c = 0))
    (home : ButtonsAt d s) : ButtonsAt d t := by
  intro b
  by_cases e : b = c
  · rw [e]
    exact here (home c)
  · obtain ⟨port, power⟩ := others b (by simpa using e)
    simp only [State.powerState, State.committedButtons, port, power]
    exact home b

theorem coordinatesFit_of_othersKept {c : Computer} {s t : State} (others : OthersKept [c] s t)
    (lastAbs : t.pointer.lastAbs = s.pointer.lastAbs)
    (here : (∀ e ∈ (s.port c).queue, EntryInRange e) → ∀ e ∈ (t.port c).queue, EntryInRange e) (fits : CoordinatesFit s) :
    CoordinatesFit t := by
  obtain ⟨places, entries⟩ := fits
  refine ⟨lastAbs ▸ places, fun d => ?_⟩
  by_cases e : d = c
  · rw [e]
    exact here (entries c)
  · rw [(others d (by simpa using e)).1]
    exact entries d

/-! ### Steps that leave what the laws read -/

/-- A step that leaves the pointer, the held codes, the key focus, the ports, the power states and the desk's timer and state. -/
structure Aside (s t : State) : Prop where
  pointer : t.pointer = s.pointer
  codes : t.heldCodes = s.heldCodes
  focus : t.keyboard.focus = s.keyboard.focus
  ports : t.ports = s.ports
  power : ∀ c, t.powerState c = s.powerState c
  idle : t.desk.idleStart = s.desk.idleStart
  desk : t.desk.state = s.desk.state

theorem Aside.port {s t : State} (h : Aside s t) (c : Computer) : t.port c = s.port c := by simp only [State.port, h.ports]

theorem Aside.sound {s t : State} (h : Aside s t) : Sound s t where
  settings := by rw [h.pointer]
  codes := h.codes
  accumulators := by simp only [AccumulatorsFit, h.pointer]; exact id
  coordinates := by simp only [CoordinatesFit, h.pointer, h.port]; exact id
  idle := by simp only [IdleTimerRuns, h.idle, h.desk]; exact id
  swallow := by simp only [SwallowInside, h.pointer]; exact id
  keys := by simp only [keysHome_iff, State.committedKeys, h.port, h.power, h.focus]; exact id

/-- The eligible screens and the screen table are the same in two states. -/
def SameScreens (s t : State) : Prop := t.layout.screens = s.layout.screens ∧ ∀ i, t.eligible i = s.eligible i

theorem sameScreens_of_current {s t : State} (layout : t.layout.screens = s.layout.screens)
    (current : ∀ i, (t.screenRec i).current = (s.screenRec i).current) : SameScreens s t :=
  ⟨layout, fun i => by simp only [State.eligible, State.screenRect, layout, current]⟩

theorem sameScreens_of_parts {s t : State} (layout : t.layout = s.layout) (screens : t.screens = s.screens) :
    SameScreens s t := sameScreens_of_current (by rw [layout]) fun i => by simp only [State.screenRec, screens]

theorem pointerHome_of_screens {s t : State} (screens : SameScreens s t) (place : t.pointer.place = s.pointer.place)
    (focus : t.pointer.focus = s.pointer.focus) : PointerHome s → PointerHome t := by
  rintro ⟨apart, home⟩
  refine ⟨screensApart_of_screens screens.1 apart, ?_⟩
  rw [place, focus]
  simpa only [screens.2] using home

theorem Aside.standIn {s t : State} (h : Aside s t) : t.standIn = s.standIn :=
  standIn_of_parts (by rw [h.pointer]) (by rw [h.pointer]) h.focus

theorem Aside.tame {s t : State} (h : Aside s t) (screens : SameScreens s t) : Tame s t where
  toSound := h.sound
  buttons := by
    simp only [buttonsHome_iff, ButtonsAt, State.committedButtons, h.standIn, h.pointer, h.port, h.power]
    exact id
  home := pointerHome_of_screens screens (by rw [h.pointer]) (by rw [h.pointer])

/-- A step that leaves whole parts: all the laws read but the key-focus computer's lamps, flags of held keys and the like. -/
theorem tame_of_parts {s t : State} (pointer : t.pointer = s.pointer) (codes : t.heldCodes = s.heldCodes)
    (focus : t.keyboard.focus = s.keyboard.focus) (ports : t.ports = s.ports) (power : t.power = s.power)
    (desk : t.desk = s.desk) (layout : t.layout = s.layout) (screens : t.screens = s.screens) : Tame s t :=
  Aside.tame ⟨pointer, codes, focus, ports, fun c => by simp only [State.powerState, State.powerRec, power], by rw [desk],
    by rw [desk]⟩ (sameScreens_of_parts layout screens)

theorem tame_of_keyboard {s t : State} (pointer : t.pointer = s.pointer) (keyboard : t.keyboard = s.keyboard)
    (ports : t.ports = s.ports) (power : t.power = s.power) (desk : t.desk = s.desk) (layout : t.layout = s.layout)
    (screens : t.screens = s.screens) : Tame s t :=
  tame_of_parts pointer (by simp only [State.heldCodes, keyboard]) (by rw [keyboard]) ports power desk layout screens

theorem tame_raise (e : Event) (s : State) : Tame s (raise e s) := by
  apply tame_of_keyboard <;> simp

theorem tame_followOutputs (s : State) : Tame s (followOutputs s) := by
  apply tame_of_keyboard <;> simp

theorem heldCodes_markHeld {p : HeldKey → Bool} {f : HeldKey → HeldKey} (h : ∀ k, (f k).code = k.code) (s : State) :
    (markHeld p f s).heldCodes = s.heldCodes := by
  simp only [State.heldCodes, markHeld, State.setHeld, State.setKeyboard, List.map_map]
  refine List.map_congr_left fun k _ => ?_
  simp only [Function.comp_apply]
  split
  · exact h k
  · rfl

theorem tame_markHeld {p : HeldKey → Bool} {f : HeldKey → HeldKey} (h : ∀ k, (f k).code = k.code) (s : State) :
    Tame s (markHeld p f s) :=
  tame_of_parts (by simp) (heldCodes_markHeld h s) (by simp [markHeld]) (by simp) (by simp) (by simp) (by simp) (by simp)

theorem tame_queueEmptied (c : Computer) (s : State) : Tame s (queueEmptied c s) := by
  unfold queueEmptied
  split
  · exact tame_markHeld (f := HeldKey.suppress) (fun _ => rfl) s
  · exact .refl s

theorem tame_showLamps (s : State) : Tame s (showLamps s) := by
  unfold showLamps
  split
  · apply tame_of_parts <;> simp [State.heldCodes]
  · exact .refl s

theorem tame_setLamps (c : Computer) (lamps : LampSet) (s : State) : Tame s (setLamps c lamps s) := by
  have stored : Tame s (s.setKeyboard { s.keyboard with lamps := s.keyboard.lamps.set c lamps }) := by
    apply tame_of_parts <;> simp [State.heldCodes]
  unfold setLamps
  dsimp only
  split
  · exact stored.trans (tame_showLamps _)
  · exact stored

/-! ### Power states -/

/-- A power record is written with the power state kept. -/
theorem tame_setPowerRec {c : Computer} {r : PowerRec} {s : State} (state : r.state = s.powerState c) :
    Tame s (s.setPowerRec c r) := by
  refine Aside.tame ⟨rfl, rfl, rfl, rfl, fun d => ?_, rfl, rfl⟩ (sameScreens_of_parts rfl rfl)
  rw [State.powerState_setPowerRec]
  split
  · next e => rw [← e, state]
  · rfl

/-- A step at one computer's port and power state. -/
theorem tame_of_othersKept {c : Computer} {s t : State} (others : OthersKept [c] s t) (pointer : t.pointer = s.pointer)
    (codes : t.heldCodes = s.heldCodes) (focus : t.keyboard.focus = s.keyboard.focus) (desk : t.desk = s.desk)
    (layout : t.layout = s.layout) (screens : t.screens = s.screens)
    (entries : (∀ e ∈ (s.port c).queue, EntryInRange e) → ∀ e ∈ (t.port c).queue, EntryInRange e)
    (keys : KeysFit (s.port c) (s.powerState c) → (c ≠ s.keyboard.focus → (s.committedKeys c).isEmpty = true) →
      KeysFit (t.port c) (t.powerState c) ∧ (c ≠ s.keyboard.focus → (t.committedKeys c).isEmpty = true))
    (buttons : ((s.powerState c).away = true → s.committedButtons c = 0) →
      ((t.powerState c).away = true → t.committedButtons c = 0) ∧
        (t.committedButtons c = s.committedButtons c ∨ t.committedButtons c = 0)) : Tame s t where
  settings := by rw [pointer]
  codes := codes
  accumulators := by simp only [AccumulatorsFit, pointer]; exact id
  coordinates := coordinatesFit_of_othersKept others (by rw [pointer]) entries
  idle := by simp only [IdleTimerRuns, desk]; exact id
  swallow := by simp only [SwallowInside, pointer]; exact id
  keys := keysHome_of_othersKept others focus keys
  buttons := by
    rw [buttonsHome_iff, buttonsHome_iff, standIn_of_parts (by rw [pointer]) (by rw [pointer]) focus, pointer]
    refine And.imp_right (buttonsAt_of_othersKept others fun home => ?_)
    obtain ⟨away, same | none⟩ := buttons home.1
    · exact ⟨away, fun h => same.trans (home.2 h)⟩
    · exact ⟨away, fun _ => none⟩
  home := pointerHome_of_screens (sameScreens_of_parts layout screens) (by rw [pointer]) (by rw [pointer])

/-- A computer enters a state in which it takes entries. -/
theorem tame_setPowerState {c : Computer} {st : PowerState} (present : st.away = false) (s : State) :
    Tame s (setPowerState c st s) := by
  have port : (setPowerState c st s).port c = s.port c := by simp [State.port]
  have here : (setPowerState c st s).powerState c = st := by rw [powerState_setPowerState, if_pos rfl]
  refine tame_of_othersKept (othersKept_setPowerState c st s) (by simp) (by simp [State.heldCodes]) (by simp) (by simp)
    (by simp) (by simp) (by rw [port]; exact id) (fun fits empty => ?_) (fun _ => ⟨?_, .inl ?_⟩)
  · simp only [State.committedKeys, here, port]
    exact ⟨⟨fits.1, fun away => by simp [present] at away⟩, empty⟩
  · intro away
    simp [here, present] at away
  · simp only [State.committedButtons, port]

theorem tame_changePower {c : Computer} {st : PowerState} (present : st.away = false) (s : State) :
    Tame s (changePower c st s) := (tame_setPowerState present s).trans (tame_raise _ _)

theorem tame_endPulse (c : Computer) (s : State) : Tame s (endPulse c s) := tame_setPowerRec rfl

theorem tame_endWake (c : Computer) (s : State) : Tame s (endWake c s) :=
  Tame.trans (t := s.setPowerRec c (s.powerRec c).noAttempt) (tame_setPowerRec rfl) (tame_endPulse c _)

/-- A computer whose port is left with an empty queue, no key and no button, whatever state it enters (R148, R160). -/
theorem tame_emptied {c : Computer} {s t : State} (others : OthersKept [c] s t) (pointer : t.pointer = s.pointer)
    (codes : t.heldCodes = s.heldCodes) (focus : t.keyboard.focus = s.keyboard.focus) (desk : t.desk = s.desk)
    (layout : t.layout = s.layout) (screens : t.screens = s.screens) (queue : (t.port c).queue = [])
    (keys : (t.port c).keys = .empty) (buttons : (t.port c).buttons = 0) : Tame s t := by
  have released : (t.port c).committedKeys.isEmpty = true := by
    simp [Port.committedKeys, queue, keys, KeyState.isEmpty, KeyState.empty]
  have let_go : t.committedButtons c = 0 := by
    simp [State.committedButtons, Port.committedButtons, Port.committedPointer, queue, buttons]
  exact tame_of_othersKept others pointer codes focus desk layout screens (fun _ e mem => by simp [queue] at mem)
    (fun _ _ => ⟨⟨fun long => by simp [queue] at long, fun _ => released⟩, fun _ => released⟩)
    (fun _ => ⟨fun _ => let_go, .inr let_go⟩)

/-- A computer goes to UNRESPONSIVE, and its queue is discarded (R170). -/
theorem tame_enterUnresponsive (c : Computer) (s : State) : Tame s (enterUnresponsive c s) := by
  have port : (enterUnresponsive c s).port c = (s.port c).discard := by
    simp [enterUnresponsive, discardQueue, State.port]
  have keyboard : (enterUnresponsive c s).heldCodes = s.heldCodes ∧ (enterUnresponsive c s).keyboard.focus = s.keyboard.focus := by
    have raised (e : Event) (t : State) : (raise e t).keyboard = t.keyboard := by simp
    simp only [enterUnresponsive, discardQueue, State.heldCodes, raised, queueEmptied]
    split
    · exact ⟨heldCodes_markHeld (f := HeldKey.suppress) (fun _ => rfl) _, by simp [markHeld]⟩
    · simp
  exact tame_emptied (othersKept_enterUnresponsive c s) (by simp) keyboard.1 keyboard.2 (by simp) (by simp) (by simp)
    (by rw [port]; rfl) (by rw [port]; rfl) (by rw [port]; rfl)

/-- An observation leaves the power state, or changes it, a wake being ended or the input wake armed first; the state is one that
takes entries but at a detach (R164). -/
theorem observe_cases (c : Computer) (o : Observation) (s : State) : observe c o s = s ∨ ∃ st u,
    observe c o s = changePower c st u ∧ (o ≠ .detached → st.away = false) ∧
      (u = s ∨ u = endWake c s ∨ u = s.setPowerRec c { s.powerRec c with armed := true }) := by
  unfold observe
  split
  case h_1 | h_13 => exact .inl rfl
  case h_2 => exact .inr ⟨_, _, rfl, fun h => absurd rfl h, .inr (.inl rfl)⟩
  case h_3 | h_4 => exact .inr ⟨_, _, rfl, fun _ => rfl, .inl rfl⟩
  case h_5 => exact .inr ⟨_, _, rfl, fun _ => rfl, .inr (.inr rfl)⟩
  all_goals exact .inr ⟨_, _, rfl, fun _ => rfl, .inr (.inl rfl)⟩

theorem othersKept_observe (c : Computer) (o : Observation) (s : State) : OthersKept [c] s (observe c o s) := by
  obtain same | ⟨st, u, moved, -, before⟩ := observe_cases c o s
  · rw [same]
    exact .refl _ s
  · have first : OthersKept [c] s u := by
      obtain rfl | rfl | rfl := before
      · exact .refl _ u
      · exact (othersKept_setPowerRec c _ s).trans (othersKept_setPowerRec c _ _)
      · exact othersKept_setPowerRec c _ s
    rw [moved]
    exact (first.trans (othersKept_setPowerState c st u)).trans (othersKept_raise _ _ _)

/-- What the port observes, but for a detach (R147, R164). -/
theorem tame_observe {c : Computer} {o : Observation} (there : o ≠ .detached) (s : State) : Tame s (observe c o s) := by
  obtain same | ⟨st, u, moved, present, before⟩ := observe_cases c o s
  · rw [same]
    exact .refl s
  · have first : Tame s u := by
      obtain rfl | rfl | rfl := before
      · exact .refl u
      · exact tame_endWake c s
      · exact tame_setPowerRec rfl
    rw [moved]
    exact first.trans (tame_changePower (present there) u)

/-- The port is cleared, and the computer enters the state that its observation gives (R148, R164). -/
theorem tame_clearPort (c : Computer) (p : PortState) (o : Observation) (s : State) : Tame s (clearPort c p o s) := by
  have cleared : Tame s (observe c o (s.setPort c ((s.port c).clear p))) := by
    have port : (observe c o (s.setPort c ((s.port c).clear p))).port c = (s.port c).clear p := by
      rw [State.port, (observe_leaves c o _).2.2.2.2.2.2.2.2.2.1]
      exact (State.port_setPort ..).trans (if_pos rfl)
    exact tame_emptied ((othersKept_setPort c _ s).trans (othersKept_observe c o _)) (by simp) (by simp [State.heldCodes])
      (by simp) (by simp) (by simp) (by simp) (by rw [port]; rfl) (by rw [port]; rfl) (by rw [port]; rfl)
  exact (cleared.trans (tame_queueEmptied c _)).trans (tame_setLamps c 0 _)

/-! ### Wakes (R166 to R170) -/

theorem tame_startAttempt (left : Bool) (c : Computer) (k : Nat) (s : State) : Tame s (startAttempt left c k s) := by
  have signalled (m : Method) (t : State) : Tame t (signalWake m left c t) := by
    cases m with
    | link => apply tame_of_keyboard <;> simp [signalWake]
    | line =>
      simp only [signalWake, startPulse]
      split
      · exact .refl _
      · exact tame_setPowerRec rfl
  unfold startAttempt
  split
  · exact tame_enterUnresponsive c s
  · exact Tame.trans (tame_setPowerRec (by rfl)) (signalled _ _)

theorem tame_wakeRequest (c : Computer) (s : State) : Tame s (wakeRequest c s) := by
  have woken : Tame s (startAttempt false c 1 (changePower c .waking s)) :=
    (tame_changePower rfl s).trans (tame_startAttempt _ c 1 _)
  unfold wakeRequest
  split
  · split
    · exact woken
    · exact tame_enterUnresponsive c s
  · split
    · exact woken
    · exact tame_raise _ s
  all_goals exact .refl s

theorem tame_inputNotice (c : Computer) (s : State) : Tame s (inputNotice c s) := by
  unfold inputNotice
  repeat' split
  · exact .refl s
  · exact tame_wakeRequest c s
  · exact Tame.trans (tame_setPowerRec (by rfl)) (tame_wakeRequest c _)
  all_goals exact .refl s

end Sys2Proof.Machine
end

section
/-!
PROOFS, pointer entries and pointer focus as what a step keeps: an entry lies in range, refuses only buttons that it carries, and
commits a button nowhere but at the stand-in computer (R72, R74, R77, R155).
-/

set_option Elab.async false
namespace Sys2Proof.Machine
open Sys2Proof Sys2Proof.Safety

/-! ### Sets of buttons -/

theorem subBits_iff {n : Nat} (a b : BitVec n) : subBits a b = true ↔ ∀ i, a.getLsbD i = true → b.getLsbD i = true := by
  rw [subBits, beq_iff_eq]
  constructor
  · intro none i ha
    by_contra hb
    have bit : (a &&& ~~~b).getLsbD i = true := by
      rw [BitVec.getLsbD_and, BitVec.getLsbD_not, ha, Bool.eq_false_iff.2 hb, decide_eq_true (BitVec.lt_of_getLsbD ha)]
      rfl
    rw [none] at bit
    simp at bit
  · intro sub
    refine BitVec.eq_of_getLsbD_eq fun i hi => ?_
    rw [BitVec.getLsbD_and, BitVec.getLsbD_not]
    cases ha : a.getLsbD i
    · simp
    · simp [sub i ha]

theorem subBits_delivered (s : State) : subBits s.delivered s.pointer.buttons = true := by
  simp only [subBits_iff, State.delivered, BitVec.getLsbD_and, Bool.and_eq_true]
  exact fun i h => h.1

theorem subBits_zero {n : Nat} (b : BitVec n) : subBits 0 b = true := by simp [subBits_iff]

/-- The buttons that a port refuses are among those that the entry carries (R155). -/
theorem subBits_refusedOf {b c : ButtonSet} (p : Port) (h : subBits b c = true) : subBits (refusedOf b p) c = true := by
  unfold refusedOf
  split
  · simp only [subBits_iff, BitVec.getLsbD_and, Bool.and_eq_true] at h ⊢
    exact fun i hi => h i hi.1
  · exact subBits_zero c

theorem subBits_or {n : Nat} {a b c : BitVec n} (ha : subBits a c = true) (hb : subBits b c = true) :
    subBits (a ||| b) c = true := by
  simp only [subBits_iff, BitVec.getLsbD_or, Bool.or_eq_true] at ha hb ⊢
  exact fun i hi => hi.elim (ha i) (hb i)

/-! ### What an entry leaves -/

theorem startAttempt_ports {left : Bool} {c : Computer} {k : Nat} {s : State} (method : s.hasMethod c = true) :
    (startAttempt left c k s).ports = s.ports := by
  obtain ⟨m, hm⟩ := attemptMethod_of_hasMethod s c k method
  simp only [startAttempt, hm]
  cases m <;> simp [signalWake]

theorem wakeRequest_ports {c : Computer} {s : State} (method : s.hasMethod c = true) : (wakeRequest c s).ports = s.ports := by
  cases down : (s.powerState c).down with
  | false => rw [wakeRequest_up down]
  | true =>
    rw [wakeRequest_method down method, startAttempt_ports (by simpa using method)]
    simp

@[simp] theorem inputNotice_ports (c : Computer) (s : State) : (inputNotice c s).ports = s.ports := by
  unfold inputNotice
  split
  · next h =>
    obtain ⟨-, method⟩ := Bool.and_eq_true_iff.1 h
    split
    · rfl
    · exact wakeRequest_ports method
    · split
      · exact wakeRequest_ports (s := s.setPowerRec c { s.powerRec c with armed := false }) (by simpa using method)
      · rfl
  · rfl

@[simp] theorem pointerNotice_leaves (c : Computer) (x y : Nat) (b : ButtonSet) (w : Int) (s : State) :
    (pointerNotice c x y b w s).now = s.now ∧ (pointerNotice c x y b w s).layout = s.layout ∧
    (pointerNotice c x y b w s).screens = s.screens ∧ (pointerNotice c x y b w s).pointer = s.pointer ∧
    (pointerNotice c x y b w s).keyboard = s.keyboard ∧ (pointerNotice c x y b w s).desk = s.desk ∧
    (pointerNotice c x y b w s).ports = s.ports := by
  unfold pointerNotice
  split <;> simp

@[simp] theorem keysNotice_leaves (c : Computer) (k : KeyState) (s : State) :
    (keysNotice c k s).now = s.now ∧ (keysNotice c k s).layout = s.layout ∧ (keysNotice c k s).screens = s.screens ∧
    (keysNotice c k s).pointer = s.pointer ∧ (keysNotice c k s).keyboard = s.keyboard ∧
    (keysNotice c k s).desk = s.desk ∧ (keysNotice c k s).ports = s.ports := by
  unfold keysNotice
  split <;> simp

theorem tame_pointerNotice (c : Computer) (x y : Nat) (b : ButtonSet) (w : Int) (s : State) :
    Tame s (pointerNotice c x y b w s) := by
  unfold pointerNotice
  split
  · exact .refl s
  · exact tame_inputNotice c s

theorem tame_keysNotice (c : Computer) (k : KeyState) (s : State) : Tame s (keysNotice c k s) := by
  unfold keysNotice
  split
  · exact .refl s
  · exact tame_inputNotice c s

/-- What becomes of a pointer entry at its own computer: nothing where it takes none (R151), else it is placed, and the buttons
refused are swallowed (R154 to R156). -/
theorem takePointer_taken (c : Computer) (x y : Nat) (b : ButtonSet) (w : Int) (s : State) :
    (((takePointer c x y b w s).powerState c).away = true ∧ (s.powerState c).away = true ∧
      (takePointer c x y b w s).port c = s.port c ∧ (takePointer c x y b w s).pointer = s.pointer) ∨
    (((takePointer c x y b w s).powerState c).away = false ∧
      PointerPlaced x y b w (s.port c) ((takePointer c x y b w s).port c) ∧
      (takePointer c x y b w s).pointer = { s.pointer with swallow := s.pointer.swallow ||| refusedOf b (s.port c) }) := by
  have port : (pointerNotice c x y b w s).port c = s.port c := by simp [State.port]
  rw [takePointer_eq]
  split
  · next away =>
    refine .inl ⟨away, ?_, port, by simp⟩
    obtain same | same := powerState_noticed (pointerNotice_eq c x y b w s)
    · rwa [← same]
    · rw [same] at away
      cases away
  · next present =>
    have state : (placePointer c x y b w (pointerNotice c x y b w s)).powerState c =
        (pointerNotice c x y b w s).powerState c := by simp [State.powerState, State.powerRec]
    refine .inr ⟨by rw [state]; simpa using present, ?_, ?_⟩
    · rw [← port]
      exact placePointer_placed c x y b w _
    · rw [placePointer_swallow, port]
      simp

/-- The law of R101 at a port that a pointer entry is handed to. -/
theorem keysFit_takePointer {c : Computer} {x y : Nat} {b : ButtonSet} {w : Int} {s : State}
    (fits : KeysFit (s.port c) (s.powerState c)) :
    KeysFit ((takePointer c x y b w s).port c) ((takePointer c x y b w s).powerState c) ∧
      (takePointer c x y b w s).committedKeys c = s.committedKeys c := by
  obtain ⟨away, was, port, -⟩ | ⟨present, placed, -⟩ := takePointer_taken c x y b w s
  · simp only [State.committedKeys, port]
    exact ⟨⟨fits.1, fun _ => fits.2 was⟩, trivial⟩
  · simp only [State.committedKeys, placed.committedKeys]
    exact ⟨⟨placed.tail fits.1, fun away => by simp [present] at away⟩, trivial⟩

/-- An entry for a place in range, with buttons that are held on the desk. -/
theorem sound_takePointer {c : Computer} {x y : Nat} {b : ButtonSet} (w : Int) {s : State}
    (place : CoordinatesFit s → x ≤ 32767 ∧ y ≤ 32767) (held : subBits b s.pointer.buttons = true) :
    Sound s (takePointer c x y b w s) where
  settings := by simp [PointerEngine.settings]
  codes := by simp [State.heldCodes]
  accumulators := by simp [AccumulatorsFit]
  coordinates fits := by
    refine coordinatesFit_of_othersKept (othersKept_takePointer c x y b w s) (by simp) (fun entries => ?_) fits
    obtain ⟨-, -, port, -⟩ | ⟨-, placed, -⟩ := takePointer_taken c x y b w s
    · rw [port]
      exact entries
    · exact placed.inRange entries (place fits)
  idle := by simp [IdleTimerRuns]
  swallow inside := by
    obtain ⟨-, -, -, pointer⟩ | ⟨-, -, pointer⟩ := takePointer_taken c x y b w s
    · simpa only [SwallowInside, pointer] using inside
    · simp only [SwallowInside, pointer]
      exact subBits_or inside (subBits_refusedOf _ held)
  keys := keysHome_of_othersKept (othersKept_takePointer c x y b w s) (by simp) fun fits empty => by
    obtain ⟨fit, same⟩ := keysFit_takePointer (x := x) (y := y) (b := b) (w := w) fits
    exact ⟨fit, by rw [same]; exact empty⟩

/-- An entry for the computer that has the buttons, or one without buttons. -/
theorem buttonsAt_takePointer {c d : Computer} (x y : Nat) {b : ButtonSet} (w : Int) {s : State} (h : c = d ∨ b = 0)
    (at_d : ButtonsAt d s) : ButtonsAt d (takePointer c x y b w s) := by
  refine buttonsAt_of_othersKept (othersKept_takePointer c x y b w s) (fun here => ?_) at_d
  obtain ⟨-, was, port, -⟩ | ⟨present, placed, -⟩ := takePointer_taken c x y b w s
  · simp only [State.committedButtons, port]
    exact ⟨fun _ => here.1 was, here.2⟩
  · refine ⟨fun away => by simp [present] at away, fun other => ?_⟩
    obtain rfl := h.resolve_left other
    rw [State.committedButtons, Port.committedButtons, placed.released]

/-- After an entry without buttons its computer has none committed (R77). -/
theorem committedButtons_takePointer_zero (c : Computer) (x y : Nat) (w : Int) {s : State}
    (away : (s.powerState c).away = true → s.committedButtons c = 0) :
    (takePointer c x y 0 w s).committedButtons c = 0 := by
  obtain ⟨-, was, port, -⟩ | ⟨-, placed, -⟩ := takePointer_taken c x y 0 w s
  · rw [State.committedButtons, port]
    exact away was
  · rw [State.committedButtons, Port.committedButtons, placed.released]

theorem takePointer_screens (c : Computer) (x y : Nat) (b : ButtonSet) (w : Int) (s : State) :
    SameScreens s (takePointer c x y b w s) := sameScreens_of_parts (by simp) (by simp)

theorem tame_takePointer {c : Computer} {x y : Nat} {b : ButtonSet} (w : Int) {s : State}
    (place : CoordinatesFit s → x ≤ 32767 ∧ y ≤ 32767) (held : subBits b s.pointer.buttons = true)
    (target : c = s.standIn ∨ b = 0) : Tame s (takePointer c x y b w s) where
  toSound := sound_takePointer w place held
  buttons := by
    rw [buttonsHome_iff, buttonsHome_iff, standIn_of_parts (t := takePointer c x y b w s) (s := s) (by simp) (by simp) (by simp)]
    simp only [takePointer_pointer_leaves]
    exact And.imp_right (buttonsAt_takePointer x y w target)
  home := pointerHome_of_screens (takePointer_screens c x y b w s) (by simp) (by simp)

theorem lastAbs_inRange {s : State} (c : Computer) (fits : CoordinatesFit s) :
    s.pointer.lastAbs[c].1 ≤ 32767 ∧ s.pointer.lastAbs[c].2 ≤ 32767 := fits.1 c

theorem tame_releaseButtons (c : Computer) (s : State) : Tame s (releaseButtons c s) :=
  tame_takePointer 0 (lastAbs_inRange c) (subBits_zero _) (.inr rfl)

/-! ### Writes of the Pointer Engine -/

theorem sound_setPointer {p : PointerEngine} {s : State} (settings : p.settings = s.pointer.settings)
    (accumulators : AccumulatorsFit s → AccumulatorsFit (s.setPointer p))
    (lastAbs : (∀ c : Computer, s.pointer.lastAbs[c].1 ≤ 32767 ∧ s.pointer.lastAbs[c].2 ≤ 32767) →
      ∀ c : Computer, p.lastAbs[c].1 ≤ 32767 ∧ p.lastAbs[c].2 ≤ 32767)
    (swallow : SwallowInside s → SwallowInside (s.setPointer p)) : Sound s (s.setPointer p) where
  settings := settings
  codes := rfl
  accumulators := accumulators
  coordinates fits := ⟨lastAbs fits.1, fits.2⟩
  idle := id
  swallow := swallow
  keys := id

theorem tame_setPointer {p : PointerEngine} {s : State} (sound : Sound s (s.setPointer p)) (place : p.place = s.pointer.place)
    (focus : p.focus = s.pointer.focus) : Tame s (s.setPointer p) where
  toSound := sound
  buttons := by
    rw [buttonsHome_iff, buttonsHome_iff, standIn_of_parts (t := s.setPointer p) (s := s) (by rw [← place]; rfl) focus rfl]
    simp only [State.setPointer_pointer, place, focus]
    exact id
  home := pointerHome_of_screens (sameScreens_of_parts rfl rfl) place focus

/-- Buttons that are held on the desk join the swallow set. -/
theorem tame_swallow {b : ButtonSet} {s : State} (held : subBits b s.pointer.buttons = true) :
    Tame s (s.setPointer { s.pointer with swallow := s.pointer.swallow ||| b }) :=
  tame_setPointer (sound_setPointer rfl id id fun inside => subBits_or inside held) rfl rfl

theorem tame_swallowHeld (s : State) : Tame s (swallowHeld s) := tame_swallow (by simp [subBits_iff])

theorem tame_setPush (p : Option Push) (s : State) : Tame s (setPush p s) :=
  tame_setPointer (sound_setPointer rfl id id id) rfl rfl

theorem sound_setPlace (p : Option Place) (s : State) : Sound s (setPlace p s) := sound_setPointer rfl id id id

/-! ### Entries for the pointer's position (R74) -/

theorem mapAxis_le (l sw hx0 hw w : Nat) : mapAxis l sw hx0 hw w ≤ 32767 := Nat.min_le_left _ _

/-- A mapped position lies in range (R72). -/
theorem mapPlace_inRange {s : State} {p : Place} {x y : Nat} (h : s.mapPlace p = some (x, y)) : x ≤ 32767 ∧ y ≤ 32767 := by
  simp only [State.mapPlace, Option.bind_eq_bind, Option.bind_eq_some_iff, Option.pure_def, Option.some.injEq, Prod.mk.injEq] at h
  obtain ⟨-, -, -, -, rfl, rfl⟩ := h
  exact ⟨mapAxis_le .., mapAxis_le ..⟩

theorem lastAbs_set_inRange {s : State} {c : Computer} {x y : Nat} (place : x ≤ 32767 ∧ y ≤ 32767)
    (fits : ∀ d : Computer, s.pointer.lastAbs[d].1 ≤ 32767 ∧ s.pointer.lastAbs[d].2 ≤ 32767) (d : Computer) :
    (s.pointer.lastAbs.set c (x, y))[d].1 ≤ 32767 ∧ (s.pointer.lastAbs.set c (x, y))[d].2 ≤ 32767 := by
  simp only [Fin.getElem_fin, Vector.getElem_set]
  split
  · exact place
  · exact fits d

theorem handEntry_cases (c : Computer) (x y : Nat) (b : ButtonSet) (w : Int) (s : State) : handEntry c x y b w s = s ∨
    handEntry c x y b w s = takePointer c x y b w (s.setPointer { s.pointer with lastAbs := s.pointer.lastAbs.set c (x, y) }) := by
  unfold handEntry
  split
  · exact .inr rfl
  · exact .inl rfl

theorem tame_setLastAbs {c : Computer} {x y : Nat} {s : State} (place : CoordinatesFit s → x ≤ 32767 ∧ y ≤ 32767) :
    Tame s (s.setPointer { s.pointer with lastAbs := s.pointer.lastAbs.set c (x, y) }) := by
  have sound : Sound s (s.setPointer { s.pointer with lastAbs := s.pointer.lastAbs.set c (x, y) }) :=
    ⟨rfl, rfl, id, fun fits => ⟨lastAbs_set_inRange (place fits) fits.1, fits.2⟩, id, id, id⟩
  exact tame_setPointer sound rfl rfl

theorem sound_handEntry {c : Computer} {x y : Nat} {b : ButtonSet} (w : Int) {s : State}
    (place : CoordinatesFit s → x ≤ 32767 ∧ y ≤ 32767) (held : subBits b s.pointer.buttons = true) :
    Sound s (handEntry c x y b w s) := by
  obtain same | taken := handEntry_cases c x y b w s
  · rw [same]
    exact .refl s
  · rw [taken]
    have fits (h : CoordinatesFit (s.setPointer { s.pointer with lastAbs := s.pointer.lastAbs.set c (x, y) })) :
        x ≤ 32767 ∧ y ≤ 32767 := by simpa using h.1 c
    exact (tame_setLastAbs place).toSound.trans (sound_takePointer w fits held)

theorem buttonsAt_setPointer {d : Computer} {p : PointerEngine} {s : State} (at_d : ButtonsAt d s) :
    ButtonsAt d (s.setPointer p) := at_d

theorem buttonsAt_handEntry {c d : Computer} (x y : Nat) {b : ButtonSet} (w : Int) {s : State} (h : c = d ∨ b = 0)
    (at_d : ButtonsAt d s) : ButtonsAt d (handEntry c x y b w s) := by
  obtain same | taken := handEntry_cases c x y b w s
  · rwa [same]
  · rw [taken]
    exact buttonsAt_takePointer x y w h (buttonsAt_setPointer at_d)

theorem handPlace_cases (w : Int) (s : State) : handPlace w s = s ∨ ∃ p c x y, s.pointer.place = some p ∧
    s.pointer.focus = some c ∧ s.mapPlace p = some (x, y) ∧ handPlace w s = handEntry c x y s.delivered w s := by
  unfold handPlace
  split
  · next p c place focus =>
    split
    · next x y mapped => exact .inr ⟨p, c, x, y, place, focus, mapped, rfl⟩
    · exact .inl rfl
  · exact .inl rfl

theorem sound_handPlace (w : Int) (s : State) : Sound s (handPlace w s) := by
  obtain same | ⟨p, c, x, y, -, -, mapped, taken⟩ := handPlace_cases w s
  · rw [same]
    exact .refl s
  · rw [taken]
    exact sound_handEntry w (fun _ => mapPlace_inRange mapped) (subBits_delivered s)

theorem standIn_of_focus {s : State} {p : Place} {c : Computer} (place : s.pointer.place = some p)
    (focus : s.pointer.focus = some c) : s.standIn = c := by
  simp only [State.standIn, place, focus]

theorem buttonsAt_handPlace (w : Int) {s : State} (home : ButtonsAt s.standIn s) : ButtonsAt s.standIn (handPlace w s) := by
  obtain same | ⟨p, c, x, y, place, focus, -, taken⟩ := handPlace_cases w s
  · rwa [same]
  · rw [taken]
    exact buttonsAt_handEntry x y w (.inl (standIn_of_focus place focus).symm) home

@[simp] theorem standIn_handPlace (w : Int) (s : State) : (handPlace w s).standIn = s.standIn :=
  standIn_of_parts (by simp) (by simp) (by simp)

theorem tame_handPlace (w : Int) (s : State) : Tame s (handPlace w s) where
  toSound := sound_handPlace w s
  buttons := by
    rw [buttonsHome_iff, buttonsHome_iff, standIn_handPlace]
    simp only [handPlace_pointer_leaves]
    exact And.imp_right (buttonsAt_handPlace w)
  home := pointerHome_of_screens (sameScreens_of_parts (by simp) (by simp)) (by simp) (by simp)

/-! ### Pointer focus (R77) -/

theorem tame_leaveStandIn (a : Computer) (s : State) : Tame s (leaveStandIn a s) := by
  unfold leaveStandIn
  split
  · exact (tame_releaseButtons a s).trans (tame_swallowHeld _)
  · exact tame_swallowHeld s

/-- The stand-in that is left has no button committed after, so no computer has (R77 steps 1 and 2). -/
theorem buttonsAt_leaveStandIn {a : Computer} {s : State} (home : ButtonsAt a s) (d : Computer) :
    ButtonsAt d (leaveStandIn a s) := by
  have none_left (t : State) (at_a : ButtonsAt a t) (none : t.committedButtons a = 0) : ButtonsAt d (swallowHeld t) := by
    intro c
    have zero : (swallowHeld t).committedButtons c = 0 := by
      by_cases e : c = a
      · rw [e]
        exact none
      · exact (at_a c).2 e
    exact ⟨fun _ => zero, fun _ => zero⟩
  unfold leaveStandIn
  split
  · exact none_left _ (buttonsAt_takePointer _ _ 0 (.inr rfl) home) (committedButtons_takePointer_zero a _ _ 0 (home a).1)
  · next none => exact none_left s home (by simpa using none)

theorem sound_takeFocus (n : Option Computer) (s : State) : Sound s (takeFocus n s) :=
  Sound.trans (t := s.setPointer { s.pointer with focus := n }) (sound_setPointer rfl id id id) (tame_raise _ _).toSound

theorem sound_leftStandIn (a : Computer) (n : Option Computer) (s : State) : Sound s (leftStandIn a n s) := by
  unfold leftStandIn
  split
  · exact .refl s
  · exact (tame_leaveStandIn a s).toSound

theorem sound_pointerFocusChange (a : Computer) (n : Option Computer) (s : State) : Sound s (pointerFocusChange a n s) := by
  rw [pointerFocusChange_eq]
  exact ((sound_leftStandIn a n s).trans (sound_takeFocus n _)).trans (sound_handPlace 0 _)

theorem buttonsAt_takeFocus {d : Computer} {n : Option Computer} {s : State} (home : ButtonsAt d s) :
    ButtonsAt d (takeFocus n s) := by
  have ports : (takeFocus n s).ports = s.ports := by simp [takeFocus, raiseFocus]
  have power : (takeFocus n s).power = s.power := by simp [takeFocus, raiseFocus]
  simp only [ButtonsAt, State.committedButtons, State.port, State.powerState, State.powerRec, ports, power]
  exact home

/-- A pointer focus change leaves the buttons with the stand-in computer that it makes (R77). -/
theorem buttonsHome_pointerFocusChange {a : Computer} {n : Option Computer} {s : State}
    (placed : s.pointer.place.isSome = n.isSome) (home : ButtonsAt a s) : ButtonsHome (pointerFocusChange a n s) := by
  have new : (takeFocus n (leftStandIn a n s)).standIn = n.getD s.keyboard.focus := by
    cases n with
    | none =>
      have parked : s.pointer.place = none := by simpa using placed
      simp [State.standIn, leftStandIn_leaves, parked, takeFocus, raiseFocus]
    | some c =>
      obtain ⟨p, hp⟩ := Option.isSome_iff_exists.1 placed
      simp [State.standIn, takeFocus_leaves, leftStandIn_leaves, hp]
  have left : ButtonsAt (n.getD s.keyboard.focus) (leftStandIn a n s) := by
    unfold leftStandIn
    split
    · next e => rwa [← e]
    · exact buttonsAt_leaveStandIn home _
  rw [buttonsHome_iff]
  refine ⟨by simpa using placed, ?_⟩
  rw [pointerFocusChange_eq, standIn_handPlace]
  exact buttonsAt_handPlace 0 (by rw [new]; exact buttonsAt_takeFocus left)

end Sys2Proof.Machine
end

section
/-!
PROOFS, the pointer's place (R59, R81, R82): warps, re-homing, parking and the notices of the Screen Controller leave the pointer on an
eligible screen of the computer it focuses, or parked.
-/

set_option Elab.async false
namespace Sys2Proof.Machine
open Sys2Proof Sys2Proof.Safety

/-! ### A pointer that a notice has yet to reach -/

/-- The pointer is parked, or in the rectangle of its screen, whose source the pointer focus owns unless a notice for that screen is
still to come. -/
def HomeBut (due : ScreenId → Prop) (s : State) : Prop :=
  ScreensApart s ∧
  match s.pointer.place with
  | none => s.pointer.focus = none
  | some p => ∃ r, s.screenRect p.screen = some r ∧ r.contains p.x p.y = true ∧
      (due p.screen ∨ ∃ h, (s.screenRec p.screen).current = some h ∧ s.pointer.focus = some h.computer)

theorem homeBut_none_iff (s : State) : HomeBut (fun _ => False) s ↔ PointerHome s := by
  unfold HomeBut PointerHome
  refine and_congr_right fun _ => ?_
  cases s.pointer.place with
  | none => exact Iff.rfl
  | some p =>
    simp only [eligible_eq_some_iff, false_or]
    exact ⟨fun ⟨r, rect, inside, h, current, focus⟩ => ⟨r, h, ⟨rect, current⟩, inside, focus⟩,
      fun ⟨r, h, ⟨rect, current⟩, inside, focus⟩ => ⟨r, rect, inside, h, current, focus⟩⟩

theorem HomeBut.mono {due due' : ScreenId → Prop} {s : State} (sub : ∀ i, due i → due' i) (home : HomeBut due s) :
    HomeBut due' s := by
  refine ⟨home.1, ?_⟩
  have here := home.2
  split
  · next parked => simpa only [parked] using here
  · next p place =>
    simp only [place] at here
    obtain ⟨r, rect, inside, owner⟩ := here
    exact ⟨r, rect, inside, owner.imp_left (sub _)⟩

theorem homeBut_of_pointerHome {s : State} {due : ScreenId → Prop} (home : PointerHome s) : HomeBut due s :=
  ((homeBut_none_iff s).2 home).mono fun _ => False.elim

/-! ### Warp, re-home and park -/

/-- Where the pointer may be put: a point of an eligible screen. -/
def InScreen (p : Place) (s : State) : Prop := ∃ r h, s.eligible p.screen = some (r, h) ∧ r.contains p.x p.y = true

theorem center_inside {r : Rect} (fits : r.fitsPlane = true) : r.contains (r.center.1 : Int) (r.center.2 : Int) = true := by
  simp only [Rect.fitsPlane, Bool.and_eq_true, decide_eq_true_eq] at fits
  rw [Rect.contains_iff]
  simp only [Rect.center]
  omega

theorem inScreen_centerOf {s : State} {i : ScreenId} {p : Place} (apart : ScreensApart s) (eligible : (s.eligible i).isSome)
    (center : s.centerOf i = some p) : p.screen = i ∧ InScreen p s := by
  obtain ⟨⟨r, h⟩, he⟩ := Option.isSome_iff_exists.1 eligible
  have rect := ((eligible_eq_some_iff s i r h).1 he).1
  simp only [State.centerOf, rect, Option.map_some, Option.some.injEq] at center
  subst center
  exact ⟨rfl, r, h, he, center_inside (apart.1 i r rect)⟩

theorem sound_movePointer (p : Place) (s : State) : Sound s (movePointer p s) := by
  have moved : Sound s (setPlace (some p) (setPush none s)) := (tame_setPush none s).toSound.trans (sound_setPlace _ _)
  simp only [movePointer]
  split
  · exact moved.trans (sound_handPlace 0 _)
  · exact moved.trans (sound_pointerFocusChange _ _ _)

theorem sound_parkPointer (s : State) : Sound s (parkPointer s) := by
  have parked : Sound s (setPlace none (setPush none s)) := (tame_setPush none s).toSound.trans (sound_setPlace _ _)
  simp only [parkPointer]
  split
  · exact parked
  · exact parked.trans (sound_pointerFocusChange _ _ _)

theorem buttonsHome_movePointer {p : Place} {s : State} (eligible : (s.eligible p.screen).isSome) (home : ButtonsHome s) :
    ButtonsHome (movePointer p s) := by
  obtain ⟨placed, at_home⟩ := (buttonsHome_iff s).1 home
  have owner : (s.sourceComputer p.screen).isSome := by simpa [State.sourceComputer] using eligible
  simp only [movePointer]
  split
  · next same =>
    have there : s.pointer.place.isSome = true := by rw [placed, same, owner]
    have standIn : (setPlace (some p) (setPush none s)).standIn = s.standIn :=
      standIn_of_parts (by simp [there]) (by simp) rfl
    refine (tame_handPlace 0 _).buttons ((buttonsHome_iff _).2 ⟨by simp [same, owner], ?_⟩)
    rw [standIn]
    exact at_home
  · exact buttonsHome_pointerFocusChange (by simpa using owner.symm) at_home

theorem buttonsHome_parkPointer {s : State} (home : ButtonsHome s) : ButtonsHome (parkPointer s) := by
  obtain ⟨placed, at_home⟩ := (buttonsHome_iff s).1 home
  simp only [parkPointer]
  split
  · next none =>
    have there : s.pointer.place.isSome = false := by rw [placed, none]; rfl
    have standIn : (setPlace Option.none (setPush Option.none s)).standIn = s.standIn :=
      standIn_of_parts (by simp [there]) (by simp) rfl
    refine (buttonsHome_iff _).2 ⟨by simp [none], ?_⟩
    rw [standIn]
    exact at_home
  · exact buttonsHome_pointerFocusChange rfl at_home

theorem pointerHome_movePointer {p : Place} {s : State} (apart : ScreensApart s) (inside : InScreen p s) :
    PointerHome (movePointer p s) := by
  obtain ⟨r, h, eligible, contained⟩ := inside
  obtain ⟨place, -, focus⟩ := movePointer_moved p s
  refine ⟨screensApart_of_screens (by simp) apart, ?_⟩
  simp only [place, focus, sourceComputer_of_eligible eligible]
  exact ⟨r, h, (eligible_of_tables (by simp) (by simp) _).trans eligible, contained, rfl⟩

theorem pointerHome_parkPointer {s : State} (apart : ScreensApart s) : PointerHome (parkPointer s) := by
  refine ⟨screensApart_of_screens (by simp) apart, ?_⟩
  simp only [parkPointer_parked]

theorem tame_movePointer {p : Place} {s : State} (eligible : (s.eligible p.screen).isSome)
    (inside : ScreensApart s → InScreen p s) : Tame s (movePointer p s) where
  toSound := sound_movePointer p s
  buttons := buttonsHome_movePointer eligible
  home h := pointerHome_movePointer h.1 (inside h.1)

/-- The pointer re-homes onto the center of an eligible screen, or parks (R82). -/
theorem reHome_cases (s : State) : (∃ i p, (s.eligible i).isSome ∧ s.centerOf i = some p ∧ reHome s = movePointer p s) ∨
    reHome s = parkPointer s := by
  unfold reHome
  split
  · next p hp =>
    obtain ⟨i, lowest, center⟩ := Option.bind_eq_some_iff.1 hp
    exact .inl ⟨i, p, by simpa using List.find?_some lowest, center, rfl⟩
  · exact .inr rfl

theorem screen_of_centerOf {s : State} {i : ScreenId} {p : Place} (center : s.centerOf i = some p) : p.screen = i := by
  obtain ⟨r, -, rfl⟩ := Option.map_eq_some_iff.1 center
  rfl

theorem sound_reHome (s : State) : Sound s (reHome s) := by
  obtain ⟨i, p, -, -, moved⟩ | parked := reHome_cases s
  · rw [moved]
    exact sound_movePointer p s
  · rw [parked]
    exact sound_parkPointer s

theorem buttonsHome_reHome {s : State} (home : ButtonsHome s) : ButtonsHome (reHome s) := by
  obtain ⟨i, p, eligible, center, moved⟩ | parked := reHome_cases s
  · rw [moved]
    exact buttonsHome_movePointer (by rwa [screen_of_centerOf center]) home
  · rw [parked]
    exact buttonsHome_parkPointer home

theorem pointerHome_reHome {s : State} (apart : ScreensApart s) : PointerHome (reHome s) := by
  obtain ⟨i, p, eligible, center, moved⟩ | parked := reHome_cases s
  · rw [moved]
    exact pointerHome_movePointer apart (inScreen_centerOf apart eligible center).2
  · rw [parked]
    exact pointerHome_parkPointer apart

/-! ### Notices (R4, R44, R82) -/

theorem tame_dropPushOn (i : ScreenId) (s : State) : Tame s (dropPushOn i s) := by
  unfold dropPushOn
  repeat' split
  · exact tame_setPush none s
  all_goals exact .refl s

/-- A parked pointer re-homes when it can; one that stays parked is home. -/
theorem pointerHome_unpark {s : State} (apart : ScreensApart s) (parked : s.pointer.place = none)
    (focus : s.pointer.focus = none) : PointerHome (unpark s) := by
  unfold unpark
  split
  · exact pointerHome_reHome apart
  · exact ⟨apart, by simpa only [parked] using focus⟩

theorem sound_unpark (s : State) : Sound s (unpark s) := by
  unfold unpark
  split
  · exact sound_reHome s
  · exact .refl s

theorem buttonsHome_unpark {s : State} (home : ButtonsHome s) : ButtonsHome (unpark s) := by
  unfold unpark
  split
  · exact buttonsHome_reHome home
  · exact home

theorem sound_screenChanged (i : ScreenId) (s : State) : Sound s (screenChanged i s) := by
  have dropped := (tame_dropPushOn i s).toSound
  simp only [screenChanged]
  repeat' split
  · exact dropped.trans (sound_unpark _)
  · exact dropped.trans (sound_reHome _)
  · exact dropped

theorem buttonsHome_screenChanged (i : ScreenId) {s : State} (home : ButtonsHome s) : ButtonsHome (screenChanged i s) := by
  have dropped := (tame_dropPushOn i s).buttons home
  simp only [screenChanged]
  repeat' split
  · exact buttonsHome_unpark dropped
  · exact buttonsHome_reHome dropped
  · exact dropped

theorem sound_sourceUnderPointer (i : ScreenId) (s : State) : Sound s (sourceUnderPointer i s) := by
  unfold sourceUnderPointer
  repeat' split
  · exact sound_reHome s
  · exact .refl s
  · exact sound_pointerFocusChange _ _ s

theorem buttonsHome_sourceUnderPointer {i : ScreenId} {s : State} (placed : s.pointer.place.isSome = true)
    (home : ButtonsHome s) : ButtonsHome (sourceUnderPointer i s) := by
  unfold sourceUnderPointer
  repeat' split
  · exact buttonsHome_reHome home
  · exact home
  · exact buttonsHome_pointerFocusChange placed ((buttonsHome_iff s).1 home).2

theorem sound_sourceChanged (i : ScreenId) (s : State) : Sound s (sourceChanged i s) := by
  have dropped := (tame_dropPushOn i s).toSound
  simp only [sourceChanged]
  repeat' split
  · exact dropped.trans (sound_unpark _)
  · exact dropped.trans (sound_sourceUnderPointer i _)
  · exact dropped

theorem buttonsHome_sourceChanged (i : ScreenId) {s : State} (home : ButtonsHome s) : ButtonsHome (sourceChanged i s) := by
  have dropped := (tame_dropPushOn i s).buttons home
  simp only [sourceChanged]
  repeat' split
  · exact buttonsHome_unpark dropped
  · next place _ => exact buttonsHome_sourceUnderPointer (by rw [place]; rfl) dropped
  · exact dropped

theorem HomeBut.dropPushOn {due : ScreenId → Prop} {s : State} (i : ScreenId) (home : HomeBut due s) :
    HomeBut due (dropPushOn i s) := by
  unfold Machine.dropPushOn
  repeat' split
  all_goals exact home

/-- A source-changed notice is the last that its screen needs (R82). -/
theorem HomeBut.sourceChanged {due : ScreenId → Prop} {s : State} (i : ScreenId) (home : HomeBut due s) :
    HomeBut (fun j => due j ∧ j ≠ i) (sourceChanged i s) := by
  obtain ⟨apart, here⟩ := home.dropPushOn i
  unfold Machine.sourceChanged
  dsimp only
  split
  · next parked =>
    simp only [parked] at here
    exact homeBut_of_pointerHome (pointerHome_unpark apart parked here)
  · next p place =>
    simp only [place] at here
    obtain ⟨r, rect, inside, owner⟩ := here
    split
    · next e =>
      subst e
      unfold sourceUnderPointer
      split
      · exact homeBut_of_pointerHome (pointerHome_reHome apart)
      · next h current =>
        split
        · next focus =>
          refine ⟨apart, ?_⟩
          simp only [place]
          exact ⟨r, rect, inside, .inr ⟨h, current, focus⟩⟩
        · refine ⟨screensApart_of_screens (by simp) apart, ?_⟩
          simp only [pointerFocusChange_pointer_leaves, place]
          refine ⟨r, ?_, inside, .inr ⟨h, ?_, rfl⟩⟩
          · simpa [State.screenRect] using rect
          · simpa [State.screenRec] using current
    · next e =>
      refine ⟨apart, ?_⟩
      simp only [place]
      exact ⟨r, rect, inside, owner.imp_left fun due => ⟨due, e⟩⟩

/-! ### Operations of the Screen Controller with their notices (R44) -/

/-- An operation of the Screen Controller: it leaves the pointer, the keyboard, the ports, the power records, the desk and the
screen table. -/
structure ScreensOnly (s t : State) : Prop where
  pointer : t.pointer = s.pointer
  keyboard : t.keyboard = s.keyboard
  ports : t.ports = s.ports
  power : t.power = s.power
  desk : t.desk = s.desk
  layout : t.layout.screens = s.layout.screens

theorem ScreensOnly.refl (s : State) : ScreensOnly s s := ⟨rfl, rfl, rfl, rfl, rfl, rfl⟩

theorem ScreensOnly.trans {s t u : State} (h : ScreensOnly s t) (k : ScreensOnly t u) : ScreensOnly s u :=
  ⟨k.pointer.trans h.pointer, k.keyboard.trans h.keyboard, k.ports.trans h.ports, k.power.trans h.power, k.desk.trans h.desk,
    k.layout.trans h.layout⟩

theorem ScreensOnly.aside {s t : State} (h : ScreensOnly s t) : Aside s t where
  pointer := h.pointer
  codes := by simp only [State.heldCodes, h.keyboard]
  focus := by rw [h.keyboard]
  ports := h.ports
  power c := by simp only [State.powerState, State.powerRec, h.power]
  idle := by rw [h.desk]
  desk := by rw [h.desk]

theorem screensOnly_eachScreen {f : ScreenId → State → State} (h : ∀ i s, ScreensOnly s (f i s)) (s : State) :
    ScreensOnly s (eachScreen f s) := by
  unfold eachScreen
  generalize allScreens = l
  induction l generalizing s with
  | nil => exact .refl s
  | cons i l ih => exact (h i s).trans (ih _)

theorem ScreensOnly.sound {s t : State} (h : ScreensOnly s t) : Sound s t := h.aside.sound

theorem ScreensOnly.buttonsHome {s t : State} (h : ScreensOnly s t) (home : ButtonsHome s) : ButtonsHome t := by
  rw [buttonsHome_iff] at home ⊢
  simp only [ButtonsAt, State.committedButtons, h.aside.standIn, h.pointer, h.aside.port, h.aside.power]
  exact home

/-- The notice of a screen whose source changed, or none. -/
def noticeIf (changed : ScreenId → Bool) (t : State) (i : ScreenId) : State := if changed i then sourceChanged i t else t

theorem withNotices_eq (f : State → State) (s : State) : withNotices f s =
    allScreens.foldl (noticeIf fun i => !decide (((f s).screenRec i).current = (s.screenRec i).current)) (f s) := by
  unfold withNotices
  dsimp only
  congr 1
  funext t i
  by_cases h : ((f s).screenRec i).current = (s.screenRec i).current <;> simp [noticeIf, h]

theorem homeBut_notices {changed : ScreenId → Bool} (l : List ScreenId) {due : ScreenId → Prop} {t : State}
    (only : ∀ i, due i → changed i = true) (home : HomeBut due t) :
    HomeBut (fun j => due j ∧ j ∉ l) (l.foldl (noticeIf changed) t) := by
  induction l generalizing due t with
  | nil => exact home.mono fun i h => ⟨h, by simp⟩
  | cons i l ih =>
    have first : HomeBut (fun j => due j ∧ j ≠ i) (noticeIf changed t i) := by
      unfold noticeIf
      split
      · exact home.sourceChanged i
      · next same => exact home.mono fun j h => ⟨h, fun e => same (e ▸ only j h)⟩
    exact (ih (fun j h => only j h.1) first).mono fun j h => ⟨h.1.1, by simpa using ⟨h.1.2, h.2⟩⟩

/-- An operation of the controller and its notices leave the pointer home. -/
theorem tame_withNotices {f : State → State} {s : State} (op : ScreensOnly s (f s)) : Tame s (withNotices f s) := by
  rw [withNotices_eq]
  set changed : ScreenId → Bool := fun i => !decide (((f s).screenRec i).current = (s.screenRec i).current) with hchanged
  have one (t : State) (i : ScreenId) : Sound t (noticeIf changed t i) ∧ (ButtonsHome t → ButtonsHome (noticeIf changed t i)) := by
    unfold noticeIf
    split
    · exact ⟨sound_sourceChanged i t, buttonsHome_sourceChanged i⟩
    · exact ⟨.refl t, id⟩
  refine ⟨op.sound.trans (sound_foldl (fun t i => (one t i).1) _ _), fun home => ?_, fun home => ?_⟩
  · have kept (l : List ScreenId) (t : State) (ht : ButtonsHome t) : ButtonsHome (l.foldl (noticeIf changed) t) := by
      induction l generalizing t with
      | nil => exact ht
      | cons i l ih => exact ih _ ((one t i).2 ht)
    exact kept _ _ (op.buttonsHome home)
  · have before : HomeBut (fun i => changed i = true) (f s) := by
      obtain ⟨apart, here⟩ := (homeBut_none_iff s).2 home
      refine ⟨screensApart_of_screens op.layout apart, ?_⟩
      rw [op.pointer]
      split
      · next parked => simpa only [parked] using here
      · next p place =>
        simp only [place] at here
        obtain ⟨r, rect, inside, h, current, focus⟩ := by simpa only [false_or] using here
        refine ⟨r, by simpa only [State.screenRect, op.layout] using rect, inside, ?_⟩
        by_cases same : ((f s).screenRec p.screen).current = (s.screenRec p.screen).current
        · exact .inr ⟨h, by rw [same, current], focus⟩
        · exact .inl (by simp [hchanged, same])
    refine (homeBut_none_iff _).1 ((homeBut_notices allScreens (fun _ h => h) before).mono fun i h => h.2 (mem_allScreens i))

theorem tame_settleAll (s : State) : Tame s (settleAll s) := by
  refine Aside.tame (ScreensOnly.aside ⟨?_, ?_, ?_, ?_, ?_, ?_⟩) (sameScreens_of_current ?_ fun i => ?_)
  all_goals simp

theorem tame_onScreens {f : State → State} {s : State} (op : ScreensOnly s (f s)) : Tame s (onScreens f s) :=
  (tame_withNotices op).trans (tame_settleAll _)

end Sys2Proof.Machine
end

section
/-!
PROOFS, keyboard entries, key focus, scenes and the desk's power as what a step keeps (R96 to R101, R51, R181, R182), and so every
request of a hotkey or a record (R126 to R131).
-/

set_option Elab.async false
namespace Sys2Proof.Machine
open Sys2Proof Sys2Proof.Safety

/-! ### Keyboard entries (R151 to R153) -/

/-- What becomes of a keyboard entry at its own computer: nothing where it takes none (R151), else it is placed. -/
theorem takeKeys_taken (c : Computer) (k : KeyState) (s : State) :
    ((((takeKeys c k s).1.powerState c).away = true ∧ (s.powerState c).away = true ∧ (takeKeys c k s).1.port c = s.port c)) ∨
    (((takeKeys c k s).1.powerState c).away = false ∧ KeysPlaced k (s.port c) ((takeKeys c k s).1.port c)) := by
  have port : (keysNotice c k s).port c = s.port c := by simp [State.port]
  rw [takeKeys_eq]
  split
  · next away =>
    have state : (discardKeys c k (keysNotice c k s)).1.powerState c = (keysNotice c k s).powerState c := by
      simp [State.powerState, State.powerRec]
    refine .inl ⟨by rwa [state], ?_, by simp [State.port]⟩
    obtain same | same := powerState_noticed (keysNotice_eq c k s)
    · rwa [← same]
    · rw [same] at away
      cases away
  · next present =>
    have state : (placeKeys c k (keysNotice c k s)).1.powerState c = (keysNotice c k s).powerState c := by
      simp [State.powerState, State.powerRec]
    refine .inr ⟨by rw [state]; simpa using present, ?_⟩
    rw [← port]
    exact keysPlaced_placeKeys c k _

/-- An entry for the computer that has the keys, or one without keys. -/
theorem tame_takeKeys {c : Computer} {k : KeyState} {s : State} (target : c = s.keyboard.focus ∨ k.isEmpty = true) :
    Tame s (takeKeys c k s).1 := by
  refine tame_of_othersKept (othersKept_takeKeys c k s) (by simp) (by simp [State.heldCodes]) (by simp) (by simp) (by simp)
    (by simp) (fun entries => ?_) (fun fits empty => ?_) (fun away => ?_)
  · obtain ⟨-, -, port⟩ | ⟨-, placed⟩ := takeKeys_taken c k s
    · rw [port]
      exact entries
    · exact placed.inRange entries
  · obtain ⟨-, was, port⟩ | ⟨present, placed⟩ := takeKeys_taken c k s
    · simp only [State.committedKeys, port]
      exact ⟨⟨fits.1, fun _ => fits.2 was⟩, empty⟩
    · refine ⟨⟨placed.tail fits.1, fun away => by simp [present] at away⟩, fun other => ?_⟩
      obtain same | new := placed.committedKeys
      · rw [State.committedKeys, same]
        exact empty other
      · rw [State.committedKeys, new]
        exact target.resolve_left other
  · obtain ⟨-, was, port⟩ | ⟨present, placed⟩ := takeKeys_taken c k s
    · simp only [State.committedButtons, port]
      exact ⟨fun _ => away was, .inl trivial⟩
    · refine ⟨fun away => by simp [present] at away, .inl ?_⟩
      simp only [State.committedButtons, Port.committedButtons, placed.committedPointer]

theorem tame_releaseKeys (c : Computer) (s : State) : Tame s (releaseKeys c s) := by
  unfold releaseKeys
  split
  · exact .refl s
  · exact tame_takeKeys (.inr rfl)

/-- A computer that is handed an empty key state has no key committed after (R101). -/
theorem committedKeys_releaseKeys {c : Computer} {s : State} (fits : KeysFit (s.port c) (s.powerState c)) :
    ((releaseKeys c s).committedKeys c).isEmpty = true := by
  unfold releaseKeys
  split
  · assumption
  · have port : (keysNotice c .empty s).port c = s.port c := by simp [State.port]
    rw [takeKeys_eq]
    split
    · next away =>
      have was : (s.powerState c).away = true := by
        obtain same | same := powerState_noticed (keysNotice_eq c .empty s)
        · rwa [← same]
        · rw [same] at away
          cases away
      simpa [State.committedKeys, State.port] using fits.2 was
    · exact placeKeys_releases c _ (by rw [port]; exact fits.1)

/-! ### The target (R97, R99) -/

theorem tame_handTarget (n : Nat) (s : State) : Tame s (handTarget n s) := by
  induction n generalizing s with
  | zero => exact .refl s
  | succ n ih =>
    have handed := tame_takeKeys (k := s.target) (s := s) (.inl rfl)
    unfold handTarget
    dsimp only
    split
    · exact .refl s
    · split
      · next u taken => rwa [taken] at handed
      · next u taken =>
        rw [taken] at handed
        exact (handed.trans (tame_markHeld (f := HeldKey.suppress) (fun _ => rfl) u)).trans (ih _)

theorem tame_retarget (s : State) : Tame s (retarget s) := tame_handTarget _ s

theorem tame_replayTap (k : Nat) (s : State) : Tame s (replayTap k s) := by
  unfold replayTap
  dsimp only
  split
  · exact tame_raise _ s
  · refine Tame.trans ?_ (tame_retarget _)
    split
    · exact .refl s
    · exact tame_takeKeys (.inl rfl)

/-! ### Key focus (R101) -/

theorem tame_releaseAtFocus (a : Computer) (s : State) : Tame s (releaseAtFocus a s) := by
  unfold releaseAtFocus
  repeat' split
  · exact (tame_releaseButtons a s).trans (tame_swallowHeld _)
  · exact tame_swallowHeld s
  · exact .refl s

theorem committedKeys_releaseAtFocus {a : Computer} {s : State} (fits : KeysFit (s.port a) (s.powerState a)) :
    (releaseAtFocus a s).committedKeys a = s.committedKeys a := by
  unfold releaseAtFocus
  repeat' split
  · exact (keysFit_takePointer fits).2
  · rfl
  · rfl

theorem committedButtons_releaseAtFocus {a : Computer} {s : State}
    (away : (s.powerState a).away = true → s.committedButtons a = 0) : (releaseAtFocus a s).committedButtons a = 0 := by
  unfold releaseAtFocus
  split
  · exact committedButtons_takePointer_zero a _ _ 0 away
  · next none =>
    have zero : s.committedButtons a = 0 := by simpa using none
    split <;> exact zero

/-- Key focus becomes another computer's once nothing is committed at the one that is left. -/
theorem tame_setFocus {a : Computer} (b : Computer) {s t : State} (before : Tame s t) (focus : t.keyboard.focus = a)
    (keys : KeysHome s → (t.committedKeys a).isEmpty = true) (buttons : ButtonsHome s → t.committedButtons a = 0) :
    Tame s (t.setKeyboard { t.keyboard with focus := b }) where
  settings := before.settings
  codes := before.codes
  accumulators := before.accumulators
  coordinates := before.coordinates
  idle := before.idle
  swallow := before.swallow
  keys home := by
    have kept := (keysHome_iff t).1 (before.keys home)
    rw [keysHome_iff]
    refine fun c => ⟨(kept c).1, fun _ => ?_⟩
    by_cases e : c = a
    · rw [e]
      exact keys home
    · exact (kept c).2 (focus ▸ e)
  buttons home := by
    obtain ⟨placed, at_home⟩ := (buttonsHome_iff t).1 (before.buttons home)
    refine (buttonsHome_iff _).2 ⟨placed, ?_⟩
    cases place : t.pointer.place with
    | some p =>
      obtain ⟨c, owner⟩ := Option.isSome_iff_exists.1 (placed.symm.trans (by rw [place]; rfl))
      rw [standIn_of_focus place owner] at at_home
      rw [standIn_of_focus (s := t.setKeyboard { t.keyboard with focus := b }) place owner]
      exact at_home
    | none =>
      have parked : t.standIn = a := by simp [State.standIn, place, focus]
      rw [parked] at at_home
      have zero (c : Computer) : t.committedButtons c = 0 := by
        by_cases e : c = a
        · rw [e]
          exact buttons home
        · exact (at_home c).2 e
      exact fun c => ⟨fun _ => zero c, fun _ => zero c⟩
  home := before.home

theorem tame_focusWake (b : Computer) (s : State) : Tame s (focusWake b s) := by
  unfold focusWake
  split
  · exact tame_wakeRequest b s
  · exact .refl s

theorem tame_setSlot (x : Option ReturnSlot) (s : State) : Tame s (s.setSlot x) := by
  apply tame_of_keyboard <;> rfl

theorem keysFit_of_home {s : State} (home : KeysHome s) (c : Computer) : KeysFit (s.port c) (s.powerState c) :=
  ((keysHome_iff s).1 home c).1

theorem away_of_home {s : State} (home : ButtonsHome s) (c : Computer) : (s.powerState c).away = true → s.committedButtons c = 0 :=
  (((buttonsHome_iff s).1 home).2 c).1

/-- Steps 1 and 2 of R101: what the key-focus computer has committed is released. -/
def focusReleased (s : State) : State := releaseAtFocus s.keyboard.focus (releaseKeys s.keyboard.focus s)

@[simp] theorem releaseAtFocus_keyboard (c : Computer) (s : State) : (releaseAtFocus c s).keyboard = s.keyboard := by
  unfold releaseAtFocus
  repeat' split
  all_goals simp

@[simp] theorem focusReleased_keyboard (s : State) : (focusReleased s).keyboard = s.keyboard := by simp [focusReleased]

theorem tame_focusReleased (s : State) : Tame s (focusReleased s) :=
  (tame_releaseKeys s.keyboard.focus s).trans (tame_releaseAtFocus s.keyboard.focus _)

theorem committedKeys_focusReleased {s : State} (home : KeysHome s) (c : Computer) :
    ((focusReleased s).committedKeys c).isEmpty = true := by
  by_cases e : c = s.keyboard.focus
  · subst e
    rw [focusReleased, committedKeys_releaseAtFocus (keysFit_of_home ((tame_releaseKeys _ s).keys home) _)]
    exact committedKeys_releaseKeys (keysFit_of_home home _)
  · exact ((keysHome_iff _).1 ((tame_focusReleased s).keys home) c).2 (by simpa using e)

theorem committedButtons_focusReleased {s : State} (home : ButtonsHome s) :
    (focusReleased s).committedButtons s.keyboard.focus = 0 :=
  committedButtons_releaseAtFocus (away_of_home ((tame_releaseKeys _ s).buttons home) _)

@[simp] theorem committed_markHeld (p : HeldKey → Bool) (f : HeldKey → HeldKey) (s : State) (c : Computer) :
    (markHeld p f s).committedKeys c = s.committedKeys c ∧ (markHeld p f s).committedButtons c = s.committedButtons c :=
  ⟨rfl, rfl⟩

theorem tame_moveKeyFocus (b : Computer) (s : State) : Tame s (moveKeyFocus b (focusReleased s)) := by
  have marked := (tame_focusReleased s).trans
    (tame_markHeld (p := fun _ => true) (f := HeldKey.suppress) (fun _ => rfl) (focusReleased s))
  have moved := tame_setFocus (a := s.keyboard.focus) b marked (by simp [markHeld])
    (fun home => by rw [(committed_markHeld ..).1]; exact committedKeys_focusReleased home s.keyboard.focus)
    (fun home => by rw [(committed_markHeld ..).2]; exact committedButtons_focusReleased home)
  exact (moved.trans (tame_showLamps _)).trans (tame_followOutputs _)

theorem tame_focusChange (momentary : Bool) (b : Computer) (s : State) : Tame s (focusChange momentary b s) := by
  have raised : Tame s (raiseFocus (moveKeyFocus b (focusReleased s))) := (tame_moveKeyFocus b s).trans (tame_raise _ _)
  change Tame s (focusWake b (if momentary then raiseFocus (moveKeyFocus b (focusReleased s))
    else (raiseFocus (moveKeyFocus b (focusReleased s))).setSlot none))
  split
  · exact raised.trans (tame_focusWake b _)
  · exact (raised.trans (tame_setSlot none _)).trans (tame_focusWake b _)

theorem tame_focusRequest (momentary : Bool) (c : Computer) (s : State) : Tame s (focusRequest momentary c s) := by
  unfold focusRequest
  split
  · exact .refl s
  · exact tame_focusChange momentary c s

/-- A warp to the centre of a computer's home screen (R72, R81). -/
theorem tame_movePointer_home {c : Computer} {i : ScreenId} {p : Place} {s : State} (home : s.homeScreen c = some i)
    (center : s.centerOf i = some p) : Tame s (movePointer p s) := by
  have eligible : (s.eligible i).isSome := by
    have owner : s.sourceComputer i = some c := by simpa using List.find?_some home
    obtain ⟨e, he, -⟩ := Option.map_eq_some_iff.1 owner
    rw [he]
    rfl
  exact tame_movePointer (by rwa [screen_of_centerOf center]) fun apart => (inScreen_centerOf apart eligible center).2

theorem tame_warpRequest (c : Computer) (s : State) : Tame s (warpRequest c s) := by
  unfold warpRequest
  split
  · exact .refl s
  · split
    · next p target =>
      obtain ⟨i, home, center⟩ := Option.bind_eq_some_iff.1 target
      exact tame_movePointer_home home center
    · exact .refl s

theorem tame_focusWithScope (c : Computer) (both : Bool) (s : State) : Tame s (focusWithScope c both s) := by
  unfold focusWithScope
  split
  · exact (tame_focusRequest false c s).trans (tame_warpRequest c _)
  · exact tame_focusRequest false c s

/-! ### Scenes (R51, R54) -/

theorem screensOnly_assignSource (i : ScreenId) (x : Option Head) (s : State) : ScreensOnly s (assignSource i x s) := by
  constructor <;> simp

theorem tame_setInFlight (x : Option InFlight) (s : State) : Tame s (s.setInFlight x) :=
  Aside.tame (ScreensOnly.aside ⟨rfl, rfl, rfl, rfl, rfl, rfl⟩) (sameScreens_of_current rfl fun _ => rfl)

theorem tame_setIncomplete (s : State) : Tame s (setIncomplete s) := by
  unfold setIncomplete
  split
  · exact tame_setInFlight _ s
  · exact .refl s

theorem tame_applyItem (s : State) (it : SceneItem) : Tame s (applyItem s it) := by
  unfold applyItem
  split
  · exact tame_setIncomplete s
  · exact tame_withNotices (screensOnly_assignSource _ _ s)

theorem tame_formRecord (n : SceneNo) (sc : Scene) (s : State) : Tame s (formRecord n sc s) := by
  unfold formRecord
  dsimp only
  split <;> exact tame_setInFlight _ s

theorem tame_sceneFocus (sc : Scene) (s : State) : Tame s (sceneFocus sc s) := by
  unfold sceneFocus
  split
  · exact .refl s
  · split
    · exact tame_setIncomplete s
    · exact tame_focusRequest false _ s

theorem tame_sceneWakes (sc : Scene) (s : State) : Tame s (sceneWakes sc s) := by
  unfold sceneWakes
  split
  · refine tame_foldl (fun s c => ?_) _ s
    split
    · exact tame_wakeRequest c s
    · exact .refl s
  · exact .refl s

theorem tame_applySceneSteps (n : SceneNo) (sc : Scene) (s : State) : Tame s (applySceneSteps n sc s) :=
  ((((tame_formRecord n sc s).trans (tame_foldl tame_applyItem _ _)).trans (tame_sceneFocus sc _)).trans
    (tame_sceneWakes sc _)).trans (tame_settleAll _)

theorem tame_applySceneNo (n : SceneNo) (s : State) : Tame s (applySceneNo n s) := by
  unfold applySceneNo
  split
  · exact tame_applySceneSteps n _ s
  · exact .refl s

theorem tame_applyStart (s : State) : Tame s (applyStart s) := by
  unfold applyStart
  split
  · exact tame_applySceneNo _ s
  · exact .refl s

/-! ### The desk's power (R177, R181, R182) -/

theorem tame_setDesk {d : Desk} {s : State} (idle : IdleTimerRuns s → IdleTimerRuns (s.setDesk d)) : Tame s (s.setDesk d) where
  settings := rfl
  codes := rfl
  accumulators := id
  coordinates := id
  idle := idle
  swallow := id
  keys := id
  buttons := id
  home := id

theorem screensOnly_screenStandby (i : ScreenId) (s : State) : ScreensOnly s (screenStandby i s) := by
  constructor <;> simp

theorem screensOnly_screenOff (i : ScreenId) (s : State) : ScreensOnly s (screenOff i s) := by
  constructor <;> simp

theorem screensOnly_screenResume (i : ScreenId) (s : State) : ScreensOnly s (screenResume i s) := by
  constructor <;> simp

/-- A change of the desk state is handed on: the lines, the screens, DESK_POWER. -/
theorem tame_deskFollows (d : DeskState) (s : State) : Tame s (raise (.deskPower d) (screensFollow d (followOutputs s))) := by
  refine ((tame_followOutputs s).trans ?_).trans (tame_raise _ _)
  cases d with
  | active => exact tame_onScreens (screensOnly_eachScreen screensOnly_screenResume _)
  | standby => exact tame_onScreens (screensOnly_eachScreen screensOnly_screenStandby _)
  | off => exact tame_onScreens (screensOnly_eachScreen screensOnly_screenOff _)

theorem tame_enterStandby (s : State) : Tame s (enterStandby s) := by
  unfold enterStandby
  split
  · next active =>
    refine Tame.trans (tame_setDesk fun idle => ?_) (tame_deskFollows .standby _)
    simp only [IdleTimerRuns, active] at idle
    simpa [IdleTimerRuns] using idle
  · exact .refl s

theorem enterOff_eq (s : State) : enterOff s = raise (.deskPower .off) (screensFollow .off (followOutputs
    (s.setDesk { s.desk with idleStart := none, state := .off, window := none }))) := rfl

theorem resumeDesk_eq (s : State) : resumeDesk s = resumeWake (raise (.deskPower .active) (screensFollow .active (followOutputs
    (s.setDesk { s.desk with idleStart := some s.now, state := .active, window := none })))) := rfl

theorem tame_enterOff (s : State) : Tame s (enterOff s) := by
  rw [enterOff_eq]
  exact Tame.trans (tame_setDesk fun _ => by simp [IdleTimerRuns]) (tame_deskFollows .off _)

theorem tame_resumeWake (s : State) : Tame s (resumeWake s) := by
  unfold resumeWake
  split
  · exact tame_wakeRequest _ s
  · exact .refl s

theorem tame_resumeDesk (s : State) : Tame s (resumeDesk s) := by
  have active : Tame s (s.setDesk { s.desk with idleStart := some s.now, state := .active, window := none }) :=
    tame_setDesk fun _ => by simp [IdleTimerRuns]
  rw [resumeDesk_eq]
  exact (active.trans (tame_deskFollows .active _)).trans (tame_resumeWake _)

theorem tame_restartIdle {s : State} (on : s.desk.state ≠ .off) : Tame s (restartIdle s) :=
  tame_setDesk fun _ => by simpa [IdleTimerRuns] using on

theorem tame_qualify (s : State) : Tame s (qualify s).1 := by
  unfold qualify
  split
  · next active => exact tame_restartIdle (by rw [active]; decide)
  · simp only
    exact tame_resumeDesk s

/-! ### Requests and hotkeys (R126 to R131) -/

theorem tame_toggleGlideLock (s : State) : Tame s (toggleGlideLock s) :=
  tame_setPointer (sound_setPointer rfl id id id) rfl rfl

theorem tame_request {a : Action} {s t : State} (h : request a s = some t) : Tame s t := by
  cases a with
  | focus c both =>
    simp only [request] at h
    split at h
    · cases h
    · cases h
      exact tame_focusWithScope c both s
  | cycle previous =>
    obtain ⟨c, -, rfl⟩ := Option.map_eq_some_iff.1 h
    exact tame_focusRequest false c s
  | momentary c => cases h
  | scene n =>
    obtain ⟨sc, -, rfl⟩ := Option.map_eq_some_iff.1 h
    exact tame_applySceneSteps n sc s
  | wake c =>
    simp only [request] at h
    split at h
    · cases h
    · cases h
      exact tame_wakeRequest c s
  | glideLock => cases h; exact tame_toggleGlideLock s
  | deskStandby => cases h; exact tame_enterStandby s
  | report => cases h; exact .refl s

theorem tame_fireRequest {n : EntryNo} {e : Hotkey} {s t : State} (h : fireRequest n e s = some t) : Tame s t := by
  unfold fireRequest at h
  split at h
  · unfold requestMomentary at h
    repeat' split at h
    all_goals cases h
    · exact .refl s
    · exact (tame_setSlot _ s).trans (tame_focusRequest true _ _)
  · exact tame_request h

theorem tame_fireEntry (n : EntryNo) (e : Hotkey) (s : State) : Tame s (fireEntry n e s) := by
  unfold fireEntry reportHotkey
  split
  · next t h => exact (tame_fireRequest h).trans (tame_raise _ t)
  · exact tame_raise _ s

theorem tame_endMomentary (slot : ReturnSlot) (s : State) : Tame s (endMomentary slot s) := by
  unfold endMomentary
  dsimp only
  split
  · exact (tame_setSlot none s).trans (tame_raise _ _)
  · exact ((tame_setSlot none s).trans (tame_focusRequest false _ _)).trans (tame_raise _ _)

theorem tame_endMomentaryIf (p : ReturnSlot → Bool) (s : State) : Tame s (endMomentaryIf p s) := by
  unfold endMomentaryIf
  repeat' split
  · exact tame_endMomentary _ s
  all_goals exact .refl s

theorem tame_dropSlotIf (p : ReturnSlot → Bool) (s : State) : Tame s (dropSlotIf p s) := by
  unfold dropSlotIf
  repeat' split
  · exact tame_setSlot none s
  all_goals exact .refl s

theorem tame_lineTrigger (l : LineId) (active : Bool) (s : State) : Tame s (lineTrigger l active s) := by
  unfold lineTrigger
  dsimp only
  split
  · exact (tame_endMomentaryIf _ s).trans (tame_fireEntry _ _ _)
  · exact tame_endMomentaryIf _ s

end Sys2Proof.Machine
end

section
/-!
PROOFS, pointer reports, glide, dial detents and the soft reset of pointer and keyboard as what a step keeps (R61 to R70, R73 to R76, R79,
R83, R85, R113).
-/

set_option Elab.async false
namespace Sys2Proof.Machine
open Sys2Proof Sys2Proof.Safety

/-! ### What a focus change does to the pointer (R80, R101) -/

theorem committedButtons_takeKeys (c : Computer) (k : KeyState) (s : State) :
    (takeKeys c k s).1.committedButtons c = s.committedButtons c := by
  obtain ⟨-, -, port⟩ | ⟨-, placed⟩ := takeKeys_taken c k s
  · simp only [State.committedButtons, port]
  · simp only [State.committedButtons, Port.committedButtons, placed.committedPointer]

theorem committedButtons_releaseKeys (c : Computer) (s : State) : (releaseKeys c s).committedButtons c = s.committedButtons c := by
  unfold releaseKeys
  split
  · rfl
  · exact committedButtons_takeKeys c _ s

@[simp] theorem releaseKeys_pointer (c : Computer) (s : State) : (releaseKeys c s).pointer = s.pointer := by
  unfold releaseKeys
  split <;> simp

@[simp] theorem releaseButtons_pointer (c : Computer) (s : State) : (releaseButtons c s).pointer = s.pointer :=
  takePointer_pointer_of_none _ _ _ _ s

theorem focusReleased_pointer (s : State) : (focusReleased s).pointer = { s.pointer with
    swallow := if s.committedButtons s.keyboard.focus ≠ 0 ∨ s.pointer.place = none then s.pointer.swallow ||| s.pointer.buttons
      else s.pointer.swallow } := by
  unfold focusReleased releaseAtFocus
  rw [committedButtons_releaseKeys]
  by_cases held : s.committedButtons s.keyboard.focus ≠ 0
  · rw [if_pos held, if_pos (.inl held)]
    simp [swallowHeld]
  · rw [if_neg held]
    by_cases parked : s.pointer.place = none
    · rw [if_pos (by simp [parked]), if_pos (.inr parked)]
      simp [swallowHeld]
    · rw [if_neg (by simp [parked]), if_neg (not_or.2 ⟨held, parked⟩)]
      simp

theorem focusChange_eq (momentary : Bool) (b : Computer) (s : State) : focusChange momentary b s =
    focusWake b (if momentary then raiseFocus (moveKeyFocus b (focusReleased s))
      else (raiseFocus (moveKeyFocus b (focusReleased s))).setSlot none) := rfl

theorem focusRequest_pointer (momentary : Bool) (c : Computer) (s : State) :
    (focusRequest momentary c s).pointer = if s.keyboard.focus = c then s.pointer else (focusReleased s).pointer := by
  have woken (t : State) : (focusWake c t).pointer = t.pointer := by simp
  have moved (t : State) : (raiseFocus (moveKeyFocus c t)).pointer = t.pointer := by simp [raiseFocus]
  unfold focusRequest
  split
  · rfl
  · rw [focusChange_eq, woken]
    split
    · exact moved _
    · rw [State.setSlot_pointer]
      exact moved _

theorem focusRequest_buttons (momentary : Bool) (c : Computer) (s : State) :
    (focusRequest momentary c s).pointer.buttons = s.pointer.buttons := by
  rw [focusRequest_pointer]
  split
  · rfl
  · rw [focusReleased_pointer]

theorem focusRequest_place (momentary : Bool) (c : Computer) (s : State) :
    (focusRequest momentary c s).pointer.place = s.pointer.place ∧ (focusRequest momentary c s).pointer.focus = s.pointer.focus := by
  rw [focusRequest_pointer]
  split
  · exact ⟨rfl, rfl⟩
  · rw [focusReleased_pointer]
    exact ⟨rfl, rfl⟩

/-! ### Glide (R65 to R70) -/

/-- The pointer that is not parked moves to a point of a screen of its own computer. -/
theorem tame_setPlace {p : Place} {s : State} (there : s.pointer.place.isSome = true)
    (inside : PointerHome s → ∃ r h, s.eligible p.screen = some (r, h) ∧ r.contains p.x p.y = true ∧
      s.pointer.focus = some h.computer) : Tame s (setPlace (some p) s) where
  toSound := sound_setPlace _ s
  buttons := by
    rw [buttonsHome_iff, buttonsHome_iff, standIn_of_parts (t := setPlace (some p) s) (s := s) (by simp [there]) rfl rfl]
    simp only [setPlace_pointer, there, Option.isSome_some]
    exact id
  home home := ⟨home.1, inside home⟩

theorem glideNotice_cases (c : Computer) (s : State) : glideNotice c s = s ∨ glideNotice c s = focusRequest false c s := by
  unfold glideNotice
  split <;> simp

theorem tame_glideNotice (c : Computer) (s : State) : Tame s (glideNotice c s) := by
  obtain same | asked := glideNotice_cases c s
  · rw [same]
    exact .refl s
  · rw [asked]
    exact tame_focusRequest false c s

theorem contains_toNat {r : Rect} {x y : Int} (h : r.contains x y = true) :
    r.contains ((x.toNat : Nat) : Int) ((y.toNat : Nat) : Int) = true := by
  simp only [Rect.contains, Bool.and_eq_true, decide_eq_true_eq] at h ⊢
  omega

theorem contains_clampAxis {r : Rect} (fits : r.fitsPlane = true) (x y : Int) :
    r.contains ((clampAxis r.x r.w x : Nat) : Int) ((clampAxis r.y r.h y : Nat) : Int) = true := by
  simp only [Rect.fitsPlane, Bool.and_eq_true, decide_eq_true_eq] at fits
  rw [Rect.contains_iff]
  simp only [clampAxis]
  omega

/-- The pointer's own screen, by the law of R59. -/
theorem eligible_of_home {s : State} (home : PointerHome s) {p : Place} (place : s.pointer.place = some p) :
    ∃ r h, s.eligible p.screen = some (r, h) ∧ r.contains p.x p.y = true ∧ s.pointer.focus = some h.computer := by
  have here := home.2
  simpa only [place] using here

theorem tame_clampTo {p : Place} {r : Rect} {s : State} (place : s.pointer.place = some p)
    (rect : s.screenRect p.screen = some r) (tx ty : Int) : Tame s (clampTo p.screen r tx ty s) := by
  refine tame_setPlace (by rw [place]; rfl) fun home => ?_
  obtain ⟨r', h, eligible, -, focus⟩ := eligible_of_home home place
  have same := ((eligible_eq_some_iff _ _ _ _).1 eligible).1
  rw [rect, Option.some.injEq] at same
  subst same
  exact ⟨r, h, eligible, contains_clampAxis (home.1.1 _ _ rect) tx ty, focus⟩

theorem tame_glideWithin {i : ScreenId} {r : Rect} {h : Head} {tx ty : Int} {s : State} (there : s.pointer.place.isSome = true)
    (inside : PointerHome s → s.eligible i = some (r, h) ∧ s.pointer.focus = some h.computer)
    (contained : r.contains tx ty = true) : Tame s (glideWithin i tx ty s) :=
  Tame.trans (t := setPush none s) (tame_setPush none s) (tame_setPlace there fun home =>
    ⟨r, h, (inside home).1, contains_toNat contained, (inside home).2⟩)

theorem screenAt_inside {s : State} {tx ty : Int} {i : ScreenId} (found : s.screenAt tx ty = some i) :
    ∃ r h, s.eligible i = some (r, h) ∧ r.contains tx ty = true := by
  have at_i := List.find?_some found
  split at at_i
  · next r h eligible => exact ⟨r, h, eligible, at_i⟩
  · cases at_i

/-- The pointer crosses onto a screen of another computer (R68, R77). -/
theorem tame_cross {i : ScreenId} {r : Rect} {h : Head} {tx ty : Int} {s : State} (eligible : s.eligible i = some (r, h))
    (contained : r.contains tx ty = true) : Tame s (cross i h.computer tx ty s) := by
  refine Tame.trans (t := pointerFocusChange s.standIn (some h.computer) (setPlace (some ⟨i, tx.toNat, ty.toNat⟩) (setPush none s)))
    ⟨?_, fun home => ?_, fun home => ?_⟩ (tame_glideNotice _ _)
  · exact ((tame_setPush none s).toSound.trans (sound_setPlace _ _)).trans (sound_pointerFocusChange _ _ _)
  · exact buttonsHome_pointerFocusChange rfl ((buttonsHome_iff s).1 home).2
  · refine ⟨screensApart_of_screens (by simp) home.1, ?_⟩
    simp only [pointerFocusChange_pointer_leaves, setPlace_pointer]
    exact ⟨r, h, (eligible_of_tables (by simp) (by simp) i).trans eligible, contains_toNat contained, rfl⟩

theorem tame_pushAcross {p : Place} {r q : Rect} {i : ScreenId} {h : Head} {tx ty : Int} {s : State}
    (place : s.pointer.place = some p) (rect : s.screenRect p.screen = some r) (eligible : s.eligible i = some (q, h))
    (contained : q.contains tx ty = true) : Tame s (pushAcross p.screen r i h.computer tx ty s) := by
  simp only [pushAcross]
  repeat' split
  · exact tame_clampTo place rect tx ty
  · exact tame_cross eligible contained
  · refine Tame.trans (tame_setPush _ s) (tame_clampTo (p := p) ?_ ?_ tx ty)
    · exact place
    · exact rect

theorem tame_glide (tx ty : Int) (s : State) : Tame s (glide tx ty s) := by
  unfold glide
  split
  · exact .refl s
  · next p place =>
    have there : s.pointer.place.isSome = true := by rw [place]; rfl
    split
    · exact .refl s
    · next r rect =>
      split
      · next inside =>
        cases current : (s.screenRec p.screen).current with
        | none =>
          refine Tame.trans (t := setPush none s) (tame_setPush none s) (tame_setPlace there fun home => ?_)
          obtain ⟨q, h, eligible, -⟩ := eligible_of_home home place
          have := ((eligible_eq_some_iff _ _ _ _).1 eligible).2
          change (s.screenRec p.screen).current = some h at this
          rw [current] at this
          cases this
        | some h =>
          have eligible := (eligible_eq_some_iff s p.screen r h).2 ⟨rect, current⟩
          refine tame_glideWithin there (fun home => ⟨eligible, ?_⟩) inside
          obtain ⟨q, h', eligible', -, focus⟩ := eligible_of_home home place
          rw [eligible, Option.some.injEq, Prod.mk.injEq] at eligible'
          rw [eligible'.2, focus]
      · split
        · exact tame_clampTo place rect tx ty
        · next i found =>
          obtain ⟨q, h, eligible, contained⟩ := screenAt_inside found
          rw [sourceComputer_of_eligible eligible]
          dsimp only
          split
          · next own => exact tame_glideWithin there (fun _ => ⟨eligible, own⟩) contained
          · exact tame_pushAcross place rect eligible contained

/-! ### Ballistics (R63, R64) -/

theorem axisRest_bounds (d r : Int) (g : Nat) : -15 ≤ axisRest d r g ∧ axisRest d r g ≤ 15 := by
  have below := Int.tmod_lt_of_pos (scaled d r g) (b := 16) (by decide)
  have above := Int.lt_tmod_of_pos (scaled d r g) (b := 16) (by decide)
  unfold axisRest
  omega

theorem tame_setRest {rx ry : Int} {s : State} (hx : -15 ≤ rx ∧ rx ≤ 15) (hy : -15 ≤ ry ∧ ry ≤ 15) :
    Tame s (s.setPointer { s.pointer with rx := rx, ry := ry }) :=
  tame_setPointer (sound_setPointer rfl (fun _ => ⟨hx.1, hx.2, hy⟩) id id) rfl rfl

theorem tame_moveBy (dx dy : Int) (t : Nat) (s : State) : Tame s (moveBy dx dy t s) := by
  unfold moveBy
  split
  · exact .refl s
  · exact (tame_setRest (axisRest_bounds ..) (axisRest_bounds ..)).trans (tame_glide _ _ _)

/-! ### Reports (R61, R62, R73 to R76, R79) -/

theorem tame_takeButtons (b : ButtonSet) (s : State) : Tame s (takeButtons b s) :=
  tame_setPointer (sound_setPointer rfl id id fun _ => by simp [SwallowInside, subBits_iff]) rfl rfl

theorem tame_clickTake {b : ButtonSet} {s : State} (held : subBits b s.pointer.buttons = true) : Tame s (clickTake b s) := by
  unfold clickTake
  split
  · exact .refl s
  · dsimp only
    split
    · exact (tame_focusRequest false _ s).trans (tame_swallow (by rwa [focusRequest_buttons]))
    · exact tame_focusRequest false _ s

theorem standIn_of_parked {s : State} (parked : s.pointer.place = none) : s.standIn = s.keyboard.focus := by
  simp [State.standIn, parked]

theorem tame_handEntry {c : Computer} {x y : Nat} (b : ButtonSet) (w : Int) {s : State}
    (place : CoordinatesFit s → x ≤ 32767 ∧ y ≤ 32767) (held : subBits b s.pointer.buttons = true) (target : c = s.standIn) :
    Tame s (handEntry c x y b w s) := by
  obtain same | taken := handEntry_cases c x y b w s
  · rw [same]
    exact .refl s
  · rw [taken]
    refine (tame_setLastAbs place).trans (tame_takePointer w (fun fits => ?_) held (.inl target))
    simpa using fits.1 c

theorem tame_parkedEntry {before : ButtonSet} {w : Int} {s : State} (parked : s.pointer.place = none) :
    Tame s (parkedEntry before w s) := by
  unfold parkedEntry
  dsimp only
  split
  · exact tame_handEntry _ w (lastAbs_inRange _) (subBits_delivered s) (standIn_of_parked parked).symm
  · exact .refl s

theorem tame_reportEntry (before : ButtonSet) (w : Int) (s : State) : Tame s (reportEntry before w s) := by
  unfold reportEntry
  split
  · exact tame_handPlace w s
  · next parked => exact tame_parkedEntry (by simpa using parked)

theorem subBits_pressedBy (b : ButtonSet) (s : State) : subBits (s.pressedBy b) (takeButtons b s).pointer.buttons = true := by
  simp only [subBits_iff, State.pressedBy, takeButtons, setButtons, State.setPointer_pointer, BitVec.getLsbD_and, Bool.and_eq_true]
  exact fun i h => h.1

theorem tame_activeReport (r : PointerReport) (t : Nat) (s : State) : Tame s (activeReport r t s) := by
  exact (((tame_takeButtons r.buttons s).trans (tame_clickTake (subBits_pressedBy r.buttons s))).trans (tame_moveBy _ _ _ _)).trans (tame_reportEntry _ _ _)

theorem tame_lowRelease (released : ButtonSet) (s : State) : Tame s (lowRelease released s) := by
  unfold lowRelease
  dsimp only
  split
  · exact tame_takePointer 0 (lastAbs_inRange _) (subBits_delivered s) (.inl rfl)
  · exact .refl s

theorem tame_lowReport (r : PointerReport) (s : State) : Tame s (lowReport r s) := by
  exact ((tame_takeButtons r.buttons s).trans (tame_swallow (subBits_pressedBy r.buttons s))).trans (tame_lowRelease _ _)

theorem tame_takeMotion (m : Nat) (s : State) : Tame s (takeMotion m s).1 := by
  unfold takeMotion
  repeat' split
  · exact .refl s
  · exact tame_setDesk id
  · exact tame_setDesk id

theorem tame_offerReport (pressed : ButtonSet) (wheel : Int) (m : Nat) (s : State) : Tame s (offerReport pressed wheel m s) := by
  unfold offerReport
  dsimp only
  split
  · exact (tame_takeMotion m s).trans (tame_qualify _)
  · exact tame_takeMotion m s

theorem tame_takeReport (r : PointerReport) (t : Nat) (s : State) : Tame s (takeReport r t s) := by
  unfold takeReport
  dsimp only
  split
  · exact (tame_offerReport _ _ _ s).trans (tame_activeReport r t _)
  · exact (tame_offerReport _ _ _ s).trans (tame_lowReport r _)

theorem tame_setInterval (x : Option Nat) (s : State) : Tame s (s.setPointer { s.pointer with lastInterval := x }) :=
  tame_setPointer (sound_setPointer rfl id id id) rfl rfl

theorem tame_pointerArrives (bytes : List Byte) (s : State) : Tame s (pointerArrives bytes s) := by
  have noted : Tame s (s.setKeyboard { s.keyboard with ptrPort := { s.keyboard.ptrPort with lastReport := some s.now } }) := by
    apply tame_of_parts <;> rfl
  unfold pointerArrives
  split
  · dsimp only
    split
    · exact noted.trans (tame_raise _ _)
    · exact (noted.trans (tame_setInterval _ _)).trans (tame_takeReport _ _ _)
  · exact .refl s

theorem tame_detent (w : Int) (s : State) : Tame s (detent w s) := by
  have qualified := tame_qualify s
  unfold detent
  split
  · next t h => rwa [h] at qualified
  · next t h =>
    rw [h] at qualified
    exact qualified.trans (tame_takePointer w (lastAbs_inRange _) (subBits_delivered t) (.inl rfl))

theorem tame_pushExpiry (s : State) : Tame s (pushExpiry s) := by
  unfold pushExpiry
  split
  · exact .refl s
  · refine Tame.trans ?_ (tame_setPush none _)
    apply tame_of_keyboard <;> rfl

/-! ### The pointer port leaves PRESENT (R83) -/

theorem tame_pointerLeaves (s : State) : Tame s (pointerLeaves s) := by
  have let_go : Tame s (setButtons 0 0 s) :=
    tame_setPointer (sound_setPointer rfl id id fun _ => by simp [SwallowInside, subBits_iff]) rfl rfl
  have cleared (t : State) : Tame t (t.setPointer { t.pointer with rx := 0, ry := 0, push := none, lastInterval := none }) :=
    tame_setPointer (sound_setPointer rfl (fun _ => by simp [AccumulatorsFit]) id id) rfl rfl
  unfold pointerLeaves
  dsimp only
  split
  · exact (let_go.trans (tame_releaseButtons _ _)).trans (cleared _)
  · exact let_go.trans (cleared _)

/-! ### Soft reset (R85, R113) -/

/-- A computer is released of its buttons. -/
def releaseOne (s : State) (c : Computer) : State := if s.committedButtons c ≠ 0 then releaseButtons c s else s

theorem releaseAllButtons_eq (s : State) : releaseAllButtons s = allComputers.foldl releaseOne s := rfl

theorem tame_releaseOne (s : State) (c : Computer) : Tame s (releaseOne s c) := by
  unfold releaseOne
  split
  · exact tame_releaseButtons c s
  · exact .refl s

theorem committedButtons_releaseOne {s : State} (home : ButtonsHome s) (c : Computer) :
    (releaseOne s c).committedButtons c = 0 ∧ ∀ d, s.committedButtons d = 0 → (releaseOne s c).committedButtons d = 0 := by
  unfold releaseOne
  split
  · have here : (releaseButtons c s).committedButtons c = 0 := committedButtons_takePointer_zero c _ _ 0 (away_of_home home c)
    refine ⟨here, fun d zero => ?_⟩
    by_cases e : d = c
    · rwa [e]
    · rw [State.committedButtons, (othersKept_releaseButtons c s d (by simpa using e)).1]
      exact zero
  · next none => exact ⟨by simpa using none, fun _ => id⟩

/-- Step 2 of R85 leaves no button committed. -/
theorem committedButtons_releaseAll {s : State} (home : ButtonsHome s) (c : Computer) :
    (releaseAllButtons s).committedButtons c = 0 := by
  have kept (l : List Computer) : ∀ t, ButtonsHome t → t.committedButtons c = 0 → (l.foldl releaseOne t).committedButtons c = 0 := by
    induction l with
    | nil => exact fun _ _ zero => zero
    | cons d l ih => exact fun t ht zero => ih _ ((tame_releaseOne t d).buttons ht) ((committedButtons_releaseOne ht d).2 c zero)
  have reached (l : List Computer) : ∀ t, ButtonsHome t → c ∈ l → (l.foldl releaseOne t).committedButtons c = 0 := by
    induction l with
    | nil => exact fun _ _ mem => by simp at mem
    | cons d l ih =>
      intro t ht mem
      have next := (tame_releaseOne t d).buttons ht
      obtain rfl | mem := List.mem_cons.1 mem
      · exact kept l _ next (committedButtons_releaseOne ht c).1
      · exact ih _ next mem
  rw [releaseAllButtons_eq]
  exact reached allComputers s home (mem_allComputers c)

/-- No button is committed at any computer. -/
def NoButtons (s : State) : Prop := ∀ c, s.committedButtons c = 0

theorem NoButtons.at {s : State} (none : NoButtons s) (d : Computer) : ButtonsAt d s := fun c => ⟨fun _ => none c, fun _ => none c⟩

theorem reHomeQuiet_cases (s : State) : (∃ i p r h, s.eligible i = some (r, h) ∧ s.centerOf i = some p ∧
      reHomeQuiet s = handPlace 0 (s.setPointer { s.pointer with place := some p, focus := some h.computer })) ∨
    reHomeQuiet s = s.setPointer { s.pointer with place := none, focus := none } := by
  unfold reHomeQuiet
  split
  · next i lowest =>
    have found : (s.eligible i).isSome := by simpa using List.find?_some lowest
    obtain ⟨⟨r, h⟩, eligible⟩ := Option.isSome_iff_exists.1 found
    have rect := ((eligible_eq_some_iff s i r h).1 eligible).1
    have center : s.centerOf i = some ⟨i, r.center.1, r.center.2⟩ := by simp [State.centerOf, rect]
    exact .inl ⟨i, _, r, h, eligible, center, by rw [center, sourceComputer_of_eligible eligible]⟩
  · exact .inr rfl

theorem sound_reHomeQuiet (s : State) : Sound s (reHomeQuiet s) := by
  obtain ⟨i, p, r, h, -, -, moved⟩ | parked := reHomeQuiet_cases s
  · rw [moved]
    have put : Sound s (s.setPointer { s.pointer with place := some p, focus := some h.computer }) :=
      sound_setPointer rfl id id id
    exact put.trans (sound_handPlace 0 _)
  · rw [parked]
    exact sound_setPointer rfl id id id

theorem buttonsHome_reHomeQuiet {s : State} (none : NoButtons s) : ButtonsHome (reHomeQuiet s) := by
  obtain ⟨i, p, r, h, -, -, moved⟩ | parked := reHomeQuiet_cases s
  · rw [moved]
    exact (tame_handPlace 0 _).buttons ((buttonsHome_iff _).2 ⟨rfl, NoButtons.at (s := s.setPointer _) none _⟩)
  · rw [parked]
    exact (buttonsHome_iff _).2 ⟨rfl, NoButtons.at (s := s.setPointer _) none _⟩

theorem pointerHome_reHomeQuiet {s : State} (apart : ScreensApart s) : PointerHome (reHomeQuiet s) := by
  obtain ⟨i, p, r, h, eligible, center, moved⟩ | parked := reHomeQuiet_cases s
  · rw [moved]
    refine (tame_handPlace 0 _).home ⟨apart, ?_⟩
    obtain ⟨screen, q, g, here, inside⟩ := inScreen_centerOf apart (by rw [eligible]; rfl) center
    have same : some (q, g) = some (r, h) := by rw [← here, screen, eligible]
    obtain ⟨rfl, rfl⟩ := Prod.mk.inj (Option.some.inj same)
    exact ⟨q, g, here, inside, rfl⟩
  · rw [parked]
    exact ⟨apart, rfl⟩

/-- The pointer of R85 before it re-homes. -/
def pointerReleased (s : State) : State :=
  let s := releaseAllButtons (swallowHeld s)
  s.setPointer { s.pointer with rx := 0, ry := 0, push := none, glideLock := false, lastInterval := none }

theorem softResetPointer_eq (s : State) : softResetPointer s = reHomeQuiet (pointerReleased s) := by
  simp only [softResetPointer, pointerReleased]

theorem tame_pointerReleased (s : State) : Tame s (pointerReleased s) := by
  have released : Tame s (releaseAllButtons (swallowHeld s)) := by
    rw [releaseAllButtons_eq]
    exact (tame_swallowHeld s).trans (tame_foldl tame_releaseOne _ _)
  have cleared (t : State) : Tame t (t.setPointer { t.pointer with
      rx := 0, ry := 0, push := none, glideLock := false, lastInterval := none }) :=
    tame_setPointer (sound_setPointer rfl (fun _ => by simp [AccumulatorsFit]) id id) rfl rfl
  simp only [pointerReleased]
  exact released.trans (cleared _)

theorem committedButtons_setPointer (p : PointerEngine) (s : State) (c : Computer) :
    (s.setPointer p).committedButtons c = s.committedButtons c := rfl

theorem noButtons_pointerReleased {s : State} (home : ButtonsHome s) : NoButtons (pointerReleased s) := by
  intro c
  simp only [pointerReleased, committedButtons_setPointer]
  exact committedButtons_releaseAll ((tame_swallowHeld s).buttons home) c

theorem tame_softResetPointer (s : State) : Tame s (softResetPointer s) := by
  rw [softResetPointer_eq]
  have released := tame_pointerReleased s
  exact ⟨released.toSound.trans (sound_reHomeQuiet _), fun home => buttonsHome_reHomeQuiet (noButtons_pointerReleased home),
    fun home => pointerHome_reHomeQuiet (released.home home).1⟩

theorem delivered_pointerReleased (s : State) : (pointerReleased s).delivered = 0 := by
  have none_left : s.pointer.buttons &&& ~~~(s.pointer.swallow ||| s.pointer.buttons) = 0 := by
    refine BitVec.eq_of_getLsbD_eq fun i hi => ?_
    simp only [BitVec.getLsbD_and, BitVec.getLsbD_not, BitVec.getLsbD_or]
    cases s.pointer.buttons.getLsbD i <;> simp
  simp only [pointerReleased, State.delivered, State.setPointer_pointer, releaseAllButtons_pointer, swallowHeld]
  exact none_left

/-- An entry without buttons leaves no button where none is. -/
theorem noButtons_handPlace {w : Int} {s : State} (delivered : s.delivered = 0) (none : NoButtons s) :
    NoButtons (handPlace w s) := by
  intro c
  obtain same | ⟨q, d, x, y, -, -, -, handed⟩ := handPlace_cases w s
  · rw [same]
    exact none c
  · rw [handed, delivered]
    obtain ⟨e, he⟩ : ∃ e : Computer, c ≠ e := ⟨c + 1, by revert c; decide⟩
    exact (buttonsAt_handEntry (d := e) x y w (.inr rfl) (none.at e) c).2 he

/-- After the Pointer Engine's soft reset no button is committed (R85). -/
theorem noButtons_softResetPointer {s : State} (home : ButtonsHome s) : NoButtons (softResetPointer s) := by
  have released := noButtons_pointerReleased home
  have delivered := delivered_pointerReleased s
  rw [softResetPointer_eq]
  generalize pointerReleased s = t at released delivered
  obtain ⟨i, p, r, h, -, -, moved⟩ | parked := reHomeQuiet_cases t
  · rw [moved]
    exact noButtons_handPlace (s := t.setPointer { t.pointer with place := some p, focus := some h.computer }) delivered
      released
  · rw [parked]
    exact released

/-- No key is committed at any computer. -/
def NoKeys (s : State) : Prop := ∀ c, (s.committedKeys c).isEmpty = true

theorem tame_goIdle (s : State) : Tame s (goIdle s) := by
  apply tame_of_keyboard <;> rfl

theorem tame_releaseAllKeys (s : State) : Tame s (releaseAllKeys s) := tame_foldl (fun s c => tame_releaseKeys c s) _ s

/-- The Keyboard Engine before it hands key focus back. -/
def keysReleased (s : State) : State :=
  releaseAllKeys (markHeld (fun _ => true) HeldKey.suppress ((goIdle s).setSlot none))

theorem softResetKeys_eq (s : State) : softResetKeys s =
    followOutputs (showLamps ((keysReleased s).setKeyboard { (keysReleased s).keyboard with focus := 0 })) := by
  simp only [softResetKeys, keysReleased]

theorem tame_keysReleased (s : State) : Tame s (keysReleased s) :=
  (((tame_goIdle s).trans (tame_setSlot none _)).trans (tame_markHeld (f := HeldKey.suppress) (fun _ => rfl) _)).trans
    (tame_releaseAllKeys _)

theorem committedKeys_releaseKeys_other {c d : Computer} (s : State) (h : d ≠ c) :
    (releaseKeys c s).committedKeys d = s.committedKeys d := by
  rw [State.committedKeys, (othersKept_releaseKeys c s d (by simpa using h)).1]
  rfl

/-- Step 3 of R113 leaves no key committed. -/
theorem noKeys_releaseAllKeys {s : State} (home : KeysHome s) : NoKeys (releaseAllKeys s) := by
  intro c
  have kept (l : List Computer) : ∀ t, KeysHome t → (t.committedKeys c).isEmpty = true →
      ((l.foldl (fun s c => releaseKeys c s) t).committedKeys c).isEmpty = true := by
    induction l with
    | nil => exact fun _ _ empty => empty
    | cons d l ih =>
      intro t ht empty
      refine ih _ ((tame_releaseKeys d t).keys ht) ?_
      by_cases e : c = d
      · rw [e]
        exact committedKeys_releaseKeys (keysFit_of_home ht d)
      · rw [committedKeys_releaseKeys_other t e]
        exact empty
  have reached (l : List Computer) : ∀ t, KeysHome t → c ∈ l →
      ((l.foldl (fun s c => releaseKeys c s) t).committedKeys c).isEmpty = true := by
    induction l with
    | nil => exact fun _ _ mem => by simp at mem
    | cons d l ih =>
      intro t ht mem
      have next := (tame_releaseKeys d t).keys ht
      obtain rfl | mem := List.mem_cons.1 mem
      · exact kept l _ next (committedKeys_releaseKeys (keysFit_of_home ht c))
      · exact ih _ next mem
  exact reached allComputers s home (mem_allComputers c)

theorem noKeys_keysReleased {s : State} (home : KeysHome s) : NoKeys (keysReleased s) :=
  noKeys_releaseAllKeys ((((tame_goIdle s).trans (tame_setSlot none _)).trans
    (tame_markHeld (p := fun _ => true) (f := HeldKey.suppress) (fun _ => rfl) _)).keys home)

theorem committedButtons_releaseAllKeys (s : State) (c : Computer) :
    (releaseAllKeys s).committedButtons c = s.committedButtons c := by
  have one (t : State) (d : Computer) : (releaseKeys d t).committedButtons c = t.committedButtons c := by
    by_cases e : c = d
    · rw [e]
      exact committedButtons_releaseKeys d t
    · rw [State.committedButtons, (othersKept_releaseKeys d t c (by simpa using e)).1]
      rfl
  exact foldl_leaves (fun s => s.committedButtons c) _ one allComputers s

theorem noButtons_keysReleased {s : State} (none : NoButtons s) : NoButtons (keysReleased s) := by
  intro c
  rw [keysReleased, committedButtons_releaseAllKeys]
  exact none c

/-- The Keyboard Engine's soft reset, after the Pointer Engine's has released every button (R113). -/
theorem tame_softResetKeys {s t : State} (before : Tame s t) (none : ButtonsHome s → NoButtons t) :
    Tame s (softResetKeys t) := by
  rw [softResetKeys_eq]
  refine ((tame_setFocus 0 (before.trans (tame_keysReleased t)) rfl (fun home => ?_) (fun home => ?_)).trans
    (tame_showLamps _)).trans (tame_followOutputs _)
  · exact noKeys_keysReleased (before.keys home) _
  · exact noButtons_keysReleased (none home) _

end Sys2Proof.Machine
end

section
/-!
PROOFS, every record and every event keeps the laws of the pointer, the keys and the idle timer (O57, O59, O60).
-/

set_option Elab.async false
namespace Sys2Proof.Machine
open Sys2Proof Sys2Proof.Safety

/-! ### The held set (R91 to R95) -/

/-- A step after which the held set has these codes, and which is tame but for that. -/
def Retakes (codes : List Nat) (s t : State) : Prop := ∃ held, held.map (·.code) = codes ∧ Tame (s.setHeld held) t

theorem tame_setHeld {s t : State} (h : Tame s t) (held : List HeldKey) : Tame (s.setHeld held) (t.setHeld held) where
  settings := h.settings
  codes := rfl
  accumulators := h.accumulators
  coordinates := h.coordinates
  idle := h.idle
  swallow := h.swallow
  keys := h.keys
  buttons := h.buttons
  home := h.home

theorem Retakes.codes {codes : List Nat} {s t : State} (h : Retakes codes s t) : t.heldCodes = codes := by
  obtain ⟨held, rfl, tame⟩ := h
  exact tame.codes

theorem Retakes.trans {a b : List Nat} {s t u : State} (h : Retakes a s t) (k : Retakes b t u) : Retakes b s u := by
  obtain ⟨first, -, h⟩ := h
  obtain ⟨second, codes, k⟩ := k
  exact ⟨second, codes, (tame_setHeld h second).trans k⟩

theorem Retakes.then {a : List Nat} {s t u : State} (h : Retakes a s t) (k : Tame t u) : Retakes a s u := by
  obtain ⟨held, codes, h⟩ := h
  exact ⟨held, codes, h.trans k⟩

theorem Retakes.keeps {codes : List Nat} {s t : State} (h : Retakes codes s t)
    (fits : HeldSetFits s → codes.length ≤ 14 ∧ codes.Nodup) : Keeps s t := by
  have after := h.codes
  obtain ⟨held, -, tame⟩ := h
  exact {
    accumulators := tame.accumulators
    ballistics := ballisticsFit_of_settings (s := s.setHeld held) tame.settings
    coordinates := tame.coordinates
    idle := tame.idle
    swallow := tame.swallow
    held := fun before => by
      obtain ⟨bound, distinct⟩ := fits before
      refine ⟨?_, ?_⟩
      · rw [← List.length_map (f := (·.code)), show t.keyboard.held.map (·.code) = codes from after]
        exact bound
      · rw [show t.keyboard.held.map (·.code) = codes from after]
        exact distinct
    keys := tame.keys
    buttons := tame.buttons
    home := tame.home }

theorem tame_judgePress (k : Nat) (s : State) : Tame s (judgePress k s).1 := by
  have idle (t : State) : Tame t (goIdle t) := tame_goIdle t
  unfold judgePress judgeIdle judgeLeaderDown judgeArmed judgeSecond
  repeat' split
  all_goals first
    | exact .refl s
    | exact idle s
    | exact tame_of_keyboard rfl rfl rfl rfl rfl rfl rfl

theorem tame_judgeRelease (k : Nat) (s : State) : Tame s (judgeRelease k s) := by
  unfold judgeRelease
  repeat' split
  all_goals first
    | exact .refl s
    | exact tame_of_keyboard rfl rfl rfl rfl rfl rfl rfl

theorem withStuckTimer_code (s : State) (k : HeldKey) : (s.withStuckTimer k).code = k.code := by
  unfold State.withStuckTimer
  split <;> rfl

theorem tame_lateDelivery (code : Nat) (s : State) : Tame s (lateDelivery code s) :=
  (tame_markHeld (f := fun k => s.withStuckTimer { k with deferred := false }) (fun _ => withStuckTimer_code s _) s).trans
    (tame_retarget _)

theorem tame_applyReplay (s : State) (r : Replay) : Tame s (applyReplay s r) := by
  cases r with
  | late k => exact tame_lateDelivery k s
  | tap k => exact tame_replayTap k s

theorem tame_markOwn (k : Nat) (o : Own) (s : State) : Tame s (markOwn k o s) := by
  cases o with
  | pass => exact .refl s
  | swallow => exact tame_markHeld (f := HeldKey.swallow) (fun _ => rfl) s
  | defer => exact tame_markHeld (f := HeldKey.defer) (fun _ => rfl) s

theorem tame_applyMarks (k : Nat) (v : Verdict) (s : State) : Tame s (applyMarks k v s) := by
  unfold applyMarks
  dsimp only
  split
  · exact .refl s
  · refine ((tame_markOwn k v.own s).trans ?_).trans (tame_retarget _)
    split
    · exact tame_markHeld (f := HeldKey.suppress) (fun _ => rfl) _
    · exact .refl _

theorem tame_applyReplays (k : Nat) (v : Verdict) (s : State) : Tame s (applyReplays k v s) := by
  unfold applyReplays
  split
  · exact ((tame_markHeld (f := fun h => { h with deferred := true }) (fun _ => rfl) s).trans
      (tame_foldl tame_applyReplay _ _)).trans (tame_markHeld (f := fun h => { h with deferred := false }) (fun _ => rfl) _)
  · exact tame_foldl tame_applyReplay _ s

theorem tame_applyFire (v : Verdict) (s : State) : Tame s (applyFire v s) := by
  unfold applyFire
  split
  · exact tame_fireEntry _ _ s
  · exact .refl s

theorem tame_settlePress (k : Nat) (s : State) : Tame s (settlePress k s) := by
  have dropped : Tame s (dropPress k s) := by
    unfold dropPress
    dsimp only
    split
    · exact Tame.trans (tame_markHeld (f := HeldKey.suppress) (fun _ => rfl) s) (tame_raise _ _)
    · exact .refl s
  exact (dropped.trans (tame_markHeld (f := (dropPress k s).withStuckTimer) (withStuckTimer_code _) _)).trans (tame_retarget _)

theorem retakes_pressKey (s : State) (k : Nat) : Retakes (s.heldCodes ++ [k]) s (pressKey s k) := by
  refine ⟨s.keyboard.held ++ [s.newKey k], by simp [State.heldCodes, State.newKey], ?_⟩
  have qualified := tame_qualify (s.setHeld (s.keyboard.held ++ [s.newKey k]))
  unfold pressKey
  split
  · next t h =>
    rw [h] at qualified
    exact qualified.trans (tame_markHeld (f := HeldKey.swallow) (fun _ => rfl) t)
  · next t h =>
    rw [h] at qualified
    exact ((((qualified.trans (tame_judgePress k t)).trans (tame_applyMarks _ _ _)).trans (tame_applyReplays _ _ _)).trans
      (tame_settlePress _ _)).trans (tame_applyFire _ _)

theorem retakes_releaseKey (s : State) (k : Nat) : Retakes (s.heldCodes.filter (· != k)) s (releaseKey s k) :=
  ⟨s.keyboard.held.filter (·.code != k), by simp [State.heldCodes, List.filter_map, Function.comp_def],
    ((tame_judgeRelease k _).trans (tame_retarget _)).trans (tame_endMomentaryIf _ _)⟩

theorem retakes_refl (s : State) : Retakes s.heldCodes s s := ⟨s.keyboard.held, rfl, .refl s⟩

theorem retakes_releases (ks : List Nat) (s : State) :
    Retakes (s.heldCodes.filter fun c => !ks.contains c) s (ks.foldl releaseKey s) := by
  induction ks generalizing s with
  | nil => simpa using retakes_refl s
  | cons k ks ih =>
    have first := retakes_releaseKey s k
    have rest := first.trans (ih (releaseKey s k))
    rw [first.codes, List.filter_filter] at rest
    have same : (s.heldCodes.filter fun c => !(k :: ks).contains c) =
        s.heldCodes.filter fun c => !ks.contains c && c != k := by
      refine List.filter_congr fun c _ => ?_
      by_cases h : c = k <;> simp [h, bne]
    rw [same]
    exact rest

theorem retakes_presses (ks : List Nat) (s : State) : Retakes (s.heldCodes ++ ks) s (ks.foldl pressKey s) := by
  induction ks generalizing s with
  | nil => simpa using retakes_refl s
  | cons k ks ih =>
    have first := retakes_pressKey s k
    have rest := first.trans (ih (pressKey s k))
    rw [first.codes] at rest
    simpa using rest

theorem modCodes_fits (m : ModSet) : (modCodes m).Nodup ∧ (modCodes m).length ≤ 8 ∧ ∀ k ∈ modCodes m, 224 ≤ k := by
  refine ⟨?_, ?_, fun k mem => ?_⟩
  · exact List.Nodup.map (fun a b h => Nat.add_right_cancel h) (List.Nodup.filter _ (by decide))
  · simpa [modCodes] using List.length_filter_le (fun i => m.getLsbD i) [0, 1, 2, 3, 4, 5, 6, 7]
  · obtain ⟨i, -, rfl⟩ := List.mem_map.1 mem
    exact Nat.le_add_left 224 i

/-- A repeated code counts once. -/
theorem collapse_distinct (ks acc : List Nat) (distinct : acc.Nodup) :
    (ks.foldl (fun acc k => if acc.contains k then acc else acc ++ [k]) acc).Nodup ∧
      ∀ k ∈ ks.foldl (fun acc k => if acc.contains k then acc else acc ++ [k]) acc, k ∈ acc ∨ k ∈ ks := by
  induction ks generalizing acc with
  | nil => exact ⟨distinct, fun k mem => .inl mem⟩
  | cons j ks ih =>
    rw [List.foldl_cons]
    split
    · exact ⟨(ih acc distinct).1, fun k mem => ((ih acc distinct).2 k mem).imp_right (List.mem_cons_of_mem j)⟩
    · next new =>
      have longer : (acc ++ [j]).Nodup :=
        distinct.append (List.nodup_singleton j) (by simpa using new)
      refine ⟨(ih _ longer).1, fun k mem => ?_⟩
      have := (ih _ longer).2 k mem
      simp only [List.mem_append, List.mem_cons] at this ⊢
      tauto

/-- A taken report holds at most 14 codes, none twice (R91, R93). -/
theorem parse_fits {bytes : List Byte} {codes : List Nat} (h : KeyReport.parse bytes = .keys codes) :
    codes.Nodup ∧ codes.length ≤ 14 := by
  unfold KeyReport.parse at h
  split at h
  · next m a b c d e f =>
    dsimp only at h
    split at h
    · cases h
    · next ordinary =>
      split at h
      · cases h
      · rw [KeyReport.keys.injEq] at h
        subst h
        obtain ⟨distinct, few, high⟩ := modCodes_fits m
        obtain ⟨once, from_slots⟩ := collapse_distinct (([a, b, c, d, e, f].map BitVec.toNat).filter (· != 0)) [] (by simp)
        have subset : collapse (([a, b, c, d, e, f].map BitVec.toNat).filter (· != 0)) ⊆ [a, b, c, d, e, f].map BitVec.toNat :=
          fun k mem => (List.mem_filter.1 ((from_slots k mem).resolve_left (by simp))).1
        have short : (collapse (([a, b, c, d, e, f].map BitVec.toNat).filter (· != 0))).length ≤ 6 :=
          (List.subperm_of_subset once subset).length_le
        refine ⟨distinct.append once fun k hm hs => ?_, by simp only [List.length_append]; omega⟩
        have low := List.any_eq_false.1 (Bool.eq_false_iff.2 ordinary) k (subset hs)
        simp only [decide_eq_true_eq] at low
        exact low (high k hm)
  · cases h

/-- A taken report leaves the report's codes held (R91, R92). -/
theorem keeps_takeKeyReport {codes : List Nat} (distinct : codes.Nodup) (bound : codes.length ≤ 14) (s : State) :
    Keeps s (takeKeyReport codes s) := by
  have released := retakes_releases (s.heldCodes.filter fun k => !codes.contains k) s
  have pressed := released.trans (retakes_presses (codes.filter fun k => !s.heldCodes.contains k) _)
  rw [released.codes] at pressed
  refine pressed.keeps fun fits => ?_
  have before : s.heldCodes.Nodup := fits.2
  have kept : ∀ k, k ∈ (s.heldCodes.filter fun c => !(s.heldCodes.filter fun k => !codes.contains k).contains c) →
      k ∈ s.heldCodes ∧ k ∈ codes := by
    intro k mem
    simp only [List.mem_filter, List.contains_eq_mem, Bool.not_eq_true', decide_eq_false_iff_not, not_and, not_not] at mem
    exact ⟨mem.1, mem.2 mem.1⟩
  have nodup : ((s.heldCodes.filter fun c => !(s.heldCodes.filter fun k => !codes.contains k).contains c) ++
      codes.filter fun k => !s.heldCodes.contains k).Nodup := by
    refine List.Nodup.append (before.filter _) (distinct.filter _) fun k old new => ?_
    simp only [List.mem_filter, List.contains_eq_mem, Bool.not_eq_true', decide_eq_false_iff_not] at new
    exact new.2 (kept k old).1
  refine ⟨le_trans (List.Subperm.length_le (List.subperm_of_subset nodup fun k mem => ?_)) bound, nodup⟩
  obtain mem | mem := List.mem_append.1 mem
  · exact (kept k mem).2
  · exact (List.mem_filter.1 mem).1

end Sys2Proof.Machine
end

section
/-!
PROOFS, every record and every event keeps the laws of the pointer, the keys and the idle timer (O57, O59, O60).
-/

set_option Elab.async false
namespace Sys2Proof.Machine
open Sys2Proof Sys2Proof.Safety

/-! ### The keyboard port and the desk ports (R87 to R92, R108) -/

theorem keeps_keysArrive (bytes : List Byte) (s : State) : Keeps s (keysArrive bytes s) := by
  have noted : Tame s (s.setKeyboard { s.keyboard with kbPort := { s.keyboard.kbPort with lastReport := some s.now } }) := by
    apply tame_of_parts <;> rfl
  unfold keysArrive
  split
  · dsimp only
    split
    · exact (noted.trans (tame_raise _ _)).keeps
    · exact noted.keeps
    · next codes parsed =>
      obtain ⟨distinct, bound⟩ := parse_fits parsed
      exact noted.keeps.trans (keeps_takeKeyReport distinct bound _)
  · exact .refl s

theorem tame_reach (t : Timer) (s : State) : Tame s (s.reach t) := by apply tame_of_keyboard <;> rfl

theorem tame_stuckExpiry (code : Nat) (s : State) : Tame s (stuckExpiry code s) := by
  unfold stuckExpiry
  split
  · exact .refl s
  · exact (((tame_reach _ s).trans (tame_markHeld (f := HeldKey.markStuck) (fun _ => rfl) _)).trans (tame_raise _ _)).trans
      (tame_retarget _)

theorem tame_windowExpiry (s : State) : Tame s (windowExpiry s) := by
  have replayed (t : Timer) (rs : List Replay) : Tame s (rs.foldl applyReplay (goIdle (s.reach t))) :=
    ((tame_reach t s).trans (tame_goIdle _)).trans (tame_foldl tame_applyReplay _ _)
  unfold windowExpiry
  repeat' split
  · exact .refl s
  · exact replayed _ _
  · exact replayed _ _
  · exact .refl s
  · exact .refl s

theorem tame_setDeskPort (p : DeskPort) (x : DeskPortRec) (s : State) : Tame s (setDeskPort p x s) := by
  cases p <;> apply tame_of_parts <;> rfl

theorem keeps_keyboardLeaves (s : State) : Keeps s (keyboardLeaves s) := by
  have left : Retakes [] s (keyboardLeaves s) :=
    ⟨[], rfl, ((tame_goIdle _).trans (tame_dropSlotIf _ _)).trans (tame_retarget _)⟩
  exact left.keeps fun _ => by simp

theorem keeps_portLeaves (p : DeskPort) (s : State) : Keeps s (portLeaves p s) := by
  cases p with
  | keyboard => exact keeps_keyboardLeaves s
  | pointer => exact (tame_pointerLeaves s).keeps

theorem tame_portEnters (p : DeskPort) (s : State) : Tame s (portEnters p s) := by
  cases p with
  | keyboard => exact tame_showLamps s
  | pointer => exact .refl s

theorem tame_deskAttach (p : DeskPort) (s : State) : Tame s (deskAttach p s) := by
  unfold deskAttach
  split
  · exact .refl s
  · refine Tame.trans ?_ (tame_raise _ _)
    split
    · exact (tame_setDeskPort p _ s).trans (tame_portEnters p _)
    · exact tame_setDeskPort p _ s

theorem keeps_deskDetach (p : DeskPort) (s : State) : Keeps s (deskDetach p s) := by
  unfold deskDetach
  split
  · refine Keeps.trans ?_ (tame_raise _ _).keeps
    split
    · exact (tame_setDeskPort p _ s).keeps.trans (keeps_portLeaves p _)
    · exact (tame_setDeskPort p _ s).keeps
  · exact .refl s

theorem keeps_disablePort (p : DeskPort) (s : State) : Keeps s (disablePort p s) := by
  unfold disablePort
  split
  · exact (tame_setDeskPort p _ s).keeps
  · exact (tame_setDeskPort p _ s).keeps.trans (keeps_portLeaves p _)
  · exact .refl s

theorem tame_enablePort (p : DeskPort) (s : State) : Tame s (enablePort p s) := by
  unfold enablePort
  split
  · split
    · exact (tame_setDeskPort p _ s).trans (tame_portEnters p _)
    · exact tame_setDeskPort p _ s
  · exact .refl s

/-! ### Computer ports (R147 to R149, R157, R158) -/

/-- A port whose committed states and queue stay, but for entries taken from the front. -/
theorem tame_setPort {c : Computer} {p : Port} {s : State} (keys : p.committedKeys = (s.port c).committedKeys)
    (pointer : p.committedPointer = (s.port c).committedPointer) (queue : p.queue <:+ (s.port c).queue) :
    Tame s (s.setPort c p) := by
  have here : (s.setPort c p).port c = p := (State.port_setPort ..).trans (if_pos rfl)
  refine tame_of_othersKept (othersKept_setPort c p s) rfl rfl rfl rfl rfl rfl (fun entries e mem => ?_) (fun fits empty => ?_)
    (fun away => ?_)
  · rw [here] at mem
    exact entries e (queue.subset mem)
  · simp only [State.committedKeys, here, keys]
    refine ⟨⟨fun long => ?_, fun away => keys ▸ fits.2 away⟩, empty⟩
    obtain ⟨front, whole⟩ := queue
    obtain ⟨k, last⟩ := fits.1 (by rw [← whole, List.length_append]; omega)
    refine ⟨k, ?_⟩
    rw [← whole, List.getLast?_append] at last
    cases tail : p.queue.getLast? with
    | none =>
      rw [List.getLast?_eq_none_iff.1 tail] at long
      simp at long
    | some e =>
      rw [tail] at last
      exact last
  · simp only [State.committedButtons, Port.committedButtons, here, pointer]
    exact ⟨away, .inl trivial⟩

theorem tame_setPort_same {c : Computer} {p : Port} {s : State} (queue : p.queue = (s.port c).queue)
    (keys : p.keys = (s.port c).keys) (pointer : (p.x, p.y, p.buttons) = ((s.port c).x, (s.port c).y, (s.port c).buttons)) :
    Tame s (s.setPort c p) :=
  tame_setPort (by rw [Port.committedKeys, Port.committedKeys, queue, keys])
    (by rw [Port.committedPointer, Port.committedPointer, queue, pointer]) (by rw [queue])

theorem tame_emit (o : Output) (s : State) : Tame s (s.emit o) := by apply tame_of_keyboard <;> rfl

theorem tame_refreshKeys (c : Computer) (s : State) : Tame s (refreshKeys c s) := by
  unfold refreshKeys
  dsimp only
  split
  · refine Tame.trans (tame_setPort_same ?_ ?_ ?_) (tame_emit _ _) <;> rfl
  · exact tame_emit _ s

theorem tame_refreshPointer (c : Computer) (s : State) : Tame s (refreshPointer c s) := by
  unfold refreshPointer
  dsimp only
  split
  · refine Tame.trans (tame_setPort_same ?_ ?_ ?_) (tame_emit _ _) <;> rfl
  · exact tame_emit _ s

theorem tame_currentState (c : Computer) (f : PortFunction) (s : State) : Tame s (currentState c f s) := by
  cases f with
  | keyboard => refine Tame.trans (tame_setPort_same ?_ ?_ ?_) (tame_emit _ _) <;> rfl
  | pointer => refine Tame.trans (tame_setPort_same ?_ ?_ ?_) (tame_emit _ _) <;> rfl

theorem tame_pollKeys (c : Computer) (s : State) : Tame s (pollKeys c s) := by
  unfold pollKeys
  dsimp only
  split
  · split
    · next k rest queue =>
      refine Tame.trans (tame_setPort ?_ ?_ ?_) (tame_emit _ _)
      · simp [Port.committedKeys, queue, List.findSome?_append, Entry.keys?, List.findSome?_cons]
      · simp [Port.committedPointer, queue, List.findSome?_append, Entry.pointer?, List.findSome?_cons]
      · rw [queue]
        exact List.suffix_cons _ rest
    · exact tame_refreshKeys c s
  · exact .refl s

theorem tame_pollPointer (c : Computer) (s : State) : Tame s (pollPointer c s) := by
  unfold pollPointer
  dsimp only
  split
  · split
    · next x y b w rest queue =>
      refine Tame.trans (tame_setPort ?_ ?_ ?_) (tame_emit _ _)
      · simp [Port.committedKeys, queue, List.findSome?_append, Entry.keys?, List.findSome?_cons]
      · simp [Port.committedPointer, queue, List.findSome?_append, Entry.pointer?, List.findSome?_cons]
      · rw [queue]
        exact List.suffix_cons _ rest
    · exact tame_refreshPointer c s
  · exact .refl s

theorem tame_setObserved (c : Computer) (o : PortState) (s : State) : Tame s (setObserved c o s) := tame_setPort_same rfl rfl rfl

theorem tame_busPowerAppears (c : Computer) (s : State) : Tame s (busPowerAppears c s) := by
  unfold busPowerAppears
  split
  · exact (tame_setObserved c _ s).trans (tame_observe (by decide) _)
  · exact .refl s

theorem tame_configurationSelected (c : Computer) (s : State) : Tame s (configurationSelected c s) := by
  unfold configurationSelected
  split
  · exact (tame_setObserved c _ s).trans (tame_observe (by decide) _)
  · exact .refl s

theorem tame_busIdle (c : Computer) (s : State) : Tame s (busIdle c s) := by
  unfold busIdle
  split
  · exact tame_setObserved c _ s
  · exact (tame_setObserved c _ s).trans (tame_observe (by decide) _)
  · exact .refl s

theorem tame_busActivity (c : Computer) (s : State) : Tame s (busActivity c s) := by
  unfold busActivity
  split
  · exact tame_setObserved c _ s
  · exact (tame_setObserved c _ s).trans (tame_observe (by decide) _)
  · exact .refl s

theorem tame_configurationDeselected (c : Computer) (s : State) : Tame s (configurationDeselected c s) := by
  unfold configurationDeselected
  split
  · exact tame_clearPort c _ _ s
  · exact .refl s

theorem tame_busReset (c : Computer) (s : State) : Tame s (busReset c s) := by
  unfold busReset
  split
  · exact .refl s
  · exact tame_clearPort c _ _ s

theorem tame_busPowerDisappears (c : Computer) (s : State) : Tame s (busPowerDisappears c s) := by
  unfold busPowerDisappears
  split
  · exact .refl s
  · exact tame_clearPort c _ _ s

theorem tame_remoteWakeChange (c : Computer) (granted : Bool) (s : State) : Tame s (remoteWakeChange c granted s) := by
  unfold remoteWakeChange
  split
  · exact tame_setPort_same rfl rfl rfl
  · exact .refl s

theorem tame_lampWrite (c : Computer) (lamps : Byte) (s : State) : Tame s (lampWrite c lamps s) := by
  unfold lampWrite
  split
  · exact tame_setLamps c _ s
  · exact .refl s

theorem tame_attemptExpiry (c : Computer) (s : State) : Tame s (attemptExpiry c s) := by
  unfold attemptExpiry
  repeat' split
  · exact .refl s
  · exact (tame_reach _ s).trans (tame_startAttempt _ c _ _)
  · exact (tame_reach _ s).trans (tame_enterUnresponsive c _)
  · exact .refl s

theorem tame_pulseExpiry (c : Computer) (s : State) : Tame s (pulseExpiry c s) := by
  unfold pulseExpiry
  split
  · exact .refl s
  · exact (tame_reach _ s).trans (tame_endPulse c _)

/-! ### Lines (R138, R139, R143) -/

theorem tame_setLineRec (l : LineId) (x : LineRec) (s : State) : Tame s (s.setLineRec l x) := by apply tame_of_keyboard <;> rfl

theorem tame_setDial (d : Option Dial) (s : State) : Tame s (setDial d s) := by apply tame_of_keyboard <;> rfl

theorem tame_reportEdge (l : LineId) (active : Bool) (s : State) : Tame s (reportEdge l active s) := by
  unfold reportEdge
  split
  · exact tame_raise _ s
  · exact .refl s

theorem tame_offerEdge (l : LineId) (active : Bool) (s : State) : Tame s (offerEdge l active s).1 := by
  unfold offerEdge
  split
  · exact tame_qualify s
  · exact .refl s

theorem tame_inputEdge (l : LineId) (active : Bool) (s : State) : Tame s (inputEdge l active s) := by
  have offered := tame_offerEdge l active s
  unfold inputEdge
  split
  · next t h =>
    rw [h] at offered
    exact ((offered.trans (tame_setLineRec l _ _)).trans (tame_reportEdge l active _)).trans (tame_endMomentaryIf _ _)
  · next t h =>
    rw [h] at offered
    have reported := offered.trans (tame_reportEdge l active t)
    dsimp only
    split
    · exact reported.trans (tame_setLineRec l _ _)
    · exact reported.trans (tame_lineTrigger l active _)

theorem tame_dialEdge (l : LineId) (active : Bool) (s : State) : Tame s (dialEdge l active s) := by
  unfold dialEdge
  split
  · exact .refl s
  · dsimp only
    repeat' split
    · exact (tame_setDial _ s).trans (tame_detent 1 _)
    · exact (tame_setDial _ s).trans (tame_detent (-1) _)
    · exact tame_setDial _ s

theorem tame_makeEdge (l : LineId) (s : State) : Tame s (makeEdge l s) := by
  have filtered := tame_setLineRec l { s.lineRec l with filtered := some (s.lineRec l).logical, timer := none } s
  unfold makeEdge
  dsimp only
  split
  · exact filtered.trans (tame_inputEdge l _ _)
  · exact filtered.trans (tame_dialEdge l _ _)
  · exact filtered
  · exact filtered

theorem tame_filterLine (l : LineId) (s : State) : Tame s (filterLine l s) := by
  unfold filterLine
  dsimp only
  repeat' split
  · exact tame_setLineRec l _ s
  · exact tame_makeEdge l s
  · exact tame_setLineRec l _ s
  · exact .refl s

theorem tame_lineLevel (l : LineId) (high : Bool) (s : State) : Tame s (lineLevel l high s) := by
  unfold lineLevel
  split
  · exact .refl s
  · exact (tame_setLineRec l _ s).trans (tame_filterLine l _)

theorem tame_filterExpiry (l : LineId) (s : State) : Tame s (filterExpiry l s) := by
  unfold filterExpiry
  split
  · exact .refl s
  · exact (tame_reach _ s).trans (tame_makeEdge l _)

/-! ### Screens and channels -/

theorem tame_enterScreen (i : ScreenId) (st : ScreenState) (s : State) : Tame s (enterScreen i st s) := by
  refine Aside.tame (ScreensOnly.aside ⟨?_, ?_, ?_, ?_, ?_, ?_⟩) (sameScreens_of_current ?_ fun j => ?_)
  case refine_8 =>
    rw [screenRec_enterScreen]
    split
    · next e => rw [e]
    · rfl
  all_goals simp

theorem tame_setScreenRec {i : ScreenId} {x : ScreenRec} {s : State} (current : x.current = (s.screenRec i).current) :
    Tame s (s.setScreenRec i x) := by
  refine Aside.tame (ScreensOnly.aside ⟨rfl, rfl, rfl, rfl, rfl, rfl⟩) (sameScreens_of_current rfl fun j => ?_)
  rw [State.screenRec_setScreenRec]
  split
  · next e => rw [← e, current]
  · rfl

theorem tame_setLinkTimer (i : ScreenId) (t : Option Timer) (s : State) : Tame s (setLinkTimer i t s) := tame_setScreenRec rfl

theorem tame_lockChange (i : ScreenId) (present : Bool) (s : State) : Tame s (lockChange i present s) := by
  have noted := tame_setScreenRec (i := i) (x := { s.screenRec i with lockPin := present, lockView := present }) (s := s) rfl
  unfold lockChange
  dsimp only
  split
  · exact ((noted.trans (tame_setLinkTimer i _ _)).trans (tame_enterScreen i _ _)).trans (tame_settleAll _)
  · exact (noted.trans (tame_enterScreen i _ _)).trans (tame_settleAll _)
  · exact ((noted.trans (tame_setLinkTimer i _ _)).trans (tame_enterScreen i _ _)).trans (tame_settleAll _)
  · exact noted

theorem tame_linkExpiry (i : ScreenId) (s : State) : Tame s (linkExpiry i s) := by
  unfold linkExpiry
  repeat' split
  · exact .refl s
  · exact (((tame_reach _ s).trans (tame_setLinkTimer i _ _)).trans (tame_enterScreen i _ _)).trans (tame_settleAll _)
  · exact .refl s

theorem tame_powerOnExpiry (i : ScreenId) (s : State) : Tame s (powerOnExpiry i s) := by
  have followed (t : State) : ScreensOnly t (followSource i t) := by constructor <;> simp
  unfold powerOnExpiry
  repeat' split
  · exact .refl s
  · exact (tame_reach _ s).trans (tame_onScreens (followed _))
  · exact .refl s

theorem tame_frameBoundary (v : InputId) (s : State) : Tame s (frameBoundary v s) := by
  unfold frameBoundary
  split
  · exact .refl s
  · refine tame_onScreens (screensOnly_eachScreen (fun i t => ?_) s)
    split
    · constructor <;> simp
    · exact .refl t

theorem screensOnly_headMoved (b : Bool) (h : Head) (s : State) : ScreensOnly s (headMoved b h s) := by
  constructor <;> simp

theorem tame_channelMoved (b : Bool) (v : InputId) (s : State) : Tame s (channelMoved b v s) := by
  unfold channelMoved
  split
  · exact .refl s
  · exact tame_onScreens (screensOnly_headMoved b _ s)

theorem tame_recordChannel (v : InputId) (c : Channel) (old : ChannelState) (s : State) :
    Tame s (reportSync old v (s.setChannel v c)) := by
  apply tame_of_keyboard <;> simp

theorem tame_syncEdge (v : InputId) (s : State) : Tame s (syncEdge v s) := by
  unfold syncEdge
  dsimp only
  repeat' split
  · exact (tame_recordChannel v _ _ s).trans (tame_frameBoundary v _)
  · exact (tame_recordChannel v _ _ s).trans (tame_channelMoved false v _)
  · exact .refl s

theorem tame_lostExpiry (v : InputId) (s : State) : Tame s (lostExpiry v s) := by
  unfold lostExpiry
  split
  · exact .refl s
  · exact ((tame_reach _ s).trans (tame_recordChannel v _ _ _)).trans (tame_channelMoved _ v _)

/-! ### The desk's timers (R179, R180) -/

theorem tame_advanceTo (t : Nat) (s : State) : Tame s (s.advanceTo t) := by apply tame_of_keyboard <;> rfl

theorem tame_idleReached (s : State) : Tame s (idleReached s) := by
  unfold idleReached
  dsimp only
  repeat' split
  · exact .refl s
  · exact (tame_advanceTo _ s).trans (tame_enterStandby _)
  · exact (tame_advanceTo _ s).trans (tame_enterOff _)
  · exact .refl s
  · exact (tame_advanceTo _ s).trans (tame_enterOff _)
  · exact .refl s
  · exact .refl s

theorem tame_motionExpiry (s : State) : Tame s (motionExpiry s) := by
  unfold motionExpiry
  split
  · exact .refl s
  · exact (tame_reach _ s).trans (tame_setDesk id)

end Sys2Proof.Machine
end

section
/-!
PROOFS, the laws of O57, O59 and O60: every record and every event keeps them, so every step does.
-/

set_option Elab.async false
namespace Sys2Proof.Machine
open Sys2Proof Sys2Proof.Safety

/-! ### The layout records -/

/-- A step that leaves every part the laws read but the layout, of which it leaves the screen table. -/
theorem tame_of_screenTable {s t : State} (pointer : t.pointer = s.pointer) (keyboard : t.keyboard = s.keyboard)
    (ports : t.ports = s.ports) (power : t.power = s.power) (desk : t.desk = s.desk)
    (layout : t.layout.screens = s.layout.screens) (screens : t.screens = s.screens) : Tame s t :=
  Aside.tame (ScreensOnly.aside ⟨pointer, keyboard, ports, power, desk, layout⟩)
    (sameScreens_of_current layout fun i => by simp only [State.screenRec, screens])

/-- A screen-changed notice brings home a pointer that was on the screen, and leaves one that was elsewhere (R82). -/
theorem pointerHome_screenChanged {i : ScreenId} {s : State} (apart : ScreensApart s)
    (here : match s.pointer.place with
      | none => s.pointer.focus = none
      | some p => p.screen = i ∨ ∃ r h, s.eligible p.screen = some (r, h) ∧ r.contains p.x p.y = true ∧
          s.pointer.focus = some h.computer) : PointerHome (screenChanged i s) := by
  have dropped : (dropPushOn i s).layout = s.layout ∧ (dropPushOn i s).screens = s.screens := by simp
  have apart' : ScreensApart (dropPushOn i s) := screensApart_of_screens (by rw [dropped.1]) apart
  have place : (dropPushOn i s).pointer.place = s.pointer.place ∧ (dropPushOn i s).pointer.focus = s.pointer.focus :=
    dropPushOn_pointer i s
  simp only [screenChanged]
  split
  · next parked =>
    rw [place.1] at parked
    simp only [parked] at here
    exact pointerHome_unpark apart' (place.1.trans parked) (place.2.trans here)
  · next p at_p =>
    rw [place.1] at at_p
    simp only [at_p] at here
    split
    · exact pointerHome_reHome apart'
    · next other =>
      obtain ⟨r, h, eligible, inside, focus⟩ := here.resolve_left other
      refine ⟨apart', ?_⟩
      simp only [place.1, at_p, place.2]
      exact ⟨r, h, (eligible_of_tables dropped.1 dropped.2 _).trans eligible, inside, focus⟩

/-- What an applied SET_SCREEN does before its notice. -/
theorem keeps_screenApplied {i : ScreenId} {new : Option Rect} {s u : State} (op : ScreensOnly (s.setScreenRect i new) u)
    (others : ∀ j, j ≠ i → u.screenRec j = s.screenRec j) (apart : ScreensApart s → ScreensApart (screenChanged i u)) :
    Keeps s (screenChanged i u) := by
  have table : Sound s (s.setScreenRect i new) := Aside.sound ⟨rfl, rfl, rfl, rfl, fun _ => rfl, rfl, rfl⟩
  have sound := (table.trans op.sound).trans (sound_screenChanged i u)
  exact {
    accumulators := sound.accumulators
    ballistics := ballisticsFit_of_settings sound.settings
    coordinates := sound.coordinates
    idle := sound.idle
    swallow := sound.swallow
    held := heldSetFits_of_codes sound.codes
    keys := sound.keys
    buttons := fun home => buttonsHome_screenChanged i (op.buttonsHome (s := s.setScreenRect i new) home)
    home := fun home => by
      have apart' : ScreensApart u := screensApart_of_screens (by simp) (apart home.1)
      refine pointerHome_screenChanged apart' ?_
      rw [op.pointer]
      have here := home.2
      change (match s.pointer.place with | none => s.pointer.focus = none | some p => _)
      split
      · next parked => simpa only [parked] using here
      · next p place =>
        simp only [place] at here
        obtain ⟨r, h, eligible, inside, focus⟩ := here
        by_cases e : p.screen = i
        · exact .inl e
        · refine .inr ⟨r, h, ?_, inside, focus⟩
          rw [eligible_eq_some_iff] at eligible ⊢
          refine ⟨?_, by rw [others _ e]; exact eligible.2⟩
          rw [State.screenRect, op.layout, ← State.screenRect, State.screenRect_setScreenRect, if_neg fun h => e h.symm]
          exact eligible.1 }

theorem keeps_applyScreen {i : ScreenId} {new : Option Rect} {s : State}
    (checked : ∀ r, new = some r → r.fitsPlane = true ∧ s.overlapsOther i r = false) : Keeps s (applyScreen i new s) := by
  have apart := screensApart_applyScreen i new s checked
  have before (j : ScreenId) : (s.setScreenRect i new).screenRec j = s.screenRec j := rfl
  unfold applyScreen at apart ⊢
  dsimp only at apart ⊢
  split at apart
  · next same =>
    rw [if_pos same]
    exact .refl s
  · next changed =>
    rw [if_neg changed]
    split at apart
    · next r _ =>
      refine keeps_screenApplied (new := some r) ?_ (fun j hj => ?_) apart
      · constructor <;> simp
      · rw [screenRec_configureScreen_other (fun e => hj e.symm), before]
    · refine keeps_screenApplied (new := none) ?_ (fun j hj => ?_) apart
      · constructor <;> simp
      · rw [screenRec_unconfigureScreen, if_neg fun e => hj e.symm, before]
    · exact keeps_screenApplied (.refl _) (fun j _ => before j) apart

theorem tame_applyComputer (c : Computer) (e : ComputerEntry) (s : State) : Tame s (applyComputer c e s) := by
  have stored : Tame s (s.setComputerEntry c e) := by apply tame_of_screenTable <;> rfl
  have armed (t : State) (old : ComputerEntry) : Tame t (armOnce c old e t) := by
    unfold armOnce
    split
    · exact tame_setPowerRec rfl
    · exact .refl t
  have rested (t : State) : Tame t (moveRest c t) := by
    unfold moveRest
    split
    · exact .refl t
    · exact tame_setPowerRec rfl
  have mapped (t : State) (old : ComputerEntry) : Tame t (remap c old e t) := by
    unfold remap
    split
    · exact tame_retarget t
    · exact .refl t
  exact ((stored.trans (armed _ _)).trans (rested _)).trans (mapped _ _)

theorem screensOnly_rebind (v : InputId) (new : Option Head) (s : State) : ScreensOnly s (rebind v new s) := by
  constructor <;> simp

theorem tame_applyInput (v : InputId) (new : Option Head) (s : State) : Tame s (applyInput v new s) := by
  unfold applyInput
  split
  · exact .refl s
  · exact tame_onScreens (screensOnly_rebind v new s)

theorem screensOnly_clearHeadOn (h : Head) (i : ScreenId) (s : State) : ScreensOnly s (clearHeadOn h i s) := by
  constructor <;> simp

theorem tame_setHeadEntry (h : Head) (e : Option HeadEntry) (s : State) : Tame s (s.setHeadEntry h e) := by
  apply tame_of_screenTable <;> rfl

theorem tame_defineHead (h : Head) (e : HeadEntry) (s : State) : Tame s (defineHead h e s) := by
  unfold defineHead
  dsimp only
  split
  · refine (tame_setHeadEntry h _ s).trans (tame_onScreens (screensOnly_eachScreen (fun i t => ?_) _))
    split
    · exact screensOnly_clearHeadOn h i t
    · exact .refl t
  · exact tame_setHeadEntry h _ s

theorem screensOnly_unbindHead (h : Head) (s : State) : ScreensOnly s (unbindHead h s) := by
  unfold unbindHead
  split
  · exact screensOnly_rebind _ none s
  · exact .refl s

theorem screensOnly_dropWaiting (h : Head) (i : ScreenId) (s : State) : ScreensOnly s (dropWaiting h i s) := by
  constructor <;> simp

theorem tame_undefineHead (h : Head) (s : State) : Tame s (undefineHead h s) := by
  unfold undefineHead
  split
  · exact .refl s
  · exact (tame_setHeadEntry h none s).trans (tame_onScreens
      (((screensOnly_eachScreen (screensOnly_dropWaiting h) _).trans (screensOnly_unbindHead h _)).trans
        (screensOnly_eachScreen (screensOnly_clearHeadOn h) _)))

/-! ### The other records -/

theorem tame_setScreens {x : ScreenController} {s : State} (recs : x.recs = s.screens.recs) : Tame s (s.setScreens x) :=
  Aside.tame (ScreensOnly.aside ⟨rfl, rfl, rfl, rfl, rfl, rfl⟩)
    (sameScreens_of_current rfl fun i => by simp only [State.screenRec, State.setScreens_screens, recs])

theorem tame_limitTimers (old new : Nat) (s : State) : Tame s (limitTimers old new s) := by
  unfold limitTimers
  repeat' split
  · exact tame_markHeld (f := fun k => { k with timer := none }) (fun _ => rfl) s
  · exact tame_markHeld (f := s.withStuckTimer) (withStuckTimer_code s) s
  · exact .refl s

theorem tame_restartForSettings (s : State) : Tame s (restartForSettings s) := by
  unfold restartForSettings
  split
  · exact .refl s
  · next on => exact tame_restartIdle on

theorem keeps_setBallistics {t1 t2 t3 g0 g1 g2 g3 : Nat} {s : State}
    (fits : [t1, t2, t3, g0, g1, g2, g3].all (fun n => decide (1 ≤ n) && decide (n ≤ 255)) = true ∧ t1 < t2 ∧ t2 < t3) :
    Keeps s (s.setPointer { s.pointer with t1 := t1, t2 := t2, t3 := t3, g0 := g0, g1 := g1, g2 := g2, g3 := g3 }) := by
  refine ⟨id, fun before => ?_, id, id, id, id, id, id, id⟩
  obtain ⟨-, -, -, -, -, barrier⟩ := before
  simp only [List.all_cons, List.all_nil, Bool.and_true, Bool.and_eq_true, decide_eq_true_eq] at fits
  simp only [BallisticsFit, State.setPointer_pointer, List.mem_cons, List.not_mem_nil, or_false, forall_eq_or_imp, forall_eq]
  omega

theorem keeps_setGlide {b : Nat} {s : State} (fits : b ≤ 255) : Keeps s (s.setPointer { s.pointer with barrier := b }) := by
  refine ⟨id, fun before => ?_, id, id, id, id, id, id, id⟩
  obtain ⟨low, first, second, high, gains, -⟩ := before
  exact ⟨low, first, second, high, gains, fits⟩

theorem tame_keymapStored (m : MapNo) (map : List (Nat × Nat)) (s : State) :
    Tame s (retargetFor (·.keymap == some m) (s.setKeyboard { s.keyboard with maps := s.keyboard.maps.set m map })) := by
  have stored : Tame s (s.setKeyboard { s.keyboard with maps := s.keyboard.maps.set m map }) := by apply tame_of_parts <;> rfl
  unfold retargetFor
  split
  · exact stored.trans (tame_retarget _)
  · exact stored

/-- Every record's owner keeps the laws. -/
theorem keeps_judged (i : Instr) (s : State) (x : Handled) (h : judged i s = .ok x) : Keeps s x.1 := by
  cases i
  case setScreen n f a y w g =>
    obtain ⟨j, new, checked, rfl⟩ := judgeSetScreen_ok n f a y w g s x h
    exact keeps_applyScreen checked
  case setComputer n r =>
    obtain ⟨c, e, -, rfl⟩ := judgeSetComputer_ok n r s x h
    exact (tame_applyComputer c e s).keeps
  case setHead c hd d p a y w g e =>
    obtain ⟨g, rfl | ⟨e, -, rfl⟩⟩ := judgeSetHead_ok _ _ _ _ _ _ _ _ _ s x h
    · exact (tame_undefineHead g s).keeps
    · exact (tame_defineHead g e s).keeps
  case mapInput v c g =>
    obtain ⟨v, new, -, rfl⟩ := judgeMapInput_ok v c g s x h
    exact (tame_applyInput v new s).keeps
  case runAction k a b =>
    simp only [judged, judgeRunAction] at h
    split at h
    · cases h
    · cases h
    · split at h
      · cases h
      · next t made =>
        have kept := (tame_request made).keeps
        split at h <;> cases h <;> exact kept
  case warpComputer c =>
    simp only [judged, judgeWarpComputer] at h
    split at h
    · cases h
    · split at h
      · next p target =>
        cases h
        obtain ⟨j, home, center⟩ := Option.bind_eq_some_iff.1 target
        exact (tame_movePointer_home home center).keeps
      · cases h
  case warpPosition a b =>
    simp only [judged, judgeWarpPosition] at h
    split at h
    · split at h
      · next j found =>
        cases h
        obtain ⟨r, g, eligible, contained⟩ := screenAt_inside found
        exact (tame_movePointer (p := ⟨j, a, b⟩) (by rw [eligible]; rfl) fun _ => ⟨r, g, eligible, contained⟩).keeps
      · cases h
    · cases h
  case setBallistics =>
    simp only [judged, judgeSetBallistics] at h
    split at h
    · next fits => cases h; exact keeps_setBallistics fits
    · cases h
  case setGlide b =>
    simp only [judged, judgeSetGlide] at h
    split at h
    · next fits => cases h; exact keeps_setGlide fits
    · cases h
  case assign a b c =>
    simp only [judged, judgeAssign, ok] at h
    repeat' split at h
    all_goals cases h
    exact (tame_onScreens (screensOnly_assignSource _ _ s)).keeps
  case storeScene n k w items =>
    simp only [judged, judgeStoreScene, ok] at h
    repeat' split at h
    all_goals cases h
    all_goals
      refine Tame.keeps (tame_setScreens ?_)
      rfl
  case setStartScene n =>
    simp only [judged, judgeSetStartScene, ok] at h
    repeat' split at h
    all_goals cases h
    all_goals
      refine Tame.keeps (tame_setScreens ?_)
      rfl
  case setScreenTiming l v c =>
    simp only [judged, judgeSetScreenTiming, ok] at h
    split at h <;> cases h
    refine Tame.keeps (tame_setScreens ?_)
    rfl
  case applyScene n =>
    simp only [judged, judgeApplyScene, accepted] at h
    repeat' split at h
    all_goals cases h
    exact (tame_applySceneSteps _ _ s).keeps
  case setFocus c sc =>
    simp only [judged, judgeSetFocus, ok] at h
    repeat' split at h
    all_goals cases h
    exact (tame_focusWithScope _ _ s).keeps
  case setKeymap m pairs =>
    simp only [judged, judgeSetKeymap, ok] at h
    repeat' split at h
    all_goals cases h
    exact (tame_keymapStored _ _ s).keeps
  case setKeyOptions l k w =>
    simp only [judged, judgeSetKeyOptions, ok] at h
    split at h <;> cases h
    exact (Tame.trans (by apply tame_of_parts <;> rfl) (tame_limitTimers _ _ _)).keeps
  case deskPortCheck p =>
    simp only [judged, judgeDeskPort, ok] at h
    split at h <;> cases h
    exact .refl s
  case deskPortEnable p =>
    simp only [judged, judgeDeskPort, ok] at h
    split at h <;> cases h
    exact (tame_enablePort _ s).keeps
  case deskPortDisable p =>
    simp only [judged, judgeDeskPort, ok] at h
    split at h <;> cases h
    exact keeps_disablePort _ s
  case wake c =>
    simp only [judged, judgeWake] at h
    repeat' split at h
    all_goals cases h
    exact (tame_wakeRequest _ s).keeps
  case setDeskPower =>
    simp only [judged, judgeSetDeskPower, ok] at h
    repeat' split at h
    all_goals cases h
    refine Tame.keeps (Tame.trans (tame_setDesk ?_) (tame_restartForSettings _))
    exact id
  case deskStandby =>
    cases h
    exact (tame_enterStandby s).keeps
  all_goals simp only [judged, judgeIdentify, judgeQueryStatus, judgeClearEvents, judgeSetEventMask, judgeRestart, judgeSaveProfile,
    judgeGetLayoutScreen, judgeGetLayoutComputer, judgeGetLayoutHead, judgeGetLayoutInput, judgeGetScreen, judgeGetScene,
    judgeGetPointer, judgeGetFocus, judgeGetFocusMap, judgeAddHotkey, judgeRemoveHotkey, judgeGetHotkey, judgeGetMatcher,
    judgeSetLine, judgeDriveLine, judgeGetLines, judgeGetComputer, judgeReadDeskPower, ok, accepted] at h
  all_goals repeat' split at h
  all_goals cases h
  all_goals exact Tame.keeps (by apply tame_of_keyboard <;> simp)

end Sys2Proof.Machine
end

section
/-!
PROOFS, the laws of O57, O59 and O60: the soft reset, the power-on reset, the host link and the store keep them, so every event does;
and the three statements.
-/

set_option Elab.async false
namespace Sys2Proof.Machine
open Sys2Proof Sys2Proof.Safety

/-! ### The soft reset (R197) -/

/-- The Screen Controller keeps the screens' sources. -/
theorem tame_softResetScreens (s : State) : Tame s (softResetScreens (softResetSync s)) := by
  have synced : Tame s (softResetSync s) := by apply tame_of_keyboard <;> simp
  refine synced.trans (Aside.tame (ScreensOnly.aside ?_) (sameScreens_of_current (by simp) fun i => ?_))
  · constructor <;> simp
  · rw [screenRec_softResetScreens, ScreenRec.afterReset]
    split <;> rfl

theorem tame_afterReleases (s : State) : Tame s (afterReleases s) :=
  tame_softResetKeys ((tame_softResetScreens s).trans (tame_softResetPointer _)) fun home =>
    noButtons_softResetPointer ((tame_softResetScreens s).buttons home)

theorem tame_softResetPower (c : Computer) (s : State) : Tame s (softResetPower c s) := by
  have stopped : Tame s (stopPulse c s) := by
    unfold stopPulse
    split
    · exact tame_endPulse c s
    · exact .refl s
  rw [softResetPower_eq]
  split
  · exact (stopped.trans (tame_setPowerRec (by rfl))).trans (tame_setPowerState (by rfl) _)
  · exact stopped

theorem tame_softResetDesk (s : State) : Tame s (softResetDesk s) := by
  unfold softResetDesk
  refine Tame.trans (tame_setDesk fun _ => ?_) (tame_followOutputs _)
  simp [IdleTimerRuns]

theorem tame_softResetBlocks (s : State) : Tame s (softResetBlocks s) := by
  rw [softResetBlocks_eq]
  have lines (t : State) : Tame t (softResetLines t) := by apply tame_of_keyboard <;> simp
  exact (((tame_afterReleases s).trans (lines _)).trans (tame_foldl (fun s c => tame_softResetPower c s) _ _)).trans
    (tame_softResetDesk _)

/-! ### The store (R195, R196) -/

theorem tame_stopSave (sv : Save) (st : SaveStep) (s : State) : Tame s (stopSave sv st s) := by apply tame_of_keyboard <;> rfl

theorem tame_failSave (sv : Save) (st : SaveStep) (s : State) : Tame s (failSave sv st s) :=
  (tame_stopSave sv st s).trans (tame_raise _ _)

theorem tame_cutSave (sv : Save) (s : State) : Tame s (cutSave sv s) := by
  unfold cutSave
  exact Tame.trans (t := countFree 1 s) (by apply tame_of_keyboard <;> rfl) (tame_failSave sv _ _)

theorem tame_saveComplete (r : SaveResult) (s : State) : Tame s (saveComplete r s) := by
  unfold saveComplete
  split
  · exact .refl s
  · split
    · exact Tame.trans (by apply tame_of_keyboard <;> rfl) (tame_raise _ _)
    · exact tame_failSave _ _ s

theorem tame_saveTimeout (s : State) : Tame s (saveTimeout s) := by
  unfold saveTimeout
  split
  · exact .refl s
  · exact (tame_reach _ s).trans (tame_cutSave _ _)

theorem tame_softResetSave (s : State) : Tame s (softResetSave s) := by
  unfold softResetSave
  split
  · exact tame_cutSave _ s
  · exact .refl s

theorem tame_endLoad (o : ProfileOutcome) (s : State) : Tame s (endLoad o s) := by
  unfold endLoad
  exact Tame.trans (t := setStore .ready s) (by apply tame_of_keyboard <;> rfl) (tame_raise _ _)

/-! ### Records taken from the link and from an image -/

/-- What is kept from a given state on is a law that every record's owner keeps. -/
theorem recordLaw_keeps (s : State) : RecordLaw (Keeps s) where
  reply t u same kept := kept.trans (Tame.keeps (by rw [same]; apply tame_of_keyboard <;> rfl))
  judged i t x h kept := kept.trans (keeps_judged i t x h)

theorem keeps_serve (s : State) : Keeps s (serve s) := (recordLaw_keeps s).serve_keeps s (.refl s)

theorem keeps_profileLoad (answered : Bool) (s : State) : Keeps s (profileLoad answered s) := by
  unfold profileLoad
  split
  · split
    · next t loaded =>
      exact ((recordLaw_keeps s).judgeImage_keeps answered s t loaded (.refl s)).trans
        ((tame_applyStart t).trans (tame_endLoad _ _)).keeps
    · exact (tame_endLoad _ s).keeps
    · exact (tame_endLoad _ s).keeps
  · exact .refl s

theorem tame_setLink (l : Link) (s : State) : Tame s (s.setLink l) := by apply tame_of_keyboard <;> rfl

theorem tame_judgeFrame (n : Nat) (bytes : List Byte) (check : Byte) (s : State) : Tame s (judgeFrame n bytes check s) := by
  apply tame_of_keyboard
  all_goals
    unfold judgeFrame placeCheck placeRecord enqueueMarker enqueue
    repeat' split
  all_goals simp

theorem keeps_byteArrives (b : Byte) (stopGood : Bool) (s : State) : Keeps s (byteArrives b stopGood s) := by
  unfold byteArrives
  split
  · unfold assemble
    split
    · split
      · exact (tame_setLink _ s).keeps
      · exact .refl s
    · split
      · exact (tame_setLink _ s).keeps
      · exact ((tame_setLink _ s).trans (tame_raise _ _)).keeps
    · exact (tame_setLink _ s).keeps
    · exact ((tame_setLink _ s).trans (tame_judgeFrame _ _ _ _)).keeps.trans (keeps_serve _)
  · exact .refl s

theorem tame_gapExpiry (s : State) : Tame s (gapExpiry s) := by
  unfold gapExpiry
  split
  · exact .refl s
  · exact ((tame_reach _ s).trans (tame_setLink _ _)).trans (tame_raise _ _)

theorem keeps_replySent (s : State) : Keeps s (replySent s) := by
  unfold replySent
  split
  · exact .refl s
  · exact (tame_setLink _ s).keeps.trans (keeps_serve _)

theorem keeps_softReset (s : State) : Keeps s (softReset s) := by
  have cleared (t : State) : Tame t (clearKinds allKinds t) := by apply tame_of_keyboard <;> simp
  unfold softReset
  exact (((((tame_setLink _ s).trans (tame_softResetBlocks _)).trans (cleared _)).trans (tame_softResetSave _)).trans
    ((tame_applyStart _).trans (tame_setLink _ _))).keeps.trans (keeps_serve _)

/-! ### The power-on reset (R16, R146) -/

/-- The laws of O57, O59 and O60 together. -/
structure Lawful (s : State) : Prop where
  accumulators : AccumulatorsFit s
  ballistics : BallisticsFit s
  coordinates : CoordinatesFit s
  idle : IdleTimerRuns s
  swallow : SwallowInside s
  held : HeldSetFits s
  keys : KeysHome s
  buttons : ButtonsHome s
  home : PointerHome s

theorem Keeps.lawful {s t : State} (h : Keeps s t) (laws : Lawful s) : Lawful t :=
  ⟨h.accumulators laws.accumulators, h.ballistics laws.ballistics, h.coordinates laws.coordinates, h.idle laws.idle,
    h.swallow laws.swallow, h.held laws.held, h.keys laws.keys, h.buttons laws.buttons, h.home laws.home⟩

theorem Lawful.keeps {t : State} (laws : Lawful t) (s : State) : Keeps s t :=
  ⟨fun _ => laws.accumulators, fun _ => laws.ballistics, fun _ => laws.coordinates, fun _ => laws.idle, fun _ => laws.swallow,
    fun _ => laws.held, fun _ => laws.keys, fun _ => laws.buttons, fun _ => laws.home⟩

theorem lawful_powerOnState (rateHigh : Bool) (s : State) : Lawful (powerOnState rateHigh s) := by
  have port (c : Computer) : (powerOnState rateHigh s).port c = .reset := by simp [State.port, powerOnState, State.reset]
  have screen (i : ScreenId) : (powerOnState rateHigh s).screenRect i = none := by
    simp [State.screenRect, powerOnState, State.reset, Layout.reset]
  have empty : Port.reset.committedKeys.isEmpty = true ∧ Port.reset.committedButtons = 0 := by decide
  constructor
  · simp [AccumulatorsFit, powerOnState, State.reset, PointerEngine.reset]
  · simp [BallisticsFit, powerOnState, State.reset, PointerEngine.reset]
  · refine ⟨fun c => ?_, fun c e h => ?_⟩
    · simp [powerOnState, State.reset, PointerEngine.reset]
    · rw [port] at h
      cases h
  · simp [IdleTimerRuns, powerOnState, Desk.resetAt]
  · simp [SwallowInside, powerOnState, State.reset, PointerEngine.reset, subBits]
  · simp [HeldSetFits, powerOnState, State.reset, KeyboardEngine.reset]
  · rw [keysHome_iff]
    intro c
    simp only [KeysFit, State.committedKeys, port, empty.1, implies_true, and_true]
    intro full
    simp [Port.reset] at full
  · rw [buttonsHome_iff]
    refine ⟨rfl, fun c => ?_⟩
    simp only [State.committedButtons, port, empty.2, implies_true, and_self]
  · refine ⟨⟨fun i r h => ?_, fun i j a b _ h => ?_⟩, rfl⟩
    · rw [screen] at h
      cases h
    · rw [screen] at h
      cases h

theorem tame_observeAttach (s : State) (a : Attach) : Tame s (observeAttach s a) := by
  cases a with
  | computer c => exact tame_busPowerAppears c s
  | desk p => exact tame_deskAttach p s

theorem keeps_powerOnReset (rateHigh : Bool) (observed : List Attach) (s : State) : Keeps s (powerOnReset rateHigh observed s) :=
  ((tame_foldl tame_observeAttach observed _).keeps.lawful (lawful_powerOnState rateHigh s)).keeps s

/-! ### Every command -/

theorem keeps_effect (i : Instr) (s : State) : Keeps s (effect i s) := by
  cases i
  case powerOnReset rateHigh observed => exact keeps_powerOnReset rateHigh observed s
  case profileLoadDone answered => exact keeps_profileLoad answered s
  case byteReceived b stopGood => exact keeps_byteArrives b stopGood s
  case gapTimerExpiry => exact (tame_gapExpiry s).keeps
  case replySent => exact keeps_replySent s
  case softReset => exact keeps_softReset s
  case saveComplete r => exact (tame_saveComplete r s).keeps
  case saveTimeout => exact (tame_saveTimeout s).keeps
  case syncEdge v t => exact ((tame_advanceTo t s).trans (tame_syncEdge v _)).keeps
  case lostTimerExpiry v => exact (tame_lostExpiry v s).keeps
  case lockInputChange i present => exact (tame_lockChange i present s).keeps
  case linkTimerExpiry i => exact (tame_linkExpiry i s).keeps
  case powerOnTimerExpiry i => exact (tame_powerOnExpiry i s).keeps
  case deskPointerReport bytes t => exact ((tame_advanceTo t s).trans (tame_pointerArrives bytes _)).keeps
  case pushDecayTimerExpiry => exact (tame_pushExpiry s).keeps
  case deskDeviceAttach p => exact (tame_deskAttach p s).keeps
  case deskDeviceDetach p => exact keeps_deskDetach p s
  case deskKeyboardReport bytes t => exact (tame_advanceTo t s).keeps.trans (keeps_keysArrive bytes _)
  case stuckTimerExpiry code => exact (tame_stuckExpiry code s).keeps
  case windowTimerExpiry => exact (tame_windowExpiry s).keeps
  case lineLevelChange l high => exact (tame_lineLevel l high s).keeps
  case filterTimerExpiry l => exact (tame_filterExpiry l s).keeps
  case busPowerAppears c => exact (tame_busPowerAppears c s).keeps
  case configurationSelected c => exact (tame_configurationSelected c s).keeps
  case busIdle c => exact (tame_busIdle c s).keeps
  case busActivity c => exact (tame_busActivity c s).keeps
  case configurationDeselected c => exact (tame_configurationDeselected c s).keeps
  case busReset c => exact (tame_busReset c s).keeps
  case busPowerDisappears c => exact (tame_busPowerDisappears c s).keeps
  case keyboardPoll c => exact (tame_pollKeys c s).keeps
  case pointerPoll c => exact (tame_pollPointer c s).keeps
  case currentStateRequest c f => exact (tame_currentState c f s).keeps
  case lampWrite c lamps => exact (tame_lampWrite c lamps s).keeps
  case remoteWakeChange c granted => exact (tame_remoteWakeChange c granted s).keeps
  case attemptTimerExpiry c => exact (tame_attemptExpiry c s).keeps
  case wakePulseExpiry c => exact (tame_pulseExpiry c s).keeps
  case idleThresholdReached => exact (tame_idleReached s).keeps
  case motionWindowExpiry => exact (tame_motionExpiry s).keeps
  all_goals exact .refl s

/-- What every step keeps of a given law that the nine relations keep. -/
theorem kept_of_keeps {law : State → Prop} (kept : ∀ {s t : State}, Keeps s t → law s → law t) : Kept law :=
  CommandLaw.kept
    { reply := fun s t same => kept ((recordLaw_keeps s).reply s t same (.refl s))
      judged := fun i s x h => kept (keeps_judged i s x h)
      event := fun i s _ => kept (keeps_effect i s)
      queue := fun s _ => kept (Tame.keeps (by apply tame_of_keyboard <;> rfl))
      tick := fun s => kept (Tame.keeps (by apply tame_of_keyboard <;> rfl)) }

/-- Settles O57: every command keeps the place on an eligible screen of the focused computer, or parked. -/
theorem pointerHomeKept : Obligations.PointerHomeKept := kept_of_keeps Keeps.home

/-- Settles O59: every command keeps the held set, the committed keys and buttons at their computers, and the swallow set inside. -/
theorem heldAndReleasedKept : Obligations.HeldAndReleasedKept :=
  ⟨kept_of_keeps Keeps.held, kept_of_keeps Keeps.keys, kept_of_keeps Keeps.buttons, kept_of_keeps Keeps.swallow⟩

/-- Settles O60: every command keeps the ranges and the idle timer. -/
theorem rangesKept : Obligations.RangesKept :=
  ⟨kept_of_keeps Keeps.accumulators, kept_of_keeps Keeps.ballistics, kept_of_keeps Keeps.coordinates, kept_of_keeps Keeps.idle⟩

end Sys2Proof.Machine
end

section
/-!
PROOFS, what a soft reset releases (O8), and the ballistics settings and the barrier (O29).
-/

set_option Elab.async false
namespace Sys2Proof.Machine
open Sys2Proof Sys2Proof.Safety

/-! ### What a soft reset releases (O8) -/

theorem softResetPowers_ports (s : State) : (softResetPowers s).ports = s.ports :=
  foldl_leaves State.ports _ (fun s c => by simp) allComputers s

/-- After the keys' release the later blocks leave the ports. -/
theorem settled_ports (s : State) : (settled s).ports = (afterReleases s).ports := by
  rw [settled, (softResetSave_keeps _).2.2.2.2.2.2.1]
  simp [softResetBlocks_eq, softResetPowers_ports]

/-- The releases of R85 and R113 leave nothing committed. -/
theorem nothingCommitted_afterReleases {s : State} (keys : KeysHome s) (buttons : ButtonsHome s) (c : Computer) :
    ((afterReleases s).committedKeys c).isEmpty = true ∧ (afterReleases s).committedButtons c = 0 := by
  have before := tame_softResetScreens s
  have released := noButtons_softResetPointer (before.buttons buttons)
  have home := (before.trans (tame_softResetPointer _)).keys keys
  have ports : (afterReleases s).ports = (keysReleased (softResetPointer (softResetScreens (softResetSync s)))).ports := by
    rw [afterReleases, softResetKeys_eq]
    simp
  simp only [State.committedKeys, State.committedButtons, State.port, ports]
  exact ⟨noKeys_keysReleased home c, noButtons_keysReleased released c⟩

/-- Settles O8: every button is released before the pointer goes home, every key after it, and no later block hands an entry. -/
theorem softResetReleasesEveryPort : Obligations.SoftResetReleasesEveryPort := by
  intro s keys buttons queue start
  refine ⟨_, exec_softReset queue start, fun c => ?_⟩
  have released := nothingCommitted_afterReleases (s := allSent s) keys buttons c
  have port : ((settled (allSent s)).setLink { s.link with replies := [], resetDue := false }).port c =
      (afterReleases (allSent s)).port c := by
    simp only [State.port, State.setLink_ports, settled_ports]
  simp only [State.committedKeys, State.committedButtons, port] at released ⊢
  exact released

/-! ### The settings and the barrier (O29) -/

theorem PointerEngine.gain_bands (p : PointerEngine) (v : Nat) (h12 : p.t1 < p.t2) (h23 : p.t2 < p.t3) :
    (v < p.t1 → p.gain v = p.g0) ∧ (p.t1 ≤ v → v < p.t2 → p.gain v = p.g1) ∧
    (p.t2 ≤ v → v < p.t3 → p.gain v = p.g2) ∧ (p.t3 ≤ v → p.gain v = p.g3) := by
  refine ⟨fun h => ?_, fun h k => ?_, fun h k => ?_, fun h => ?_⟩ <;> unfold PointerEngine.gain
  · rw [if_pos h]
  · rw [if_neg (by omega), if_pos k]
  · rw [if_neg (by omega), if_neg (by omega), if_pos k]
  · rw [if_neg (by omega), if_neg (by omega), if_neg (by omega)]

/-- A focus request leaves the push record and the place (R101). -/
theorem glideNotice_pointer_leaves (c : Computer) (s : State) : (glideNotice c s).pointer.place = s.pointer.place ∧
    (glideNotice c s).pointer.focus = s.pointer.focus ∧ (glideNotice c s).pointer.push = s.pointer.push ∧
    (glideNotice c s).pointer.lastAbs = s.pointer.lastAbs ∧ (glideNotice c s).pointer.rx = s.pointer.rx ∧
    (glideNotice c s).pointer.ry = s.pointer.ry ∧ (glideNotice c s).pointer.buttons = s.pointer.buttons ∧
    (glideNotice c s).pointer.lastInterval = s.pointer.lastInterval := by
  obtain same | asked := glideNotice_cases c s
  · rw [same]
    simp
  · rw [asked, focusRequest_pointer]
    split
    · simp
    · rw [focusReleased_pointer]
      simp

/-- A crossing takes the pointer onto the screen and the pointer focus to its computer, and clears the push (R68, R77). -/
theorem cross_pointer (i : ScreenId) (c : Computer) (tx ty : Int) (s : State) :
    (cross i c tx ty s).pointer.place = some ⟨i, tx.toNat, ty.toNat⟩ ∧ (cross i c tx ty s).pointer.focus = some c ∧
    (cross i c tx ty s).pointer.push = none := by
  simp only [cross, glideNotice_pointer_leaves, pointerFocusChange_pointer_leaves, setPlace_pointer, setPush_pointer, and_self]

theorem pushAcross_below {c : Computer} {s : State} (free : crossingBlocked c s = false) {i0 i : ScreenId} {r : Rect} {tx ty : Int}
    (below : accrued s.pointer.push i (max (outside r.x r.w tx) (outside r.y r.h ty)) < s.pointer.barrier) :
    pushAcross i0 r i c tx ty s = clampTo i0 r tx ty
      (setPush (some ⟨i, accrued s.pointer.push i (max (outside r.x r.w tx) (outside r.y r.h ty)), s.timer 300⟩) s) := by
  simp only [pushAcross, free, Bool.false_eq_true, if_false, if_neg (Nat.not_le.2 below)]

theorem pushAcross_reached {c : Computer} {s : State} (free : crossingBlocked c s = false) {i0 i : ScreenId} {r : Rect} {tx ty : Int}
    (reached : s.pointer.barrier ≤ accrued s.pointer.push i (max (outside r.x r.w tx) (outside r.y r.h ty))) :
    pushAcross i0 r i c tx ty s = cross i c tx ty s := by
  simp only [pushAcross, free, Bool.false_eq_true, if_false, if_pos reached]

theorem pushAcross_blocked {c : Computer} {s : State} (blocked : crossingBlocked c s = true) (i0 i : ScreenId) (r : Rect) (tx ty : Int) :
    pushAcross i0 r i c tx ty s = clampTo i0 r tx ty s := by
  simp only [pushAcross, blocked, if_true]

/-- A soft reset keeps the settings, and turns glide lock off unless a start scene is applied after it (R60, R85). -/
theorem exec_softReset_pointer {s : State} (queue : s.link.queue = []) : ∃ t, exec .softReset s = .next t ∧
    t.pointer.settings = s.pointer.settings ∧ (s.screens.startScene = none → t.pointer.glideLock = false) := by
  have ended (u : State) (empty : u.link.queue = []) : serve (u.setLink { u.link with resetDue := false }) =
      u.setLink { u.link with resetDue := false } := serve_of_empty empty
  have start : (settled (allSent s)).screens.startScene = s.screens.startScene := by
    simp only [settled_keeps, softResetBlocks_settings]
    rfl
  have pointer := settled_pointer (allSent s)
  have queued : (applyStart (settled (allSent s))).link.queue = [] := by
    simp only [applyStart_leaves, settled_keeps]
    exact queue
  have run : softReset s.fresh = serve ((applyStart (settled (allSent s))).setLink
      { (applyStart (settled (allSent s))).link with resetDue := false }) := by
    have link : s.fresh.link = s.link := rfl
    unfold softReset
    dsimp only
    rw [← settled, link, ← allSent]
  refine ⟨_, (exec_event .softReset s rfl).trans (congrArg Host.Outcome.next run), ?_, fun none => ?_⟩
  · rw [ended _ queued, State.setLink_pointer, (tame_applyStart _).settings]
    obtain ⟨-, -, -, -, -, -, barrier, -, thresholds, gains⟩ := pointer
    simp only [Prod.mk.injEq] at thresholds gains
    simp only [PointerEngine.settings, barrier, thresholds, gains]
    rfl
  · have skipped : applyStart (settled (allSent s)) = settled (allSent s) := by
      unfold applyStart
      rw [start, none]
    rw [ended _ queued, State.setLink_pointer, skipped]
    exact pointer.2.2.2.1

theorem onlyChanges_setPointer (p : PointerEngine) (s : State) : OnlyChanges [.pointer] s (s.fresh.setPointer p) := by
  intro q hq
  cases q <;> first | rfl | simp at hq

/-- Settles O29: the records check their fields and write them, later reports read them, and a soft reset leaves them. -/
theorem ballisticsSettings : Obligations.BallisticsSettings := by
  refine ⟨by decide, fun t1 t2 t3 g0 g1 g2 g3 b s busy => ?_, fun t1 t2 t3 g0 g1 g2 g3 s ready out => ?_,
    fun t1 t2 t3 g0 g1 g2 g3 s ready wf h1 h12 h23 l0 l1 l2 l3 => ?_, fun b s ready fits => ?_, PointerEngine.gain_bands,
    fun i0 i r c tx ty s free below => ?_, fun i0 i r c tx ty s free reached => ?_, fun s queue => ?_⟩
  · have notReady : s.fresh.profile.state ≠ .ready := by
      change s.profile.state ≠ .ready
      obtain loading | saving := busy
      · simp [loading]
      · simp [saving]
    exact ⟨exec_refused rfl (whenReady_busy (judgeSetBallistics t1 t2 t3 g0 g1 g2 g3) _ notReady),
      exec_refused rfl (whenReady_busy (judgeSetGlide b) _ notReady)⟩
  · refine exec_ready_refused (j := judgeSetBallistics t1 t2 t3 g0 g1 g2 g3) rfl rfl ready (if_neg ?_)
    simp only [List.all_cons, List.all_nil, Bool.and_true, Bool.and_eq_true, decide_eq_true_eq]
    omega
  · have fields : [t1, t2, t3, g0, g1, g2, g3].all (fun n => decide (1 ≤ n) && decide (n ≤ 255)) = true ∧ t1 < t2 ∧ t2 < t3 := by
      simp only [Instr.wf, List.all_cons, List.all_nil, fitsByte, Bool.and_true, Bool.and_eq_true, decide_eq_true_eq] at wf ⊢
      omega
    exact ⟨_, exec_answered rfl (handled_ready (j := judgeSetBallistics t1 t2 t3 g0 g1 g2 g3) rfl ready (if_pos fields)),
      answers_sendReply rfl, rfl, onlyChanges_reply _ _ (onlyChanges_setPointer _ s)⟩
  · exact ⟨_, exec_answered rfl (handled_ready (j := judgeSetGlide b) rfl ready (if_pos fits)), answers_sendReply rfl, rfl,
      onlyChanges_reply _ _ (onlyChanges_setPointer _ s)⟩
  · rw [pushAcross_below free below]
    rfl
  · rw [pushAcross_reached free reached]
    obtain ⟨place, focus, push⟩ := cross_pointer i c tx ty s
    exact ⟨push, place, focus⟩
  · obtain ⟨t, run, settings, lock⟩ := exec_softReset_pointer queue
    simp only [PointerEngine.settings, List.cons.injEq, and_true] at settings
    obtain ⟨t1, t2, t3, g0, g1, g2, g3, barrier⟩ := settings
    exact ⟨t, run, by rw [t1, t2, t3], by rw [g0, g1, g2, g3], barrier, lock⟩

end Sys2Proof.Machine
end

section
/-!
PROOFS, wakes and entries exactly: the power record and the signal that a wake request leaves, which entries send one, and what handing
a pointer entry does (R150, R151, R154 to R156, R166 to R169, R172).
-/

set_option Elab.async false
namespace Sys2Proof.Machine
open Sys2Proof Sys2Proof.Safety

/-! ### The first attempt of a wake (R166 to R169) -/

theorem hasMethod_iff (c : Computer) (s : State) :
    s.hasMethod c = true ↔ (s.port c).permission = true ∨ (s.computer c).wakeLine = true := by
  simp [State.hasMethod]

theorem attemptMethod_first {c : Computer} {s : State} (method : s.hasMethod c = true) : attemptMethod s c 1 = some
    (if (s.port c).permission = true ∧ ¬((s.computer c).maxAttempts = 1 ∧ (s.computer c).wakeLine = true) then .link else .line) := by
  rw [hasMethod_iff] at method
  have first : 1 = (s.computer c).maxAttempts ↔ (s.computer c).maxAttempts = 1 := eq_comm
  simp only [attemptMethod, first]
  by_cases permission : (s.port c).permission = true <;> by_cases line : (s.computer c).wakeLine = true <;>
    by_cases last : (s.computer c).maxAttempts = 1 <;> simp [permission, line, last] at method ⊢

theorem powerRec_raise (e : Event) (s : State) (c : Computer) : (raise e s).powerRec c = s.powerRec c := by simp [State.powerRec]

/-- A computer whose first attempt has been made: its record, the event and the signal. -/
structure FirstWoken (c : Computer) (s t : State) : Prop where
  record : t.powerRec c = firstAttempt c s.now s
  raised : Raised (.computerState c) t
  signal : (firstAttempt c s.now s).method = some .link → (s.port c).observed = .suspended → .resumeSignal c ∈ t.out

theorem startAttempt_first {c : Computer} {s : State} (method : s.hasMethod c = true) :
    (startAttempt false c 1 s).powerRec c = { firstAttempt c s.now s with state := s.powerState c } ∧
    ((firstAttempt c s.now s).method = some .link → (s.port c).observed = .suspended →
      .resumeSignal c ∈ (startAttempt false c 1 s).out) := by
  simp only [startAttempt, attemptMethod_first method]
  by_cases link : (s.port c).permission = true ∧ ¬((s.computer c).maxAttempts = 1 ∧ (s.computer c).wakeLine = true)
  · simp only [firstAttempt, if_pos link, signalWake, linkWake]
    split
    · refine ⟨?_, fun _ _ => by simp⟩
      rw [State.powerRec, State.emit_power, ← State.powerRec]
      simp [State.powerState, State.timer]
    · next off =>
      refine ⟨?_, fun _ suspended => absurd ⟨trivial, suspended, link.1⟩ off⟩
      simp [State.powerState, State.timer]
  · simp only [firstAttempt, if_neg link, signalWake, startPulse]
    refine ⟨?_, by simp⟩
    split
    · next running =>
      have running : ¬(s.powerRec c).pulse = none := by
        intro none
        simp [none] at running
      simp [State.powerState, State.timer, running]
    · next idle =>
      have idle : (s.powerRec c).pulse = none := by simpa using idle
      simp [State.powerState, State.timer, idle, State.computer]

theorem firstWoken_wakeRequest {c : Computer} {s : State} (down : (s.powerState c).down = true) (method : s.hasMethod c = true) :
    FirstWoken c s (wakeRequest c s) := by
  have changed : (changePower c .waking s).powerRec c = { s.powerRec c with state := .waking } := by
    rw [changePower, powerRec_raise, powerRec_setPowerState, if_pos rfl]
  have reads : (changePower c .waking s).port c = s.port c ∧ (changePower c .waking s).computer c = s.computer c ∧
      (changePower c .waking s).now = s.now := by simp [State.port, State.computer]
  have method' : (changePower c .waking s).hasMethod c = true := by simpa using method
  have same : firstAttempt c (changePower c .waking s).now (changePower c .waking s) = firstAttempt c s.now s := by
    simp only [firstAttempt, changed, reads]
  obtain ⟨record, signal⟩ := startAttempt_first method'
  rw [same] at record signal
  rw [reads.1] at signal
  rw [wakeRequest_method down method]
  refine ⟨record.trans ?_, ?_, signal⟩
  · rw [State.powerState, changed]
    rfl
  · rw [Raised, event_of_status (startAttempt_status false c 1 _ method')]
    exact raised_raise (.computerState c) _

/-! ### Input notices (R172) -/

theorem inputWakes_iff (c : Computer) (s : State) : InputWakes c s ↔ ((s.powerState c).down && s.hasMethod c) = true ∧
    ((s.computer c).inputWake = .always ∨ ((s.computer c).inputWake = .once ∧ (s.powerRec c).armed = true)) := by
  have down : (s.powerState c = .asleep ∨ s.powerState c = .unresponsive) ↔ (s.powerState c).down = true := by
    cases s.powerState c <;> simp [PowerState.down]
  simp only [InputWakes, down, ← hasMethod_iff, Bool.and_eq_true, and_assoc]

/-- A notice that wakes leaves the first attempt's record, disarmed in mode ONCE. -/
theorem inputNotice_wakes {c : Computer} {s : State} (wakes : InputWakes c s) :
    Raised (.computerState c) (inputNotice c s) ∧ (inputNotice c s).powerRec c =
      { firstAttempt c s.now s with armed := (s.powerRec c).armed && decide ((s.computer c).inputWake ≠ .once) } ∧
    ((firstAttempt c s.now s).method = some .link → (s.port c).observed = .suspended →
      .resumeSignal c ∈ (inputNotice c s).out) := by
  rw [inputWakes_iff] at wakes
  obtain ⟨ready, mode⟩ := wakes
  obtain ⟨down, method⟩ := Bool.and_eq_true_iff.1 ready
  unfold inputNotice
  rw [if_pos ready]
  obtain always | ⟨once, armed⟩ := mode
  · have woken := firstWoken_wakeRequest down method
    simp only [always]
    exact ⟨woken.raised, by rw [woken.record]; simp [firstAttempt], woken.signal⟩
  · have woken := firstWoken_wakeRequest (c := c) (s := s.setPowerRec c { s.powerRec c with armed := false })
      (by rw [State.powerState_setPowerRec, if_pos rfl]; exact down) (by simpa using method)
    have disarmed : firstAttempt c s.now (s.setPowerRec c { s.powerRec c with armed := false }) =
        { firstAttempt c s.now s with armed := false } := by
      have port : (s.setPowerRec c { s.powerRec c with armed := false }).port c = s.port c := rfl
      have computer : (s.setPowerRec c { s.powerRec c with armed := false }).computer c = s.computer c := rfl
      have record : (s.setPowerRec c { s.powerRec c with armed := false }).powerRec c = { s.powerRec c with armed := false } := by
        rw [State.powerRec_setPowerRec, if_pos rfl]
      simp only [firstAttempt, port, computer, record]
    simp only [once, armed, if_true]
    refine ⟨woken.raised, woken.record.trans (disarmed.trans ?_), fun link suspended => woken.signal ?_ suspended⟩
    · simp
    · rw [show (s.setPowerRec c { s.powerRec c with armed := false }).now = s.now from rfl, disarmed]
      exact link

theorem inputNotice_idle {c : Computer} {s : State} (idle : ¬InputWakes c s) : inputNotice c s = s := by
  rw [inputWakes_iff, not_and_or] at idle
  unfold inputNotice
  split
  · next ready =>
    have mode := idle.resolve_left (not_not.2 ready)
    split
    · rfl
    · next always => exact absurd (.inl always) mode
    · next once =>
      rw [if_neg fun armed => mode (.inr ⟨once, armed⟩)]
  · rfl

/-! ### Pointer entries (R150, R151, R154 to R156) -/

theorem pointerReleaseOnly_iff (p : Port) (x y : Nat) (b : ButtonSet) (w : Int) :
    pointerReleaseOnly p x y b w = true ↔ ReleaseOnly x y b w p := by
  simp only [pointerReleaseOnly, ReleaseOnly, subBits, Bool.and_eq_true, beq_iff_eq, and_assoc, eq_comm (a := x), eq_comm (a := y)]

theorem pointerNotice_of_release {c : Computer} {x y : Nat} {b : ButtonSet} {w : Int} {s : State}
    (only : ReleaseOnly x y b w (s.port c)) : pointerNotice c x y b w s = s :=
  if_pos ((pointerReleaseOnly_iff _ _ _ _ _).2 only)

theorem pointerNotice_of_input {c : Computer} {x y : Nat} {b : ButtonSet} {w : Int} {s : State}
    (input : ¬ReleaseOnly x y b w (s.port c)) : pointerNotice c x y b w s = inputNotice c s :=
  if_neg fun only => input ((pointerReleaseOnly_iff _ _ _ _ _).1 only)

theorem refusedOf_eq_zero {b : ButtonSet} {p : Port} (h : p.queue.any Entry.isPointer = true ∨ p.queue.length < 28) :
    refusedOf b p = 0 := by
  refine if_neg fun ⟨long, keys⟩ => ?_
  obtain h | h := h
  · obtain ⟨e, mem, pointer⟩ := List.any_eq_true.1 h
    rw [keys e mem] at pointer
    cases pointer
  · omega

/-- Placing an entry writes the port, and reports the buttons it refuses (R154, R155). -/
theorem placePointer_eq (c : Computer) (x y : Nat) (b : ButtonSet) (w : Int) (s : State) :
    ∃ q, placePointer c x y b w s = refuseButtons c (refusedOf b (s.port c)) (s.setPort c q) := by
  have none_refused (t : State) (h : refusedOf b (s.port c) = 0) : t = refuseButtons c (refusedOf b (s.port c)) t := by
    rw [h]
    exact (if_pos rfl).symm
  unfold placePointer
  dsimp only
  split
  · next tail =>
    obtain ⟨x0, y0, w0, last⟩ := (Port.tailHasButtons_iff _ _).1 tail
    exact ⟨_, none_refused _ (refusedOf_eq_zero (.inl (List.any_eq_true.2 ⟨_, List.mem_of_getLast? last, rfl⟩)))⟩
  · split
    · next short => exact ⟨_, none_refused _ (refusedOf_eq_zero (.inr short))⟩
    · next long =>
      split
      · next waits => exact ⟨_, none_refused _ (refusedOf_eq_zero (.inl waits))⟩
      · next none_waits =>
        have refused : refusedOf b (s.port c) = (s.port c).refusedButtons b :=
          if_pos ⟨by simpa [reserveDepth] using long, by simpa using none_waits⟩
        exact ⟨_, by rw [refused]⟩

/-- The report of an entry that is placed: KEYS_DROPPED for the buttons refused, and no event without (R155, R156). -/
theorem placePointer_reports (c : Computer) (x y : Nat) (b : ButtonSet) (w : Int) (s : State) :
    (refusedOf b (s.port c) ≠ 0 → Raised (.keysDropped c) (placePointer c x y b w s)) ∧
    (refusedOf b (s.port c) = 0 → (placePointer c x y b w s).status = s.status) := by
  obtain ⟨q, placed⟩ := placePointer_eq c x y b w s
  rw [placed]
  refine ⟨fun refused => ?_, fun none => ?_⟩
  · rw [refuseButtons, if_neg refused]
    exact raised_raise _ _
  · rw [refuseButtons, if_pos none]
    rfl

/-- What placing an entry leaves, seen at the computer's record and the events but KEYS_DROPPED. -/
theorem placePointer_passes (c : Computer) (x y : Nat) (b : ButtonSet) (w : Int) (s : State) :
    (placePointer c x y b w s).powerRec c = s.powerRec c ∧ (placePointer c x y b w s).out = s.out ∧
    ∀ k, k ≠ .keysDropped → (placePointer c x y b w s).event k = s.event k :=
  ⟨by simp [State.powerRec], by simp, fun k hk => event_placePointer c x y b w s k hk⟩

/-- What a notice does before an entry of input is placed, and that an entry without input sends none. -/
theorem pointerNotice_facts (c : Computer) (x y : Nat) (b : ButtonSet) (w : Int) (s : State) :
    (InputWakes c s → ¬ReleaseOnly x y b w (s.port c) → Raised (.computerState c) (pointerNotice c x y b w s) ∧
      (pointerNotice c x y b w s).powerRec c =
        { firstAttempt c s.now s with armed := (s.powerRec c).armed && decide ((s.computer c).inputWake ≠ .once) } ∧
      ((firstAttempt c s.now s).method = some .link → (s.port c).observed = .suspended →
        .resumeSignal c ∈ (pointerNotice c x y b w s).out)) ∧
    (¬InputWakes c s ∨ ReleaseOnly x y b w (s.port c) → pointerNotice c x y b w s = s) ∧
    (pointerNotice c x y b w s).event .keysDropped = s.event .keysDropped := by
  refine ⟨fun wakes input => ?_, fun idle => ?_, ?_⟩
  · rw [pointerNotice_of_input input]
    exact inputNotice_wakes wakes
  · obtain idle | only := idle
    · obtain same | same := pointerNotice_eq c x y b w s
      · exact same
      · rw [same, inputNotice_idle idle]
    · exact pointerNotice_of_release only
  · obtain same | same := pointerNotice_eq c x y b w s
    · rw [same]
    · rw [same, event_inputNotice c s _ (by decide)]

/-- Handing a pointer entry for a computer does what R151, R154 to R156 and R172 say. -/
theorem pointerTaken_takePointer (c : Computer) (x y : Nat) (b : ButtonSet) (w : Int) (s : State) :
    PointerTaken c x y b w s.pointer.swallow s.now s (takePointer c x y b w s) := by
  obtain ⟨wakes, idle, dropped⟩ := pointerNotice_facts c x y b w s
  refine ⟨othersKept_takePointer c x y b w s, ?_⟩
  have taken := takePointer_taken c x y b w s
  have port : (pointerNotice c x y b w s).port c = s.port c := by simp [State.port]
  by_cases away : ((pointerNotice c x y b w s).powerState c).away = true
  · have same : takePointer c x y b w s = pointerNotice c x y b w s := by rw [takePointer_eq, if_pos away]
    rw [same]
    refine ⟨wakes, fun h => by rw [idle h], ?_⟩
    rw [if_pos ((PowerState.away_iff _).1 away)]
    exact ⟨port, by simp, dropped⟩
  · have same : takePointer c x y b w s = placePointer c x y b w (pointerNotice c x y b w s) := by rw [takePointer_eq, if_neg away]
    obtain ⟨record, out, events⟩ := placePointer_passes c x y b w (pointerNotice c x y b w s)
    obtain ⟨refused, none⟩ := placePointer_reports c x y b w (pointerNotice c x y b w s)
    have present : ¬((takePointer c x y b w s).powerState c).away = true := by rwa [same, State.powerState, record]
    obtain ⟨gone, -⟩ | ⟨-, placed, pointer⟩ := taken
    · exact absurd gone present
    · rw [port] at refused none
      rw [PowerState.away_iff] at present
      rw [if_neg present]
      rw [same] at placed pointer ⊢
      refine ⟨fun w i => ?_, fun h => by rw [record, idle h], placed, by rw [pointer], refused, fun h => ?_⟩
      · obtain ⟨raised, rec', signal⟩ := wakes w i
        refine ⟨?_, record.trans rec', fun link suspended => out ▸ signal link suspended⟩
        rwa [Raised, events _ (by simp [Event.kind])]
      · rw [event_of_status (none h), dropped]

end Sys2Proof.Machine
end

section
/-!
PROOFS, pointer reports step by step: what arrival notes, what the report is as activity, and what ballistics, glide and the entry leave
of the Pointer Engine (R61 to R67, R180).
-/

set_option Elab.async false
namespace Sys2Proof.Machine
open Sys2Proof Sys2Proof.Safety

/-! ### Arrival (R61) -/

/-- The state a well-formed report is taken in: the time and the port's last report are noted, and the interval begins. -/
def notedReport (t0 : Nat) (s : State) : State :=
  ((s.fresh.advanceTo t0).setKeyboard { s.keyboard with ptrPort := { s.keyboard.ptrPort with lastReport := some (max s.now t0) } }).setPointer
    { s.pointer with lastInterval := some (max s.now t0) }

/-- What is as it was when a report is taken. -/
theorem notedReport_leaves (t0 : Nat) (s : State) :
    (notedReport t0 s).link = s.link ∧ (notedReport t0 s).status = s.status ∧ (notedReport t0 s).profile = s.profile ∧
    (notedReport t0 s).layout = s.layout ∧ (notedReport t0 s).sync = s.sync ∧ (notedReport t0 s).screens = s.screens ∧
    (notedReport t0 s).matcher = s.matcher ∧ (notedReport t0 s).lines = s.lines ∧ (notedReport t0 s).ports = s.ports ∧
    (notedReport t0 s).power = s.power ∧ (notedReport t0 s).desk = s.desk ∧ (notedReport t0 s).freeCount = s.freeCount ∧
    (notedReport t0 s).pending = s.pending ∧ (notedReport t0 s).now = max s.now t0 :=
  ⟨rfl, rfl, rfl, rfl, rfl, rfl, rfl, rfl, rfl, rfl, rfl, rfl, rfl, rfl⟩

theorem exec_report {b : Byte} {s : State} (present : s.keyboard.ptrPort.state = .present) (good : b &&& 0xE0 = 0) (x y w : Byte)
    (t0 : Nat) : exec (.deskPointerReport [b, x, y, w] t0) s = .next (takeReport ⟨b.setWidth 5, count x, count y, count w⟩
      (interval s.pointer.lastInterval (max s.now t0)) (notedReport t0 s)) := by
  have parsed : PointerReport.parse [b, x, y, w] = some ⟨b.setWidth 5, count x, count y, count w⟩ := if_pos good
  rw [exec_event _ s rfl]
  refine congrArg _ ?_
  change pointerArrives [b, x, y, w] (s.fresh.advanceTo t0) = _
  have present' : (s.fresh.advanceTo t0).keyboard.ptrPort.state = .present := present
  simp only [pointerArrives, if_pos present', parsed]
  rfl

/-! ### The report as activity (R180) -/

/-- A pointer report qualifies as activity by a pressed button, a wheel, or its motion. -/
def Desk.reportQualifies (pressed : ButtonSet) (wheel : Int) (m : Nat) (d : Desk) : Bool :=
  decide (pressed ≠ 0 ∨ wheel ≠ 0 ∨ (m ≠ 0 ∧ d.deadZone ≤ d.windowSum m))

/-- The motion window after a report at a time. -/
def Desk.windowAfter (n m : Nat) (d : Desk) : Option MotionWindow :=
  if m = 0 then d.window else if d.deadZone ≤ d.windowSum m then none
  else some ⟨d.windowSum m, (d.window.map MotionWindow.timer).getD ⟨n, 500000⟩⟩

theorem takeMotion_eq (m : Nat) (s : State) : takeMotion m s =
    (s.setDesk { s.desk with window := s.desk.windowAfter s.now m }, decide (m ≠ 0 ∧ s.desk.deadZone ≤ s.desk.windowSum m)) := by
  unfold takeMotion Desk.windowAfter
  by_cases none : m = 0
  · simp [none]
    rfl
  · by_cases reached : s.desk.deadZone ≤ s.desk.windowSum m
    · simp [none, reached]
    · simp [none, reached, State.timer]

theorem offerReport_eq (pressed : ButtonSet) (wheel : Int) (m : Nat) (s : State) : offerReport pressed wheel m s =
    if s.desk.reportQualifies pressed wheel m then
      (qualify (s.setDesk { s.desk with window := s.desk.windowAfter s.now m })).1
    else s.setDesk { s.desk with window := s.desk.windowAfter s.now m } := by
  have same : (decide (m ≠ 0 ∧ s.desk.deadZone ≤ s.desk.windowSum m) = true ∨ pressed ≠ 0 ∨ wheel ≠ 0) ↔
      s.desk.reportQualifies pressed wheel m = true := by
    simp only [Desk.reportQualifies, decide_eq_true_eq]
    constructor
    · rintro (moved | rest)
      · exact .inr (.inr moved)
      · exact rest.imp_right .inl
    · rintro (press | turn | moved)
      · exact .inr (.inl press)
      · exact .inr (.inr turn)
      · exact .inl moved
  simp only [offerReport, takeMotion_eq]
  by_cases q : s.desk.reportQualifies pressed wheel m = true
  · rw [if_pos (same.2 q), if_pos q]
  · rw [if_neg (mt same.1 q), if_neg q]

/-- The desk record after a report on an ACTIVE desk. -/
def Desk.offered (n : Nat) (pressed : ButtonSet) (wheel : Int) (m : Nat) (d : Desk) : Desk :=
  { d with
    idleStart := if d.reportQualifies pressed wheel m then some n else d.idleStart
    window := d.windowAfter n m }

theorem offerReport_active {s : State} (active : s.desk.state = .active) (pressed : ButtonSet) (wheel : Int) (m : Nat) :
    offerReport pressed wheel m s = s.setDesk (s.desk.offered s.now pressed wheel m) := by
  rw [offerReport_eq]
  split
  · next q =>
    have active' : (s.setDesk { s.desk with window := s.desk.windowAfter s.now m }).desk.state = .active := active
    rw [qualify, if_pos active']
    simp only [Desk.offered, q, if_true]
    rfl
  · next q =>
    simp only [Desk.offered, q]
    rfl

/-- A report on an ACTIVE desk: the desk's record is written, and the report is taken. -/
theorem takeReport_active {s : State} (active : s.desk.state = .active) (r : PointerReport) (t : Nat) : takeReport r t s =
    activeReport r t (s.setDesk (s.desk.offered s.now (s.pressedBy r.buttons) r.wheel (r.dx.natAbs + r.dy.natAbs))) := by
  simp only [takeReport, if_pos active, offerReport_active active]

/-! ### Ballistics and glide, at the Pointer Engine -/

theorem clickTake_pointer (b : ButtonSet) (s : State) : ∃ swallow, (clickTake b s).pointer = { s.pointer with swallow := swallow } := by
  have asked (c : Computer) : ∃ swallow, (focusRequest false c s).pointer = { s.pointer with swallow := swallow } := by
    rw [focusRequest_pointer]
    split
    · exact ⟨s.pointer.swallow, rfl⟩
    · exact ⟨_, focusReleased_pointer s⟩
  unfold clickTake
  split
  · exact ⟨s.pointer.swallow, rfl⟩
  · next c _ =>
    obtain ⟨swallow, same⟩ := asked c
    dsimp only
    split
    · exact ⟨swallow ||| b, by rw [swallowButtons, State.setPointer_pointer, same]⟩
    · exact ⟨swallow, same⟩

/-- A pointer that is not parked glides to a place with its push record, or crosses to another computer (R65). -/
theorem glide_cases {p : Place} {s : State} (place : s.pointer.place = some p) (tx ty : Int) :
    (∃ q push, glide tx ty s = s.setPointer { s.pointer with place := some q, push := push }) ∨
    ∃ i c, s.pointer.focus ≠ some c ∧ crossingBlocked c s = false ∧ glide tx ty s = cross i c tx ty s := by
  have stays : s = s.setPointer { s.pointer with place := some p, push := s.pointer.push } := by
    rw [← place]
    rfl
  unfold glide
  simp only [place]
  split
  · exact .inl ⟨p, s.pointer.push, stays⟩
  · split
    · exact .inl ⟨_, none, rfl⟩
    · split
      · exact .inl ⟨_, s.pointer.push, rfl⟩
      · split
        · exact .inl ⟨_, s.pointer.push, rfl⟩
        · next c _ =>
          split
          · exact .inl ⟨_, none, rfl⟩
          · next other =>
            simp only [pushAcross]
            split
            · exact .inl ⟨_, s.pointer.push, rfl⟩
            · next free =>
              split
              · exact .inr ⟨_, c, other, by simpa using free, rfl⟩
              · exact .inl ⟨_, _, rfl⟩

theorem cross_still (i : ScreenId) (c : Computer) (tx ty : Int) (s : State) :
    (cross i c tx ty s).pointer.rx = s.pointer.rx ∧ (cross i c tx ty s).pointer.ry = s.pointer.ry ∧
    (cross i c tx ty s).pointer.lastInterval = s.pointer.lastInterval ∧ (cross i c tx ty s).pointer.buttons = s.pointer.buttons := by
  simp only [cross, glideNotice_pointer_leaves, pointerFocusChange_pointer_leaves, setPlace_pointer, setPush_pointer, and_self]

/-- Glide leaves the accumulators, the interval and the buttons. -/
theorem glide_still (tx ty : Int) (s : State) :
    (glide tx ty s).pointer.rx = s.pointer.rx ∧ (glide tx ty s).pointer.ry = s.pointer.ry ∧
    (glide tx ty s).pointer.lastInterval = s.pointer.lastInterval ∧ (glide tx ty s).pointer.buttons = s.pointer.buttons := by
  cases place : s.pointer.place with
  | none =>
    unfold glide
    rw [place]
    exact ⟨rfl, rfl, rfl, rfl⟩
  | some p =>
    obtain ⟨q, push, glided⟩ | ⟨i, c, -, -, crossed⟩ := glide_cases place tx ty
    · rw [glided]
      exact ⟨rfl, rfl, rfl, rfl⟩
    · rw [crossed]
      exact cross_still i c tx ty s

/-- The entry of a report leaves the Pointer Engine but for the swallow set and the last absolute positions. -/
theorem reportEntry_pointer_leaves (before : ButtonSet) (w : Int) (s : State) :
    (reportEntry before w s).pointer.place = s.pointer.place ∧ (reportEntry before w s).pointer.focus = s.pointer.focus ∧
    (reportEntry before w s).pointer.rx = s.pointer.rx ∧ (reportEntry before w s).pointer.ry = s.pointer.ry ∧
    (reportEntry before w s).pointer.lastInterval = s.pointer.lastInterval ∧
    (reportEntry before w s).pointer.push = s.pointer.push ∧ (reportEntry before w s).pointer.buttons = s.pointer.buttons := by
  unfold reportEntry parkedEntry
  dsimp only
  repeat' split
  all_goals simp

@[simp] theorem reportEntry_keyboard (before : ButtonSet) (w : Int) (s : State) : (reportEntry before w s).keyboard = s.keyboard := by
  unfold reportEntry parkedEntry
  dsimp only
  repeat' split
  all_goals simp

/-! ### The target of a report (R63, R64) -/

/-- The state after the buttons and the take click of a report on an ACTIVE desk, before it moves the pointer. -/
def clicked (r : PointerReport) (s : State) : State := clickTake (s.pressedBy r.buttons) (takeButtons r.buttons s)

theorem clicked_pointer (r : PointerReport) (s : State) :
    ∃ swallow, (clicked r s).pointer = { s.pointer with buttons := r.buttons, swallow := swallow } := by
  obtain ⟨swallow, same⟩ := clickTake_pointer (s.pressedBy r.buttons) (takeButtons r.buttons s)
  exact ⟨swallow, same⟩

theorem activeReport_eq (r : PointerReport) (t : Nat) (s : State) :
    activeReport r t s = reportEntry s.delivered r.wheel (moveBy r.dx r.dy t (clicked r s)) := rfl

/-- The state from which glide goes: the clicks are taken and the remainders kept. -/
def carried (r : PointerReport) (t : Nat) (s : State) : State :=
  (clicked r s).setPointer { (clicked r s).pointer with
    rx := axisRest r.dx s.pointer.rx (s.pointer.gain (speed r.dx r.dy t)),
    ry := axisRest r.dy s.pointer.ry (s.pointer.gain (speed r.dx r.dy t)) }

/-- A report on an ACTIVE desk with the pointer at a place goes by its motion (R62 step 2). -/
theorem moveBy_clicked {p : Place} {s : State} (place : s.pointer.place = some p) (r : PointerReport) (t : Nat) :
    moveBy r.dx r.dy t (clicked r s) =
      glide (p.x + axisMotion r.dx s.pointer.rx (s.pointer.gain (speed r.dx r.dy t)))
        (p.y + axisMotion r.dy s.pointer.ry (s.pointer.gain (speed r.dx r.dy t))) (carried r t s) := by
  obtain ⟨swallow, pointer⟩ := clicked_pointer r s
  have here : (clicked r s).pointer.place = some p := by rw [pointer]; exact place
  have gain (v : Nat) : (clicked r s).pointer.gain v = s.pointer.gain v := by rw [pointer]; rfl
  have rests : (clicked r s).pointer.rx = s.pointer.rx ∧ (clicked r s).pointer.ry = s.pointer.ry := by
    rw [pointer]
    exact ⟨rfl, rfl⟩
  simp only [moveBy, here, gain, rests, carried]

end Sys2Proof.Machine
end

section
/-!
PROOFS, speed, gain and motion of a report (O31); the four ways of glide by the target (R63 to R68).
-/

set_option Elab.async false
namespace Sys2Proof.Machine
open Sys2Proof Sys2Proof.Safety

/-! ### Counts, intervals and remainders (R61, R63, R64) -/

theorem count_natAbs (b : Byte) : (count b).natAbs ≤ 127 := by
  have high := BitVec.toInt_lt (x := b)
  have low := BitVec.le_toInt (x := b)
  unfold count
  omega

theorem interval_ge (last : Option Nat) (n : Nat) : 1000 ≤ interval last n := by
  unfold interval
  split <;> omega

/-- R63: the speed of a report is at most 2032. -/
theorem speed_le (x y : Byte) (last : Option Nat) (n : Nat) : speed (count x) (count y) (interval last n) ≤ 2032 := by
  have hx := count_natAbs x
  have hy := count_natAbs y
  have long := interval_ge last n
  unfold speed
  refine Nat.div_le_of_le_mul ?_
  calc ((count x).natAbs + (count y).natAbs) * 8000 ≤ 254 * 8000 := Nat.mul_le_mul_right _ (by omega)
    _ = 1000 * 2032 := rfl
    _ ≤ interval last n * 2032 := Nat.mul_le_mul_right _ long

theorem reversal_eq (d r : Int) : reversal d r = if (0 < d ∧ r < 0) ∨ (d < 0 ∧ 0 < r) then 0 else r := by
  simp only [reversal, mul_neg_iff]

theorem axisRest_eq (d r : Int) (g : Nat) : axisRest d r g = d * g + reversal d r - 16 * axisMotion d r g := by
  have split := Int.mul_tdiv_add_tmod (scaled d r g) 16
  unfold axisRest axisMotion
  unfold scaled at split ⊢
  omega

/-! ### Glide by its target (R65) -/

section
variable {p : Place} {r : Rect} {s : State} {tx ty : Int}

/-- The target lies on the pointer's own screen. -/
theorem glide_inside (place : s.pointer.place = some p) (rect : s.screenRect p.screen = some r) (inside : r.contains tx ty = true) :
    glide tx ty s = glideWithin p.screen tx ty s := by
  simp only [glide, place, rect, inside, if_true]

/-- The target lies in no eligible screen (R66). -/
theorem glide_gap (place : s.pointer.place = some p) (rect : s.screenRect p.screen = some r) (out : r.contains tx ty = false)
    (gap : ∀ (i : ScreenId) (q : Rect) (h : Head), s.eligible i = some (q, h) → q.contains tx ty = false) :
    glide tx ty s = clampTo p.screen r tx ty s := by
  simp only [glide, place, rect, out, Bool.false_eq_true, if_false, screenAt_eq_none gap]

/-- The target lies on another eligible screen: of the same computer, or of another one. -/
theorem glide_outside (place : s.pointer.place = some p) (rect : s.screenRect p.screen = some r) (out : r.contains tx ty = false)
    (apart : ScreensApart s) {i : ScreenId} {q : Rect} {h : Head} (there : s.eligible i = some (q, h))
    (contained : q.contains tx ty = true) : glide tx ty s =
      if s.pointer.focus = some h.computer then glideWithin i tx ty s else pushAcross p.screen r i h.computer tx ty s := by
  simp only [glide, place, rect, out, Bool.false_eq_true, if_false, screenAt_eq_some apart there contained,
    sourceComputer_of_eligible there]

end

/-! ### A report on an ACTIVE desk -/

/-- The state in which a report on an ACTIVE desk is taken: as noted, with the desk's record written (R61, R180). -/
def offeredReport (t0 : Nat) (r : PointerReport) (s : State) : State :=
  (notedReport t0 s).setDesk (s.desk.offered (max s.now t0) (s.pressedBy r.buttons) r.wheel (r.dx.natAbs + r.dy.natAbs))

theorem exec_activeReport {b : Byte} {s : State} (present : s.keyboard.ptrPort.state = .present) (active : s.desk.state = .active)
    (good : b &&& 0xE0 = 0) (x y w : Byte) (t0 : Nat) : exec (.deskPointerReport [b, x, y, w] t0) s = .next
      (activeReport ⟨b.setWidth 5, count x, count y, count w⟩ (interval s.pointer.lastInterval (max s.now t0))
        (offeredReport t0 ⟨b.setWidth 5, count x, count y, count w⟩ s)) := by
  rw [exec_report present good]
  exact congrArg _ (takeReport_active (s := notedReport t0 s) active _ _)

/-- Before a report moves the pointer, its tables are as they were. -/
theorem carried_tables (r : PointerReport) (t : Nat) (s : State) :
    (carried r t s).layout = s.layout ∧ (carried r t s).screens = s.screens ∧ (carried r t s).now = s.now := by
  simp [carried, clicked]

/-- The Pointer Engine from which glide goes. -/
theorem carried_pointer (r : PointerReport) (t : Nat) (s : State) : ∃ swallow, (carried r t s).pointer = { s.pointer with
    buttons := r.buttons, swallow := swallow, rx := axisRest r.dx s.pointer.rx (s.pointer.gain (speed r.dx r.dy t)),
    ry := axisRest r.dy s.pointer.ry (s.pointer.gain (speed r.dx r.dy t)) } := by
  obtain ⟨swallow, pointer⟩ := clicked_pointer r s
  exact ⟨swallow, by rw [carried, State.setPointer_pointer, pointer]⟩

theorem carried_place (r : PointerReport) (t : Nat) (s : State) : (carried r t s).pointer.place = s.pointer.place ∧
    (carried r t s).pointer.focus = s.pointer.focus ∧ (carried r t s).pointer.push = s.pointer.push := by
  obtain ⟨swallow, pointer⟩ := carried_pointer r t s
  rw [pointer]
  exact ⟨rfl, rfl, rfl⟩

theorem carried_screens (r : PointerReport) (t : Nat) (s : State) (i : ScreenId) :
    (carried r t s).screenRect i = s.screenRect i ∧ (carried r t s).eligible i = s.eligible i := by
  obtain ⟨layout, screens, -⟩ := carried_tables r t s
  exact ⟨by simp only [State.screenRect, layout], eligible_of_tables layout screens i⟩

/-- The remainders and the interval after a report on an ACTIVE desk, whatever glide decides (R64). -/
theorem activeReport_rests {p : Place} {s : State} (place : s.pointer.place = some p) (r : PointerReport) (t : Nat) :
    (activeReport r t s).pointer.rx = axisRest r.dx s.pointer.rx (s.pointer.gain (speed r.dx r.dy t)) ∧
    (activeReport r t s).pointer.ry = axisRest r.dy s.pointer.ry (s.pointer.gain (speed r.dx r.dy t)) ∧
    (activeReport r t s).pointer.lastInterval = s.pointer.lastInterval ∧ (activeReport r t s).pointer.buttons = r.buttons := by
  obtain ⟨swallow, pointer⟩ := carried_pointer r t s
  simp only [activeReport_eq, reportEntry_pointer_leaves, moveBy_clicked place, glide_still, pointer, and_self]

/-- Where a report on an ACTIVE desk leaves the pointer is where glide takes it. -/
theorem activeReport_place {p : Place} {s : State} (place : s.pointer.place = some p) (r : PointerReport) (t : Nat) :
    let glided := glide (p.x + axisMotion r.dx s.pointer.rx (s.pointer.gain (speed r.dx r.dy t)))
      (p.y + axisMotion r.dy s.pointer.ry (s.pointer.gain (speed r.dx r.dy t))) (carried r t s)
    (activeReport r t s).pointer.place = glided.pointer.place ∧ (activeReport r t s).pointer.focus = glided.pointer.focus ∧
    (activeReport r t s).pointer.push = glided.pointer.push ∧ (activeReport r t s).keyboard = glided.keyboard := by
  simp only [activeReport_eq, reportEntry_pointer_leaves, moveBy_clicked place, reportEntry_keyboard, and_self]

/-- Settles O31: the speed and the gain are read once, and each axis divides its scaled count by 16, keeping the remainder. -/
theorem speedGainAndMotion : Obligations.SpeedGainAndMotion := by
  refine ⟨fun v => ?_, ?_⟩
  · change (if v < 4 then 16 else if v < 12 then 24 else if v < 24 then 40 else 56) = _
    repeat' split
    all_goals omega
  · intro b x y w t0 iv g dx dy p s present active place good hdx hdy hiv hg
    have hx : dx = count x := hdx
    have hy : dy = count y := hdy
    have hi : iv = interval s.pointer.lastInterval (max s.now t0) := hiv
    subst hx hy hi
    have hgain : g = s.pointer.gain (speed (count x) (count y) (interval s.pointer.lastInterval (max s.now t0))) := hg
    subst hgain
    refine ⟨speed_le x y _ _, ?_⟩
    have place' : (offeredReport t0 ⟨b.setWidth 5, count x, count y, count w⟩ s).pointer.place = some p := place
    obtain ⟨rx, ry, last, -⟩ := activeReport_rests place' ⟨b.setWidth 5, count x, count y, count w⟩
      (interval s.pointer.lastInterval (max s.now t0))
    refine ⟨_, _, _, _, _, exec_activeReport present active good x y w t0, (reversal_eq _ _), (reversal_eq _ _), rfl, rfl,
      rx.trans (axisRest_eq _ _ _), ry.trans (axisRest_eq _ _ _), ?_, last, fun r rect inside => ?_⟩
    · obtain ⟨lx, hx⟩ := axisRest_bounds (count x) s.pointer.rx
        (s.pointer.gain (speed (count x) (count y) (interval s.pointer.lastInterval (max s.now t0))))
      obtain ⟨ly, hy⟩ := axisRest_bounds (count y) s.pointer.ry
        (s.pointer.gain (speed (count x) (count y) (interval s.pointer.lastInterval (max s.now t0))))
      rw [rx, ry]
      exact ⟨lx, hx, ly, hy⟩
    · obtain ⟨at_p, -, push, -⟩ := activeReport_place place' ⟨b.setWidth 5, count x, count y, count w⟩
        (interval s.pointer.lastInterval (max s.now t0))
      have glided := glide_inside ((carried_place _ _ _).1.trans place') ((carried_screens ⟨b.setWidth 5, count x, count y, count w⟩
        (interval s.pointer.lastInterval (max s.now t0)) (offeredReport t0 _ s) p.screen).1.trans rect) inside
      exact ⟨at_p.trans (congrArg (·.pointer.place) glided), push.trans (congrArg (·.pointer.push) glided)⟩

end Sys2Proof.Machine
end

section
/-!
PROOFS, glide against a gap, within one computer and blocked; then the entry of any report that moves no focus (O32).
-/

set_option Elab.async false
namespace Sys2Proof.Machine
open Sys2Proof Sys2Proof.Safety

/-! ### The power states while the clicks are taken -/

theorem woken_clickTake (b : ButtonSet) (s : State) : Woken s (clickTake b s) := by
  unfold clickTake
  split
  · exact .refl s
  · dsimp only
    split
    · exact (woken_focusRequest _ s).trans (woken_setPointer _ _)
    · exact woken_focusRequest _ s

theorem woken_carried (r : PointerReport) (t : Nat) (s : State) : Woken s (carried r t s) :=
  Woken.trans (t := clicked r s)
    ((woken_setPointer _ s).trans (woken_clickTake (s.pressedBy r.buttons) (takeButtons r.buttons s))) (woken_setPointer _ _)

/-! ### Where the report's target takes the pointer (O32) -/

theorem setWidth_five_ne_zero {b : Byte} (h : b &&& 0x1F ≠ 0) : (b.setWidth 5 : ButtonSet) ≠ 0 := by
  intro zero
  refine h (BitVec.eq_of_getLsbD_eq fun i hi => ?_)
  have bit := congrArg (BitVec.getLsbD · i) zero
  by_cases low : i < 5
  · simp [low] at bit
    simp [bit]
  · have high : (31#8 : BitVec 8).getLsbD i = false := by
      have cases : i = 5 ∨ i = 6 ∨ i = 7 := by omega
      obtain rfl | rfl | rfl := cases <;> rfl
    simp [high]

/-- The target is clamped or reached as R65 to R67 say. -/
theorem activeReport_glides {p : Place} {r : Rect} {s : State} {tx ty : Int} {q : PointerReport} {n : Nat}
    (place : s.pointer.place = some p) (rect : s.screenRect p.screen = some r)
    (hx : tx = p.x + axisMotion q.dx s.pointer.rx (s.pointer.gain (speed q.dx q.dy n)))
    (hy : ty = p.y + axisMotion q.dy s.pointer.ry (s.pointer.gain (speed q.dx q.dy n))) (out : r.contains tx ty = false) :
    ((∀ (i : ScreenId) (o : Rect) (h : Head), s.eligible i = some (o, h) → o.contains tx ty = false) →
      (activeReport q n s).pointer.place = some ⟨p.screen, clampAxis r.x r.w tx, clampAxis r.y r.h ty⟩ ∧
      (activeReport q n s).pointer.push = s.pointer.push ∧ (activeReport q n s).pointer.focus = s.pointer.focus) ∧
    (∀ (i : ScreenId) (o : Rect) (h : Head), ScreensApart s → s.eligible i = some (o, h) → o.contains tx ty = true →
      s.pointer.focus = some h.computer →
      (activeReport q n s).pointer.place = some ⟨i, tx.toNat, ty.toNat⟩ ∧ (activeReport q n s).pointer.push = none ∧
      (activeReport q n s).pointer.focus = s.pointer.focus) ∧
    (∀ (i : ScreenId) (o : Rect) (h : Head), ScreensApart s → s.eligible i = some (o, h) → o.contains tx ty = true →
      s.pointer.focus ≠ some h.computer →
      q.buttons ≠ 0 ∨ s.pointer.glideLock = true ∨ s.powerState h.computer = .absent →
      (activeReport q n s).pointer.place = some ⟨p.screen, clampAxis r.x r.w tx, clampAxis r.y r.h ty⟩ ∧
      (activeReport q n s).pointer.push = s.pointer.push ∧ (activeReport q n s).pointer.focus = s.pointer.focus) := by
  obtain ⟨at_p, focused, pushed, -⟩ := activeReport_place place q n
  rw [← hx, ← hy] at at_p focused pushed
  obtain ⟨place', focus', push'⟩ := carried_place q n s
  have rect' := (carried_screens q n s p.screen).1.trans rect
  have place' := place'.trans place
  have apart' (apart : ScreensApart s) : ScreensApart (carried q n s) := screensApart_of_screens (by rw [(carried_tables q n s).1]) apart
  rw [at_p, focused, pushed, ← focus', ← push']
  refine ⟨fun gap => ?_, fun i o h apart there contained own => ?_, fun i o h apart there contained other blocked => ?_⟩
  · rw [glide_gap place' rect' out fun i o h there => gap i o h ((carried_screens q n s i).2.symm.trans there)]
    exact ⟨rfl, rfl, rfl⟩
  · rw [glide_outside place' rect' out (apart' apart) ((carried_screens q n s i).2.trans there) contained, if_pos own]
    exact ⟨rfl, rfl, rfl⟩
  · rw [glide_outside place' rect' out (apart' apart) ((carried_screens q n s i).2.trans there) contained, if_neg other]
    have stopped : crossingBlocked h.computer (carried q n s) = true := by
      obtain ⟨swallow, pointer⟩ := carried_pointer q n s
      simp only [crossingBlocked, Bool.or_eq_true, bne_iff_ne, beq_iff_eq, (woken_carried q n s).absent_iff, pointer]
      obtain held | locked | absent := blocked
      · exact .inl (.inl held)
      · exact .inl (.inr locked)
      · exact .inr absent
    rw [pushAcross_blocked stopped]
    exact ⟨rfl, rfl, rfl⟩

/-! ### The entry of a report that moves no focus -/

/-- An entry's effect depends on the state before it by the ports, the power records, the layout and KEYS_DROPPED alone. -/
theorem pointerTaken_of_before {c : Computer} {x y : Nat} {b swallow : ButtonSet} {w : Int} {n : Nat} {s u t : State}
    (ports : u.ports = s.ports) (power : u.power = s.power) (layout : u.layout = s.layout)
    (dropped : u.event .keysDropped = s.event .keysDropped) (h : PointerTaken c x y b w swallow n u t) :
    PointerTaken c x y b w swallow n s t := by
  have port (d : Computer) : u.port d = s.port d := by simp only [State.port, ports]
  have record (d : Computer) : u.powerRec d = s.powerRec d := by simp only [State.powerRec, power]
  have entry : u.computer c = s.computer c := by simp only [State.computer, layout]
  have wakes : InputWakes c u = InputWakes c s := by simp only [InputWakes, State.powerState, port, record, entry]
  have first : firstAttempt c n u = firstAttempt c n s := by simp only [firstAttempt, port, record, entry]
  obtain ⟨others, rest⟩ := h
  rw [wakes, first, port, record, entry, dropped] at rest
  exact ⟨fun d hd => by rw [← port, ← record]; exact others d hd, rest⟩

/-- What handing an entry does, seen from a state with the same ports, power records, layout and KEYS_DROPPED. -/
theorem pointerTaken_from {c : Computer} {x y : Nat} {b swallow : ButtonSet} {w : Int} {n : Nat} {s u : State}
    (ports : u.ports = s.ports) (power : u.power = s.power) (layout : u.layout = s.layout)
    (dropped : u.event .keysDropped = s.event .keysDropped) (swallowed : u.pointer.swallow = swallow) (now : u.now = n) : PointerTaken c x y b w swallow n s (takePointer c x y b w u) := by
  subst swallowed now
  exact pointerTaken_of_before ports power layout dropped (pointerTaken_takePointer c x y b w u)

/-- The test of a take click (R79). -/
theorem takeClick_eq_some_iff {b : ButtonSet} {s : State} {c : Computer} : s.takeClick b = some c ↔
    s.pointer.place.isSome = true ∧ s.pointer.focus = some c ∧ (s.computer c).guarded = true ∧ s.keyboard.focus ≠ c ∧
      s.powerState c ≠ .absent ∧ b ≠ 0 := by
  unfold State.takeClick
  split
  · next p d place focus =>
    rw [place, focus]
    split
    · next pass =>
      simp only [Option.isSome_some, true_and, Option.some.injEq]
      exact ⟨fun e => ⟨e, e ▸ pass⟩, fun h => h.1⟩
    · next fail =>
      refine ⟨fun h => (by cases h), fun ⟨_, e, pass⟩ => ?_⟩
      cases e
      exact absurd pass fail
  · next none =>
    refine ⟨fun h => (by cases h), fun ⟨place, focus, _⟩ => ?_⟩
    obtain ⟨p, place⟩ := Option.isSome_iff_exists.1 place
    exact absurd focus (none p c place)

theorem clickTake_some {b : ButtonSet} {s : State} {c : Computer} (taken : s.takeClick b = some c) : clickTake b s =
    if (s.computer c).takeClickSwallow then swallowButtons b (focusRequest false c s) else focusRequest false c s := by
  have entry : (focusRequest false c s).computer c = s.computer c := by simp [State.computer]
  simp only [clickTake, taken, entry]

theorem clickTake_none {b : ButtonSet} {s : State} (untaken : s.takeClick b = none) : clickTake b s = s := by
  simp only [clickTake, untaken]

/-- A click that leaves the key focus takes nothing. -/
theorem clickTake_of_sameFocus {b : ButtonSet} {s : State} (same : (clickTake b s).keyboard.focus = s.keyboard.focus) :
    clickTake b s = s := by
  cases taken : s.takeClick b with
  | none => exact clickTake_none taken
  | some c =>
    obtain ⟨-, -, -, moved, -⟩ := takeClick_eq_some_iff.1 taken
    refine absurd ?_ moved
    rw [← same, clickTake_some taken]
    split
    · exact focus_focusRequest c s
    · exact focus_focusRequest c s

/-- The state after the motion of a report that moves no focus. -/
def movedOn (q : PointerReport) (rx ry : Int) (place : Option Place) (push : Option Push) (s : State) : State :=
  s.setPointer { s.pointer with
    buttons := q.buttons, swallow := s.pointer.swallow &&& q.buttons, rx := rx, ry := ry, place := place, push := push }

/-- The motion of a report that moves no focus. -/
theorem moveBy_of_sameFocus {c : Computer} {q : PointerReport} {n : Nat} {s : State} (there : s.pointer.place.isSome = true)
    (focus : s.pointer.focus = some c) (focus' : (activeReport q n s).pointer.focus = some c)
    (keys : (activeReport q n s).keyboard.focus = s.keyboard.focus) :
    ∃ rx ry p push, moveBy q.dx q.dy n (clicked q s) = movedOn q rx ry (some p) push s := by
  obtain ⟨p, place⟩ := Option.isSome_iff_exists.1 there
  obtain ⟨-, focused, -, keyboard⟩ := activeReport_place place q n
  obtain ⟨o, push, same⟩ | ⟨i, d, other, -, crossed⟩ := glide_cases ((carried_place q n s).1.trans place)
    (p.x + axisMotion q.dx s.pointer.rx (s.pointer.gain (speed q.dx q.dy n)))
    (p.y + axisMotion q.dy s.pointer.ry (s.pointer.gain (speed q.dx q.dy n)))
  · rw [same] at keyboard
    have click : (clicked q s).keyboard.focus = s.keyboard.focus := by
      rw [← keys, keyboard]
      rfl
    have untaken : clicked q s = takeButtons q.buttons s := clickTake_of_sameFocus click
    refine ⟨axisRest q.dx s.pointer.rx (s.pointer.gain (speed q.dx q.dy n)),
      axisRest q.dy s.pointer.ry (s.pointer.gain (speed q.dx q.dy n)), o, push, ?_⟩
    rw [moveBy_clicked place, same, carried, untaken]
    rfl
  · rw [crossed, (cross_pointer i d _ _ _).2.1, focus'] at focused
    rw [(carried_place q n s).2.1, focus] at other
    exact absurd focused other

theorem delivered_after (b swallow : ButtonSet) : b &&& ~~~(swallow &&& b) = b &&& ~~~swallow := by
  refine BitVec.eq_of_getLsbD_eq fun i hi => ?_
  simp only [BitVec.getLsbD_and, BitVec.getLsbD_not, hi, decide_true, Bool.true_and]
  cases b.getLsbD i <;> simp

/-- A pointer at a place hands its mapped position to the pointer focus (R74). -/
theorem handPlace_at {p : Place} {c : Computer} {ax ay : Nat} {s : State} (place : s.pointer.place = some p)
    (focus : s.pointer.focus = some c) (mapped : s.mapPlace p = some (ax, ay)) (w : Int) :
    handPlace w s = handEntry c ax ay s.delivered w s := by
  simp only [handPlace, place, focus, mapped]

theorem handEntry_called {c : Computer} {x y : Nat} {b : ButtonSet} {w : Int} {s : State}
    (called : s.pointer.lastAbs[c] ≠ (x, y) ∨ b ≠ s.committedButtons c ∨ w ≠ 0) : handEntry c x y b w s =
      takePointer c x y b w (s.setPointer { s.pointer with lastAbs := s.pointer.lastAbs.set c (x, y) }) := if_pos called

theorem handEntry_uncalled {c : Computer} {x y : Nat} {b : ButtonSet} {w : Int} {s : State} (here : s.pointer.lastAbs[c] = (x, y))
    (same : b = s.committedButtons c) (none : w = 0) : handEntry c x y b w s = s :=
  if_neg (not_or.2 ⟨not_not.2 here, not_or.2 ⟨not_not.2 same, not_not.2 none⟩⟩)

/-- The parts that handing a pointer entry changes. -/
theorem onlyChanges_takePointer (c : Computer) (x y : Nat) (b : ButtonSet) (w : Int) (s : State) :
    OnlyChanges [.pointer, .ports, .power, .status, .lines] s (takePointer c x y b w s) := by
  intro q hq
  cases q <;> simp [Part.same] at hq ⊢

theorem movedOn_offered (t0 : Nat) (q r : PointerReport) (rx ry : Int) (place : Option Place) (push : Option Push) (s : State) :
    (movedOn q rx ry place push (offeredReport t0 r s)).ports = s.ports ∧
    (movedOn q rx ry place push (offeredReport t0 r s)).power = s.power ∧
    (movedOn q rx ry place push (offeredReport t0 r s)).layout = s.layout ∧
    (movedOn q rx ry place push (offeredReport t0 r s)).status = s.status ∧
    (movedOn q rx ry place push (offeredReport t0 r s)).now = max s.now t0 ∧
    (movedOn q rx ry place push (offeredReport t0 r s)).pointer.swallow = s.pointer.swallow &&& q.buttons :=
  ⟨rfl, rfl, rfl, rfl, rfl, rfl⟩

/-- The parts in which a report's motion on an ACTIVE desk differs from where the report arrived. -/
theorem onlyChanges_movedOn (t0 : Nat) (q r : PointerReport) (rx ry : Int) (place : Option Place) (push : Option Push) (s : State) :
    OnlyChanges [.now, .desk, .pointer, .keyboard] s (movedOn q rx ry place push (offeredReport t0 r s)) := by
  intro p hp
  cases p <;> first | rfl | simp at hp

/-- A change within the first parts, then one within the others. -/
theorem onlyChanges_then {ps qs rs : List Part} {s t u : State} (h : OnlyChanges ps s t) (k : OnlyChanges qs t u)
    (sub : ps ++ qs ⊆ rs) : OnlyChanges rs s u := by
  intro p hp
  have first := h p fun mem => hp (sub (List.mem_append_left _ mem))
  have second := k p fun mem => hp (sub (List.mem_append_right _ mem))
  cases p <;> exact Eq.trans second first

theorem onlyChanges_withPointer {ps : List Part} {s t : State} (p : PointerEngine) (h : OnlyChanges ps s t) (mem : .pointer ∈ ps) :
    OnlyChanges ps s (t.setPointer p) := by
  intro q hq
  cases q
  case pointer => exact absurd mem hq
  all_goals exact h _ hq

/-- The entry of a report that moves no focus (R73, R74). -/
theorem activeReport_entry {c : Computer} {q : PointerReport} {n t0 : Nat} {s : State} (there : s.pointer.place.isSome = true)
    (focus : s.pointer.focus = some c) (focus' : (activeReport q n (offeredReport t0 q s)).pointer.focus = some c)
    (keys : (activeReport q n (offeredReport t0 q s)).keyboard.focus = s.keyboard.focus) (p : Place) (ax ay : Nat)
    (place : (activeReport q n (offeredReport t0 q s)).pointer.place = some p) (mapped : s.mapPlace p = some (ax, ay)) :
    (s.pointer.lastAbs[c] = (ax, ay) → q.buttons &&& ~~~s.pointer.swallow = s.committedButtons c → q.wheel = 0 →
      (activeReport q n (offeredReport t0 q s)).pointer.lastAbs = s.pointer.lastAbs ∧
      (activeReport q n (offeredReport t0 q s)).pointer.swallow = s.pointer.swallow &&& q.buttons ∧
      OnlyChanges [.now, .desk, .pointer, .keyboard] s (activeReport q n (offeredReport t0 q s))) ∧
    (s.pointer.lastAbs[c] ≠ (ax, ay) ∨ q.buttons &&& ~~~s.pointer.swallow ≠ s.committedButtons c ∨ q.wheel ≠ 0 →
      (activeReport q n (offeredReport t0 q s)).pointer.lastAbs = s.pointer.lastAbs.set c (ax, ay) ∧
      PointerTaken c ax ay (q.buttons &&& ~~~s.pointer.swallow) q.wheel (s.pointer.swallow &&& q.buttons) (max s.now t0) s
        (activeReport q n (offeredReport t0 q s)) ∧
      OnlyChanges [.now, .desk, .pointer, .keyboard, .ports, .power, .status, .lines] s
        (activeReport q n (offeredReport t0 q s))) := by
  obtain ⟨rx, ry, o, push, moved⟩ := moveBy_of_sameFocus (s := offeredReport t0 q s) there focus focus' keys
  have still := onlyChanges_movedOn t0 q q rx ry (some o) push s
  have delivered : (movedOn q rx ry (some o) push (offeredReport t0 q s)).delivered = q.buttons &&& ~~~s.pointer.swallow :=
    delivered_after q.buttons s.pointer.swallow
  rw [activeReport_eq, moved] at place ⊢
  have at_p : o = p := Option.some.inj ((reportEntry_pointer_leaves _ _ _).1.symm.trans place)
  subst at_p
  have mapped' : (movedOn q rx ry (some o) push (offeredReport t0 q s)).mapPlace o = some (ax, ay) :=
    (mapPlace_of_tables rfl rfl o).trans mapped
  have entered : reportEntry (offeredReport t0 q s).delivered q.wheel (movedOn q rx ry (some o) push (offeredReport t0 q s)) =
      handEntry c ax ay (q.buttons &&& ~~~s.pointer.swallow) q.wheel (movedOn q rx ry (some o) push (offeredReport t0 q s)) := by
    refine (if_pos rfl).trans ?_
    rw [← delivered]
    exact handPlace_at (s := movedOn q rx ry (some o) push (offeredReport t0 q s)) rfl focus mapped' q.wheel
  rw [entered]
  refine ⟨fun here same none => ?_, fun called => ?_⟩
  · rw [handEntry_uncalled (s := movedOn q rx ry (some o) push (offeredReport t0 q s)) here same none]
    exact ⟨rfl, rfl, still⟩
  · rw [handEntry_called (s := movedOn q rx ry (some o) push (offeredReport t0 q s)) called]
    obtain ⟨ports, power, layout, status, now, swallow⟩ := movedOn_offered t0 q q rx ry (some o) push s
    refine ⟨?_, pointerTaken_from (by exact ports) (by exact power) (by exact layout) (by exact event_of_status status _)
      (by exact swallow) (by exact now), onlyChanges_then (onlyChanges_withPointer _ still (by decide))
        (onlyChanges_takePointer c ax ay _ q.wheel _) (by decide)⟩
    simp only [takePointer_pointer_leaves]
    rfl

/-- A released button leaves the swallow set, and only held buttons join it (R73). -/
theorem swallowInside_activeReport (r : PointerReport) (n : Nat) (s : State) : SwallowInside (activeReport r n s) := by
  have taken : SwallowInside (takeButtons r.buttons s) := by simp [SwallowInside, subBits_iff, takeButtons, setButtons]
  exact (((tame_clickTake (subBits_pressedBy r.buttons s)).trans (tame_moveBy _ _ _ _)).trans (tame_reportEntry _ _ _)).swallow taken

/-- Settles O32: the target decides the place, and a report that moves no focus hands its entry for the place it reached. -/
theorem glideAtGapsAndOwnScreens : Obligations.GlideAtGapsAndOwnScreens := by
  refine ⟨fun b x y w t0 tx ty p r s present active place good rect target out => ?_,
    fun b x y w t0 c b5 wheel s present active there focus good hb hw => ?_⟩
  · have glides := activeReport_glides (s := offeredReport t0 ⟨b.setWidth 5, count x, count y, count w⟩ s)
      (q := ⟨b.setWidth 5, count x, count y, count w⟩) place rect target.1 target.2 out
    obtain ⟨gap, own, blocked⟩ := glides
    refine ⟨_, exec_activeReport present active good x y w t0, gap, own, fun i o h apart there contained other why => ?_⟩
    exact blocked i o h apart there contained other (why.imp_left setWidth_five_ne_zero)
  · subst hb hw
    obtain ⟨p, place⟩ := Option.isSome_iff_exists.1 there
    obtain ⟨-, -, -, buttons⟩ := activeReport_rests (s := offeredReport t0 ⟨b.setWidth 5, count x, count y, count w⟩ s) place
      ⟨b.setWidth 5, count x, count y, count w⟩ (interval s.pointer.lastInterval (max s.now t0))
    refine ⟨_, exec_activeReport present active good x y w t0, ?_, ?_, fun focus' keys p ax ay place mapped =>
      activeReport_entry there focus focus' keys p ax ay place mapped⟩
    · exact buttons
    · have inside := swallowInside_activeReport ⟨b.setWidth 5, count x, count y, count w⟩
        (interval s.pointer.lastInterval (max s.now t0)) (offeredReport t0 ⟨b.setWidth 5, count x, count y, count w⟩ s)
      simpa only [SwallowInside, subBits, beq_iff_eq, buttons] using inside

end Sys2Proof.Machine
end

section
/-!
PROOFS, the desk resumes (R46 to R48, R182): the screens follow without a notice to the Pointer Engine, and the key-focus computer is
woken.
-/

set_option Elab.async false
namespace Sys2Proof.Machine
open Sys2Proof Sys2Proof.Safety

/-! ### A wake that fails (R166, R170) -/

/-- What a wake that fails makes of its computer. -/
theorem enterUnresponsive_facts (c : Computer) (s : State) :
    (enterUnresponsive c s).port c = (s.port c).discard ∧
    (enterUnresponsive c s).powerRec c =
      { s.powerRec c with state := .unresponsive, attempt := 0, timer := none, method := none } ∧
    Raised (.wakeFailed c) (enterUnresponsive c s) ∧ Raised (.computerState c) (enterUnresponsive c s) := by
  refine ⟨?_, ?_, ?_, ?_⟩
  · have before : (setPowerState c .unresponsive (s.setPowerRec c (s.powerRec c).noAttempt)).port c = s.port c := by simp [State.port]
    have emptied (t : State) : (queueEmptied c t).port c = t.port c := by simp [State.port]
    simp only [enterUnresponsive, discardQueue, port_raise, emptied, State.port_setPort, if_true, before]
  · have emptied (t : State) : (queueEmptied c t).powerRec c = t.powerRec c := by simp [State.powerRec]
    have stored (p : Port) (t : State) : (t.setPort c p).powerRec c = t.powerRec c := rfl
    simp only [enterUnresponsive, discardQueue, powerRec_raise, emptied, stored, powerRec_setPowerState, State.powerRec_setPowerRec,
      if_true, PowerRec.noAttempt]
  · have kept := event_raise_of_ne (.computerState c) (raise (.wakeFailed c) (discardQueue c
      (setPowerState c .unresponsive (s.setPowerRec c (s.powerRec c).noAttempt)))) .wakeFailed (by simp [Event.kind])
    exact raised_of_event kept (raised_raise _ _)
  · exact raised_raise _ _

/-! ### The resume, but for its wake -/

/-- The desk becomes ACTIVE and the screens follow (R46, R47, R181). -/
def activated (s : State) : State := setDeskState .active (restartIdle s)

theorem resumeDesk_activated (s : State) : resumeDesk s = resumeWake (activated s) := rfl

theorem current_screenResume (i : ScreenId) (s : State) :
    (fun j => ((screenResume i s).screenRec j).current) = fun j => (s.screenRec j).current := by
  funext j
  unfold screenResume powerUp
  dsimp only
  repeat' split
  all_goals
    simp only [screenRec_followSource, screenRec_setPowerTimer, screenRec_enterScreen, screenRec_sendSelection, followed]
    repeat' split
  all_goals simp_all

/-- A resume changes no screen's source, so the Pointer Engine has no notice (R44, R46). -/
theorem screensFollow_active (s : State) : screensFollow .active s = settleAll (eachScreen screenResume s) :=
  onScreens_of_same fun i => congrFun
    (eachScreen_leaves (fun s => fun i => (s.screenRec i).current) screenResume current_screenResume s) i

theorem event_screenResume {k : EventKind} (hk : k ∉ screenKinds) (i : ScreenId) (s : State) :
    (screenResume i s).event k = s.event k := by
  have powered (t : State) : (powerUp i t).event k = t.event k := by
    simp only [powerUp]
    split
    · rw [event_followSource hk]
      exact event_enterScreen hk i _ _
    · exact event_enterScreen hk i _ _
  unfold screenResume
  split
  · exact event_followSource hk i s
  · exact powered s
  · rfl

theorem activated_eq (s : State) : activated s = raise (.deskPower .active) (settleAll (eachScreen screenResume
    (followOutputs (s.setDesk { s.desk with idleStart := some s.now, state := .active, window := none })))) := by
  have same : (restartIdle s).setDesk { (restartIdle s).desk with state := .active, window := none } =
      s.setDesk { s.desk with idleStart := some s.now, state := .active, window := none } := rfl
  rw [activated, setDeskState, same, screensFollow_active]

/-- What a resume leaves, but for its wake. -/
theorem activated_leaves (s : State) : (activated s).now = s.now ∧ (activated s).layout = s.layout ∧
    (activated s).pointer = s.pointer ∧ (activated s).keyboard = s.keyboard ∧ (activated s).matcher = s.matcher ∧
    (activated s).ports = s.ports ∧ (activated s).power = s.power ∧
    (activated s).desk = { s.desk with idleStart := some s.now, state := .active, window := none } := by
  have kept {α : Type} (g : State → α) (h : ∀ i s, g (screenResume i s) = g s) (t : State) :
      g (eachScreen screenResume t) = g t := eachScreen_leaves g screenResume h t
  rw [activated_eq]
  simp [kept]

theorem event_activated {k : EventKind} (hk : k ∉ screenKinds) (hd : k ≠ .deskPower) (s : State) :
    (activated s).event k = s.event k := by
  rw [activated_eq, event_raise_of_ne _ _ _ (Ne.symm hd), event_settleAll hk,
    eachScreen_leaves (fun s => s.event k) screenResume (event_screenResume hk)]
  exact event_of_status (by simp) k

theorem raised_activated (s : State) : Raised (.deskPower .active) (activated s) := by
  rw [activated_eq]
  exact raised_raise _ _

/-! ### The resume wake (R182) -/

/-- The kinds that a wake request may raise (R165, R170). -/
def wakeKinds : List EventKind := [.computerState, .wakeFailed]

theorem event_wakeRequest_of_not_mem {k : EventKind} (hk : k ∉ wakeKinds) (c : Computer) (s : State) :
    (wakeRequest c s).event k = s.event k := by
  have state : k ≠ .computerState := fun e => hk (by simp [wakeKinds, e])
  have failed : k ≠ .wakeFailed := fun e => hk (by simp [wakeKinds, e])
  have unresponsive (t : State) : (enterUnresponsive c t).event k = t.event k := by
    have emptied (t : State) : (queueEmptied c t).event k = t.event k := event_of_status (by simp) k
    rw [enterUnresponsive, event_raise_of_ne (.computerState c) _ k (Ne.symm state),
      event_raise_of_ne (.wakeFailed c) _ k (Ne.symm failed), discardQueue, emptied]
    exact (event_setPowerState c .unresponsive (t.setPowerRec c (t.powerRec c).noAttempt) k)
  by_cases method : s.hasMethod c = true
  · exact event_wakeRequest c s k method state
  · unfold wakeRequest
    split
    · rw [if_neg method]
      exact unresponsive s
    · rw [if_neg method]
      exact event_raise_of_ne (.wakeFailed c) _ k (Ne.symm failed)
    all_goals rfl

theorem event_resumeWake {k : EventKind} (hk : k ∉ wakeKinds) (s : State) : (resumeWake s).event k = s.event k := by
  unfold resumeWake
  split
  · exact event_wakeRequest_of_not_mem hk _ s
  · rfl

theorem event_resumeDesk {k : EventKind} (hs : k ∉ screenKinds) (hd : k ≠ .deskPower) (hw : k ∉ wakeKinds) (s : State) :
    (resumeDesk s).event k = s.event k := (event_resumeWake hw _).trans (event_activated hs hd s)

theorem raised_resumeDesk (s : State) : Raised (.deskPower .active) (resumeDesk s) :=
  raised_of_event (event_resumeWake (by decide) _) (raised_activated s)

@[simp] theorem resumeDesk_pointer (s : State) : (resumeDesk s).pointer = s.pointer := by
  rw [resumeDesk_activated, (resumeWake_leaves _).2.2.2.2.2.2.1, (activated_leaves s).2.2.1]

theorem resumeDesk_desk (s : State) :
    (resumeDesk s).desk = { s.desk with idleStart := some s.now, state := .active, window := none } := by
  rw [resumeDesk_activated, (resumeWake_leaves _).2.2.2.2.2.2.2.2.1]
  exact (activated_leaves s).2.2.2.2.2.2.2

/-- A wake request writes of the Keyboard Engine the flags of the held keys alone. -/
theorem wakeRequest_heldOnly (c : Computer) (s : State) :
    ∃ held, (wakeRequest c s).keyboard = { s.keyboard with held := held } := by
  have unresponsive (t : State) (h : t.keyboard = s.keyboard) :
      ∃ held, (enterUnresponsive c t).keyboard = { s.keyboard with held := held } := by
    simp only [enterUnresponsive, discardQueue, raise_leaves, queueEmptied]
    split
    · exact ⟨s.keyboard.held.map fun k => if k.delivering = true then k.suppress else k, by simp [markHeld, h]⟩
    · exact ⟨s.keyboard.held, by simp [h]⟩
  have woken (method : s.hasMethod c = true) :
      (startAttempt false c 1 (changePower c .waking s)).keyboard = s.keyboard := by
    rw [startAttempt_keyboard false c 1 _ (by simpa using method)]
    simp
  unfold wakeRequest
  split
  · split
    · next method => exact ⟨s.keyboard.held, woken method⟩
    · exact unresponsive s rfl
  · split
    · next method => exact ⟨s.keyboard.held, woken method⟩
    · exact ⟨s.keyboard.held, by simp⟩
  all_goals exact ⟨s.keyboard.held, rfl⟩

theorem resumeDesk_keyboard (s : State) : ∃ held, (resumeDesk s).keyboard = { s.keyboard with held := held } := by
  rw [resumeDesk_activated, resumeWake]
  split
  · obtain ⟨held, same⟩ := wakeRequest_heldOnly (activated s).keyboard.focus (activated s)
    exact ⟨held, by rw [same, (activated_leaves s).2.2.2.1]⟩
  · exact ⟨s.keyboard.held, (activated_leaves s).2.2.2.1⟩

theorem down_iff (p : PowerState) : p.down = true ↔ p = .asleep ∨ p = .unresponsive := by cases p <;> simp [PowerState.down]

/-- A resume wakes the key-focus computer as R182 says. -/
theorem resumeWakes_resumeWake (s : State) : ResumeWakes s.now s (resumeWake s) := by
  have none_asked (h : ¬(s.desk.resumeWake = true ∧ (s.powerState s.keyboard.focus).down = true)) : resumeWake s = s := if_neg h
  have asked (on : s.desk.resumeWake = true) (down : (s.powerState s.keyboard.focus).down = true) :
      resumeWake s = wakeRequest s.keyboard.focus s := if_pos ⟨on, down⟩
  refine ⟨?_, fun idle => ?_, fun on down method => ?_, fun on asleep permission line => ?_, fun on unresponsive permission line => ?_⟩
  · unfold resumeWake
    split
    · exact othersKept_wakeRequest _ s
    · exact .refl _ s
  · rw [none_asked]
    · exact ⟨rfl, rfl⟩
    · rintro ⟨on, down⟩
      obtain off | up := idle
      · rw [off] at on
        cases on
      · exact ((down_iff _).1 down).elim up.1 up.2
  · have woken := firstWoken_wakeRequest ((down_iff _).2 down) ((hasMethod_iff _ s).2 method)
    rw [asked on ((down_iff _).2 down)]
    refine ⟨?_, woken.record, woken.raised, woken.signal⟩
    simp only [State.port, wakeRequest_ports ((hasMethod_iff _ s).2 method)]
  · have fails : wakeRequest s.keyboard.focus s = enterUnresponsive s.keyboard.focus s := by
      simp [wakeRequest, asleep, State.hasMethod, permission, line]
    rw [asked on (by rw [asleep]; rfl), fails]
    exact enterUnresponsive_facts _ s
  · have fails : wakeRequest s.keyboard.focus s = raise (.wakeFailed s.keyboard.focus) s := by
      simp [wakeRequest, unresponsive, State.hasMethod, permission, line]
    rw [asked on (by rw [unresponsive]; rfl), fails]
    exact ⟨by simp, powerRec_raise _ s _, raised_raise _ s⟩

/-- A resume wake depends on the state before by the ports, the power records, the layout, the key focus and its option alone. -/
theorem resumeWakes_of_before {n : Nat} {s u t : State} (ports : u.ports = s.ports) (power : u.power = s.power)
    (layout : u.layout = s.layout) (focus : u.keyboard.focus = s.keyboard.focus) (option : u.desk.resumeWake = s.desk.resumeWake)
    (h : ResumeWakes n u t) : ResumeWakes n s t := by
  have port (d : Computer) : u.port d = s.port d := by simp only [State.port, ports]
  have record (d : Computer) : u.powerRec d = s.powerRec d := by simp only [State.powerRec, power]
  have entry (d : Computer) : u.computer d = s.computer d := by simp only [State.computer, layout]
  have first (d : Computer) : firstAttempt d n u = firstAttempt d n s := by simp only [firstAttempt, port, record, entry]
  simp only [ResumeWakes, OthersKept, State.powerState, port, record, entry, first, focus, option] at h ⊢
  exact h

theorem resumeWakes_resumeDesk (s : State) : ResumeWakes s.now s (resumeDesk s) := by
  obtain ⟨now, layout, -, keyboard, -, ports, power, desk⟩ := activated_leaves s
  refine resumeWakes_of_before ports power layout (by rw [keyboard]) (by rw [desk]) ?_
  rw [resumeDesk_activated, ← now]
  exact resumeWakes_resumeWake (activated s)

/-- Without the option, a resume leaves every port and power record. -/
theorem resumeDesk_unwoken {s : State} (off : s.desk.resumeWake = false) :
    (resumeDesk s).ports = s.ports ∧ (resumeDesk s).power = s.power := by
  obtain ⟨-, -, -, -, -, ports, power, desk⟩ := activated_leaves s
  have option : (activated s).desk.resumeWake = false := by rw [desk]; exact off
  rw [resumeDesk_activated, resumeWake, if_neg (by simp [option])]
  exact ⟨ports, power⟩

end Sys2Proof.Machine
end

section
/-!
PROOFS, pointer reports that move nothing (O34): at a port that is not PRESENT, malformed, with the pointer parked, and in low power; and
a report as activity.
-/

set_option Elab.async false
namespace Sys2Proof.Machine
open Sys2Proof Sys2Proof.Safety

/-! ### Reports that are not taken (R61, R88) -/

theorem exec_report_absent {s : State} (absent : s.keyboard.ptrPort.state ≠ .present) (bs : List Byte) (t0 : Nat) :
    exec (.deskPointerReport bs t0) s = .next (s.fresh.advanceTo t0) := by
  rw [exec_event _ s rfl]
  exact congrArg _ (if_neg absent)

theorem parse_eq_none {bs : List Byte} (bad : bs.length ≠ 4 ∨ ∃ b x y w, bs = [b, x, y, w] ∧ b &&& 0xE0 ≠ 0) :
    PointerReport.parse bs = none := by
  obtain short | ⟨b, x, y, w, rfl, bits⟩ := bad
  · unfold PointerReport.parse
    split
    · simp at short
    · rfl
  · exact if_neg bits

theorem exec_report_malformed {bs : List Byte} {s : State} (present : s.keyboard.ptrPort.state = .present)
    (bad : bs.length ≠ 4 ∨ ∃ b x y w, bs = [b, x, y, w] ∧ b &&& 0xE0 ≠ 0) (t0 : Nat) :
    exec (.deskPointerReport bs t0) s = .next (raise (.deskPort .pointer .malformed) ((s.fresh.advanceTo t0).setKeyboard
      { s.keyboard with ptrPort := { s.keyboard.ptrPort with lastReport := some (max s.now t0) } })) := by
  rw [exec_event _ s rfl]
  refine congrArg _ ?_
  change pointerArrives bs (s.fresh.advanceTo t0) = _
  have present' : (s.fresh.advanceTo t0).keyboard.ptrPort.state = .present := present
  simp only [pointerArrives, if_pos present', parse_eq_none bad]
  rfl

/-! ### A report in low power (R62) -/

/-- What a report in low power does to the buttons before a release is handed: new presses are swallowed. -/
def swallowing (r : PointerReport) (s : State) : State := swallowButtons (s.pressedBy r.buttons) (takeButtons r.buttons s)

theorem lowReport_eq (r : PointerReport) (s : State) : lowReport r s = lowRelease (s.releasedBy r.buttons) (swallowing r s) := rfl

theorem swallowing_eq (r : PointerReport) (s : State) : swallowing r s = s.setPointer { s.pointer with
    buttons := r.buttons, swallow := (s.pointer.swallow &&& r.buttons) ||| (r.buttons &&& ~~~s.pointer.buttons) } := rfl

theorem delivered_swallowing (r : PointerReport) (s : State) : (swallowing r s).delivered = s.delivered &&& r.buttons := by
  refine BitVec.eq_of_getLsbD_eq fun i hi => ?_
  simp only [swallowing_eq, State.delivered, State.setPointer_pointer, BitVec.getLsbD_and, BitVec.getLsbD_not, BitVec.getLsbD_or, hi,
    decide_true, Bool.true_and]
  cases r.buttons.getLsbD i <;> cases s.pointer.swallow.getLsbD i <;> cases s.pointer.buttons.getLsbD i <;> rfl

/-- A delivered button is released exactly when the delivered set changes. -/
theorem releasedBy_eq_zero_iff (b : ButtonSet) (s : State) : s.releasedBy b = 0 ↔ s.delivered &&& b = s.delivered := by
  unfold State.releasedBy
  constructor <;> intro h <;> refine BitVec.eq_of_getLsbD_eq fun i hi => ?_
  all_goals
    have bit := congrArg (BitVec.getLsbD · i) h
    simp only [BitVec.getLsbD_and, BitVec.getLsbD_not, hi, decide_true, Bool.true_and] at bit ⊢
    revert bit
    cases s.delivered.getLsbD i <;> cases b.getLsbD i <;> simp

theorem standIn_swallowing (r : PointerReport) (s : State) : (swallowing r s).standIn = s.standIn := rfl

/-- The release of a report in low power. -/
theorem lowReport_cases {r : PointerReport} {s : State} {d : ButtonSet} {c : Computer} (delivered : s.delivered = d)
    (standIn : s.standIn = c) :
    ((d &&& r.buttons = d ∨ d &&& r.buttons = s.committedButtons c) ∧ lowReport r s = swallowing r s) ∨
    (d &&& r.buttons ≠ d ∧ d &&& r.buttons ≠ s.committedButtons c ∧
      lowReport r s = takePointer c s.pointer.lastAbs[c].1 s.pointer.lastAbs[c].2 (d &&& r.buttons) 0 (swallowing r s)) := by
  subst delivered standIn
  have ports : (swallowing r s).committedButtons s.standIn = s.committedButtons s.standIn := rfl
  rw [lowReport_eq]
  unfold lowRelease
  simp only [standIn_swallowing, delivered_swallowing, ports, ne_eq, releasedBy_eq_zero_iff]
  by_cases h : ¬s.delivered &&& r.buttons = s.delivered ∧ ¬s.delivered &&& r.buttons = s.committedButtons s.standIn
  · rw [if_pos h]
    exact .inr ⟨h.1, h.2, rfl⟩
  · rw [if_neg h]
    exact .inl ⟨by rwa [not_and_or, not_not, not_not] at h, rfl⟩

/-- The Pointer Engine and the key focus through a report in low power. -/
theorem lowReport_leaves_pointer (r : PointerReport) (s : State) : (lowReport r s).keyboard = s.keyboard ∧
    ∃ swallow, (lowReport r s).pointer = { s.pointer with buttons := r.buttons, swallow := swallow } := by
  obtain ⟨-, same⟩ | ⟨-, -, taken⟩ := lowReport_cases (r := r) (s := s) rfl rfl
  · rw [same]
    exact ⟨rfl, _, rfl⟩
  · rw [taken]
    obtain ⟨swallow, pointer⟩ := takePointer_pointer s.standIn s.pointer.lastAbs[s.standIn].1 s.pointer.lastAbs[s.standIn].2
      (s.delivered &&& r.buttons) 0 (swallowing r s)
    exact ⟨by simp [swallowing_eq], swallow, by rw [pointer, swallowing_eq, State.setPointer_pointer]⟩

/-- A report in low power leaves the desk as its offer made it. -/
theorem lowReport_keeps (r : PointerReport) (s : State) {k : EventKind} (hk : k ∉ entryKinds) :
    (lowReport r s).desk = s.desk ∧ (lowReport r s).event k = s.event k := by
  refine ⟨by simp, ?_⟩
  obtain ⟨-, same⟩ | ⟨-, -, taken⟩ := lowReport_cases (r := r) (s := s) rfl rfl
  · rw [same]
    rfl
  · rw [taken]
    exact event_takePointer _ _ _ _ _ _ k hk

/-! ### The offer of a report in low power (R180, R182) -/

/-- The state in which a report in low power is offered, with its motion in the window. -/
def windowed (t0 m : Nat) (s : State) : State :=
  (notedReport t0 s).setDesk { s.desk with window := s.desk.windowAfter (max s.now t0) m }

/-- The state after a report in low power was offered: as it was, or resumed. -/
def lowOffer (t0 : Nat) (r : PointerReport) (s : State) : State :=
  if s.desk.reportQualifies (s.pressedBy r.buttons) r.wheel (r.dx.natAbs + r.dy.natAbs) then
    resumeDesk (windowed t0 (r.dx.natAbs + r.dy.natAbs) s)
  else windowed t0 (r.dx.natAbs + r.dy.natAbs) s

theorem offerReport_low {s : State} (low : s.desk.state ≠ .active) (t0 : Nat) (r : PointerReport) :
    offerReport (s.pressedBy r.buttons) r.wheel (r.dx.natAbs + r.dy.natAbs) (notedReport t0 s) = lowOffer t0 r s := by
  have resumed (m : Nat) : (qualify (windowed t0 m s)).1 = resumeDesk (windowed t0 m s) := by
    rw [qualify, if_neg (show (windowed t0 m s).desk.state ≠ .active from low)]
  rw [offerReport_eq, lowOffer, ← resumed]
  rfl

theorem exec_lowReport {b : Byte} {s : State} (present : s.keyboard.ptrPort.state = .present) (low : s.desk.state ≠ .active)
    (good : b &&& 0xE0 = 0) (x y w : Byte) (t0 : Nat) : exec (.deskPointerReport [b, x, y, w] t0) s = .next
      (lowReport ⟨b.setWidth 5, count x, count y, count w⟩ (lowOffer t0 ⟨b.setWidth 5, count x, count y, count w⟩ s)) := by
  have low' : (notedReport t0 s).desk.state ≠ .active := low
  rw [exec_report present good, ← offerReport_low low]
  simp only [takeReport, if_neg low']
  rfl

/-- What is the same through the offer of a report in low power. -/
theorem lowOffer_leaves (t0 : Nat) (r : PointerReport) (s : State) :
    (lowOffer t0 r s).pointer = { s.pointer with lastInterval := some (max s.now t0) } ∧
    (∃ held, (lowOffer t0 r s).keyboard = { s.keyboard with
      ptrPort := { s.keyboard.ptrPort with lastReport := some (max s.now t0) }, held := held }) ∧
    (lowOffer t0 r s).layout = s.layout ∧ (lowOffer t0 r s).now = max s.now t0 ∧
    (lowOffer t0 r s).event .keysDropped = s.event .keysDropped := by
  unfold lowOffer
  split
  · obtain ⟨held, keyboard⟩ := resumeDesk_keyboard (windowed t0 (r.dx.natAbs + r.dy.natAbs) s)
    refine ⟨by rw [resumeDesk_pointer]; rfl, ⟨held, keyboard⟩, by simp [windowed, notedReport_leaves], ?_, ?_⟩
    · rw [(resumeDesk_leaves _).1]
      rfl
    · rw [event_resumeDesk (by decide) (by decide) (by decide)]
      rfl
  · exact ⟨rfl, ⟨s.keyboard.held, rfl⟩, rfl, rfl, rfl⟩

/-- The offer of a report that does not qualify, or without the resume wake, leaves every port and power record. -/
theorem lowOffer_unwoken (t0 : Nat) (r : PointerReport) (s : State)
    (h : s.desk.resumeWake = false ∨ s.desk.reportQualifies (s.pressedBy r.buttons) r.wheel (r.dx.natAbs + r.dy.natAbs) = false) :
    (lowOffer t0 r s).ports = s.ports ∧ (lowOffer t0 r s).power = s.power := by
  unfold lowOffer
  split
  · next q =>
    obtain off | never := h
    · exact resumeDesk_unwoken (s := windowed t0 (r.dx.natAbs + r.dy.natAbs) s) off
    · rw [q] at never
      cases never
  · exact ⟨rfl, rfl⟩

/-- The desk record after the offer of a report in low power. -/
theorem lowOffer_desk (t0 : Nat) (r : PointerReport) (s : State) :
    (s.desk.reportQualifies (s.pressedBy r.buttons) r.wheel (r.dx.natAbs + r.dy.natAbs) = true →
      (lowOffer t0 r s).desk = { s.desk with state := .active, idleStart := some (max s.now t0), window := none } ∧
      Raised (.deskPower .active) (lowOffer t0 r s) ∧ ResumeWakes (max s.now t0) s (lowOffer t0 r s)) ∧
    (s.desk.reportQualifies (s.pressedBy r.buttons) r.wheel (r.dx.natAbs + r.dy.natAbs) = false →
      (lowOffer t0 r s).desk = { s.desk with window := s.desk.windowAfter (max s.now t0) (r.dx.natAbs + r.dy.natAbs) }) := by
  refine ⟨fun q => ?_, fun q => ?_⟩
  · rw [lowOffer, if_pos q]
    refine ⟨resumeDesk_desk _, raised_resumeDesk _, resumeWakes_of_before rfl rfl rfl rfl rfl
      (resumeWakes_resumeDesk (windowed t0 (r.dx.natAbs + r.dy.natAbs) s))⟩
  · rw [lowOffer, q]
    rfl

/-! ### An entry for a computer that the resume left without a wake method -/

theorem takePointer_dead {c : Computer} {s : State} (dead : s.powerState c = .unresponsive) (method : s.hasMethod c = false)
    (x y : Nat) (b : ButtonSet) (w : Int) : takePointer c x y b w s = s := by
  have idle : ¬InputWakes c s := fun wakes => by
    have has := (hasMethod_iff c s).2 wakes.2.1
    rw [method] at has
    cases has
  have unnoticed : pointerNotice c x y b w s = s := by
    obtain same | same := pointerNotice_eq c x y b w s
    · exact same
    · rw [same, inputNotice_idle idle]
  rw [takePointer_eq, unnoticed, if_pos (by rw [dead]; rfl)]

/-- A resume leaves a port, or it discards the queue of a computer that stays without a wake method (R182). -/
theorem port_resumeDesk (c : Computer) (s : State) : (resumeDesk s).port c = s.port c ∨
    ((resumeDesk s).powerState c = .unresponsive ∧ (resumeDesk s).hasMethod c = false) := by
  obtain ⟨others, idle, woken, failed, unanswered⟩ := resumeWakes_resumeDesk s
  by_cases here : c = s.keyboard.focus
  · subst here
    by_cases off : s.desk.resumeWake = false ∨ (s.powerState s.keyboard.focus ≠ .asleep ∧ s.powerState s.keyboard.focus ≠ .unresponsive)
    · exact .inl (idle off).1
    · simp only [not_or, not_and_or, not_not, Bool.not_eq_false] at off
      obtain ⟨on, down⟩ := off
      by_cases method : s.hasMethod s.keyboard.focus = true
      · exact .inl (woken on down ((hasMethod_iff _ s).1 method)).1
      · have none := mt (hasMethod_iff _ s).2 method
        simp only [not_or, Bool.not_eq_true] at none
        obtain asleep | dead := down
        · obtain ⟨port, record, -⟩ := failed on asleep none.1 none.2
          refine .inr ⟨by rw [State.powerState, record], ?_⟩
          have entry : (resumeDesk s).computer s.keyboard.focus = s.computer s.keyboard.focus := by simp [State.computer]
          simp [State.hasMethod, port, entry, none, Port.discard]
        · exact .inl (unanswered on dead none.1 none.2).1
  · exact .inl (others c (by simpa using here)).1

theorem port_lowOffer (c : Computer) (t0 : Nat) (r : PointerReport) (s : State) : (lowOffer t0 r s).port c = s.port c ∨
    ((lowOffer t0 r s).powerState c = .unresponsive ∧ (lowOffer t0 r s).hasMethod c = false) := by
  unfold lowOffer
  split
  · exact port_resumeDesk c (windowed t0 (r.dx.natAbs + r.dy.natAbs) s)
  · exact .inl rfl

theorem lowOffer_reads (t0 : Nat) (r : PointerReport) (s : State) :
    (lowOffer t0 r s).delivered = s.delivered ∧ (lowOffer t0 r s).standIn = s.standIn := by
  obtain ⟨pointer, ⟨held, keyboard⟩, -⟩ := lowOffer_leaves t0 r s
  exact ⟨by rw [State.delivered, pointer]; rfl, standIn_of_parts (by rw [pointer]) (by rw [pointer]) (by rw [keyboard])⟩

/-- A report in low power that releases no delivered button, or one that is not committed, hands nothing. -/
theorem lowReport_unhanded {t0 : Nat} {r : PointerReport} {s : State} (none : s.delivered &&& r.buttons = s.delivered ∨
    s.delivered &&& r.buttons = s.committedButtons s.standIn) :
    lowReport r (lowOffer t0 r s) = swallowing r (lowOffer t0 r s) := by
  obtain ⟨delivered, standIn⟩ := lowOffer_reads t0 r s
  obtain ⟨-, same⟩ | ⟨changed, uncommitted, taken⟩ := lowReport_cases (r := r) delivered standIn
  · exact same
  · have committed := none.resolve_left changed
    obtain same | ⟨dead, method⟩ := port_lowOffer s.standIn t0 r s
    · exact absurd (committed.trans (by rw [State.committedButtons, State.committedButtons, same])) uncommitted
    · rw [taken]
      exact takePointer_dead (s := swallowing r (lowOffer t0 r s)) dead method _ _ _ _

/-- A report in low power that releases a delivered button hands the release to the stand-in computer (R62). -/
theorem lowReport_handed {t0 : Nat} {r : PointerReport} {s : State} (changed : s.delivered &&& r.buttons ≠ s.delivered)
    (uncommitted : s.delivered &&& r.buttons ≠ s.committedButtons s.standIn)
    (unwoken : s.desk.resumeWake = false ∨
      s.desk.reportQualifies (s.pressedBy r.buttons) r.wheel (r.dx.natAbs + r.dy.natAbs) = false) :
    PointerTaken s.standIn s.pointer.lastAbs[s.standIn].1 s.pointer.lastAbs[s.standIn].2 (s.delivered &&& r.buttons) 0
      ((s.pointer.swallow &&& r.buttons) ||| (r.buttons &&& ~~~s.pointer.buttons)) (max s.now t0) s
      (lowReport r (lowOffer t0 r s)) := by
  obtain ⟨delivered, standIn⟩ := lowOffer_reads t0 r s
  obtain ⟨ports, power⟩ := lowOffer_unwoken t0 r s unwoken
  obtain ⟨pointer, -, layout, now, dropped⟩ := lowOffer_leaves t0 r s
  have committed : (lowOffer t0 r s).committedButtons s.standIn = s.committedButtons s.standIn := by
    simp only [State.committedButtons, State.port, ports]
  obtain ⟨none, -⟩ | ⟨-, -, taken⟩ := lowReport_cases (r := r) delivered standIn
  · rw [committed] at none
    exact absurd none (not_or.2 ⟨changed, uncommitted⟩)
  · have swallow : (swallowing r (lowOffer t0 r s)).pointer.swallow =
        (s.pointer.swallow &&& r.buttons) ||| (r.buttons &&& ~~~s.pointer.buttons) := by
      rw [swallowing_eq, State.setPointer_pointer, pointer]
    rw [taken, pointer]
    exact pointerTaken_from ports power layout dropped swallow now

end Sys2Proof.Machine
end

section
/-!
PROOFS, the reports of a parked pointer (R76), and the whole of O34.
-/

set_option Elab.async false
namespace Sys2Proof.Machine
open Sys2Proof Sys2Proof.Safety

/-! ### A report with the pointer parked, on an ACTIVE desk (R76) -/

theorem activeReport_parked {s : State} (parked : s.pointer.place = none) (r : PointerReport) (n : Nat) :
    activeReport r n s = parkedEntry s.delivered r.wheel (takeButtons r.buttons s) := by
  have here : (takeButtons r.buttons s).pointer.place = none := parked
  have untaken : clickTake (s.pressedBy r.buttons) (takeButtons r.buttons s) = takeButtons r.buttons s :=
    clickTake_none (by simp only [State.takeClick, here])
  rw [activeReport, untaken]
  simp only [moveBy, reportEntry, here]
  rfl

/-- The entry of a parked pointer stands at the last absolute position, so handing it records nothing new. -/
theorem parkedEntry_cases {before : ButtonSet} {w : Int} {s : State} {c : Computer} (keys : s.keyboard.focus = c) :
    (w = 0 → s.delivered = before ∨ s.delivered = s.committedButtons c → parkedEntry before w s = s) ∧
    (w ≠ 0 ∨ (s.delivered ≠ before ∧ s.delivered ≠ s.committedButtons c) →
      parkedEntry before w s = takePointer c s.pointer.lastAbs[c].1 s.pointer.lastAbs[c].2 s.delivered w s) := by
  subst keys
  have handed (called : s.delivered ≠ s.committedButtons s.keyboard.focus ∨ w ≠ 0) :
      handEntry s.keyboard.focus s.pointer.lastAbs[s.keyboard.focus].1 s.pointer.lastAbs[s.keyboard.focus].2 s.delivered w s =
        takePointer s.keyboard.focus s.pointer.lastAbs[s.keyboard.focus].1 s.pointer.lastAbs[s.keyboard.focus].2
          s.delivered w s := by
    have same : s.pointer.lastAbs.set s.keyboard.focus s.pointer.lastAbs[s.keyboard.focus] = s.pointer.lastAbs := by
      simp
    rw [handEntry_called (.inr called)]
    exact congrArg (takePointer _ _ _ _ _) (by
      change s.setPointer { s.pointer with lastAbs := s.pointer.lastAbs.set s.keyboard.focus s.pointer.lastAbs[s.keyboard.focus] } = s
      rw [same]
      rfl)
  unfold parkedEntry
  dsimp only
  refine ⟨fun still none => ?_, fun called => ?_⟩
  · split
    · next asked =>
      exact handEntry_uncalled rfl (none.resolve_left (asked.resolve_right (not_not.2 still))) still
    · rfl
  · obtain wheel | ⟨changed, uncommitted⟩ := called
    · rw [if_pos (.inr wheel)]
      exact handed (.inr wheel)
    · rw [if_pos (.inl changed)]
      exact handed (.inl uncommitted)

/-- The state in which a parked pointer's entry is considered. -/
def parkedReport (t0 : Nat) (r : PointerReport) (s : State) : State := takeButtons r.buttons (offeredReport t0 r s)

theorem delivered_parkedReport (t0 : Nat) (r : PointerReport) (s : State) :
    (parkedReport t0 r s).delivered = r.buttons &&& ~~~s.pointer.swallow := delivered_after r.buttons s.pointer.swallow

theorem onlyChanges_parkedReport (t0 : Nat) (r : PointerReport) (s : State) :
    OnlyChanges [.now, .desk, .pointer, .keyboard] s (parkedReport t0 r s) := by
  intro p hp
  cases p <;> first | rfl | simp at hp

/-- A parked pointer's report on an ACTIVE desk: nothing handed, or an entry for the key-focus computer. -/
theorem parkedReport_entry {r : PointerReport} {s : State} (parked : s.pointer.place = none) (t0 n : Nat) :
    (r.wheel = 0 → r.buttons &&& ~~~s.pointer.swallow = s.delivered ∨
        r.buttons &&& ~~~s.pointer.swallow = s.committedButtons s.keyboard.focus →
      activeReport r n (offeredReport t0 r s) = parkedReport t0 r s) ∧
    (r.wheel ≠ 0 ∨ (r.buttons &&& ~~~s.pointer.swallow ≠ s.delivered ∧
        r.buttons &&& ~~~s.pointer.swallow ≠ s.committedButtons s.keyboard.focus) →
      activeReport r n (offeredReport t0 r s) = takePointer s.keyboard.focus s.pointer.lastAbs[s.keyboard.focus].1
        s.pointer.lastAbs[s.keyboard.focus].2 (r.buttons &&& ~~~s.pointer.swallow) r.wheel (parkedReport t0 r s)) := by
  have keys : (parkedReport t0 r s).keyboard.focus = s.keyboard.focus := rfl
  have same : activeReport r n (offeredReport t0 r s) = parkedEntry s.delivered r.wheel (parkedReport t0 r s) :=
    activeReport_parked (s := offeredReport t0 r s) parked r n
  obtain ⟨quiet, called⟩ := parkedEntry_cases (before := s.delivered) (w := r.wheel) keys
  rw [delivered_parkedReport] at quiet called
  rw [same]
  exact ⟨quiet, called⟩

/-- The Pointer Engine and the pointer port after a parked pointer's report on an ACTIVE desk. -/
theorem parkedReport_leaves {r : PointerReport} {s : State} (parked : s.pointer.place = none) (t0 n : Nat) :
    (activeReport r n (offeredReport t0 r s)).keyboard = (parkedReport t0 r s).keyboard ∧
    ∃ swallow, (activeReport r n (offeredReport t0 r s)).pointer =
      { s.pointer with buttons := r.buttons, lastInterval := some (max s.now t0), swallow := swallow } := by
  have pointer : (parkedReport t0 r s).pointer = { s.pointer with
    buttons := r.buttons, lastInterval := some (max s.now t0), swallow := s.pointer.swallow &&& r.buttons } := rfl
  obtain ⟨quiet, called⟩ := parkedReport_entry (r := r) parked t0 n
  by_cases handed : r.wheel ≠ 0 ∨ (r.buttons &&& ~~~s.pointer.swallow ≠ s.delivered ∧
        r.buttons &&& ~~~s.pointer.swallow ≠ s.committedButtons s.keyboard.focus)
  · rw [called handed]
    obtain ⟨swallow, same⟩ := takePointer_pointer s.keyboard.focus s.pointer.lastAbs[s.keyboard.focus].1
      s.pointer.lastAbs[s.keyboard.focus].2 (r.buttons &&& ~~~s.pointer.swallow) r.wheel (parkedReport t0 r s)
    exact ⟨by simp, swallow, by rw [same, pointer]⟩
  · simp only [not_or, not_and_or, not_not] at handed
    rw [quiet handed.1 handed.2]
    exact ⟨rfl, _, pointer⟩

/-- The Pointer Engine and the pointer port after a report in low power. -/
theorem lowReport_leaves_offer (t0 : Nat) (r : PointerReport) (s : State) :
    (∃ held, (lowReport r (lowOffer t0 r s)).keyboard = { s.keyboard with
      ptrPort := { s.keyboard.ptrPort with lastReport := some (max s.now t0) }, held := held }) ∧
    ∃ swallow, (lowReport r (lowOffer t0 r s)).pointer =
      { s.pointer with buttons := r.buttons, lastInterval := some (max s.now t0), swallow := swallow } := by
  obtain ⟨keyboard, swallow, pointer⟩ := lowReport_leaves_pointer r (lowOffer t0 r s)
  obtain ⟨offered, ⟨held, keys⟩, -⟩ := lowOffer_leaves t0 r s
  exact ⟨⟨held, keyboard.trans keys⟩, swallow, by rw [pointer, offered]⟩

theorem Desk.reportQualifies_iff {pressed : ButtonSet} {wheel : Int} {m : Nat} {d : Desk} :
    d.reportQualifies pressed wheel m = true ↔
      pressed ≠ 0 ∨ wheel ≠ 0 ∨ (m ≠ 0 ∧ d.deadZone ≤ m + (d.window.map MotionWindow.sum).getD 0) := by
  rw [Desk.reportQualifies, decide_eq_true_iff, Desk.windowSum, Nat.add_comm]

theorem Desk.windowAfter_eq (n m : Nat) (d : Desk) : d.windowAfter n m =
    if m = 0 then d.window else if d.deadZone ≤ m + (d.window.map MotionWindow.sum).getD 0 then none
    else some ⟨m + (d.window.map MotionWindow.sum).getD 0, (d.window.map MotionWindow.timer).getD ⟨n, 500000⟩⟩ := by
  rw [Desk.windowAfter, Desk.windowSum, Nat.add_comm]

theorem Desk.offered_eq (n m : Nat) (pressed : ButtonSet) (wheel : Int) (d : Desk) : d.offered n pressed wheel m = { d with
    idleStart := if pressed ≠ 0 ∨ wheel ≠ 0 ∨ (m ≠ 0 ∧ d.deadZone ≤ m + (d.window.map MotionWindow.sum).getD 0) then some n
      else d.idleStart,
    window := if m = 0 then d.window else if d.deadZone ≤ m + (d.window.map MotionWindow.sum).getD 0 then none
      else some ⟨m + (d.window.map MotionWindow.sum).getD 0, (d.window.map MotionWindow.timer).getD ⟨n, 500000⟩⟩ } := by
  simp only [Desk.offered, Desk.reportQualifies_iff, Desk.windowAfter_eq]

/-- The desk after a report in low power that qualifies as the waking input (R180, R182). -/
theorem lowReport_resumed {t0 : Nat} {r : PointerReport} {s : State}
    (q : s.desk.reportQualifies (s.pressedBy r.buttons) r.wheel (r.dx.natAbs + r.dy.natAbs) = true) :
    (lowReport r (lowOffer t0 r s)).desk = { s.desk with state := .active, idleStart := some (max s.now t0), window := none } ∧
    Raised (.deskPower .active) (lowReport r (lowOffer t0 r s)) := by
  obtain ⟨desk, raised, -⟩ := (lowOffer_desk t0 r s).1 q
  obtain ⟨same, event⟩ := lowReport_keeps r (lowOffer t0 r s) (k := .deskPower) (by decide)
  refine ⟨same.trans desk, ?_⟩
  rw [Raised, Event.kind, event]
  exact raised

/-- The desk after a report in low power that does not qualify. -/
theorem lowReport_stayed {t0 : Nat} {r : PointerReport} {s : State}
    (q : s.desk.reportQualifies (s.pressedBy r.buttons) r.wheel (r.dx.natAbs + r.dy.natAbs) = false) :
    (lowReport r (lowOffer t0 r s)).desk =
      { s.desk with window := s.desk.windowAfter (max s.now t0) (r.dx.natAbs + r.dy.natAbs) } :=
  (lowReport_keeps r (lowOffer t0 r s) (k := .deskPower) (by decide)).1.trans ((lowOffer_desk t0 r s).2 q)

/-- Whether a report in low power resumes the desk. -/
theorem lowReport_active_iff {t0 : Nat} {r : PointerReport} {s : State} (low : s.desk.state ≠ .active) :
    (lowReport r (lowOffer t0 r s)).desk.state = .active ↔
      s.desk.reportQualifies (s.pressedBy r.buttons) r.wheel (r.dx.natAbs + r.dy.natAbs) = true := by
  cases q : s.desk.reportQualifies (s.pressedBy r.buttons) r.wheel (r.dx.natAbs + r.dy.natAbs) with
  | true =>
    rw [(lowReport_resumed q).1]
    exact ⟨fun _ => rfl, fun _ => rfl⟩
  | false =>
    rw [lowReport_stayed q]
    exact ⟨fun on => absurd on low, fun h => by cases h⟩

/-! ### The obligation -/

/-- Settles O34: each kind of report is one case of `deskPointerReport`; in low power the clauses follow from what the offer did. -/
theorem pointerReportsThatMoveNothing : Obligations.PointerReportsThatMoveNothing := by
  unfold Obligations.PointerReportsThatMoveNothing
  refine ⟨fun bs t0 s absent => ?_, fun bs t0 s present bad => ?_, fun b x y w t0 s present parked good => ?_,
    fun b x y w t0 m s present low good hm => ?_, fun b x y w t0 m sum s present active good hm hsum => ?_⟩
  · refine ⟨_, exec_report_absent absent bs t0, rfl, fun p hp => ?_⟩
    cases p <;> first | rfl | simp at hp
  · refine ⟨_, exec_report_malformed present bad t0, by simp [State.advanceTo], by simp, raised_raise _ _, quiet_raise _ _, fun p hp => ?_⟩
    cases p <;> simp [Part.same] at hp ⊢
  · by_cases active : s.desk.state = .active
    · obtain ⟨keyboard, swallow, pointer⟩ := parkedReport_leaves (r := ⟨b.setWidth 5, count x, count y, count w⟩) parked t0
        (interval s.pointer.lastInterval (max s.now t0))
      obtain ⟨quiet, called⟩ := parkedReport_entry (r := ⟨b.setWidth 5, count x, count y, count w⟩) parked t0
        (interval s.pointer.lastInterval (max s.now t0))
      refine ⟨_, exec_activeReport present active good x y w t0, ?_⟩
      refine ⟨by rw [pointer]; exact parked, by rw [pointer], by rw [pointer], by rw [pointer], by rw [pointer], by rw [pointer],
        congrArg KeyboardEngine.ptrPort keyboard, by rw [pointer], fun _ still none => ?_, fun _ handed => ?_⟩
      · rw [quiet still none]
        exact ⟨rfl, onlyChanges_parkedReport t0 _ s⟩
      · rw [called handed]
        exact ⟨pointerTaken_from rfl rfl rfl rfl rfl rfl,
          onlyChanges_then (onlyChanges_parkedReport t0 _ s) (onlyChanges_takePointer _ _ _ _ _ _) (by decide)⟩
    · obtain ⟨⟨held, keyboard⟩, swallow, pointer⟩ := lowReport_leaves_offer t0 ⟨b.setWidth 5, count x, count y, count w⟩ s
      refine ⟨_, exec_lowReport present active good x y w t0, ?_⟩
      refine ⟨by rw [pointer]; exact parked, by rw [pointer], by rw [pointer], by rw [pointer], by rw [pointer], by rw [pointer],
        congrArg KeyboardEngine.ptrPort keyboard, by rw [pointer], fun on => absurd on active, fun on => absurd on active⟩
  · subst hm
    obtain ⟨⟨held, keyboard⟩, swallow, pointer⟩ := lowReport_leaves_offer t0 ⟨b.setWidth 5, count x, count y, count w⟩ s
    have active := lowReport_active_iff (t0 := t0) (r := ⟨b.setWidth 5, count x, count y, count w⟩) low
    obtain ⟨offered, -⟩ := lowOffer_leaves t0 ⟨b.setWidth 5, count x, count y, count w⟩ s
    refine ⟨_, exec_lowReport present low good x y w t0, ?_⟩
    refine ⟨by rw [pointer], by rw [pointer], by rw [pointer], by rw [pointer], by rw [pointer],
      by rw [keyboard], by rw [pointer], by rw [pointer], by rw [pointer],
      ⟨fun none => ?_, fun changed uncommitted unwoken => lowReport_handed changed uncommitted (unwoken.imp_right fun still => ?_)⟩,
      active.trans Desk.reportQualifies_iff, fun on => ?_, fun off => ?_⟩
    · have unhanded := lowReport_unhanded (t0 := t0) (r := ⟨b.setWidth 5, count x, count y, count w⟩) none
      refine ⟨by rw [unhanded, swallowing_eq, State.setPointer_pointer, offered], fun on => ?_, fun off => ?_⟩
      · rw [unhanded]
        exact ((lowOffer_desk t0 ⟨b.setWidth 5, count x, count y, count w⟩ s).1 (active.1 on)).2.2
      · rw [unhanded]
        exact lowOffer_unwoken t0 _ s (.inr (Bool.eq_false_iff.2 (mt active.2 off)))
    · exact Bool.eq_false_iff.2 (mt active.2 still)
    · obtain ⟨desk, raised⟩ := lowReport_resumed (t0 := t0) (active.1 on)
      exact ⟨by rw [desk], by rw [desk], raised⟩
    · have never := mt active.2 off
      have desk := lowReport_stayed (t0 := t0) (Bool.eq_false_iff.2 never)
      refine ⟨by rw [desk], fun moved => ?_⟩
      have short : ¬s.desk.deadZone ≤ (count x).natAbs + (count y).natAbs + (s.desk.window.map MotionWindow.sum).getD 0 :=
        fun reached => never (Desk.reportQualifies_iff.2 (.inr (.inr ⟨moved, reached⟩)))
      rw [desk]
      exact (Desk.windowAfter_eq _ _ _).trans ((if_neg moved).trans (if_neg short))
  · subst hm hsum
    exact ⟨_, exec_activeReport present active good x y w t0,
      ((activeReport_leaves _ _ _).2.2.2.2.2.2.1).trans (Desk.offered_eq _ _ _ _ _)⟩

end Sys2Proof.Machine
end

section
/-!
PROOFS, a change of key focus seen from outside (R100, R101), and the crossings and take clicks of a report (O33).
-/

set_option Elab.async false
namespace Sys2Proof.Machine
open Sys2Proof Sys2Proof.Safety

/-! ### The change of key focus (R101) -/

theorem othersKept_focusReleased (s : State) : OthersKept [s.keyboard.focus] s (focusReleased s) := by
  have swallowed (t : State) : OthersKept [s.keyboard.focus] t (swallowHeld t) := othersKept_of_parts rfl rfl
  refine (othersKept_releaseKeys s.keyboard.focus s).trans ?_
  unfold focusReleased releaseAtFocus
  repeat' split
  · exact (othersKept_releaseButtons _ _).trans (swallowed _)
  · exact swallowed _
  · exact .refl _ _

/-- The state of a focus change before its last step, the wake (R101 step 9). -/
def focusTaken (c : Computer) (s : State) : State := (raiseFocus (moveKeyFocus c (focusReleased s))).setSlot none

theorem focusRequest_of_moved {c : Computer} {s : State} (moved : s.keyboard.focus ≠ c) :
    focusRequest false c s = focusWake c (focusTaken c s) := focusRequest_moves moved

theorem focusTaken_parts (c : Computer) (s : State) : (focusTaken c s).ports = (focusReleased s).ports ∧
    (focusTaken c s).power = (focusReleased s).power ∧ (focusTaken c s).layout = s.layout ∧
    (focusTaken c s).pointer = (focusReleased s).pointer ∧ (focusTaken c s).keyboard.focus = c := by
  have lamps (t : State) : (showLamps t).keyboard.focus = t.keyboard.focus := by
    unfold showLamps
    split <;> rfl
  simp [focusTaken, raiseFocus, focusReleased, moveKeyFocus]

theorem othersKept_focusTaken (c : Computer) (s : State) : OthersKept [s.keyboard.focus] s (focusTaken c s) := by
  obtain ⟨ports, power, -⟩ := focusTaken_parts c s
  exact (othersKept_focusReleased s).trans (othersKept_of_parts ports power)

/-- A focus request for a computer that is up touches the computer left, and no other. -/
theorem othersKept_focusRequest {c : Computer} {s : State} (up : (s.powerState c).down = false) :
    OthersKept [s.keyboard.focus] s (focusRequest false c s) := by
  by_cases moved : s.keyboard.focus = c
  · rw [focusRequest_same moved]
    exact .refl _ s
  · have taken := othersKept_focusTaken c s
    have up' : ((focusTaken c s).powerState c).down = false := by
      rw [State.powerState, (taken c (by simpa using Ne.symm moved)).2]
      exact up
    rw [focusRequest_of_moved moved, focusWake, if_neg (by simp [up'])]
    exact taken

theorem event_focusWake {k : EventKind} (hk : k ∉ wakeKinds) (c : Computer) (s : State) : (focusWake c s).event k = s.event k := by
  unfold focusWake
  split
  · exact event_wakeRequest_of_not_mem hk c s
  · rfl

theorem raised_raiseFocus (s : State) : Raised (.focusChanged s.keyboard.focus s.pointer.focus) ((raiseFocus s).setSlot none) :=
  raised_raise (.focusChanged s.keyboard.focus s.pointer.focus) s

/-- A focus request that changes the key focus reports both focuses, and empties the return slot (R101 steps 7 and 8). -/
theorem focusRequest_reports {c : Computer} {s : State} (moved : s.keyboard.focus ≠ c) :
    Raised (.focusChanged c s.pointer.focus) (focusRequest false c s) ∧ (focusRequest false c s).matcher.slot = none := by
  obtain ⟨-, -, -, pointer, focus⟩ := focusTaken_parts c s
  have raised := raised_raiseFocus (moveKeyFocus c (focusReleased s))
  have keys : (moveKeyFocus c (focusReleased s)).keyboard.focus = c := by simp [moveKeyFocus]
  have place : (moveKeyFocus c (focusReleased s)).pointer.focus = s.pointer.focus := by
    rw [(moveKeyFocus_leaves c _).2.2.2.2.2.2.2.1, focusReleased_pointer]
  rw [focusRequest_of_moved moved]
  refine ⟨?_, by simp [focusTaken]⟩
  rw [keys, place] at raised
  rw [Raised, Event.kind, event_focusWake (by decide)]
  exact raised

end Sys2Proof.Machine
end

section
/-!
PROOFS, a glide that pushes across the edge of another computer's screen, and the take click (O33).
-/

set_option Elab.async false
namespace Sys2Proof.Machine
open Sys2Proof Sys2Proof.Safety

/-! ### An entry for an AWAKE computer -/

theorem Woken.awake {s t : State} (h : Woken s t) {c : Computer} (awake : s.powerState c = .awake) : t.powerState c = .awake := by
  obtain same | ⟨down, -⟩ := h.power c
  · exact same.trans awake
  · rw [awake] at down
    cases down

theorem takePointer_awake {c : Computer} {s : State} (awake : s.powerState c = .awake) (x y : Nat) (b : ButtonSet) (w : Int) :
    PointerPlaced x y b w (s.port c) ((takePointer c x y b w s).port c) ∧
    (takePointer c x y b w s).pointer.swallow = s.pointer.swallow ||| refusedOf b (s.port c) := by
  obtain ⟨-, -, -, placed⟩ := pointerTaken_takePointer c x y b w s
  have awake' := (woken_takePointer c x y b w s).awake awake
  rw [if_neg (by simp [awake'])] at placed
  exact ⟨placed.1, placed.2.1⟩

/-- An entry without buttons handed to an AWAKE computer leaves it with none committed at that position. -/
theorem handEntry_released {c : Computer} {x y : Nat} {w : Int} {s : State} (awake : s.powerState c = .awake)
    (fresh : s.pointer.lastAbs[c] ≠ (x, y) ∨ (s.port c).committedPointer = (x, y, 0)) :
    ((handEntry c x y 0 w s).port c).committedPointer = (x, y, 0) := by
  by_cases called : s.pointer.lastAbs[c] ≠ (x, y) ∨ (0 : ButtonSet) ≠ s.committedButtons c ∨ w ≠ 0
  · rw [handEntry_called called]
    have awake' : (s.setPointer { s.pointer with lastAbs := s.pointer.lastAbs.set c (x, y) }).powerState c = .awake := awake
    exact (takePointer_awake awake' x y 0 w).1.released
  · simp only [not_or, not_not] at called
    obtain ⟨here, same, none⟩ := called
    rw [handEntry_uncalled here same none]
    exact fresh.resolve_left (not_not.2 here)

/-! ### The push against the barrier (R68) -/

theorem outside_eq (x0 w : Nat) (t : Int) : (outside x0 w t : Int) = max 0 (max (x0 - t) (t - (x0 + w - 1))) := by
  unfold outside
  split
  · omega
  · split <;> omega

/-- The excess of a target outside the rectangle. -/
theorem excess_eq {r : Rect} {tx ty : Int} {excess : Nat} (out : r.contains tx ty = false)
    (h : (excess : Int) = max (max (r.x - tx) (tx - (r.x + r.w - 1))) (max (r.y - ty) (ty - (r.y + r.h - 1)))) :
    max (outside r.x r.w tx) (outside r.y r.h ty) = excess := by
  have hx := outside_eq r.x r.w tx
  have hy := outside_eq r.y r.h ty
  simp only [Rect.contains, Bool.and_eq_false_iff, decide_eq_false_iff_not] at out
  omega

theorem accrued_eq (old : Option Push) (i : ScreenId) (excess : Nat) : accrued old i excess =
    min 65535 ((match old with | some o => if o.screen = i then o.amount else 0 | none => 0) + excess) := by
  unfold accrued
  cases old with
  | none => simp
  | some o =>
    dsimp only
    split <;> simp

/-! ### A report without buttons -/

theorem carried_unpressed {q : PointerReport} (none : q.buttons = 0) (n : Nat) (s : State) : carried q n s =
    s.setPointer { s.pointer with
      buttons := q.buttons, swallow := s.pointer.swallow &&& q.buttons,
      rx := axisRest q.dx s.pointer.rx (s.pointer.gain (speed q.dx q.dy n)),
      ry := axisRest q.dy s.pointer.ry (s.pointer.gain (speed q.dx q.dy n)) } := by
  have unpressed : s.pressedBy q.buttons = 0 := by
    rw [State.pressedBy, none]
    exact BitVec.zero_and
  have untaken : clickTake (s.pressedBy q.buttons) (takeButtons q.buttons s) = takeButtons q.buttons s := by
    refine clickTake_none (Option.eq_none_iff_forall_ne_some.2 fun c taken => ?_)
    obtain ⟨-, -, -, -, -, pressed⟩ := takeClick_eq_some_iff.1 taken
    exact pressed unpressed
  rw [carried, clicked, untaken]
  rfl

/-- A report without buttons at a screen of another computer that is not ABSENT pushes against the barrier. -/
theorem activeReport_pushes {p : Place} {r o : Rect} {i : ScreenId} {h : Head} {s : State} {tx ty : Int} {q : PointerReport} {n : Nat}
    {excess : Nat} (none : q.buttons = 0) (place : s.pointer.place = some p) (rect : s.screenRect p.screen = some r)
    (target : tx = p.x + axisMotion q.dx s.pointer.rx (s.pointer.gain (speed q.dx q.dy n)) ∧
      ty = p.y + axisMotion q.dy s.pointer.ry (s.pointer.gain (speed q.dx q.dy n))) (out : r.contains tx ty = false)
    (apart : ScreensApart s) (there : s.eligible i = some (o, h)) (contained : o.contains tx ty = true)
    (other : s.pointer.focus ≠ some h.computer) (free : s.pointer.glideLock = false) (present : s.powerState h.computer ≠ .absent)
    (far : max (outside r.x r.w tx) (outside r.y r.h ty) = excess) :
    (accrued s.pointer.push i excess < s.pointer.barrier → activeReport q n s = reportEntry s.delivered q.wheel
      (clampTo p.screen r tx ty (setPush (some ⟨i, accrued s.pointer.push i excess, s.timer 300⟩) (carried q n s)))) ∧
    (s.pointer.barrier ≤ accrued s.pointer.push i excess → activeReport q n s = reportEntry s.delivered q.wheel
      (cross i h.computer tx ty (carried q n s))) := by
  obtain ⟨hx, hy⟩ := target
  subst far
  have carry := carried_unpressed none n s
  have open_ : crossingBlocked h.computer (carried q n s) = false := by
    have state : (carried q n s).powerState h.computer = s.powerState h.computer := by rw [carry]; rfl
    simp only [crossingBlocked, state, Bool.or_eq_false_iff, bne_eq_false_iff_eq, beq_eq_false_iff_ne]
    rw [carry]
    exact ⟨⟨none, free⟩, present⟩
  have glided : moveBy q.dx q.dy n (clicked q s) = pushAcross p.screen r i h.computer tx ty (carried q n s) := by
    rw [moveBy_clicked place, ← hx, ← hy, glide_outside ((carried_place q n s).1.trans place)
      ((carried_screens q n s _).1.trans rect) out (screensApart_of_screens (by rw [(carried_tables q n s).1]) apart)
      ((carried_screens q n s i).2.trans there) contained, if_neg (by rw [(carried_place q n s).2.1]; exact other)]
  have push : (carried q n s).pointer.push = s.pointer.push ∧ (carried q n s).pointer.barrier = s.pointer.barrier ∧
      (carried q n s).timer 300 = s.timer 300 := by
    rw [carry]
    exact ⟨rfl, rfl, rfl⟩
  rw [activeReport_eq, glided]
  refine ⟨fun below => ?_, fun reached => ?_⟩
  · rw [pushAcross_below open_ (by rw [push.1, push.2.1]; exact below), push.1, push.2.2]
  · rw [pushAcross_reached open_ (by rw [push.1, push.2.1]; exact reached)]

end Sys2Proof.Machine
end

section
/-!
PROOFS, the crossing of a report (R77, R78, R103) and what it hands over (O33).
-/

set_option Elab.async false
namespace Sys2Proof.Machine
open Sys2Proof Sys2Proof.Safety

theorem delivered_of_none {s : State} (none : s.pointer.buttons = 0) : s.delivered = 0 := by
  rw [State.delivered, none]
  exact BitVec.zero_and

/-- The state in which the computer crossed into is handed its entry (R77 steps 1 to 4). -/
def crossedInto (i : ScreenId) (c : Computer) (tx ty : Int) (s : State) : State :=
  takeFocus (some c) (leftStandIn s.standIn (some c) (setPlace (some ⟨i, tx.toNat, ty.toNat⟩) (setPush none s)))

theorem cross_eq (i : ScreenId) (c : Computer) (tx ty : Int) (s : State) :
    cross i c tx ty s = glideNotice c (handPlace 0 (crossedInto i c tx ty s)) := rfl

theorem crossedInto_leaves (i : ScreenId) (c : Computer) (tx ty : Int) (s : State) :
    (crossedInto i c tx ty s).layout = s.layout ∧ (crossedInto i c tx ty s).screens = s.screens ∧
    (crossedInto i c tx ty s).keyboard = s.keyboard ∧ (crossedInto i c tx ty s).pointer.place = some ⟨i, tx.toNat, ty.toNat⟩ ∧
    (crossedInto i c tx ty s).pointer.focus = some c ∧ (crossedInto i c tx ty s).pointer.buttons = s.pointer.buttons ∧
    (crossedInto i c tx ty s).pointer.lastAbs = s.pointer.lastAbs := by
  have left (a : Computer) (n : Option Computer) (t : State) : (leftStandIn a n t).pointer.buttons = t.pointer.buttons ∧
      (leftStandIn a n t).pointer.lastAbs = t.pointer.lastAbs := by
    unfold leftStandIn leaveStandIn
    repeat' split
    all_goals simp [swallowHeld]
  simp only [crossedInto, takeFocus_leaves, leftStandIn_leaves, left]
  simp [takeFocus, raiseFocus]

theorem woken_crossedInto (i : ScreenId) (c : Computer) (tx ty : Int) (s : State) : Woken s (crossedInto i c tx ty s) := by
  have placed : Woken s (setPlace (some ⟨i, tx.toNat, ty.toNat⟩) (setPush none s)) := woken_of_parts rfl rfl rfl
  have taken (t : State) : Woken t (takeFocus (some c) t) := (woken_setPointer _ t).trans (woken_raise _ _)
  refine placed.trans (Woken.trans ?_ (taken _))
  unfold leftStandIn
  split
  · exact .refl _
  · exact woken_leaveStandIn _ _

/-- The key focus follows a crossing into an unguarded computer, and the change of focus is reported (R77, R78, R103). -/
theorem cross_keys {c : Computer} {s : State} (present : s.powerState c ≠ .absent) (i : ScreenId) (tx ty : Int) :
    (cross i c tx ty s).keyboard.focus = (if (s.computer c).guarded then s.keyboard.focus else c) ∧
    Raised (.focusChanged (if (s.computer c).guarded then s.keyboard.focus else c) (some c)) (cross i c tx ty s) := by
  obtain ⟨layout, -, keyboard, -, focus, -⟩ := crossedInto_leaves i c tx ty s
  rw [cross_eq]
  have raised : Raised (.focusChanged s.keyboard.focus (some c)) (handPlace 0 (crossedInto i c tx ty s)) :=
    raised_pointerFocusChange s.standIn (some c) (setPlace (some ⟨i, tx.toNat, ty.toNat⟩) (setPush none s))
  have keys : (handPlace 0 (crossedInto i c tx ty s)).keyboard.focus = s.keyboard.focus := by simp [keyboard]
  have pointer : (handPlace 0 (crossedInto i c tx ty s)).pointer.focus = some c := by simp [focus]
  have entry : (handPlace 0 (crossedInto i c tx ty s)).computer c = s.computer c := by simp [State.computer, layout]
  have there : (handPlace 0 (crossedInto i c tx ty s)).powerState c ≠ .absent :=
    mt (((woken_crossedInto i c tx ty s).trans (woken_handPlace 0 _)).absent_iff c).1 present
  unfold glideNotice
  rw [entry]
  by_cases guarded : (s.computer c).guarded = true
  · rw [if_pos (.inl guarded), if_pos guarded]
    exact ⟨keys, raised⟩
  · rw [if_neg (not_or.2 ⟨guarded, there⟩), if_neg guarded]
    refine ⟨focus_focusRequest c _, ?_⟩
    by_cases same : s.keyboard.focus = c
    · rw [focusRequest_same (keys.trans same)]
      rwa [same] at raised
    · rw [← pointer]
      exact (focusRequest_reports fun e => same (keys.symm.trans e)).1

/-- A crossing without buttons onto an AWAKE computer commits the new position there (R77 step 5). -/
theorem cross_port {c : Computer} {s : State} {i : ScreenId} {tx ty : Int} {ax ay : Nat} (awake : s.powerState c = .awake)
    (none : s.pointer.buttons = 0) (mapped : s.mapPlace ⟨i, tx.toNat, ty.toNat⟩ = some (ax, ay))
    (new : s.pointer.lastAbs[c] ≠ (ax, ay)) :
    ((cross i c tx ty s).port c).committedPointer = (ax, ay, 0) ∧ (cross i c tx ty s).powerState c = .awake := by
  obtain ⟨layout, screens, keyboard, place, focus, buttons, lastAbs⟩ := crossedInto_leaves i c tx ty s
  have awake' : (crossedInto i c tx ty s).powerState c = .awake := (woken_crossedInto i c tx ty s).awake awake
  have handed : handPlace 0 (crossedInto i c tx ty s) = handEntry c ax ay 0 0 (crossedInto i c tx ty s) := by
    rw [handPlace_at place focus ((mapPlace_of_tables layout screens _).trans mapped), delivered_of_none (buttons.trans none)]
  have there : (handPlace 0 (crossedInto i c tx ty s)).powerState c = .awake := (woken_handPlace 0 _).awake awake'
  have released : ((handPlace 0 (crossedInto i c tx ty s)).port c).committedPointer = (ax, ay, 0) := by
    rw [handed]
    exact handEntry_released awake' (.inl (by rw [lastAbs]; exact new))
  have noticed : (glideNotice c (handPlace 0 (crossedInto i c tx ty s))).port c =
      (handPlace 0 (crossedInto i c tx ty s)).port c ∧
      (glideNotice c (handPlace 0 (crossedInto i c tx ty s))).powerState c = .awake := by
    obtain same | asked := glideNotice_cases c (handPlace 0 (crossedInto i c tx ty s))
    · rw [same]
      exact ⟨rfl, there⟩
    · rw [asked]
      refine ⟨?_, (woken_focusRequest c _).awake there⟩
      by_cases moved : (handPlace 0 (crossedInto i c tx ty s)).keyboard.focus = c
      · rw [focusRequest_same moved]
      · exact ((othersKept_focusRequest (by rw [there]; rfl)) c (by simpa using Ne.symm moved)).1
  rw [cross_eq, noticed.1]
  exact ⟨released, noticed.2⟩

/-- A report's entry after a crossing changes neither the focuses nor their report, and stands at the same position. -/
theorem reportEntry_crossed {c : Computer} {p : Place} {a : Nat × Nat} {s : State} (place : s.pointer.place = some p)
    (focus : s.pointer.focus = some c) (mapped : s.mapPlace p = some a) (before : ButtonSet) (w : Int) :
    reportEntry before w s = handEntry c a.1 a.2 s.delivered w s ∧ (reportEntry before w s).pointer.lastAbs[c] = a := by
  have handed : reportEntry before w s = handPlace w s := if_pos (by rw [place]; rfl)
  exact ⟨handed.trans (handPlace_at place focus mapped w), by rw [handed]; exact handPlace_lastAbs w s p c a place focus mapped⟩

theorem event_reportEntry {k : EventKind} (hk : k ∉ entryKinds) (before : ButtonSet) (w : Int) (s : State) :
    (reportEntry before w s).event k = s.event k := by
  unfold reportEntry parkedEntry
  dsimp only
  repeat' split
  · exact event_handPlace w s k hk
  · exact event_handEntry _ _ _ _ w s k hk
  · rfl

/-- The parts that a report on an ACTIVE desk changes. -/
theorem onlyChanges_activeReport (q : PointerReport) (n t0 : Nat) (s : State) :
    OnlyChanges [.now, .desk, .status, .pointer, .keyboard, .matcher, .lines, .ports, .power] s
      (activeReport q n (offeredReport t0 q s)) := by
  intro part hp
  cases part <;> simp [Part.same] at hp ⊢ <;> rfl

end Sys2Proof.Machine
end

section
/-!
PROOFS, the take click of a report (R74, R79), and the whole of O33.
-/

set_option Elab.async false
namespace Sys2Proof.Machine
open Sys2Proof Sys2Proof.Safety

/-- With a button held no crossing takes place, so the click alone decides the key focus (R67). -/
theorem moveBy_held {p : Place} {q : PointerReport} {s : State} (place : s.pointer.place = some p) (held : q.buttons ≠ 0) (n : Nat) :
    ∃ o push rx ry, moveBy q.dx q.dy n (clicked q s) =
      (clicked q s).setPointer { (clicked q s).pointer with place := some o, push := push, rx := rx, ry := ry } := by
  obtain ⟨o, push, same⟩ | ⟨i, d, -, free, -⟩ := glide_cases ((carried_place q n s).1.trans place)
    (p.x + axisMotion q.dx s.pointer.rx (s.pointer.gain (speed q.dx q.dy n)))
    (p.y + axisMotion q.dy s.pointer.ry (s.pointer.gain (speed q.dx q.dy n)))
  · exact ⟨o, push, axisRest q.dx s.pointer.rx (s.pointer.gain (speed q.dx q.dy n)),
      axisRest q.dy s.pointer.ry (s.pointer.gain (speed q.dx q.dy n)), by rw [moveBy_clicked place, same]; rfl⟩
  · obtain ⟨swallow, pointer⟩ := carried_pointer q n s
    simp only [crossingBlocked, Bool.or_eq_false_iff, bne_eq_false_iff_eq, pointer] at free
    exact absurd free.1.1 held

/-- The swallow set only grows when an entry is handed. -/
theorem swallow_handPlace (w : Int) (s : State) (b : ButtonSet) (inside : s.pointer.swallow &&& b = b) :
    (handPlace w s).pointer.swallow &&& b = b := by
  have grown (r : ButtonSet) : (s.pointer.swallow ||| r) &&& b = b := by
    refine BitVec.eq_of_getLsbD_eq fun i hi => ?_
    have bit := congrArg (BitVec.getLsbD · i) inside
    simp only [BitVec.getLsbD_and, BitVec.getLsbD_or] at bit ⊢
    revert bit
    cases s.pointer.swallow.getLsbD i <;> cases b.getLsbD i <;> simp
  have handed (c : Computer) (x y : Nat) (d : ButtonSet) (t : State) (same : t.pointer.swallow = s.pointer.swallow) :
      (takePointer c x y d w t).pointer.swallow &&& b = b := by
    obtain ⟨-, -, -, taken⟩ := pointerTaken_takePointer c x y d w t
    rw [same] at taken
    split at taken
    · rw [taken.2.1, inside]
    · rw [taken.2.1]
      exact grown _
  unfold handPlace handEntry
  repeat' split
  all_goals first
    | exact inside
    | exact handed _ _ _ _ _ rfl

/-- The click of a report, seen from the state the report arrived in. -/
theorem clicked_taken {q : PointerReport} {s : State} {c : Computer} (there : s.pointer.place.isSome = true)
    (focus : s.pointer.focus = some c) (pressed : q.buttons &&& ~~~s.pointer.buttons ≠ 0) (guarded : (s.computer c).guarded = true)
    (present : s.powerState c ≠ .absent) (moved : s.keyboard.focus ≠ c) : clicked q s =
      if (s.computer c).takeClickSwallow then
        swallowButtons (q.buttons &&& ~~~s.pointer.buttons) (focusRequest false c (takeButtons q.buttons s))
      else focusRequest false c (takeButtons q.buttons s) :=
  clickTake_some (s := takeButtons q.buttons s) (takeClick_eq_some_iff.2 ⟨there, focus, guarded, moved, present, pressed⟩)

/-- A click that takes nothing leaves the state with the report's buttons. -/
theorem clicked_untaken {q : PointerReport} {s : State} {c : Computer} (focus : s.pointer.focus = some c)
    (untaken : (s.computer c).guarded = false ∨ s.powerState c = .absent ∨ s.keyboard.focus = c) :
    clicked q s = takeButtons q.buttons s := by
  refine clickTake_none (Option.eq_none_iff_forall_ne_some.2 fun d taken => ?_)
  obtain ⟨-, focus', guarded, moved, present, -⟩ := takeClick_eq_some_iff.1 taken
  cases Option.some.inj (focus.symm.trans focus')
  obtain off | absent | same := untaken
  · exact absurd guarded (by rw [show (takeButtons q.buttons s).computer c = s.computer c from rfl, off]; decide)
  · exact present absent
  · exact moved same

end Sys2Proof.Machine
end

section
/-!
PROOFS, the take click that is delivered (R74, R79), and the whole of O33.
-/

set_option Elab.async false
namespace Sys2Proof.Machine
open Sys2Proof Sys2Proof.Safety

/-- A take click moves the key focus, reports it and empties the return slot; its buttons are swallowed by the computer's flag. -/
theorem clicked_reports {q : PointerReport} {s : State} {c : Computer} (there : s.pointer.place.isSome = true)
    (focus : s.pointer.focus = some c) (pressed : q.buttons &&& ~~~s.pointer.buttons ≠ 0) (guarded : (s.computer c).guarded = true)
    (present : s.powerState c ≠ .absent) (moved : s.keyboard.focus ≠ c) :
    (clicked q s).keyboard.focus = c ∧ Raised (.focusChanged c (some c)) (clicked q s) ∧ (clicked q s).matcher.slot = none ∧
    ((s.computer c).takeClickSwallow = true →
      (clicked q s).pointer.swallow &&& (q.buttons &&& ~~~s.pointer.buttons) = q.buttons &&& ~~~s.pointer.buttons) := by
  have moved' : (takeButtons q.buttons s).keyboard.focus ≠ c := moved
  obtain ⟨raised, slot⟩ := focusRequest_reports moved'
  rw [show (takeButtons q.buttons s).pointer.focus = some c from focus] at raised
  rw [clicked_taken there focus pressed guarded present moved]
  split
  · refine ⟨focus_focusRequest c (takeButtons q.buttons s), raised, slot, fun _ => ?_⟩
    rw [swallowButtons, State.setPointer_pointer]
    refine BitVec.eq_of_getLsbD_eq fun i hi => ?_
    simp only [BitVec.getLsbD_and, BitVec.getLsbD_or]
    cases (q.buttons.getLsbD i && (~~~s.pointer.buttons).getLsbD i) <;> simp
  · next off => exact ⟨focus_focusRequest c (takeButtons q.buttons s), raised, slot, fun on => absurd on off⟩

/-- What a report with a button held takes over from its click. -/
theorem activeReport_held {p : Place} {q : PointerReport} {s : State} (place : s.pointer.place = some p) (held : q.buttons ≠ 0)
    (n : Nat) : (activeReport q n s).keyboard = (clicked q s).keyboard ∧ (activeReport q n s).pointer.focus = s.pointer.focus ∧
    (activeReport q n s).matcher = (clicked q s).matcher ∧
    (∀ k ∉ entryKinds, (activeReport q n s).event k = (clicked q s).event k) ∧
    (∀ b, (clicked q s).pointer.swallow &&& b = b → (activeReport q n s).pointer.swallow &&& b = b) := by
  obtain ⟨o, push, rx, ry, same⟩ := moveBy_held place held n
  obtain ⟨swallow, pointer⟩ := clicked_pointer q s
  rw [activeReport_eq, same]
  refine ⟨by rw [reportEntry_keyboard, State.setPointer_keyboard], ?_, ?_, fun k hk => event_reportEntry hk _ _ _, fun b inside => ?_⟩
  · rw [(reportEntry_pointer_leaves _ _ _).2.1, State.setPointer_pointer, pointer]
  · simp [reportEntry]
  · exact swallow_handPlace q.wheel ((clicked q s).setPointer { (clicked q s).pointer with
      place := some o, push := push, rx := rx, ry := ry }) b inside

/-! ### The click that is delivered -/

/-- A delivered take click leaves the pointer and the computer taken as they were, but for the report's buttons. -/
theorem clicked_delivered {p : Place} {q : PointerReport} {s : State} {c : Computer} (place : s.pointer.place = some p)
    (focus : s.pointer.focus = some c) (pressed : q.buttons &&& ~~~s.pointer.buttons ≠ 0) (guarded : (s.computer c).guarded = true)
    (awake : s.powerState c = .awake) (moved : s.keyboard.focus ≠ c) (delivers : (s.computer c).takeClickSwallow = false)
    (home : ButtonsHome s) : (clicked q s).pointer = { s.pointer with
        buttons := q.buttons, swallow := s.pointer.swallow &&& q.buttons } ∧ (clicked q s).port c = s.port c ∧
      (clicked q s).powerState c = .awake := by
  have present : s.powerState c ≠ .absent := by simp [awake]
  have unheld : (takeButtons q.buttons s).committedButtons s.keyboard.focus = 0 := by
    have at_c : s.standIn = c := standIn_of_focus place focus
    exact ((((buttonsHome_iff s).1 home).2 s.keyboard.focus).2 (by rw [at_c]; exact moved))
  have taken : clicked q s = focusRequest false c (takeButtons q.buttons s) := by
    rw [clicked_taken (by rw [place]; rfl) focus pressed guarded present moved, delivers]
    rfl
  have up : ((takeButtons q.buttons s).powerState c).down = false := by
    rw [show (takeButtons q.buttons s).powerState c = s.powerState c from rfl, awake]
    rfl
  rw [taken]
  refine ⟨?_, (othersKept_focusRequest up c (by simpa using Ne.symm moved)).1, (woken_focusRequest c _).awake awake⟩
  rw [focusRequest_pointer, if_neg (show (takeButtons q.buttons s).keyboard.focus ≠ c from moved), focusReleased_pointer]
  have still : ¬((takeButtons q.buttons s).committedButtons (takeButtons q.buttons s).keyboard.focus ≠ 0 ∨
      (takeButtons q.buttons s).pointer.place = none) := by
    rintro (held | parked)
    · exact held unheld
    · cases place.symm.trans parked
  rw [if_neg still]
  rfl

theorem axisMotion_zero {r : Int} (fits : -15 ≤ r ∧ r ≤ 15) (g : Nat) : axisMotion 0 r g = 0 := by
  have still : scaled 0 r g = r := by simp [scaled, reversal]
  rw [axisMotion, still, ← Int.natAbs_eq_zero, Int.natAbs_tdiv]
  exact Nat.div_eq_of_lt (by change r.natAbs < 16; omega)

end Sys2Proof.Machine
end

section
/-!
PROOFS, the whole of O33: the five clauses from the crossing, the take click and the push decay.
-/

set_option Elab.async false
namespace Sys2Proof.Machine
open Sys2Proof Sys2Proof.Safety

/-- The state after a report without motion whose take click is delivered, before its entry. -/
theorem moveBy_delivered {p : Place} {q : PointerReport} {s : State} {c : Computer} (place : s.pointer.place = some p)
    (focus : s.pointer.focus = some c) (pressed : q.buttons &&& ~~~s.pointer.buttons ≠ 0) (guarded : (s.computer c).guarded = true)
    (awake : s.powerState c = .awake) (moved : s.keyboard.focus ≠ c) (delivers : (s.computer c).takeClickSwallow = false)
    (home : ButtonsHome s) (inside : PointerHome s) (rests : AccumulatorsFit s) (still : q.dx = 0 ∧ q.dy = 0) (n : Nat) :
    ∃ v : State, activeReport q n s = reportEntry s.delivered q.wheel v ∧ v.pointer.place = some p ∧ v.pointer.focus = some c ∧
      v.pointer.swallow = s.pointer.swallow &&& q.buttons ∧ v.pointer.buttons = q.buttons ∧ v.pointer.lastAbs = s.pointer.lastAbs ∧
      v.port c = s.port c ∧ v.powerState c = .awake ∧ v.layout = s.layout ∧ v.screens = s.screens ∧ v.keyboard.focus = c := by
  obtain ⟨pointer, port, awake'⟩ := clicked_delivered place focus pressed guarded awake moved delivers home
  obtain ⟨keys, -⟩ := clicked_reports (by rw [place]; rfl) focus pressed guarded (by simp [awake]) moved
  obtain ⟨layout, screens, -⟩ := carried_tables q n s
  obtain ⟨r, h, there, contained, -⟩ := eligible_of_home inside place
  have rect : s.screenRect p.screen = some r := ((eligible_eq_some_iff s _ r h).1 there).1
  obtain ⟨x_low, x_high, y_low, y_high⟩ := rests
  have unmoved : moveBy q.dx q.dy n (clicked q s) = glideWithin p.screen p.x p.y (carried q n s) := by
    rw [moveBy_clicked place, still.1, still.2, axisMotion_zero ⟨x_low, x_high⟩, axisMotion_zero ⟨y_low, y_high⟩, Int.add_zero, Int.add_zero]
    exact glide_inside ((carried_place q n s).1.trans place) ((carried_screens q n s _).1.trans rect) contained
  refine ⟨glideWithin p.screen p.x p.y (carried q n s), by rw [activeReport_eq, unmoved], rfl, ?_, ?_, ?_, ?_, port, awake', layout,
    screens, keys⟩
  · exact (carried_place q n s).2.1.trans focus
  · exact congrArg PointerEngine.swallow pointer
  · exact congrArg PointerEngine.buttons pointer
  · refine Eq.trans (b := (clicked q s).pointer.lastAbs) rfl ?_
    rw [pointer]

theorem count_eq_zero_iff (b : Byte) : count b = 0 ↔ b = 0 := by
  have low := BitVec.le_toInt (x := b)
  have zero : b.toInt = 0 ↔ b = 0 := by rw [← BitVec.toInt_inj]; rfl
  rw [← zero]
  unfold count
  omega

/-- Buttons newly pressed are not in the swallow set while it lies inside the button set (R73). -/
theorem swallow_pressed {swallow buttons : ButtonSet} (inside : subBits swallow buttons = true) (b : ButtonSet) :
    (swallow &&& b) &&& (b &&& ~~~buttons) = 0 := by
  have sub := (subBits_iff _ _).1 inside
  refine BitVec.eq_of_getLsbD_eq fun i hi => ?_
  have bit := sub i
  simp only [BitVec.getLsbD_and, BitVec.getLsbD_not, hi, decide_true, Bool.true_and] at bit ⊢
  revert bit
  cases swallow.getLsbD i <;> cases buttons.getLsbD i <;> cases b.getLsbD i <;> simp

/-- A push that stays below the barrier is held with the pointer at the edge, and moves no focus (R68). -/
theorem pushed_below {p : Place} {r : Rect} {i : ScreenId} {amount : Nat} {before : ButtonSet} {w tx ty : Int} {s v : State}
    (pointer : v.pointer.focus = s.pointer.focus) (keyboard : v.keyboard.focus = s.keyboard.focus)
    (events : v.event .focusChanged = s.event .focusChanged) (tm : Timer) :
    let t := reportEntry before w (clampTo p.screen r tx ty (setPush (some ⟨i, amount, tm⟩) v))
    t.pointer.place = some ⟨p.screen, clampAxis r.x r.w tx, clampAxis r.y r.h ty⟩ ∧ t.pointer.push = some ⟨i, amount, tm⟩ ∧
    t.pointer.focus = s.pointer.focus ∧ t.keyboard.focus = s.keyboard.focus ∧ t.event .focusChanged = s.event .focusChanged := by
  simp only [reportEntry_pointer_leaves, reportEntry_keyboard, event_reportEntry (k := .focusChanged) (by decide)]
  exact ⟨rfl, rfl, pointer, keyboard, events⟩

/-- A push that reaches the barrier crosses, with the focuses and their report (R68, R77, R78). -/
theorem pushed_across {i : ScreenId} {c : Computer} {before : ButtonSet} {w tx ty : Int} {v : State}
    (present : v.powerState c ≠ .absent) (none : v.pointer.buttons = 0) :
    let t := reportEntry before w (cross i c tx ty v)
    t.pointer.place = some ⟨i, tx.toNat, ty.toNat⟩ ∧ t.pointer.push = .none ∧ t.pointer.focus = some c ∧
    t.keyboard.focus = (if (v.computer c).guarded then v.keyboard.focus else c) ∧
    Raised (.focusChanged (if (v.computer c).guarded then v.keyboard.focus else c) (some c)) t ∧
    (∀ a, v.mapPlace ⟨i, tx.toNat, ty.toNat⟩ = some a → t.pointer.lastAbs[c] = a) ∧
    (∀ ax ay, v.mapPlace ⟨i, tx.toNat, ty.toNat⟩ = some (ax, ay) → v.powerState c = .awake → v.pointer.lastAbs[c] ≠ (ax, ay) →
      (t.port c).committedPointer = (ax, ay, 0)) := by
  obtain ⟨place, focus, push⟩ := cross_pointer i c tx ty v
  obtain ⟨keys, raised⟩ := cross_keys present i tx ty
  have mapped (a : Nat × Nat) (h : v.mapPlace ⟨i, tx.toNat, ty.toNat⟩ = some a) :
      (cross i c tx ty v).mapPlace ⟨i, tx.toNat, ty.toNat⟩ = some a := by
    rwa [mapPlace_of_tables (s := v) (by simp) (by simp)]
  dsimp only
  rw [reportEntry_keyboard]
  simp only [reportEntry_pointer_leaves]
  refine ⟨place, push, focus, keys, ?_, fun a h => (reportEntry_crossed place focus (mapped a h) before w).2,
    fun ax ay h awake new => ?_⟩
  · rw [Raised, Event.kind, event_reportEntry (by decide)]
    exact raised
  · obtain ⟨port, awake'⟩ := cross_port awake none h new
    have delivered : (cross i c tx ty v).delivered = 0 := delivered_of_none ((cross_still i c tx ty v).2.2.2.trans none)
    rw [(reportEntry_crossed place focus (mapped (ax, ay) h) before w).1, delivered]
    exact handEntry_released awake' (.inr port)

theorem pushExpiry_none {s : State} (none : s.pointer.push = none) : pushExpiry s = s := by
  simp only [pushExpiry, none]

theorem pushExpiry_some {s : State} {p : Push} (held : s.pointer.push = some p) :
    pushExpiry s = setPush none (s.reach p.timer) := by
  simp only [pushExpiry, held]

/-- An entry for an AWAKE computer with room in its queue is committed there, and refuses no button. -/
theorem takePointer_short {c : Computer} {s : State} (awake : s.powerState c = .awake) (short : (s.port c).queue.length < 28)
    (x y : Nat) (b : ButtonSet) (w : Int) : ((takePointer c x y b w s).port c).committedPointer = (x, y, b) ∧
      (takePointer c x y b w s).pointer = s.pointer := by
  obtain ⟨placed, grown⟩ := takePointer_awake awake x y b w
  obtain ⟨swallow, pointer⟩ := takePointer_pointer c x y b w s
  have kept : refusedOf b (s.port c) = 0 := if_neg (by omega)
  rw [kept, show s.pointer.swallow ||| 0 = s.pointer.swallow from BitVec.or_zero, pointer] at grown
  refine ⟨placed.committedPointer_of_short short, ?_⟩
  rw [pointer, show swallow = s.pointer.swallow from grown]

/-- The entry of a report whose take click was delivered. -/
theorem delivered_entry {p : Place} {q : PointerReport} {c : Computer} {before swallow : ButtonSet} {w : Int} {ax ay : Nat} {s v : State}
    (place : v.pointer.place = some p) (focus : v.pointer.focus = some c) (mapped : v.mapPlace p = some (ax, ay))
    (swallowed : v.pointer.swallow = swallow &&& q.buttons) (buttons : v.pointer.buttons = q.buttons)
    (lastAbs : v.pointer.lastAbs = s.pointer.lastAbs) (port : v.port c = s.port c) (awake : v.powerState c = .awake)
    (short : (s.port c).queue.length < 28) :
    let t := reportEntry before w v
    t.keyboard.focus = v.keyboard.focus ∧ t.pointer.place = some p ∧ t.pointer.swallow = swallow &&& q.buttons ∧
    t.delivered = q.buttons &&& ~~~swallow ∧
    (s.pointer.lastAbs[c] ≠ (ax, ay) ∨ t.delivered ≠ s.committedButtons c ∨ w ≠ 0 →
      (t.port c).committedPointer = (ax, ay, t.delivered)) ∧
    (s.pointer.lastAbs[c] = (ax, ay) → t.delivered = s.committedButtons c → w = 0 → t.port c = s.port c) := by
  have delivered : v.delivered = q.buttons &&& ~~~swallow := by
    rw [State.delivered, buttons, swallowed]
    exact delivered_after q.buttons swallow
  have committed : v.committedButtons c = s.committedButtons c := by rw [State.committedButtons, port]; rfl
  obtain ⟨entered, -⟩ := reportEntry_crossed place focus mapped before w
  dsimp only
  rw [entered, delivered]
  by_cases called : v.pointer.lastAbs[c] ≠ (ax, ay) ∨ q.buttons &&& ~~~swallow ≠ v.committedButtons c ∨ w ≠ 0
  · have awake' : (v.setPointer { v.pointer with lastAbs := v.pointer.lastAbs.set c (ax, ay) }).powerState c = .awake := awake
    have short' : ((v.setPointer { v.pointer with lastAbs := v.pointer.lastAbs.set c (ax, ay) }).port c).queue.length < 28 := by
      change (v.port c).queue.length < 28
      rwa [port]
    obtain ⟨committed', pointer⟩ := takePointer_short awake' short' ax ay (q.buttons &&& ~~~swallow) w
    rw [handEntry_called called, State.delivered, pointer]
    have after : (v.pointer.buttons &&& ~~~v.pointer.swallow) = q.buttons &&& ~~~swallow := delivered
    refine ⟨by simp, place, swallowed, after, fun _ => ?_, fun here same none => ?_⟩
    · refine committed'.trans ?_
      rw [← after]
      rfl
    · rw [lastAbs, committed, ← after] at called
      exact absurd called (not_or.2 ⟨not_not.2 here, not_or.2 ⟨not_not.2 same, not_not.2 none⟩⟩)
  · have idle := called
    simp only [not_or, not_not] at idle
    obtain ⟨here, same, none⟩ := idle
    rw [handEntry_uncalled here same none, delivered]
    rw [lastAbs, committed] at called
    exact ⟨rfl, place, swallowed, rfl, fun h => absurd h called, fun _ _ _ => port⟩

/-- Settles O33: the push is compared with the barrier, a crossing hands the new place, and a take click moves the key focus. -/
theorem crossingsAndTakeClicks : Obligations.CrossingsAndTakeClicks := by
  unfold Obligations.CrossingsAndTakeClicks
  refine ⟨fun x y w t0 excess amount tx ty p r o i h s present active place rect target out apart there contained other free up far
      hamount => ?_, fun b x y w t0 c new s present active there focus good hnew pressed => ?_,
    fun b w t0 ax ay c p new s present active place inside home swallows rests mapped focus good hnew pressed guarded moved awake
      delivers short => ?_, fun s none => ?_, fun p s held => ?_⟩
  · obtain ⟨q, hq⟩ : ∃ q : PointerReport, q = ⟨(0 : Byte).setWidth 5, count x, count y, count w⟩ := ⟨_, rfl⟩
    have none : q.buttons = 0 := by rw [hq]; rfl
    have accrual : accrued s.pointer.push i excess = amount := (accrued_eq _ i excess).trans hamount.symm
    have carry := carried_unpressed none (interval s.pointer.lastInterval (max s.now t0)) (offeredReport t0 q s)
    obtain ⟨below, reached⟩ := activeReport_pushes (q := q) (s := offeredReport t0 q s)
      (n := interval s.pointer.lastInterval (max s.now t0)) none place rect (by rw [hq]; exact target) out apart there contained other
      free up (excess_eq out far)
    rw [show accrued (offeredReport t0 q s).pointer.push i excess = amount from accrual] at below reached
    refine ⟨_, exec_activeReport present active (by decide) x y w t0, fun short => ?_, fun far => ?_,
      onlyChanges_activeReport _ _ t0 s⟩
    · rw [← hq, below short]
      exact pushed_below (by rw [carry]; rfl) (by rw [carry]; rfl) (by rw [carry]; rfl) _
    · obtain ⟨place', push, focus, keys, raised, lastAbs, port⟩ := pushed_across (i := i) (c := h.computer)
        (before := (offeredReport t0 q s).delivered) (w := q.wheel) (tx := tx) (ty := ty)
        (v := carried q (interval s.pointer.lastInterval (max s.now t0)) (offeredReport t0 q s)) (by rw [carry]; exact up)
        (by rw [carry]; exact none)
      rw [carry] at keys raised lastAbs port
      rw [← hq, reached far, carry]
      rw [carry] at place' push focus
      exact ⟨place', push, focus, keys, raised, fun e he => lastAbs _ (mapPlace_eq there he), port⟩
  · subst hnew
    obtain ⟨p, place⟩ := Option.isSome_iff_exists.1 there
    obtain ⟨q, hq⟩ : ∃ q : PointerReport, q = ⟨b.setWidth 5, count x, count y, count w⟩ := ⟨_, rfl⟩
    have held : q.buttons ≠ 0 := by
      rw [hq]
      intro zero
      exact pressed (by rw [show b.setWidth 5 = (0 : ButtonSet) from zero]; exact BitVec.zero_and)
    have pressed' : q.buttons &&& ~~~(offeredReport t0 q s).pointer.buttons ≠ 0 := by rw [hq]; exact pressed
    obtain ⟨keyboard, pointer, matcher, events, swallow⟩ := activeReport_held (s := offeredReport t0 q s) place held
      (interval s.pointer.lastInterval (max s.now t0))
    have reports (guarded : (s.computer c).guarded = true) (up : s.powerState c ≠ .absent) (moved : s.keyboard.focus ≠ c) :=
      clicked_reports (s := offeredReport t0 q s) there focus pressed' guarded up moved
    refine ⟨_, exec_activeReport present active good x y w t0, ?_⟩
    rw [← hq]
    rw [keyboard, pointer, matcher]
    refine ⟨focus, fun guarded up => ?_, fun guarded up moved => ?_, fun guarded up moved swallows => ?_, fun untaken => ?_⟩
    · by_cases moved : s.keyboard.focus = c
      · rw [clicked_untaken (s := offeredReport t0 q s) focus (.inr (.inr moved))]
        exact moved
      · exact (reports guarded up moved).1
    · obtain ⟨-, raised, slot, -⟩ := reports guarded up moved
      refine ⟨?_, slot⟩
      rw [Raised, Event.kind, events _ (by decide)]
      exact raised
    · have grown := swallow _ ((reports guarded up moved).2.2.2 swallows)
      rw [hq] at grown ⊢
      exact grown
    · rw [clicked_untaken (s := offeredReport t0 q s) focus (untaken.imp_right .inl)]
      rfl
  · subst hnew
    obtain ⟨q, hq⟩ : ∃ q : PointerReport, q = ⟨b.setWidth 5, count 0, count 0, count w⟩ := ⟨_, rfl⟩
    obtain ⟨v, entered, place', focus', swallow, buttons, lastAbs, port, awake', layout, screens, keys⟩ :=
      moveBy_delivered (q := q) (s := offeredReport t0 q s) place focus (by rw [hq]; exact pressed) guarded awake moved delivers home
        inside rests (by rw [hq]; exact ⟨rfl, rfl⟩) (interval s.pointer.lastInterval (max s.now t0))
    obtain ⟨keyboard, place'', swallowed, delivered, called, idle⟩ := delivered_entry (before := (offeredReport t0 q s).delivered)
      (s := offeredReport t0 q s) (w := q.wheel) place' focus' ((mapPlace_of_tables layout screens p).trans mapped) swallow buttons
      lastAbs port awake' short
    have wheel : q.wheel = 0 ↔ w = 0 := by rw [hq]; exact count_eq_zero_iff w
    refine ⟨_, exec_activeReport present active good 0 0 w t0, ?_⟩
    rw [← hq, entered]
    refine ⟨keyboard.trans keys, place'', ?_, ?_, fun h => called (h.imp_right (Or.imp_right (mt wheel.1))),
      fun here same none => idle here same (wheel.2 none)⟩
    · rw [swallowed, hq]
      exact swallow_pressed swallows _
    · rw [delivered, hq]
      rfl
  · refine ⟨_, exec_event _ s rfl, ?_⟩
    rw [effect, pushExpiry_none (s := s.fresh) none]
    exact fun part _ => by cases part <;> rfl
  · refine ⟨_, exec_event _ s rfl, ?_⟩
    rw [effect, pushExpiry_some (s := s.fresh) held]
    exact ⟨rfl, rfl, fun part hp => by cases part <;> simp [Part.same] at hp ⊢⟩

end Sys2Proof.Machine
end

section
/-!
PROOFS, SET_FOCUS (O36): the focus change sequence seen from outside, and the warp of scope BOTH.
-/

set_option Elab.async false
namespace Sys2Proof.Machine
open Sys2Proof Sys2Proof.Safety

/-! ### The Keyboard Engine after a focus change (R101 steps 3 to 9) -/

/-- Where every held key is suppressed, an emptied queue changes no held key. -/
theorem queueEmptied_suppressed {c : Computer} {s : State} (all : ∀ k ∈ s.keyboard.held, k.suppressed = true) :
    queueEmptied c s = s := by
  have same : (s.keyboard.held.map fun k => if k.delivering = true then k.suppress else k) = s.keyboard.held := by
    refine (List.map_congr_left fun k mem => ?_).trans (List.map_id _)
    rw [if_neg (by simp [HeldKey.delivering, all k mem])]
    rfl
  unfold queueEmptied markHeld
  rw [same]
  split <;> rfl

theorem wakeRequest_suppressed {c : Computer} {s : State} (all : ∀ k ∈ s.keyboard.held, k.suppressed = true) :
    (wakeRequest c s).keyboard = s.keyboard := by
  cases method : s.hasMethod c with
  | true => exact wakeRequest_keyboard c s method
  | false =>
    have emptied (t : State) (same : t.keyboard = s.keyboard) : (queueEmptied c t).keyboard = s.keyboard := by
      rw [queueEmptied_suppressed (by rw [same]; exact all), same]
    unfold wakeRequest
    simp only [method, Bool.false_eq_true, if_false]
    split
    · simp only [enterUnresponsive, discardQueue, raise_leaves]
      exact emptied _ (by simp)
    · simp
    all_goals rfl

theorem focusWake_suppressed {c : Computer} {s : State} (all : ∀ k ∈ s.keyboard.held, k.suppressed = true) :
    (focusWake c s).keyboard = s.keyboard := by
  unfold focusWake
  split
  · exact wakeRequest_suppressed all
  · rfl

theorem focusTaken_keyboard (c : Computer) (s : State) : (focusTaken c s).keyboard = { s.keyboard with
    focus := c, held := s.keyboard.held.map (fun k => { k with suppressed := true, timer := none }),
    shown := if s.keyboard.kbPort.state = .present then some s.keyboard.lamps[c] else s.keyboard.shown } := by
  have lamps (t : State) : (showLamps t).keyboard = { t.keyboard with
      shown := if t.keyboard.kbPort.state = .present then some t.keyboard.lamps[t.keyboard.focus] else t.keyboard.shown } := by
    unfold showLamps
    split <;> rfl
  simp only [focusTaken, raiseFocus, State.setSlot_keyboard, raise_leaves, moveKeyFocus, followOutputs_leaves, lamps,
    markHeld, State.setHeld, State.setKeyboard_keyboard, focusReleased_keyboard, HeldKey.suppress, if_true]
  rfl

theorem focusRequest_keyboard {c : Computer} {s : State} (moved : s.keyboard.focus ≠ c) :
    (focusRequest false c s).keyboard = { s.keyboard with
      focus := c, held := s.keyboard.held.map (fun k => { k with suppressed := true, timer := none }),
      shown := if s.keyboard.kbPort.state = .present then some s.keyboard.lamps[c] else s.keyboard.shown } := by
  rw [focusRequest_of_moved moved, focusWake_suppressed, focusTaken_keyboard]
  rw [focusTaken_keyboard]
  intro k mem
  obtain ⟨r, -, rfl⟩ := List.mem_map.1 mem
  rfl

theorem focusTaken_matcher (c : Computer) (s : State) : (focusTaken c s).matcher = { s.matcher with slot := none } := by
  have released : (focusReleased s).matcher = s.matcher := by simp [focusReleased]
  simp [focusTaken, raiseFocus, released]

/-! ### What is committed, and who is touched (R101 steps 1, 2 and 9) -/

theorem othersKept_focusWake (c : Computer) (s : State) : OthersKept [c] s (focusWake c s) := by
  unfold focusWake
  split
  · exact othersKept_wakeRequest c s
  · exact .refl _ s

theorem committed_of_port {s t : State} {c : Computer} (port : t.port c = s.port c) :
    t.committedKeys c = s.committedKeys c ∧ t.committedButtons c = s.committedButtons c := by
  simp only [State.committedKeys, State.committedButtons, port, and_self]

/-- After a focus change every other computer has no key committed, and the one left no button. -/
theorem focusRequest_released {c : Computer} {s : State} (moved : s.keyboard.focus ≠ c) (keys : KeysHome s) (buttons : ButtonsHome s) :
    (∀ d, d ≠ c → ((focusRequest false c s).committedKeys d).isEmpty = true) ∧
    (focusRequest false c s).committedButtons s.keyboard.focus = 0 := by
  obtain ⟨ports, -⟩ := focusTaken_parts c s
  have committed (d : Computer) (other : d ≠ c) :
      (focusRequest false c s).committedKeys d = (focusReleased s).committedKeys d ∧
      (focusRequest false c s).committedButtons d = (focusReleased s).committedButtons d := by
    rw [focusRequest_of_moved moved]
    refine committed_of_port (((othersKept_focusWake c _) d (by simpa using other)).1.trans ?_)
    simp only [State.port, ports]
  refine ⟨fun d other => ?_, ?_⟩
  · rw [(committed d other).1]
    exact committedKeys_focusReleased keys d
  · rw [(committed _ moved).2]
    exact committedButtons_focusReleased buttons

theorem othersKept_focusRequest_both {c : Computer} {s : State} (moved : s.keyboard.focus ≠ c) :
    OthersKept [s.keyboard.focus, c] s (focusRequest false c s) := by
  rw [focusRequest_of_moved moved]
  exact ((othersKept_focusTaken c s).mono (by simp)).trans ((othersKept_focusWake c _).mono (by simp))

/-- The computer that is taken, before its wake. -/
theorem focusTaken_target {c : Computer} {s : State} (moved : s.keyboard.focus ≠ c) :
    (focusTaken c s).powerState c = s.powerState c ∧ (focusTaken c s).hasMethod c = s.hasMethod c ∧
    ((focusTaken c s).computer c).wakeOnFocus = (s.computer c).wakeOnFocus := by
  obtain ⟨-, -, layout, -⟩ := focusTaken_parts c s
  obtain ⟨port, record⟩ := othersKept_focusTaken c s c (by simpa using Ne.symm moved)
  have entry : (focusTaken c s).computer c = s.computer c := by simp only [State.computer, layout]
  exact ⟨by rw [State.powerState, record]; rfl, by rw [State.hasMethod, port, entry]; rfl, by rw [entry]⟩

/-- The wake of the computer taken (R101 step 9, R166). -/
theorem focusRequest_wakes {c : Computer} {s : State} (moved : s.keyboard.focus ≠ c) :
    ((s.computer c).wakeOnFocus = false ∨ ¬(s.powerState c = .asleep ∨ s.powerState c = .unresponsive) →
      OthersKept [s.keyboard.focus] s (focusRequest false c s)) ∧
    ((s.computer c).wakeOnFocus = true → s.powerState c = .asleep ∨ s.powerState c = .unresponsive →
      (focusRequest false c s).powerState c = s.wokenState c) := by
  obtain ⟨power, method, wakes⟩ := focusTaken_target moved
  rw [focusRequest_of_moved moved, focusWake, power, wakes]
  refine ⟨fun off => ?_, fun on down => ?_⟩
  · rw [if_neg (by rintro ⟨down, on⟩; exact off.elim (fun h => by rw [on] at h; cases h) fun h => h ((down_iff _).1 down))]
    exact othersKept_focusTaken c s
  · have down' : (s.powerState c).down = true := (down_iff _).2 down
    rw [if_pos ⟨down', on⟩, powerState_wakeRequest, power, if_pos ⟨rfl, down'⟩, State.wokenState, method]
    rfl

end Sys2Proof.Machine
end

section
/-!
PROOFS, SET_FOCUS (O36): its checks and its two scopes.
-/

set_option Elab.async false
namespace Sys2Proof.Machine
open Sys2Proof Sys2Proof.Safety

theorem exec_setFocus {c : Computer} {s : State} (loaded : s.profile.state ≠ .loading) (present : s.powerState c ≠ .absent)
    (both : Bool) : exec (.setFocus c both.toNat) s =
      .next ((focusWithScope c both s.fresh).sendReply 0x40 ⟨.ok, []⟩) := by
  refine exec_answered rfl (handled_loaded (j := judgeSetFocus c both.toNat) rfl loaded ?_)
  have up : s.fresh.powerState c ≠ .absent := present
  simp only [judgeSetFocus, fin?_val, yesNo?_toNat, if_neg up]
  rfl

theorem onlyChanges_setFocus (c : Computer) (both : Bool) (s : State) :
    OnlyChanges [.link, .status, .pointer, .keyboard, .matcher, .lines, .ports, .power] s
      ((focusWithScope c both s.fresh).sendReply 0x40 ⟨.ok, []⟩) := by
  refine onlyChanges_reply _ _ fun part hp => ?_
  cases part <;> simp [Part.same] at hp ⊢

/-- A warp request goes to the centre of the computer's home screen, unless the pointer is on a screen of it (R81). -/
theorem warpRequest_pointer (c : Computer) (s : State) :
    (∀ (i : ScreenId) (r : Rect), s.homeScreen c = some i → s.screenRect i = some r →
      ¬(s.pointer.place.isSome = true ∧ s.pointer.focus = some c) →
      (warpRequest c s).pointer.place = some ⟨i, r.x + r.w / 2, r.y + r.h / 2⟩ ∧
      (warpRequest c s).pointer.focus = some c ∧ (warpRequest c s).pointer.push = none) ∧
    (s.homeScreen c = none ∨ (s.pointer.place.isSome = true ∧ s.pointer.focus = some c) → warpRequest c s = s) := by
  refine ⟨fun i r home rect away => ?_, fun stays => ?_⟩
  · have center : s.centerOf i = some ⟨i, r.x + r.w / 2, r.y + r.h / 2⟩ := by
      rw [State.centerOf, rect]
      rfl
    have target : (s.homeScreen c).bind s.centerOf = some ⟨i, r.x + r.w / 2, r.y + r.h / 2⟩ := by
      rw [home]
      exact center
    simp only [warpRequest, if_neg away, target, movePointer_moved, and_true, true_and]
    exact ((homeScreen_eq_some_iff s c i).1 home).1
  · unfold warpRequest
    by_cases there : s.pointer.place.isSome = true ∧ s.pointer.focus = some c
    · exact if_pos there
    · rw [if_neg there, stays.resolve_right there]
      rfl

@[simp] theorem warpRequest_keyboard (c : Computer) (s : State) : (warpRequest c s).keyboard = s.keyboard := by
  unfold warpRequest
  repeat' split
  · rfl
  · simp
  · rfl

theorem judgeSetFocus_outOfRange {n sc : Nat} (out : 6 ≤ n ∨ 2 ≤ sc) (s : State) : judgeSetFocus n sc s = .error .outOfRange := by
  unfold judgeSetFocus
  obtain high | high := out
  · rw [(fin?_eq_none_iff 6 n).2 high]
  · rw [yesNo?_eq_none high]
    cases fin? 6 n <;> rfl

/-- Settles O36: the checks in their order, the sequence of R101 for scope KEYS, and the warp after it for scope BOTH. -/
theorem setFocusMovesTheKeys : Obligations.SetFocusMovesTheKeys := by
  unfold Obligations.SetFocusMovesTheKeys
  refine ⟨fun n sc s loaded out => ?_, fun c both s loaded absent => ?_, fun s loaded present => ?_,
    fun c s loaded present moved keys buttons => ?_, fun c s loaded present => ?_⟩
  · exact exec_loaded_refused (j := judgeSetFocus n sc) rfl rfl loaded (judgeSetFocus_outOfRange out _)
  · refine exec_loaded_refused (j := judgeSetFocus c both.toNat) rfl rfl loaded ?_
    simp only [judgeSetFocus, fin?_val, yesNo?_toNat]
    exact if_pos absent
  · have same : focusWithScope s.keyboard.focus false s.fresh = s.fresh := if_pos rfl
    refine ⟨_, exec_setFocus loaded present false, ?_, ?_⟩ <;> rw [same]
    · exact answers_sendReply rfl
    · exact onlyChanges_reply _ _ (onlyChanges_fresh s)
  · have keyboard := focusRequest_keyboard (s := s.fresh) moved
    obtain ⟨committed, uncommitted⟩ := focusRequest_released (s := s.fresh) moved keys buttons
    obtain ⟨raised, -⟩ := focusRequest_reports (s := s.fresh) moved
    obtain ⟨unwoken, woken⟩ := focusRequest_wakes (s := s.fresh) moved
    have pointer : (focusRequest false c s.fresh).pointer = (focusReleased s.fresh).pointer :=
      (focusRequest_pointer false c s.fresh).trans (if_neg moved)
    have matcher : (focusRequest false c s.fresh).matcher = { s.matcher with slot := none } := by
      rw [focusRequest_of_moved (s := s.fresh) moved]
      exact ((focusWake_leaves c _).2.2.2.2.2.2.2.1).trans (focusTaken_matcher c s.fresh)
    exact ⟨_, exec_setFocus loaded present false, answers_sendReply (focusWithScope_leaves c false s.fresh).2.1, keyboard,
      committed, uncommitted, pointer.trans (focusReleased_pointer s.fresh), matcher, raised, unwoken, woken,
      othersKept_focusRequest_both (s := s.fresh) moved, onlyChanges_setFocus c false s⟩
  · obtain ⟨place, focus⟩ := focusRequest_place false c s.fresh
    have layout : (focusRequest false c s.fresh).layout = s.layout := by simp
    have screens : (focusRequest false c s.fresh).screens = s.screens := by simp
    obtain ⟨warps, stays⟩ := warpRequest_pointer c (focusRequest false c s.fresh)
    have home : (focusRequest false c s.fresh).homeScreen c = s.homeScreen c := by
      simp only [State.homeScreen, sourceComputer_of_tables layout screens]
    have rect (i : ScreenId) : (focusRequest false c s.fresh).screenRect i = s.screenRect i := by simp only [State.screenRect, layout]
    rw [place, focus, home] at warps stays
    refine ⟨_, exec_setFocus loaded present true, answers_sendReply (focusWithScope_leaves c true s.fresh).2.1, ?_,
      fun i r there hr away => warps i r there ((rect i).trans hr) away, fun none => ?_, onlyChanges_setFocus c true s⟩
    · exact (congrArg KeyboardEngine.focus (warpRequest_keyboard c _)).trans (focus_focusRequest c s.fresh)
    · have still : focusWithScope c true s.fresh = focusRequest false c s.fresh := stays none
      have push : (focusRequest false c s.fresh).pointer.push = s.pointer.push := by
        rw [focusRequest_pointer]
        split
        · rfl
        · rw [focusReleased_pointer]
          rfl
      rw [still]
      exact ⟨place, focus, push⟩

end Sys2Proof.Machine
end

section
/-!
PROOFS, the events and the lines through a request: no HOTKEY and no LINE_EDGE is raised, and a line moves only as an OUTPUT line that
follows the part's state (R127, R139, R141).
-/

set_option Elab.async false
namespace Sys2Proof.Machine
open Sys2Proof Sys2Proof.Safety

/-! ### Quiet steps compose -/

theorem quiet_refl (ks : List EventKind) (s : State) : Quiet ks s s :=
  ⟨fun _ => ⟨rfl, fun _ => rfl⟩, rfl, fun _ => .inl rfl⟩

theorem quiet_trans {ks : List EventKind} {s t u : State} (h : Quiet ks s t) (k : Quiet ks t u) : Quiet ks s u := by
  obtain ⟨events, dial, lines⟩ := h
  obtain ⟨events', dial', lines'⟩ := k
  exact ⟨fun e => ⟨(events' e).1.trans (events e).1, fun he => ((events' e).2 he).trans ((events e).2 he)⟩,
    dial'.trans dial, fun l => LineFollows.trans (lines l) (lines' l)⟩

theorem quiet_mono {ks ls : List EventKind} {s t : State} (h : Quiet ks s t) (sub : ks ⊆ ls) : Quiet ls s t := by
  obtain ⟨events, lines⟩ := h
  exact ⟨fun e => ⟨(events e).1, fun he => (events e).2 fun mem => he (sub mem)⟩, lines⟩

/-- The kinds that a request of an action raises at most: all but HOTKEY and LINE_EDGE. -/
def requestKinds : List EventKind :=
  [.focusChanged, .computerState, .wakeFailed, .keysDropped, .screenState, .screenFault, .sceneDone, .deskPower]

/-- A step that raises the kinds of a request at most. -/
def Silent (s t : State) : Prop := Quiet requestKinds s t

theorem Silent.refl (s : State) : Silent s s := quiet_refl _ s

theorem Silent.trans {s t u : State} (h : Silent s t) (k : Silent t u) : Silent s u := quiet_trans h k

theorem silent_of_parts {s t : State} (status : t.status = s.status) (lines : t.lines = s.lines) : Silent s t :=
  quiet_of_same status lines (quiet_refl _ t)

theorem silent_raise {e : Event} (mem : e.kind ∈ requestKinds) (s : State) : Silent s (raise e s) :=
  quiet_mono (quiet_raise e s) (by simpa using mem)

theorem silent_foldl {α : Type} {f : State → α → State} (h : ∀ s a, Silent s (f s a)) (l : List α) (s : State) :
    Silent s (l.foldl f s) := by
  induction l generalizing s with
  | nil => exact .refl s
  | cons a l ih => exact (h s a).trans (ih (f s a))

/-- The steady state records and the lines' outputs are written without an event. -/
theorem silent_of_events {s t : State} (events : ∀ k, t.event k = s.event k) (dial : t.lines.dial = s.lines.dial)
    (lines : ∀ l, LineFollows (s.lineRec l) (t.lineRec l)) : Silent s t :=
  ⟨fun k => ⟨by rw [events], fun _ => events k⟩, dial, lines⟩

theorem silent_followOutputs (s : State) : Silent s (followOutputs s) :=
  silent_of_events (fun k => event_of_status (by simp) k) (dial_followOutputs s) (nudged_followOutputs s).lines

/-! ### Wakes and entries (R151, R166) -/

theorem silent_setPowerState (c : Computer) (st : PowerState) (s : State) : Silent s (setPowerState c st s) :=
  silent_of_events (event_setPowerState c st s) rfl (steady_setPowerState c st s).lines

theorem silent_changePower (c : Computer) (st : PowerState) (s : State) : Silent s (changePower c st s) :=
  (silent_setPowerState c st s).trans (silent_raise (by simp [Event.kind, requestKinds]) _)

theorem silent_enterUnresponsive (c : Computer) (s : State) : Silent s (enterUnresponsive c s) := by
  have emptied (t : State) : Silent t (discardQueue c t) := silent_of_parts (by simp [discardQueue]) (by simp [discardQueue])
  exact ((((silent_of_parts rfl rfl).trans (silent_setPowerState c .unresponsive (s.setPowerRec c (s.powerRec c).noAttempt))).trans
    (emptied _)).trans (silent_raise (by simp [Event.kind, requestKinds]) _)).trans (silent_raise (by simp [Event.kind, requestKinds]) _)

theorem silent_startAttempt (left : Bool) (c : Computer) (k : Nat) (s : State) : Silent s (startAttempt left c k s) := by
  have signalled (m : Method) (t : State) : Silent t (signalWake m left c t) := by
    cases m with
    | link =>
      simp only [signalWake, linkWake]
      split <;> exact silent_of_parts rfl rfl
    | line =>
      simp only [signalWake, startPulse]
      split <;> exact silent_of_parts rfl rfl
  unfold startAttempt
  split
  · exact silent_enterUnresponsive c s
  · exact Silent.trans (silent_of_parts rfl rfl) (signalled _ _)

theorem silent_wakeRequest (c : Computer) (s : State) : Silent s (wakeRequest c s) := by
  have woken : Silent s (startAttempt false c 1 (changePower c .waking s)) :=
    (silent_changePower c .waking s).trans (silent_startAttempt false c 1 _)
  unfold wakeRequest
  split
  · split
    · exact woken
    · exact silent_enterUnresponsive c s
  · split
    · exact woken
    · exact silent_raise (by simp [Event.kind, requestKinds]) s
  all_goals exact .refl s

theorem silent_inputNotice (c : Computer) (s : State) : Silent s (inputNotice c s) := by
  unfold inputNotice
  repeat' split
  · exact .refl s
  · exact silent_wakeRequest c s
  · exact Silent.trans (silent_of_parts rfl rfl) (silent_wakeRequest c (s.setPowerRec c { s.powerRec c with armed := false }))
  all_goals exact .refl s

theorem silent_takePointer (c : Computer) (x y : Nat) (b : ButtonSet) (w : Int) (s : State) : Silent s (takePointer c x y b w s) := by
  have placed (t : State) : Silent t (placePointer c x y b w t) := by
    simp only [placePointer, refuseButtons]
    repeat' split
    any_goals exact silent_of_parts rfl rfl
    exact Silent.trans (silent_of_parts rfl rfl) (silent_raise (by simp [Event.kind, requestKinds]) _)
  have noticed : Silent s (pointerNotice c x y b w s) := by
    unfold pointerNotice
    split
    · exact .refl s
    · exact silent_inputNotice c s
  rw [takePointer_eq]
  split
  · exact noticed
  · exact noticed.trans (placed _)

theorem silent_takeKeys (c : Computer) (k : KeyState) (s : State) : Silent s (takeKeys c k s).1 := by
  have dropped (t : State) : Silent t (raise (.keysDropped c) t) := silent_raise (by simp [Event.kind, requestKinds]) t
  have placed (t : State) : Silent t (placeKeys c k t).1 := by
    simp only [placeKeys]
    repeat' split
    any_goals exact silent_of_parts rfl rfl
    exact dropped t
  have discarded (t : State) : Silent t (discardKeys c k t).1 := by
    unfold discardKeys
    split
    · exact .refl t
    · exact dropped t
  have noticed : Silent s (keysNotice c k s) := by
    unfold keysNotice
    split
    · exact .refl s
    · exact silent_inputNotice c s
  rw [takeKeys_eq]
  split
  · exact noticed.trans (discarded _)
  · exact noticed.trans (placed _)

theorem silent_releaseKeys (c : Computer) (s : State) : Silent s (releaseKeys c s) := by
  unfold releaseKeys
  split
  · exact .refl s
  · exact silent_takeKeys c .empty s

theorem silent_handEntry (c : Computer) (x y : Nat) (b : ButtonSet) (w : Int) (s : State) : Silent s (handEntry c x y b w s) := by
  unfold handEntry
  split
  · exact Silent.trans (silent_of_parts rfl rfl) (silent_takePointer c x y b w _)
  · exact .refl s

theorem silent_handPlace (w : Int) (s : State) : Silent s (handPlace w s) := by
  unfold handPlace
  repeat' split
  · exact silent_handEntry _ _ _ _ w s
  all_goals exact .refl s

/-! ### The pointer's notices and the key focus (R77, R82, R101) -/

theorem silent_raiseFocus (s : State) : Silent s (raiseFocus s) := silent_raise (by simp [Event.kind, requestKinds]) s

theorem silent_pointerFocusChange (a : Computer) (n : Option Computer) (s : State) : Silent s (pointerFocusChange a n s) := by
  have left : Silent s (leftStandIn a n s) := by
    unfold leftStandIn leaveStandIn
    repeat' split
    · exact .refl s
    · exact (silent_takePointer _ _ _ 0 0 s).trans (silent_of_parts rfl rfl)
    · exact silent_of_parts rfl rfl
  have taken (t : State) : Silent t (takeFocus n t) := Silent.trans (silent_of_parts rfl rfl) (silent_raiseFocus _)
  rw [pointerFocusChange_eq]
  exact (left.trans (taken _)).trans (silent_handPlace 0 _)

theorem silent_movePointer (p : Place) (s : State) : Silent s (movePointer p s) := by
  have placed : Silent s (setPlace (some p) (setPush none s)) := silent_of_parts rfl rfl
  unfold movePointer
  dsimp only
  split
  · exact placed.trans (silent_handPlace 0 _)
  · exact placed.trans (silent_pointerFocusChange _ _ _)

theorem silent_reHome (s : State) : Silent s (reHome s) := by
  have parked : Silent s (setPlace none (setPush none s)) := silent_of_parts rfl rfl
  unfold reHome
  split
  · exact silent_movePointer _ s
  · unfold parkPointer
    dsimp only
    split
    · exact parked
    · exact parked.trans (silent_pointerFocusChange _ _ _)

theorem silent_sourceChanged (i : ScreenId) (s : State) : Silent s (sourceChanged i s) := by
  have dropped : Silent s (dropPushOn i s) := silent_of_parts (by simp) (by simp)
  have under (t : State) : Silent t (sourceUnderPointer i t) := by
    unfold sourceUnderPointer
    repeat' split
    · exact silent_reHome t
    · exact .refl t
    · exact silent_pointerFocusChange _ _ t
  unfold sourceChanged unpark
  dsimp only
  repeat' split
  · exact dropped.trans (silent_reHome _)
  · exact dropped
  · exact dropped.trans (under _)
  · exact dropped

theorem silent_focusReleased (s : State) : Silent s (focusReleased s) := by
  have swallowed (t : State) : Silent t (swallowHeld t) := silent_of_parts rfl rfl
  refine (silent_releaseKeys s.keyboard.focus s).trans ?_
  unfold focusReleased releaseAtFocus
  repeat' split
  · exact (silent_takePointer _ _ _ 0 0 _).trans (swallowed _)
  · exact swallowed _
  · exact .refl _

theorem silent_focusWake (c : Computer) (s : State) : Silent s (focusWake c s) := by
  unfold focusWake
  split
  · exact silent_wakeRequest c s
  · exact .refl s

theorem silent_focusChange (momentary : Bool) (c : Computer) (s : State) : Silent s (focusChange momentary c s) := by
  have shown (t : State) : Silent t (showLamps t) := by
    unfold showLamps
    split <;> exact silent_of_parts rfl rfl
  have moved (t : State) : Silent t (moveKeyFocus c t) := by
    unfold moveKeyFocus
    dsimp only
    refine Silent.trans (Silent.trans ?_ (shown _)) (silent_followOutputs _)
    exact silent_of_parts rfl rfl
  have reported : Silent s (raiseFocus (moveKeyFocus c (focusReleased s))) :=
    ((silent_focusReleased s).trans (moved _)).trans (silent_raiseFocus _)
  rw [focusChange_eq]
  refine Silent.trans ?_ (silent_focusWake c _)
  split
  · exact reported
  · exact reported.trans (silent_of_parts (State.setSlot_status _ _) (State.setSlot_lines _ _))

theorem silent_focusRequest (momentary : Bool) (c : Computer) (s : State) : Silent s (focusRequest momentary c s) := by
  unfold focusRequest
  split
  · exact .refl s
  · exact silent_focusChange momentary c s

theorem silent_focusWithScope (c : Computer) (both : Bool) (s : State) : Silent s (focusWithScope c both s) := by
  have warped (t : State) : Silent t (warpRequest c t) := by
    unfold warpRequest
    repeat' split
    · exact .refl t
    · exact silent_movePointer _ t
    · exact .refl t
  unfold focusWithScope
  split
  · exact (silent_focusRequest false c s).trans (warped _)
  · exact silent_focusRequest false c s

end Sys2Proof.Machine
end

section
/-!
PROOFS, the events and the lines through the requests of actions: the screens, the scenes, the desk's low power (R46, R51, R126, R181).
-/

set_option Elab.async false
namespace Sys2Proof.Machine
open Sys2Proof Sys2Proof.Safety

/-! ### The screens (R36, R39, R41) -/

theorem silent_enterScreen (i : ScreenId) (st : ScreenState) (s : State) : Silent s (enterScreen i st s) := by
  have entered : Silent s (raise (.screenState i) (reportFault (s.setScreenRec i { s.screenRec i with state := st }))) :=
    Silent.trans (silent_of_events (fun _ => rfl) rfl fun _ => .inl rfl) (silent_raise (by simp [Event.kind, requestKinds]) _)
  unfold enterScreen
  split
  · exact .refl s
  · dsimp only
    split
    · exact entered.trans (silent_raise (by simp [Event.kind, requestKinds]) _)
    · exact entered

theorem silent_followSource (i : ScreenId) (s : State) : Silent s (followSource i s) := by
  have sent : Silent s (setPowerTimer i none (setLinkTimer i none
      (sendSelection i (s.selectionFor (s.screenRec i).current) s))) := silent_of_parts rfl rfl
  have linked (t : State) : Silent t (startLink i t) := silent_of_parts rfl rfl
  unfold followSource
  dsimp only
  repeat' split
  · exact sent.trans (silent_enterScreen i _ _)
  · exact (sent.trans (linked _)).trans (silent_enterScreen i _ _)
  · exact sent.trans (silent_enterScreen i _ _)

theorem silent_takeSource (i : ScreenId) (src : Option Head) (s : State) : Silent s (takeSource i src s) := by
  have taken : Silent s (followSource i (s.setScreenRec i { s.screenRec i with current := src, waiting := none })) :=
    Silent.trans (silent_of_parts rfl rfl) (silent_followSource i _)
  unfold takeSource
  dsimp only
  split
  · exact taken.trans (silent_raise (by simp [Event.kind, requestKinds]) _)
  · exact taken

theorem silent_takeQuiet (i : ScreenId) (src : Option Head) (s : State) : Silent s (takeQuiet i src s) := by
  have taken : Silent s (s.setScreenRec i { s.screenRec i with current := src, waiting := none }) := silent_of_parts rfl rfl
  unfold takeQuiet
  dsimp only
  split
  · exact taken
  · exact taken.trans (silent_raise (by simp [Event.kind, requestKinds]) _)

theorem silent_assignSource (i : ScreenId) (src : Option Head) (s : State) : Silent s (assignSource i src s) := by
  have on : Silent s (assignOn i src s) := by
    unfold assignOn
    repeat' split
    · exact silent_of_parts rfl rfl
    · exact silent_takeSource i none s
    · exact silent_of_parts rfl rfl
    · exact silent_takeSource i _ s
  unfold assignSource
  split
  · exact .refl s
  · exact silent_takeQuiet i src s
  · exact silent_takeQuiet i src s
  · exact silent_takeQuiet i src s
  all_goals exact on

theorem silent_withNotices {f : State → State} {s : State} (op : Silent s (f s)) : Silent s (withNotices f s) := by
  refine op.trans (silent_foldl (fun t i => ?_) allScreens (f s))
  split
  · exact .refl t
  · exact silent_sourceChanged i t

theorem silent_settleAll (s : State) : Silent s (settleAll s) := by
  have stored (x : Option InFlight) : Silent s (s.setInFlight x) := silent_of_parts rfl rfl
  unfold settleAll
  repeat' split
  · exact .refl s
  · dsimp only
    split
    · exact (stored none).trans (silent_raise (by simp [Event.kind, requestKinds]) _)
    · exact stored _

theorem silent_onScreens {f : State → State} {s : State} (op : Silent s (f s)) : Silent s (onScreens f s) :=
  (silent_withNotices op).trans (silent_settleAll _)

theorem silent_eachScreen {f : ScreenId → State → State} (h : ∀ i s, Silent s (f i s)) (s : State) : Silent s (eachScreen f s) :=
  silent_foldl (fun s i => h i s) allScreens s

/-! ### Scenes (R51, R54) -/

theorem silent_setIncomplete (s : State) : Silent s (setIncomplete s) := by
  unfold setIncomplete
  split <;> exact silent_of_parts rfl rfl

theorem silent_applyItem (s : State) (it : SceneItem) : Silent s (applyItem s it) := by
  unfold applyItem
  split
  · exact silent_setIncomplete s
  · exact silent_withNotices (silent_assignSource it.screen it.source s)

theorem silent_sceneFocus (sc : Scene) (s : State) : Silent s (sceneFocus sc s) := by
  unfold sceneFocus
  repeat' split
  · exact .refl s
  · exact silent_setIncomplete s
  · exact silent_focusRequest false _ s

theorem silent_sceneWakes (sc : Scene) (s : State) : Silent s (sceneWakes sc s) := by
  unfold sceneWakes
  split
  · refine silent_foldl (fun t c => ?_) allComputers s
    split
    · exact silent_wakeRequest c t
    · exact .refl t
  · exact .refl s

theorem silent_applySceneSteps (n : SceneNo) (sc : Scene) (s : State) : Silent s (applySceneSteps n sc s) := by
  have formed : Silent s (formRecord n sc s) := by
    unfold formRecord
    dsimp only
    split <;> exact silent_of_parts rfl rfl
  exact (((formed.trans (silent_foldl silent_applyItem sc.items _)).trans (silent_sceneFocus sc _)).trans
    (silent_sceneWakes sc _)).trans (silent_settleAll _)

/-! ### The desk's low power and its resume (R46 to R48, R181, R182) -/

theorem silent_rest (i : ScreenId) (sel : Selection) (st : ScreenState) (s : State) : Silent s (rest i sel st s) :=
  Silent.trans (t := sendSelection i sel (setPowerTimer i none (setLinkTimer i none s))) (silent_of_parts rfl rfl)
    (silent_enterScreen i st _)

theorem silent_screenStandby (i : ScreenId) (s : State) : Silent s (screenStandby i s) := by
  have waited : Silent s (takeWaiting i s) := by
    unfold takeWaiting
    split
    · exact silent_takeQuiet i _ s
    · exact .refl s
  unfold screenStandby
  repeat' split
  · exact waited.trans (silent_rest i _ _ _)
  · exact silent_rest i _ _ s
  · exact .refl s

theorem silent_screenResume (i : ScreenId) (s : State) : Silent s (screenResume i s) := by
  have timed (x : Option Timer) (t : State) : Silent t (setPowerTimer i x t) := silent_of_parts rfl rfl
  have blanked : Silent s (sendSelection i .blank s) := silent_of_parts rfl rfl
  have powered : Silent s (setPowerTimer i (some (s.timer s.powerOnMs)) (enterScreen i .powering (sendSelection i .blank s))) :=
    (blanked.trans (silent_enterScreen i _ _)).trans (timed _ _)
  unfold screenResume
  split
  · exact silent_followSource i s
  · unfold powerUp
    dsimp only
    split
    · exact powered.trans (silent_followSource i _)
    · exact powered
  · exact .refl s

theorem silent_deskFollows {d : DeskState} {s t : State} (low : d ≠ .off) (parts : Silent s t) :
    Silent s (raise (.deskPower d) (screensFollow d (followOutputs t))) := by
  refine ((parts.trans (silent_followOutputs t)).trans ?_).trans (silent_raise (by simp [Event.kind, requestKinds]) _)
  cases d with
  | active => exact silent_onScreens (silent_eachScreen silent_screenResume _)
  | standby => exact silent_onScreens (silent_eachScreen silent_screenStandby _)
  | off => exact absurd rfl low

theorem silent_enterStandby (s : State) : Silent s (enterStandby s) := by
  unfold enterStandby
  split
  · exact silent_deskFollows (by decide) (silent_of_parts rfl rfl)
  · exact .refl s

theorem silent_resumeDesk (s : State) : Silent s (resumeDesk s) := by
  have woken (t : State) : Silent t (resumeWake t) := by
    unfold resumeWake
    split
    · exact silent_wakeRequest _ t
    · exact .refl t
  have active : Silent s (s.setDesk { s.desk with idleStart := some s.now, state := .active, window := none }) :=
    silent_of_parts rfl rfl
  rw [resumeDesk_eq]
  exact (silent_deskFollows (by decide) active).trans (woken _)

theorem silent_qualify (s : State) : Silent s (qualify s).1 := by
  unfold qualify
  split
  · exact silent_of_parts (t := restartIdle s) rfl rfl
  · dsimp only
    exact silent_resumeDesk s

/-! ### Requests (R126) -/

theorem silent_request {a : Action} {s t : State} (h : request a s = some t) : Silent s t := by
  cases a with
  | focus c both =>
    simp only [request] at h
    split at h
    · cases h
    · cases h
      exact silent_focusWithScope c both s
  | cycle previous =>
    obtain ⟨c, -, rfl⟩ := Option.map_eq_some_iff.1 h
    exact silent_focusRequest false c s
  | momentary c => cases h
  | scene n =>
    obtain ⟨sc, -, rfl⟩ := Option.map_eq_some_iff.1 h
    exact silent_applySceneSteps n sc s
  | wake c =>
    simp only [request] at h
    split at h
    · cases h
    · cases h
      exact silent_wakeRequest c s
  | glideLock => cases h; exact silent_of_parts rfl rfl
  | deskStandby => cases h; exact silent_enterStandby s
  | report => cases h; exact .refl s

end Sys2Proof.Machine
end

section
/-!
PROOFS, RUN_ACTION (O44): each action's request is the like record's, and only the reply differs.
-/

set_option Elab.async false
namespace Sys2Proof.Machine
open Sys2Proof Sys2Proof.Safety

/-- The state that RUN_ACTION leaves before its reply raises nothing but what its request raises (R131). -/
theorem silent_handleRunAction (k a b : Nat) (s : State) : Silent s (handleRunAction k a b s).1 := by
  unfold handleRunAction whenLoaded
  split
  · exact .refl s
  · unfold judgeRunAction
    repeat' split
    · exact .refl s
    · exact .refl s
    · exact .refl s
    · exact silent_request (by assumption)
    · exact silent_request (by assumption)

theorem event_runAction (k a b : Nat) (s : State) :
    ∃ t, exec (.runAction k a b) s = .next t ∧ t.event .hotkey = s.event .hotkey :=
  ⟨_, exec_answered (i := .runAction k a b) rfl rfl,
    ((silent_handleRunAction k a b s.fresh).1 .hotkey).2 (by decide)⟩

section
variable {k a b : Nat} {act : Action} {s : State}

theorem actionInRange_of_ofRaw (raw : Action.ofRaw k a b = some act) : ActionInRange k a b := by
  have small {n i : Nat} {x : Fin n} (h : fin? n i = some x) : i < n := by
    rw [fin?_eq_some_iff.1 h]
    exact x.isLt
  have bit {n : Nat} {x : Bool} (h : yesNo? n = some x) : n < 2 := by
    by_contra high
    rw [yesNo?_eq_none (by omega)] at h
    cases h
  unfold Action.ofRaw at raw
  unfold ActionInRange
  split at raw
  · simp only [Option.bind_eq_bind, Option.bind_eq_some_iff] at raw
    obtain ⟨c, hc, both, hb, -⟩ := raw
    exact .inl ⟨rfl, small hc, bit hb⟩
  · obtain ⟨zero, raw⟩ := Option.ite_none_right_eq_some.1 raw
    obtain ⟨x, hx, -⟩ := Option.map_eq_some_iff.1 raw
    exact .inr (.inl ⟨rfl, bit hx, zero⟩)
  · obtain ⟨zero, raw⟩ := Option.ite_none_right_eq_some.1 raw
    obtain ⟨x, hx, -⟩ := Option.map_eq_some_iff.1 raw
    exact .inr (.inr (.inl ⟨rfl, small hx, zero⟩))
  · obtain ⟨zero, raw⟩ := Option.ite_none_right_eq_some.1 raw
    obtain ⟨x, hx, -⟩ := Option.map_eq_some_iff.1 raw
    exact .inr (.inr (.inr (.inl ⟨rfl, small hx, zero⟩)))
  · obtain ⟨zero, raw⟩ := Option.ite_none_right_eq_some.1 raw
    obtain ⟨x, hx, -⟩ := Option.map_eq_some_iff.1 raw
    exact .inr (.inr (.inr (.inr (.inl ⟨rfl, small hx, zero⟩))))
  all_goals first
    | exact .inr (.inr (.inr (.inr (.inr ⟨by omega, by omega, (Option.ite_none_right_eq_some.1 raw).1⟩))))
    | cases raw

/-- RUN_ACTION with an action whose request is made, a scene excepted. -/
theorem exec_runAction_made {u : State} (raw : Action.ofRaw k a b = some act) (direct : ∀ c, act ≠ .momentary c)
    (plain : ∀ n, act ≠ .scene n) (loaded : s.profile.state ≠ .loading) (made : request act s.fresh = some u) :
    exec (.runAction k a b) s = .next (u.sendReply 0x53 ⟨.ok, []⟩) := by
  refine exec_answered rfl (handled_loaded (j := judgeRunAction k a b) rfl loaded ?_)
  unfold judgeRunAction
  rw [raw]
  cases act with
  | momentary c => exact absurd rfl (direct c)
  | scene n => exact absurd rfl (plain n)
  | _ => simp [made, ok]

theorem exec_runAction_scene {n : SceneNo} {sc : Scene} (loaded : s.profile.state ≠ .loading) (stored : s.scene n = some sc) :
    exec (.runAction 4 n 0) s = .next ((applySceneSteps n sc s.fresh).sendReply 0x53 ⟨.accepted, []⟩) := by
  refine exec_answered rfl (handled_loaded (j := judgeRunAction 4 n 0) rfl loaded ?_)
  have here : s.fresh.scene n = some sc := stored
  have raw : Action.ofRaw 4 n 0 = some (.scene n) := by simp [Action.ofRaw]
  simp [judgeRunAction, raw, request, here, accepted]

/-- RUN_ACTION with an action whose request is ignored. -/
theorem exec_runAction_ignored (raw : Action.ofRaw k a b = some act) (direct : ∀ c, act ≠ .momentary c)
    (loaded : s.profile.state ≠ .loading) (ignored : request act s.fresh = none) :
    ∃ t, exec (.runAction k a b) s = .next t ∧ Answers 0x53 act.refusal [] s t ∧ OnlyChanges [.link] s t := by
  refine exec_loaded_refused (j := judgeRunAction k a b) rfl rfl loaded ?_
  unfold judgeRunAction
  rw [raw]
  cases act with
  | momentary c => exact absurd rfl (direct c)
  | _ => simp [ignored]

end

/-! ### CYCLE (R126) -/

theorem stepFrom_eq {c d : Computer} {previous : Bool} {n : Nat}
    (h : c.val = (if previous then d.val + 6 - n else d.val + n) % 6) : stepFrom d previous n = c := by
  refine Fin.ext ?_
  rw [h]
  cases previous <;> rfl

theorem stepFrom_ne (d : Computer) (previous : Bool) {n : Nat} (low : 1 ≤ n) (high : n ≤ 5) : stepFrom d previous n ≠ d := by
  intro same
  have value := congrArg Fin.val same
  cases previous <;> simp only [stepFrom, Fin.ofNat, Bool.false_eq_true, if_true, if_false] at value <;> omega

theorem cycleTo_eq_none {s : State} {previous : Bool} (gone : ∀ c : Computer, c ≠ s.keyboard.focus → s.powerState c = .absent) :
    s.cycleTo previous = none := by
  refine List.find?_eq_none.2 fun c mem => ?_
  obtain ⟨n, steps, rfl⟩ := List.mem_map.1 mem
  have bounds : 1 ≤ n ∧ n ≤ 5 := by
    simp only [List.mem_cons, List.not_mem_nil, or_false] at steps
    omega
  simp [gone _ (stepFrom_ne s.keyboard.focus previous bounds.1 bounds.2)]

theorem cycleTo_eq_some {s : State} {previous : Bool} {n : Nat} {c : Computer} (low : 1 ≤ n) (high : n ≤ 5)
    (step : stepFrom s.keyboard.focus previous n = c) (there : s.powerState c ≠ .absent)
    (gone : ∀ m, 1 ≤ m → m < n → s.powerState (stepFrom s.keyboard.focus previous m) = .absent) : s.cycleTo previous = some c := by
  have nth (i : Nat) (h : i < [1, 2, 3, 4, 5].length) : [1, 2, 3, 4, 5][i] = i + 1 := by
    match i, h with
    | 0, _ | 1, _ | 2, _ | 3, _ | 4, _ => rfl
  refine List.find?_eq_some_iff_getElem.2 ⟨by simpa using there, n - 1, by simp; omega, ?_, fun j hj => ?_⟩
  · rw [List.getElem_map, nth, Nat.sub_add_cancel low, step]
  · rw [List.getElem_map, nth]
    simp [gone (j + 1) (by omega) (by omega)]

/-! ### The like records -/

theorem exec_applyScene {n : SceneNo} {sc : Scene} {s : State} (loaded : s.profile.state ≠ .loading) (stored : s.scene n = some sc) :
    exec (.applyScene n) s = .next ((applySceneSteps n sc s.fresh).sendReply 0x22 ⟨.accepted, []⟩) := by
  refine exec_answered rfl (handled_loaded rfl (j := judgeApplyScene n) loaded ?_)
  have here : s.fresh.scene n = some sc := stored
  simp only [judgeApplyScene, fin?_val, here, accepted]

theorem exec_wake {c : Computer} {s : State} (loaded : s.profile.state ≠ .loading) (here : (s.powerState c).gone = false) :
    exec (.wake c) s = .next ((wakeRequest c s.fresh).sendReply 0x70
      ⟨wakeResult c s.fresh, [((wakeRequest c s.fresh).powerState c).code]⟩) := by
  refine exec_answered rfl (handled_loaded rfl (j := judgeWake c) loaded ?_)
  have here' : ¬(s.fresh.powerState c).gone = true := by
    change ¬(s.powerState c).gone = true
    simp [here]
  simp only [judgeWake, fin?_val, if_neg here']

theorem exec_deskStandby {s : State} (loaded : s.profile.state ≠ .loading) :
    exec .deskStandby s = .next ((enterStandby s.fresh).sendReply 0x72 ⟨.ok, [(enterStandby s.fresh).desk.state.code]⟩) :=
  exec_answered rfl (handled_loaded rfl (j := judgeDeskStandby) loaded rfl)

theorem gone_iff (p : PowerState) : p.gone = true ↔ p = .absent ∨ p = .starting := by cases p <;> simp [PowerState.gone]

theorem ofRaw_focus (c : Computer) (both : Bool) : Action.ofRaw 1 c both.toNat = some (.focus c both) := by simp [Action.ofRaw]
theorem ofRaw_cycle (previous : Bool) : Action.ofRaw 2 previous.toNat 0 = some (.cycle previous) := by simp [Action.ofRaw]
theorem ofRaw_scene (n : SceneNo) : Action.ofRaw 4 n 0 = some (.scene n) := by simp [Action.ofRaw]
theorem ofRaw_wake (c : Computer) : Action.ofRaw 5 c 0 = some (.wake c) := by simp [Action.ofRaw]

theorem judgeRunAction_outOfRange {k a b : Nat} (out : k = 3 ∨ ¬ActionInRange k a b) (s : State) :
    judgeRunAction k a b s = .error .outOfRange := by
  unfold judgeRunAction
  cases raw : Action.ofRaw k a b with
  | none => rfl
  | some act =>
    obtain rfl | bad := out
    · unfold Action.ofRaw at raw
      obtain ⟨-, raw⟩ := Option.ite_none_right_eq_some.1 raw
      obtain ⟨c, -, rfl⟩ := Option.map_eq_some_iff.1 raw
      rfl
    · exact absurd (actionInRange_of_ofRaw raw) bad

/-- Two replies after the same request differ in the reply alone. -/
theorem sameButReply_replies (k l : Nat) (r q : Reply) (s : State) : SameButReply (s.sendReply k r) (s.sendReply l q) := rfl

/-- Settles O44: the request of each action is the like record's, and a request raises no HOTKEY. -/
theorem runActionRequests : Obligations.RunActionRequests := by
  unfold Obligations.RunActionRequests
  refine ⟨event_runAction, fun k a b s loaded out => ?_, fun c both s loaded => ⟨fun absent => ?_, fun present => ?_⟩,
    fun previous s loaded gone => ?_, fun previous n c s loaded low high step there gone => ?_,
    fun n s loaded => ⟨fun empty => ?_, fun stored => ?_⟩, fun c s loaded => ⟨fun away => ?_, fun present started => ?_⟩,
    fun s loaded => ⟨?_, ?_, ?_⟩⟩
  · exact exec_loaded_refused (j := judgeRunAction k a b) rfl rfl loaded (judgeRunAction_outOfRange out _)
  · exact exec_runAction_ignored (ofRaw_focus c both) nofun loaded (if_pos absent)
  · exact ⟨_, _, exec_runAction_made (ofRaw_focus c both) nofun nofun loaded (if_neg present), exec_setFocus loaded present both,
      answers_sendReply (focusWithScope_leaves c both s.fresh).2.1, sameButReply_replies _ _ _ _ _⟩
  · refine exec_runAction_ignored (ofRaw_cycle previous) nofun loaded ?_
    rw [request, cycleTo_eq_none (s := s.fresh) gone]
    rfl
  · have target : s.fresh.cycleTo previous = some c := cycleTo_eq_some low high (stepFrom_eq step) there fun m h1 hm =>
      gone m _ h1 hm (by cases previous <;> rfl)
    have made : request (.cycle previous) s.fresh = some (focusRequest false c s.fresh) := by
      rw [request, target]
      rfl
    exact ⟨_, _, exec_runAction_made (ofRaw_cycle previous) nofun nofun loaded made, exec_setFocus loaded there false,
      answers_sendReply (focusRequest_leaves false c s.fresh).2.1, sameButReply_replies _ _ _ _ _⟩
  · refine exec_runAction_ignored (ofRaw_scene n) nofun loaded ?_
    rw [request, show s.fresh.scene n = none from empty]
    rfl
  · obtain ⟨sc, stored⟩ := Option.ne_none_iff_exists'.1 stored
    exact ⟨_, _, exec_runAction_scene loaded stored, exec_applyScene loaded stored,
      answers_sendReply (by simp), sameButReply_replies _ _ _ _ _⟩
  · exact exec_runAction_ignored (ofRaw_wake c) nofun loaded (if_pos ((gone_iff _).2 away))
  · have here : (s.powerState c).gone = false := Bool.eq_false_iff.2 fun gone => ((gone_iff _).1 gone).elim present started
    have made : request (.wake c) s.fresh = some (wakeRequest c s.fresh) := if_neg (Bool.eq_false_iff.1 here)
    exact ⟨_, _, exec_runAction_made (ofRaw_wake c) nofun nofun loaded made, exec_wake loaded here,
      answers_sendReply (wakeRequest_leaves c s.fresh).2.1, sameButReply_replies _ _ _ _ _⟩
  · exact ⟨_, exec_runAction_made (act := .glideLock) rfl nofun nofun loaded rfl, answers_sendReply rfl, rfl,
      onlyChanges_reply _ _ (onlyChanges_setPointer _ s)⟩
  · exact ⟨_, _, exec_runAction_made (act := .deskStandby) rfl nofun nofun loaded rfl, exec_deskStandby loaded,
      answers_sendReply (by simp), sameButReply_replies _ _ _ _ _⟩
  · exact ⟨_, exec_runAction_made (act := .report) rfl nofun nofun loaded rfl, answers_sendReply rfl,
      onlyChanges_reply _ _ (onlyChanges_fresh s)⟩

end Sys2Proof.Machine
end

section
/-!
PROOFS, desk ports that leave PRESENT (R83, R87 to R90, R132): what the keyboard and the pointer leave behind.
-/

set_option Elab.async false
namespace Sys2Proof.Machine
open Sys2Proof Sys2Proof.Safety

/-! ### The keyboard (R89, R132) -/

theorem target_of_none {s : State} (none : s.keyboard.held = []) : s.target = .empty := by
  simp [State.target, State.targetWith, State.deliveringCodes, none, KeyState.empty, collapse]

/-- Without a held key a retarget is the release of the key-focus computer's keys. -/
theorem retarget_of_none {s : State} (none : s.keyboard.held = []) : retarget s = releaseKeys s.keyboard.focus s := by
  have untouched (c : Computer) (t k : KeyState) : suppressAdded t k (takeKeys c .empty s).1 = (takeKeys c .empty s).1 := by
    have held : (takeKeys c .empty s).1.keyboard.held = [] := by simp [none]
    unfold suppressAdded markHeld
    rw [held, List.map_nil, ← held]
    rfl
  unfold retarget releaseKeys
  rw [none]
  change handTarget 1 s = _
  unfold handTarget
  simp only [target_of_none none]
  by_cases released : (s.committedKeys s.keyboard.focus).isEmpty = true
  · rw [if_pos ((KeyState.same_empty_iff _).2 released), if_pos released]
  · rw [if_neg (mt (KeyState.same_empty_iff _).1 released), if_neg released]
    split
    · next u taken => rw [taken]
    · next u taken =>
      rw [taken]
      have same := untouched s.keyboard.focus .empty (s.committedKeys s.keyboard.focus)
      rw [taken] at same
      exact same

/-- The release of a computer's keys writes its port alone. -/
theorem onlyChanges_releaseKeys {c : Computer} {s : State} (fits : KeysFit (s.port c) (s.powerState c)) :
    OnlyChanges [.ports] s (releaseKeys c s) ∧ (releaseKeys c s).out = s.out := by
  have unnoticed : keysNotice c .empty s = s := if_pos (KeyState.empty_sub _)
  unfold releaseKeys
  split
  · exact ⟨fun p _ => by cases p <;> rfl, rfl⟩
  · next held =>
    rw [takeKeys_eq, unnoticed, if_neg (fun away => held (fits.2 away))]
    simp only [placeKeys, if_pos (KeyState.empty_sub (s.port c).committedKeys)]
    repeat' split
    all_goals exact ⟨fun p hp => by cases p <;> first | rfl | simp at hp, rfl⟩

/-- The state in which the key-focus computer is released: no key is held, and the matcher is back in IDLE. -/
def keyboardGone (x : DeskPortRec) (s : State) : State := matcherLosesKeyboard ((setDeskPort .keyboard x s).setHeld [])

/-- The return slot that a keyboard which is gone leaves: one of a CHORD trigger is emptied (R132). -/
theorem filter_onChord (o : Option ReturnSlot) : o.filter (fun y => !y.onChord) =
    match o with
    | some y => (match y.trigger with | .chord _ _ => none | _ => some y)
    | none => none := by
  cases o with
  | none => rfl
  | some y =>
    obtain ⟨c, n, trigger⟩ := y
    cases trigger <;> rfl

theorem dropSlotIf_eq (p : ReturnSlot → Bool) (s : State) :
    dropSlotIf p s = s.setSlot (s.matcher.slot.filter fun y => !p y) := by
  unfold dropSlotIf
  cases slot : s.matcher.slot with
  | none =>
    change s = s.setSlot none
    rw [← slot]
    rfl
  | some y =>
    cases picked : p y with
    | true => simp [picked, Option.filter]
    | false =>
      simp only [picked, Option.filter, Bool.not_false, if_true]
      change s = s.setSlot (some y)
      rw [← slot]
      rfl

theorem keyboardGone_parts (x : DeskPortRec) (s : State) :
    (keyboardGone x s).keyboard = { s.keyboard with kbPort := x, held := [] } ∧
    (keyboardGone x s).matcher = { s.matcher with
      state := .idle, attempt := none, first := none, timer := none,
      slot := match s.matcher.slot with
        | some y => (match y.trigger with | .chord _ _ => none | _ => some y)
        | none => none } ∧
    OnlyChanges [.keyboard, .matcher] s (keyboardGone x s) ∧ (keyboardGone x s).ports = s.ports := by
  rw [keyboardGone, matcherLosesKeyboard, dropSlotIf_eq, ← filter_onChord]
  exact ⟨rfl, rfl, fun p hp => by cases p <;> first | rfl | simp at hp, rfl⟩

/-- The keyboard port leaves PRESENT: its keys are gone, and the key-focus computer is released of them. -/
theorem keyboardLeft {s : State} (home : KeysHome s) (x : DeskPortRec) :
    (portLeaves .keyboard (setDeskPort .keyboard x s)).keyboard = { s.keyboard with kbPort := x, held := [] } ∧
    (portLeaves .keyboard (setDeskPort .keyboard x s)).matcher = { s.matcher with
      state := .idle, attempt := none, first := none, timer := none,
      slot := match s.matcher.slot with
        | some y => (match y.trigger with | .chord _ _ => none | _ => some y)
        | none => none } ∧
    (∀ c, ((portLeaves .keyboard (setDeskPort .keyboard x s)).committedKeys c).isEmpty = true) ∧
    OthersKept [s.keyboard.focus] s (portLeaves .keyboard (setDeskPort .keyboard x s)) ∧
    OnlyChanges [.keyboard, .matcher, .ports] s (portLeaves .keyboard (setDeskPort .keyboard x s)) := by
  obtain ⟨keyboard, matcher, parts, ports⟩ := keyboardGone_parts x s
  have left : portLeaves .keyboard (setDeskPort .keyboard x s) = releaseKeys s.keyboard.focus (keyboardGone x s) := by
    refine (retarget_of_none (s := keyboardGone x s) (by rw [keyboard])).trans ?_
    rw [keyboard]
  have power : (keyboardGone x s).power = s.power := parts .power (by decide)
  have port (c : Computer) : (keyboardGone x s).port c = s.port c := by simp only [State.port, ports]
  have state (c : Computer) : (keyboardGone x s).powerState c = s.powerState c := by simp only [State.powerState, State.powerRec, power]
  have fits : KeysFit ((keyboardGone x s).port s.keyboard.focus) ((keyboardGone x s).powerState s.keyboard.focus) := by
    rw [port, state]
    exact keysFit_of_home home _
  rw [left]
  refine ⟨(releaseKeys_keyboard _ _).trans keyboard, by rw [(releaseKeys_leaves _ _).2.2.2.2.2.2.2.1, matcher], fun c => ?_,
    (othersKept_of_parts ports power).trans (othersKept_releaseKeys _ _),
    onlyChanges_then parts (onlyChanges_releaseKeys fits).1 (by decide)⟩
  by_cases here : c = s.keyboard.focus
  · rw [here]
    exact committedKeys_releaseKeys fits
  · rw [committedKeys_releaseKeys_other _ here, State.committedKeys, port]
    exact ((keysHome_iff s).1 home c).2 here

/-! ### The pointer (R83) -/

theorem refusedOf_none (p : Port) : refusedOf 0 p = 0 := by
  unfold refusedOf
  split
  · exact BitVec.zero_and
  · rfl

/-- An entry without buttons raises COMPUTER_STATE at most: it may be an input notice, but refuses no button (R155, R172). -/
theorem quiet_takePointer_none (c : Computer) (x y : Nat) (w : Int) (s : State) : Quiet [.computerState] s (takePointer c x y 0 w s) := by
  obtain ⟨-, dial, lines⟩ := silent_takePointer c x y 0 w s
  refine ⟨fun k => ⟨(nudged_takePointer c x y 0 w s).enabled k, fun hk => ?_⟩, dial, lines⟩
  by_cases dropped : k = .keysDropped
  · subst dropped
    obtain ⟨-, -, -, taken⟩ := pointerTaken_takePointer c x y 0 w s
    split at taken
    · exact taken.2.2
    · exact taken.2.2.2 (refusedOf_none (s.port c))
  · exact event_takePointer c x y 0 w s k (by simp [entryKinds, dropped] at hk ⊢; exact hk)

/-- The state in which the stand-in computer is released of the buttons: none is held. -/
def buttonsGone (x : DeskPortRec) (s : State) : State := setButtons 0 0 (setDeskPort .pointer x s)

/-- The stand-in computer is released of the buttons that are committed there. -/
def standInReleased (x : DeskPortRec) (s : State) : State :=
  if s.committedButtons s.standIn ≠ 0 then releaseButtons s.standIn (buttonsGone x s) else buttonsGone x s

theorem pointerLeaves_eq (x : DeskPortRec) (s : State) : portLeaves .pointer (setDeskPort .pointer x s) =
    (standInReleased x s).setPointer { (standInReleased x s).pointer with
      rx := 0, ry := 0, push := none, lastInterval := none } := rfl

/-- The pointer port leaves PRESENT: its buttons are gone, and the stand-in computer is released of them. -/
theorem pointerLeft {s : State} (home : ButtonsHome s) (x : DeskPortRec) :
    (portLeaves .pointer (setDeskPort .pointer x s)).keyboard = { s.keyboard with ptrPort := x } ∧
    (portLeaves .pointer (setDeskPort .pointer x s)).pointer = { s.pointer with
      buttons := 0, swallow := 0, rx := 0, ry := 0, push := none, lastInterval := none } ∧
    (∀ c, (portLeaves .pointer (setDeskPort .pointer x s)).committedButtons c = 0) ∧
    OthersKept [s.standIn] s (portLeaves .pointer (setDeskPort .pointer x s)) ∧
    Quiet [.computerState] s (portLeaves .pointer (setDeskPort .pointer x s)) ∧
    OnlyChanges [.keyboard, .pointer, .ports, .power, .status, .lines] s (portLeaves .pointer (setDeskPort .pointer x s)) := by
  have gone : OnlyChanges [.keyboard, .pointer] s (buttonsGone x s) := fun p hp => by cases p <;> first | rfl | simp at hp
  have away : ((buttonsGone x s).powerState s.standIn).away = true → (buttonsGone x s).committedButtons s.standIn = 0 :=
    away_of_home home s.standIn
  have released : (standInReleased x s).keyboard = (buttonsGone x s).keyboard ∧
      (standInReleased x s).pointer = (buttonsGone x s).pointer ∧
      (standInReleased x s).committedButtons s.standIn = 0 ∧
      OthersKept [s.standIn] s (standInReleased x s) ∧ Quiet [.computerState] s (standInReleased x s) ∧
      OnlyChanges [.keyboard, .pointer, .ports, .power, .status, .lines] s (standInReleased x s) := by
    unfold standInReleased
    split
    · exact ⟨by simp [releaseButtons], releaseButtons_pointer _ _, committedButtons_takePointer_zero _ _ _ 0 away,
        (othersKept_of_parts rfl rfl).trans (othersKept_releaseButtons _ (buttonsGone x s)),
        quiet_of_same rfl rfl (quiet_takePointer_none _ _ _ 0 (buttonsGone x s)),
        onlyChanges_then gone (onlyChanges_takePointer _ _ _ 0 0 _) (by decide)⟩
    · next none =>
      exact ⟨rfl, rfl, not_not.1 none, othersKept_of_parts rfl rfl, quiet_of_same rfl rfl (quiet_refl _ _),
        onlyChanges_then gone (fun p _ => by cases p <;> rfl) (qs := []) (by decide)⟩
  obtain ⟨keyboard, pointer, committed, others, quiet, parts⟩ := released
  rw [pointerLeaves_eq]
  refine ⟨keyboard, ?_, fun c => ?_, others, quiet, onlyChanges_withPointer _ parts (by decide)⟩
  · rw [State.setPointer_pointer, pointer]
    rfl
  · rw [committedButtons_setPointer]
    by_cases here : c = s.standIn
    · rw [here]
      exact committed
    · rw [State.committedButtons, (others c (by simpa using here)).1]
      exact (((buttonsHome_iff s).1 home).2 c).2 here

end Sys2Proof.Machine
end

section
/-!
PROOFS, devices at the desk ports (O38) and DESK_PORT (O39).
-/

set_option Elab.async false
namespace Sys2Proof.Machine
open Sys2Proof Sys2Proof.Safety

/-! ### An event raised last -/

section
variable (e : Event) (s : State)

theorem keyboard_raise : (raise e s).keyboard = s.keyboard := by simp
theorem pointer_raise : (raise e s).pointer = s.pointer := by simp
theorem matcher_raise : (raise e s).matcher = s.matcher := by simp
theorem out_raise : (raise e s).out = s.out := by simp

end

theorem onlyChanges_raised (e : Event) (s : State) : OnlyChanges [.status, .lines] s (raise e s) := by
  intro p hp
  cases p <;> simp [Part.same] at hp ⊢

/-- What a step that raises one event last has raised. -/
theorem raised_last {ps : List Part} {s u : State} (e : Event) (parts : OnlyChanges ps s u) (status : u.status = s.status)
    (lines : u.lines = s.lines) : Raised e (raise e u) ∧ Quiet [e.kind] s (raise e u) ∧
      OnlyChanges (ps ++ [.status, .lines]) s (raise e u) :=
  ⟨raised_raise e u, quiet_of_same status lines (quiet_raise e u),
    onlyChanges_then parts (onlyChanges_raised e u) (List.Subset.refl _)⟩

theorem onlyChanges_setDeskPort (p : DeskPort) (x : DeskPortRec) (s : State) :
    OnlyChanges [.keyboard] s (setDeskPort p x s.fresh) := by
  intro q hq
  cases p <;> cases q <;> first | rfl | simp at hq

theorem committed_raise (e : Event) (s : State) (c : Computer) :
    (raise e s).committedKeys c = s.committedKeys c ∧ (raise e s).committedButtons c = s.committedButtons c :=
  committed_of_port (by simp [State.port])

/-! ### Attach and detach (R87, R90) -/

section
variable {p : DeskPort} {s : State}

theorem deskAttach_attached (here : (s.deskPort p).attached = true) : deskAttach p s = s := if_pos here

theorem deskDetach_detached (gone : (s.deskPort p).attached = false) : deskDetach p s = s := if_neg (by simp [gone])

theorem deskAttach_absent (gone : (s.deskPort p).attached = false) (absent : (s.deskPort p).state = .absent) :
    deskAttach p s = raise (.deskPort p .attach) (portEnters p (setDeskPort p ⟨.present, true, none⟩ s)) := by
  simp only [deskAttach, gone, absent, Bool.false_eq_true, if_false]

theorem deskAttach_disabled (gone : (s.deskPort p).attached = false) (disabled : (s.deskPort p).state = .disabled) :
    deskAttach p s = raise (.deskPort p .attach) (setDeskPort p { s.deskPort p with attached := true } s) := by
  simp only [deskAttach, gone, disabled, Bool.false_eq_true, if_false]

theorem deskDetach_present (here : (s.deskPort p).attached = true) (present : (s.deskPort p).state = .present) :
    deskDetach p s = raise (.deskPort p .detach) (portLeaves p (setDeskPort p ⟨.absent, false, none⟩ s)) := by
  simp only [deskDetach, here, present, if_true]

theorem deskDetach_disabled (here : (s.deskPort p).attached = true) (disabled : (s.deskPort p).state = .disabled) :
    deskDetach p s = raise (.deskPort p .detach) (setDeskPort p { s.deskPort p with attached := false } s) := by
  simp only [deskDetach, here, disabled, if_true]

end

theorem showLamps_present {s : State} (present : s.keyboard.kbPort.state = .present) : showLamps s =
    (s.setKeyboard { s.keyboard with shown := some s.keyboard.lamps[s.keyboard.focus] }).emit
      (.deskLamps (lampByte s.keyboard.lamps[s.keyboard.focus])) := if_pos present

/-- A desk port record that is written at a change of its attached flag alone. -/
theorem flagged_facts (e : Event) (p : DeskPort) (x : DeskPortRec) (s : State) :
    (raise e (setDeskPort p x s.fresh)).deskPort p = x ∧
    (∀ q, q ≠ p → (raise e (setDeskPort p x s.fresh)).deskPort q = s.deskPort q) ∧
    Raised e (raise e (setDeskPort p x s.fresh)) ∧ Quiet [e.kind] s (raise e (setDeskPort p x s.fresh)) ∧
    OnlyChanges [.keyboard, .status, .lines] s (raise e (setDeskPort p x s.fresh)) := by
  refine ⟨?_, fun q other => ?_, raised_last e (onlyChanges_setDeskPort p x s) (by simp) (by simp)⟩
  · rw [deskPort_raise, deskPort_setDeskPort, if_pos rfl]
  · rw [deskPort_raise, deskPort_setDeskPort, if_neg (Ne.symm other)]
    rfl

/-- The keyboard port enters PRESENT: the lamps of the key-focus computer are written (R90). -/
theorem keyboardEntered (x : DeskPortRec) (present : x.state = .present) (s : State) :
    (portEnters .keyboard (setDeskPort .keyboard x s.fresh)).keyboard =
      { s.keyboard with kbPort := x, shown := some s.keyboard.lamps[s.keyboard.focus] } ∧
    (portEnters .keyboard (setDeskPort .keyboard x s.fresh)).out =
      [.deskLamps (s.keyboard.lamps[s.keyboard.focus].setWidth 8)] ∧
    OnlyChanges [.keyboard] s (portEnters .keyboard (setDeskPort .keyboard x s.fresh)) := by
  have shown : portEnters .keyboard (setDeskPort .keyboard x s.fresh) = _ :=
    showLamps_present (s := setDeskPort .keyboard x s.fresh) present
  rw [shown]
  exact ⟨rfl, rfl, fun p hp => by cases p <;> first | rfl | simp at hp⟩

/-- Settles O38: a device's coming writes the port's record; its going also runs the leaving effects of a port that was PRESENT. -/
theorem deskDevicesComeAndGo : Obligations.DeskDevicesComeAndGo := by
  unfold Obligations.DeskDevicesComeAndGo
  refine ⟨fun p s here => ?_, fun s gone absent => ?_, fun s gone absent => ?_, fun p s gone disabled => ?_, fun p s gone => ?_,
    fun p s here disabled => ?_, fun s home here present => ?_, fun s home here present => ?_⟩
  · refine ⟨_, exec_event _ s rfl, ?_⟩
    rw [effect, deskAttach_attached (s := s.fresh) here]
    exact onlyChanges_fresh s
  · refine ⟨_, exec_event _ s rfl, ?_⟩
    rw [effect, deskAttach_absent (p := .keyboard) (s := s.fresh) gone absent]
    obtain ⟨keyboard, out, parts⟩ := keyboardEntered ⟨.present, true, none⟩ rfl s
    exact ⟨by rw [keyboard_raise, keyboard], by rw [out_raise, out],
      raised_last _ parts (parts .status (by decide)) (parts .lines (by decide))⟩
  · refine ⟨_, exec_event _ s rfl, ?_⟩
    rw [effect, deskAttach_absent (p := .pointer) (s := s.fresh) gone absent]
    exact ⟨by rw [keyboard_raise]; rfl,
      raised_last _ (onlyChanges_setDeskPort .pointer ⟨.present, true, none⟩ s) rfl rfl⟩
  · refine ⟨_, exec_event _ s rfl, ?_⟩
    rw [effect, deskAttach_disabled (s := s.fresh) gone disabled]
    exact flagged_facts _ p _ s
  · refine ⟨_, exec_event _ s rfl, ?_⟩
    rw [effect, deskDetach_detached (s := s.fresh) gone]
    exact onlyChanges_fresh s
  · refine ⟨_, exec_event _ s rfl, ?_⟩
    rw [effect, deskDetach_disabled (s := s.fresh) here disabled]
    exact flagged_facts _ p _ s
  · refine ⟨_, exec_event _ s rfl, ?_⟩
    rw [effect, deskDetach_present (p := .keyboard) (s := s.fresh) here present]
    obtain ⟨keyboard, matcher, committed, others, parts⟩ := keyboardLeft (s := s.fresh) home ⟨.absent, false, none⟩
    obtain ⟨raised, quiet, only⟩ := raised_last (.deskPort .keyboard .detach) (onlyChanges_of_fresh parts)
      (parts .status (by decide)) (parts .lines (by decide))
    refine ⟨by rw [keyboard_raise, keyboard]; rfl, by rw [matcher_raise, matcher]; rfl,
      fun c => ?_, others.trans (othersKept_raise _ _ _), raised, quiet, only⟩
    rw [(committed_raise _ _ c).1]
    exact committed c
  · refine ⟨_, exec_event _ s rfl, ?_⟩
    rw [effect, deskDetach_present (p := .pointer) (s := s.fresh) here present]
    obtain ⟨keyboard, pointer, committed, others, quiet, parts⟩ := pointerLeft (s := s.fresh) home ⟨.absent, false, none⟩
    refine ⟨by rw [keyboard_raise, keyboard]; rfl, by rw [pointer_raise, pointer]; rfl,
      fun c => ?_, others.trans (othersKept_raise _ _ _), raised_raise _ _,
      quiet_trans (quiet_mono quiet (by simp)) (quiet_mono (quiet_raise _ _) (by simp [Event.kind])),
      onlyChanges_then (onlyChanges_of_fresh parts) (onlyChanges_raised _ _) (by decide)⟩
    rw [(committed_raise _ _ c).2]
    exact committed c

end Sys2Proof.Machine
end

section
/-!
PROOFS, DESK_PORT (O39): its three operations and their reply.
-/

set_option Elab.async false
namespace Sys2Proof.Machine
open Sys2Proof Sys2Proof.Safety

theorem msSince_eq (n : Nat) (t : Option Nat) :
    msSince n t = match t with | none => 65535 | some u => min ((n - u) / 1000) 65535 := by cases t <;> rfl

theorem deskPortReply_eq (p : DeskPort) (s : State) : deskPortReply p s =
    [(s.deskPort p).state.code, if (s.deskPort p).attached then 1 else 0] ++
      word (match (s.deskPort p).lastReport with | none => 65535 | some u => min ((s.now - u) / 1000) 65535) := by
  rw [deskPortReply, msSince_eq]
  cases h : (s.deskPort p).attached <;> simp [deskPortBytes, flag, h]

/-- The port byte of DESK_PORT. -/
theorem deskPort?_of {n : Nat} {p : DeskPort} (h : (n = 0 ∧ p = .keyboard) ∨ (n = 1 ∧ p = .pointer)) : deskPort? n = some p := by
  obtain ⟨rfl, rfl⟩ | ⟨rfl, rfl⟩ := h <;> rfl

theorem judgeDeskPort_outOfRange {n : Nat} (h : 2 ≤ n) (f : DeskPort → State → State) (s : State) :
    judgeDeskPort f n s = .error .outOfRange := by
  match n, h with
  | _ + 2, _ => rfl

section
variable {n : Nat} {p : DeskPort} {s : State}

/-- DESK_PORT answers with the values of the state that its operation leaves. -/
theorem exec_deskPort {i : Instr} {b : List Nat} {f : DeskPort → State → State} (hr : i.record = some (0x44, b))
    (hh : handleRecord i s.fresh = whenLoaded (judgeDeskPort f n) s.fresh) (loaded : s.profile.state ≠ .loading)
    (port : deskPort? n = some p) :
    exec i s = .next ((f p s.fresh).sendReply 0x44 ⟨.ok, deskPortReply p (f p s.fresh)⟩) := by
  refine exec_answered hr (handled_loaded hh loaded ?_)
  simp only [judgeDeskPort, port, ok]

theorem exec_deskPortDisable (loaded : s.profile.state ≠ .loading) (port : deskPort? n = some p) : exec (.deskPortDisable n) s =
    .next ((disablePort p s.fresh).sendReply 0x44 ⟨.ok, deskPortReply p (disablePort p s.fresh)⟩) :=
  exec_deskPort rfl rfl loaded port

theorem exec_deskPortEnable (loaded : s.profile.state ≠ .loading) (port : deskPort? n = some p) : exec (.deskPortEnable n) s =
    .next ((enablePort p s.fresh).sendReply 0x44 ⟨.ok, deskPortReply p (enablePort p s.fresh)⟩) :=
  exec_deskPort rfl rfl loaded port

end

section
variable {p : DeskPort} {s : State}

theorem disablePort_present (present : (s.deskPort p).state = .present) :
    disablePort p s = portLeaves p (setDeskPort p ⟨.disabled, (s.deskPort p).attached, none⟩ s) := by
  simp only [disablePort, present]

theorem setDeskPort_self (p : DeskPort) (s : State) : setDeskPort p (s.deskPort p) s = s := by cases p <;> rfl

theorem disablePort_away (away : (s.deskPort p).state ≠ .present) :
    disablePort p s = setDeskPort p { s.deskPort p with state := .disabled } s := by
  cases state : (s.deskPort p).state with
  | absent => simp only [disablePort, state]
  | present => exact absurd state away
  | disabled =>
    have same : { s.deskPort p with state := .disabled } = s.deskPort p := by rw [← state]
    rw [same, setDeskPort_self]
    simp only [disablePort, state]

/-- A port's record after ENABLE (R87). -/
def DeskPortRec.enabled (x : DeskPortRec) : DeskPortRec :=
  { x with state := if x.state = .disabled then (if x.attached then .present else .absent) else x.state }

theorem enablePort_eq (p : DeskPort) (s : State) : enablePort p s =
    if (s.deskPort p).state = .disabled ∧ (s.deskPort p).attached = true then
      portEnters p (setDeskPort p (s.deskPort p).enabled s)
    else setDeskPort p (s.deskPort p).enabled s := by
  cases state : (s.deskPort p).state with
  | disabled => cases here : (s.deskPort p).attached <;> simp [enablePort, DeskPortRec.enabled, state, here]
  | _ =>
    have same : (s.deskPort p).enabled = s.deskPort p := by
      rw [DeskPortRec.enabled, if_neg (by simp [state])]
    rw [same, setDeskPort_self]
    simp [enablePort, state]

/-- What ENABLE leaves of the Keyboard Engine: the port's record, and the lamps shown on an attached keyboard (R87, R90). -/
structure Enabled (p : DeskPort) (s t : State) : Prop where
  record : t.deskPort p = { (s.deskPort p) with
    state := if (s.deskPort p).state = .disabled then (if (s.deskPort p).attached then .present else .absent)
      else (s.deskPort p).state }
  others : ∀ q : DeskPort, q ≠ p → t.deskPort q = s.deskPort q
  keyboard : t.keyboard = { s.keyboard with
    kbPort := t.keyboard.kbPort, ptrPort := t.keyboard.ptrPort,
    shown := if p = .keyboard ∧ s.keyboard.kbPort.state = .disabled ∧ s.keyboard.kbPort.attached = true then
      some s.keyboard.lamps[s.keyboard.focus] else s.keyboard.shown }
  parts : OnlyChanges [.keyboard] s t

theorem enabled_of_written {p : DeskPort} {s : State} (unshown : ¬(p = .keyboard ∧ s.keyboard.kbPort.state = .disabled ∧
    s.keyboard.kbPort.attached = true)) : Enabled p s (setDeskPort p (s.deskPort p).enabled s.fresh) where
  record := by rw [deskPort_setDeskPort, if_pos rfl]; rfl
  others q other := by rw [deskPort_setDeskPort, if_neg (Ne.symm other)]; rfl
  keyboard := by
    rw [if_neg unshown]
    cases p <;> rfl
  parts := onlyChanges_setDeskPort p _ s

theorem enabled_enablePort (p : DeskPort) (s : State) : Enabled p s (enablePort p s.fresh) := by
  rw [enablePort_eq]
  cases p with
  | pointer =>
    have written : Enabled .pointer s (setDeskPort .pointer s.keyboard.ptrPort.enabled s.fresh) :=
      enabled_of_written (p := .pointer) (by simp)
    split <;> exact written
  | keyboard =>
    split
    · next shown =>
      obtain ⟨disabled, here⟩ : s.keyboard.kbPort.state = .disabled ∧ s.keyboard.kbPort.attached = true := shown
      have present : s.keyboard.kbPort.enabled.state = .present := by simp [DeskPortRec.enabled, disabled, here]
      obtain ⟨keyboard, -, parts⟩ := keyboardEntered s.keyboard.kbPort.enabled present s
      refine ⟨congrArg KeyboardEngine.kbPort keyboard, fun q other => ?_, ?_, parts⟩
      · cases q with
        | keyboard => exact absurd rfl other
        | pointer => exact (congrArg KeyboardEngine.ptrPort keyboard :)
      · rw [if_pos ⟨rfl, disabled, here⟩]
        change (portEnters .keyboard (setDeskPort .keyboard s.keyboard.kbPort.enabled s.fresh)).keyboard = { s.keyboard with
          kbPort := (portEnters .keyboard (setDeskPort .keyboard s.keyboard.kbPort.enabled s.fresh)).keyboard.kbPort,
          ptrPort := (portEnters .keyboard (setDeskPort .keyboard s.keyboard.kbPort.enabled s.fresh)).keyboard.ptrPort,
          shown := some s.keyboard.lamps[s.keyboard.focus] }
        rw [keyboard]
    · next unshown => exact enabled_of_written (p := .keyboard) fun ⟨_, disabled, here⟩ => unshown ⟨disabled, here⟩

end

theorem disabledReply {p : DeskPort} {here : Bool} {s : State} (record : s.deskPort p = ⟨.disabled, here, none⟩) :
    deskPortReply p s = [2, if here then 1 else 0, 0xFF, 0xFF] := by
  have saturated : word 65535 = [0xFF, 0xFF] := by decide
  rw [deskPortReply_eq, record]
  change _ :: _ :: word 65535 = _
  rw [saturated]
  rfl

/-- The reply of a port whose state alone was written. -/
theorem rewrittenReply (p : DeskPort) (s : State) :
    deskPortReply p (setDeskPort p { s.deskPort p with state := .disabled } s) =
      (2 : Byte) :: (if (s.deskPort p).attached then 1 else 0) ::
        word (match (s.deskPort p).lastReport with | none => 65535 | some u => min ((s.now - u) / 1000) 65535) := by
  rw [deskPortReply_eq, deskPort_setDeskPort, if_pos rfl, (setDeskPort_leaves _ _ _).1]
  rfl

/-- Settles O39: every operation answers with the values it leaves; DISABLE runs the leaving effects of a port that was PRESENT. -/
theorem deskPortRecords : Obligations.DeskPortRecords := by
  unfold Obligations.DeskPortRecords
  refine ⟨fun n s loaded high => ⟨?_, ?_, ?_⟩, fun n p s loaded hn => ⟨?_, ?_, fun away => ?_⟩, fun s loaded home present => ?_,
    fun s loaded home present => ?_⟩
  · exact exec_loaded_refused (j := judgeDeskPort (fun _ s => s) n) rfl rfl loaded (judgeDeskPort_outOfRange high _ _)
  · exact exec_loaded_refused (j := judgeDeskPort enablePort n) rfl rfl loaded (judgeDeskPort_outOfRange high _ _)
  · exact exec_loaded_refused (j := judgeDeskPort disablePort n) rfl rfl loaded (judgeDeskPort_outOfRange high _ _)
  · refine ⟨_, exec_deskPort (f := fun _ s => s) rfl rfl loaded (deskPort?_of hn), onlyChanges_reply _ _ (onlyChanges_fresh s), ?_⟩
    rw [deskPortReply_eq]
    exact answers_sendReply (s := s) (u := s.fresh) rfl
  · obtain ⟨record, others, keyboard, parts⟩ := enabled_enablePort p s
    refine ⟨_, exec_deskPortEnable loaded (deskPort?_of hn), ?_, record, others, keyboard, onlyChanges_reply _ _ parts⟩
    rw [deskPortReply_eq]
    exact answers_sendReply (parts .link (by decide))
  · have done := disablePort_away (p := p) (s := s.fresh) away
    have parts := onlyChanges_setDeskPort p { s.deskPort p with state := .disabled } s
    refine ⟨_, exec_deskPortDisable loaded (deskPort?_of hn), ?_⟩
    rw [done, rewrittenReply]
    refine ⟨answers_sendReply (s := s) (parts .link (by decide)), ?_, fun q other => ?_, onlyChanges_reply _ _ parts⟩
    · exact (deskPort_setDeskPort p p _ s.fresh).trans (if_pos rfl)
    · exact (deskPort_setDeskPort p q _ s.fresh).trans (if_neg (Ne.symm other))
  · have left := keyboardLeft (s := s.fresh) home ⟨.disabled, s.keyboard.kbPort.attached, none⟩
    have done : disablePort .keyboard s.fresh = portLeaves .keyboard (setDeskPort .keyboard ⟨.disabled, s.keyboard.kbPort.attached, none⟩ s.fresh) :=
      disablePort_present (p := .keyboard) (s := s.fresh) present
    rw [← done] at left
    obtain ⟨keyboard, matcher, committed, others, parts⟩ := left
    have parts := onlyChanges_of_fresh parts
    have record : (disablePort .keyboard s.fresh).deskPort .keyboard = ⟨.disabled, s.keyboard.kbPort.attached, none⟩ :=
      (congrArg KeyboardEngine.kbPort keyboard :)
    refine ⟨_, exec_deskPortDisable loaded rfl, ?_⟩
    rw [disabledReply record]
    exact ⟨answers_sendReply (parts .link (by decide)), keyboard, matcher, committed, others, onlyChanges_reply _ _ parts⟩
  · have left := pointerLeft (s := s.fresh) home ⟨.disabled, s.keyboard.ptrPort.attached, none⟩
    have done : disablePort .pointer s.fresh = portLeaves .pointer (setDeskPort .pointer ⟨.disabled, s.keyboard.ptrPort.attached, none⟩ s.fresh) :=
      disablePort_present (p := .pointer) (s := s.fresh) present
    rw [← done] at left
    obtain ⟨keyboard, pointer, committed, others, quiet, parts⟩ := left
    have parts := onlyChanges_of_fresh parts
    have record : (disablePort .pointer s.fresh).deskPort .pointer = ⟨.disabled, s.keyboard.ptrPort.attached, none⟩ :=
      (congrArg KeyboardEngine.ptrPort keyboard :)
    refine ⟨_, exec_deskPortDisable loaded rfl, ?_⟩
    rw [disabledReply record]
    exact ⟨answers_sendReply (parts .link (by decide)), keyboard, pointer, committed, others, quiet, onlyChanges_reply _ _ parts⟩

end Sys2Proof.Machine
end

section
/-!
PROOFS, the filter of a line (R138): a level that is judged, and the edge that a level change or a filter timer's expiry makes.
-/

set_option Elab.async false
namespace Sys2Proof.Machine
open Sys2Proof Sys2Proof.Safety

/-! ### One line record is written -/

theorem setLineRec_facts (l : LineId) (x : LineRec) (s : State) :
    (s.fresh.setLineRec l x).lineRec l = x ∧
    (∀ k : LineId, k ≠ l → (s.fresh.setLineRec l x).lineRec k = s.lineRec k) ∧
    (s.fresh.setLineRec l x).lines.dial = s.lines.dial ∧ OnlyChanges [.lines] s (s.fresh.setLineRec l x) := by
  refine ⟨by simp, fun k hk => ?_, rfl, fun p hp => ?_⟩
  · rw [State.lineRec_setLineRec, if_neg (Ne.symm hk)]
    rfl
  · cases p <;> first | rfl | simp at hp

theorem setLineRec_twice (l : LineId) (x y : LineRec) (s : State) : (s.setLineRec l x).setLineRec l y = s.setLineRec l y := by
  simp only [State.setLineRec, State.setLines, Vector.set_set]

theorem setLineRec_same (l : LineId) (s : State) : s.setLineRec l (s.lineRec l) = s := by
  simp [State.setLineRec, State.setLines, State.lineRec]

/-! ### A level change (R138) -/

theorem exec_lineLevel (l : LineId) (b : Bool) (s : State) : exec (.lineLevelChange l b) s = .next (lineLevel l b s.fresh) :=
  exec_event _ s rfl

theorem exec_filterExpiry (l : LineId) (s : State) : exec (.filterTimerExpiry l) s = .next (filterExpiry l s.fresh) :=
  exec_event _ s rfl

/-- The state that the filter judges: the line has its new electrical level. -/
def levelled (l : LineId) (b : Bool) (s : State) : State := s.fresh.setLineRec l { s.lineRec l with pin := b }

theorem lineRec_levelled (l : LineId) (b : Bool) (s : State) : (levelled l b s).lineRec l = { s.lineRec l with pin := b } :=
  (setLineRec_facts l _ s).1

theorem exec_lineLevel_changed {l : LineId} {b : Bool} {s : State} (changed : (s.lineRec l).pin ≠ b) :
    exec (.lineLevelChange l b) s = .next (filterLine l (levelled l b s)) := by
  rw [exec_lineLevel]
  exact congrArg _ (if_neg changed)

theorem filters_iff (m : LineMode) : m.filters = true ↔ m = .input ∨ m = .dial := by cases m <;> simp [LineMode.filters]

theorem filterLine_unfiltered {l : LineId} {b : Bool} {s : State} (mode : (s.lineRec l).config.mode.filters = false) :
    filterLine l (levelled l b s) = levelled l b s := by
  simp only [filterLine, lineRec_levelled, mode]
  rfl

/-- The filter stops its timer at the filtered level, else it starts it (R138). -/
theorem filterLine_timed {l : LineId} {b : Bool} {s : State} (mode : (s.lineRec l).config.mode.filters = true)
    (timed : (s.lineRec l).filtered = some (b != (s.lineRec l).config.activeLow) ∨ (s.lineRec l).config.filter ≠ 0) :
    filterLine l (levelled l b s) = s.fresh.setLineRec l { (s.lineRec l) with
      pin := b,
      timer := if (s.lineRec l).filtered = some (b != (s.lineRec l).config.activeLow) then none
        else some ⟨s.now, (s.lineRec l).config.filter * 1000⟩ } := by
  simp only [filterLine, lineRec_levelled, mode, if_true, LineRec.logical]
  by_cases there : (s.lineRec l).filtered = some (b != (s.lineRec l).config.activeLow)
  · simp only [if_pos there]
    exact setLineRec_twice ..
  · simp only [if_neg there, if_neg (timed.resolve_left there)]
    exact setLineRec_twice ..

theorem filterLine_edge {l : LineId} {b : Bool} {s : State} (mode : (s.lineRec l).config.mode.filters = true)
    (away : (s.lineRec l).filtered ≠ some (b != (s.lineRec l).config.activeLow)) (unfiltered : (s.lineRec l).config.filter = 0) :
    filterLine l (levelled l b s) = makeEdge l (levelled l b s) := by
  simp only [filterLine, lineRec_levelled, mode, if_true, LineRec.logical, if_neg away, unfiltered]

/-! ### A filtered edge (R138) -/

/-- The state in which a filtered edge is handled: the filtered level has taken the logical one. -/
def edged (l : LineId) (b : Bool) (n : Nat) (s : State) : State :=
  (s.fresh.advanceTo n).setLineRec l { s.lineRec l with
    pin := b, filtered := some (b != (s.lineRec l).config.activeLow), timer := none }

theorem lineRec_edged (l : LineId) (b : Bool) (n : Nat) (s : State) : (edged l b n s).lineRec l =
    { s.lineRec l with pin := b, filtered := some (b != (s.lineRec l).config.activeLow), timer := none } := by simp [edged]

theorem onlyChanges_edged (l : LineId) (b : Bool) (n : Nat) (s : State) : OnlyChanges [.now, .lines] s (edged l b n s) :=
  fun p hp => by cases p <;> first | rfl | simp at hp

/-- What an edge of a line in each mode is. -/
def edgeOf (l : LineId) (b : Bool) (n : Nat) (s : State) : State :=
  match (s.lineRec l).config.mode with
  | .input => inputEdge l (b != (s.lineRec l).config.activeLow) (edged l b n s)
  | .dial => dialEdge l (b != (s.lineRec l).config.activeLow) (edged l b n s)
  | .off => edged l b n s
  | .output => edged l b n s

theorem makeEdge_levelled (l : LineId) (b : Bool) (s : State) : makeEdge l (levelled l b s) = edgeOf l b s.now s := by
  have same : (levelled l b s).setLineRec l { s.lineRec l with
      pin := b, filtered := some (b != (s.lineRec l).config.activeLow), timer := none } = edged l b s.now s := by
    simp only [levelled, setLineRec_twice, edged, State.advanceTo, State.fresh, Nat.max_self]
  cases mode : (s.lineRec l).config.mode <;> simp only [makeEdge, lineRec_levelled, LineRec.logical, same, edgeOf, mode]

theorem makeEdge_reach (l : LineId) (tm : Timer) (s : State) :
    makeEdge l (s.fresh.reach tm) = edgeOf l (s.lineRec l).pin (max s.now tm.due) s := by
  have same : (s.fresh.reach tm).setLineRec l { s.lineRec l with
      filtered := some ((s.lineRec l).pin != (s.lineRec l).config.activeLow), timer := none } =
      edged l (s.lineRec l).pin (max s.now tm.due) s := by
    simp [edged, State.reach, State.advanceTo, State.fresh]
  have record : (s.fresh.reach tm).lineRec l = s.lineRec l := rfl
  cases mode : (s.lineRec l).config.mode <;> simp only [makeEdge, record, LineRec.logical, same, edgeOf, mode]

/-- A command that makes a filtered edge leaves the state that the edge leaves. -/
theorem exec_makesEdge {i : Instr} {l : LineId} {b : Bool} {n : Nat} {s : State} (h : MakesEdge i l b n s)
    (mode : (s.lineRec l).config.mode.filters = true) : exec i s = .next (edgeOf l b n s) := by
  obtain ⟨rfl, changed, unfiltered, rfl, away⟩ | ⟨tm, rfl, rfl, running, rfl⟩ := h
  · rw [exec_lineLevel_changed changed, filterLine_edge mode away unfiltered, makeEdge_levelled]
  · have expired : filterExpiry l s.fresh = makeEdge l (s.fresh.reach tm) := by
      have running' : (s.fresh.lineRec l).timer = some tm := running
      simp only [filterExpiry, running']
    rw [exec_filterExpiry, expired, makeEdge_reach]

/-- The time of a filtered edge does not lie before the state's. -/
theorem makesEdge_time {i : Instr} {l : LineId} {b : Bool} {n : Nat} {s : State} (h : MakesEdge i l b n s) :
    (edged l b n s).now = n := by
  obtain ⟨-, -, -, rfl, -⟩ | ⟨tm, -, -, -, rfl⟩ := h <;> simp [edged]

/-! ### The clauses on the filter -/

theorem level_stays (l : LineId) (s : State) :
    ∃ t, exec (.lineLevelChange l (s.lineRec l).pin) s = .next t ∧ OnlyChanges [] s t :=
  ⟨s.fresh, by rw [exec_lineLevel]; exact congrArg _ (if_pos rfl), onlyChanges_fresh s⟩

theorem level_unfiltered {l : LineId} {b : Bool} {s : State} (changed : (s.lineRec l).pin ≠ b)
    (mode : (s.lineRec l).config.mode = .off ∨ (s.lineRec l).config.mode = .output) :
    ∃ t, exec (.lineLevelChange l b) s = .next t ∧ t.lineRec l = { (s.lineRec l) with pin := b } ∧
      (∀ k : LineId, k ≠ l → t.lineRec k = s.lineRec k) ∧ t.lines.dial = s.lines.dial ∧ OnlyChanges [.lines] s t := by
  have unfiltered : (s.lineRec l).config.mode.filters = false := by obtain h | h := mode <;> rw [h] <;> rfl
  refine ⟨levelled l b s, ?_, setLineRec_facts l _ s⟩
  rw [exec_lineLevel_changed changed, filterLine_unfiltered unfiltered]

theorem level_timed {l : LineId} {b : Bool} {s : State} (changed : (s.lineRec l).pin ≠ b)
    (mode : (s.lineRec l).config.mode = .input ∨ (s.lineRec l).config.mode = .dial)
    (timed : (s.lineRec l).filtered = some (b != (s.lineRec l).config.activeLow) ∨ (s.lineRec l).config.filter ≠ 0) :
    ∃ t, exec (.lineLevelChange l b) s = .next t ∧
      t.lineRec l = { (s.lineRec l) with
        pin := b,
        timer := if (s.lineRec l).filtered = some (b != (s.lineRec l).config.activeLow) then none
          else some ⟨s.now, (s.lineRec l).config.filter * 1000⟩ } ∧
      (∀ k : LineId, k ≠ l → t.lineRec k = s.lineRec k) ∧ t.lines.dial = s.lines.dial ∧ OnlyChanges [.lines] s t := by
  refine ⟨_, ?_, setLineRec_facts l _ s⟩
  rw [exec_lineLevel_changed changed, filterLine_timed ((filters_iff _).2 mode) timed]

theorem expiry_stopped {l : LineId} {s : State} (stopped : (s.lineRec l).timer = none) :
    ∃ t, exec (.filterTimerExpiry l) s = .next t ∧ OnlyChanges [] s t := by
  have same : filterExpiry l s.fresh = s.fresh := by
    have stopped' : (s.fresh.lineRec l).timer = none := stopped
    simp only [filterExpiry, stopped']
  exact ⟨s.fresh, by rw [exec_filterExpiry, same], onlyChanges_fresh s⟩

end Sys2Proof.Machine
end

section
/-!
PROOFS, the edges of an INPUT line (R139): the waking edge, the edge that ends a swallowed press, and the edge that is offered for
triggering.
-/

set_option Elab.async false
namespace Sys2Proof.Machine
open Sys2Proof Sys2Proof.Safety

/-! ### What an offered edge raises and moves (R125, R129) -/

/-- The kinds that a trigger or the end of a momentary change raises at most: all but LINE_EDGE. -/
def triggerKinds : List EventKind := .hotkey :: requestKinds

theorem Silent.triggers {s t : State} (h : Silent s t) : Quiet triggerKinds s t := quiet_mono h (List.subset_cons_self _ _)

theorem quiet_raiseHotkey (m : EntryNo) (fired : Bool) (s : State) : Quiet triggerKinds s (raise (.hotkey m fired) s) :=
  quiet_mono (quiet_raise _ s) (by simp [Event.kind, triggerKinds])

theorem silent_setSlot (x : Option ReturnSlot) (s : State) : Silent s (s.setSlot x) :=
  silent_of_parts (State.setSlot_status _ _) (State.setSlot_lines _ _)

theorem silent_fireRequest {m : EntryNo} {e : Hotkey} {s t : State} (h : fireRequest m e s = some t) : Silent s t := by
  unfold fireRequest at h
  split at h
  · unfold requestMomentary at h
    repeat' split at h
    all_goals cases h
    · exact .refl s
    · exact (silent_setSlot _ s).trans (silent_focusRequest true _ _)
  · exact silent_request h

theorem quiet_fireEntry (m : EntryNo) (e : Hotkey) (s : State) : Quiet triggerKinds s (fireEntry m e s) := by
  unfold fireEntry reportHotkey
  split
  · next t h => exact quiet_trans (silent_fireRequest h).triggers (quiet_raiseHotkey m true t)
  · exact quiet_raiseHotkey m false s

theorem quiet_endMomentary (slot : ReturnSlot) (s : State) : Quiet triggerKinds s (endMomentary slot s) := by
  have emptied := silent_setSlot none s
  unfold endMomentary
  dsimp only
  split
  · exact quiet_trans emptied.triggers (quiet_raiseHotkey _ _ _)
  · exact quiet_trans (emptied.trans (silent_focusRequest false _ _)).triggers (quiet_raiseHotkey _ _ _)

theorem quiet_endMomentaryIf (p : ReturnSlot → Bool) (s : State) : Quiet triggerKinds s (endMomentaryIf p s) := by
  unfold endMomentaryIf
  repeat' split
  · exact quiet_endMomentary _ s
  all_goals exact quiet_refl _ s

theorem quiet_lineTrigger (l : LineId) (active : Bool) (s : State) : Quiet triggerKinds s (lineTrigger l active s) := by
  unfold lineTrigger
  dsimp only
  split
  · exact quiet_trans (quiet_endMomentaryIf _ s) (quiet_fireEntry _ _ _)
  · exact quiet_endMomentaryIf _ s

/-- Without an entry and without a slot, nothing triggers and nothing ends. -/
theorem lineTrigger_of_none {s : State} (entries : ∀ m, s.entry m = none) (slot : s.matcher.slot = none) (l : LineId)
    (active : Bool) : lineTrigger l active s = s := by
  have unended (p : ReturnSlot → Bool) : endMomentaryIf p s = s := by simp only [endMomentaryIf, slot]
  have unfound (p : Trigger → Bool) : s.findEntry p = none := by simp [State.findEntry, entries]
  simp only [lineTrigger, unended, unfound]

/-! ### What an edge leaves of its line, and its LINE_EDGE -/

/-- An INPUT line out of OUTPUT mode does not move with the part's state. -/
theorem lineRec_of_quiet {ks : List EventKind} {s t : State} (h : Quiet ks s t) {l : LineId}
    (mode : (s.lineRec l).config.mode ≠ .output) : t.lineRec l = s.lineRec l :=
  (h.2.2 l).resolve_right fun moved => mode moved.1

/-- The line of an edge after it, with its suppressed flag. -/
def edgedRec (b q : Bool) (r : LineRec) : LineRec :=
  { r with pin := b, filtered := some (b != r.config.activeLow), timer := none, suppressed := q }

/-- An edge of a line has been made and reported (R138, R139). -/
structure EdgeMade (l : LineId) (b q : Bool) (n : Nat) (s t : State) : Prop where
  now : t.now = n
  record : t.lineRec l = edgedRec b q (s.lineRec l)
  raised : (s.lineRec l).config.report = true → Raised (.lineEdge l (b != (s.lineRec l).config.activeLow)) t
  unraised : (s.lineRec l).config.report = false → t.event .lineEdge = s.event .lineEdge

section
variable {l : LineId} {b q : Bool} {n : Nat} {s t u : State}

theorem edgeMade_reportEdge (input : (s.lineRec l).config.mode = .input) (now : u.now = n)
    (record : u.lineRec l = edgedRec b q (s.lineRec l)) (event : u.event .lineEdge = s.event .lineEdge) :
    EdgeMade l b q n s (reportEdge l (b != (s.lineRec l).config.activeLow) u) := by
  have config : (u.lineRec l).config = (s.lineRec l).config := by rw [record]; rfl
  have mode : (u.lineRec l).config.mode ≠ .output := by rw [config, input]; decide
  by_cases report : (s.lineRec l).config.report = true
  · have reported : reportEdge l (b != (s.lineRec l).config.activeLow) u =
        raise (.lineEdge l (b != (s.lineRec l).config.activeLow)) u := if_pos (by rw [config, report])
    rw [reported]
    exact ⟨by simp [now], (lineRec_of_quiet (quiet_raise _ u) mode).trans record, fun _ => raised_raise _ u,
      fun silent => by rw [report] at silent; cases silent⟩
  · have unreported : reportEdge l (b != (s.lineRec l).config.activeLow) u = u := if_neg (by rwa [config])
    rw [unreported]
    exact ⟨now, record, fun reports => absurd reports report, fun _ => event⟩

theorem EdgeMade.triggered (h : EdgeMade l b q n s t) (input : (s.lineRec l).config.mode = .input) (now : u.now = t.now)
    (quiet : Quiet triggerKinds t u) : EdgeMade l b q n s u := by
  have mode : (t.lineRec l).config.mode ≠ .output := by
    rw [h.record, edgedRec, input]
    decide
  have event : u.event .lineEdge = t.event .lineEdge := (quiet.1 .lineEdge).2 (by decide)
  exact ⟨now.trans h.now, (lineRec_of_quiet quiet mode).trans h.record, fun report => raised_of_event event (h.raised report),
    fun silent => event.trans (h.unraised silent)⟩

theorem EdgeMade.suppressed (h : EdgeMade l b q n s t) (p : Bool) : EdgeMade l b p n s (setSuppressed l p t) := by
  obtain ⟨now, record, raised, unraised⟩ := h
  refine ⟨now, ?_, raised, unraised⟩
  rw [setSuppressed, State.lineRec_setLineRec, if_pos rfl, record]
  rfl

end

theorem lineRec_edged_rec (l : LineId) (b : Bool) (n : Nat) (s : State) :
    (edged l b n s).lineRec l = edgedRec b (s.lineRec l).suppressed (s.lineRec l) := lineRec_edged l b n s

theorem config_edged (l : LineId) (b : Bool) (n : Nat) (s : State) :
    ((edged l b n s).lineRec l).config = (s.lineRec l).config := by rw [lineRec_edged]

theorem edgeOf_input {l : LineId} {s : State} (input : (s.lineRec l).config.mode = .input) (b : Bool) (n : Nat) :
    edgeOf l b n s = inputEdge l (b != (s.lineRec l).config.activeLow) (edged l b n s) := by simp only [edgeOf, input]

theorem onlyChanges_reportEdge (l : LineId) (active : Bool) (s : State) :
    OnlyChanges [.status, .lines] s (reportEdge l active s) := by
  unfold reportEdge
  split
  · exact onlyChanges_raised _ s
  · exact fun p _ => by cases p <;> rfl

/-! ### The three outcomes of an edge (R139) -/

section
variable {l : LineId} {b : Bool} {n : Nat} {s : State}

/-- An edge that wakes the desk is swallowed, and ends a momentary change of its line at most. -/
theorem edge_waking (input : (s.lineRec l).config.mode = .input) (now : (edged l b n s).now = n)
    (active : (b != (s.lineRec l).config.activeLow) = true) (wake : (s.lineRec l).config.wake = true)
    (low : s.desk.state ≠ .active) : EdgeMade l b true n s (edgeOf l b n s) ∧ (edgeOf l b n s).desk.state = .active ∧
      (edgeOf l b n s).desk.idleStart = some n := by
  have low' : (edged l b n s).desk.state ≠ .active := low
  have offered : offerEdge l (b != (s.lineRec l).config.activeLow) (edged l b n s) = (resumeDesk (edged l b n s), true) := by
    rw [offerEdge, config_edged, if_pos ⟨active, wake⟩, qualify, if_neg low']
  rw [edgeOf_input input, inputEdge, offered]
  have resumed := silent_resumeDesk (edged l b n s)
  have mode : ((edged l b n s).lineRec l).config.mode ≠ .output := by rw [config_edged, input]; decide
  have record : (setSuppressed l true (resumeDesk (edged l b n s))).lineRec l = edgedRec b true (s.lineRec l) := by
    rw [setSuppressed, State.lineRec_setLineRec, if_pos rfl, lineRec_of_quiet resumed mode, lineRec_edged]
    rfl
  have before : (edged l b n s).event .lineEdge = s.event .lineEdge := rfl
  have event : (setSuppressed l true (resumeDesk (edged l b n s))).event .lineEdge = s.event .lineEdge :=
    (event_of_status (State.setLineRec_status ..) _).trans (((resumed.1 .lineEdge).2 (by decide)).trans before)
  have now' : (setSuppressed l true (resumeDesk (edged l b n s))).now = n :=
    (State.setLineRec_now ..).trans ((resumeDesk_leaves _).1.trans now)
  have reported := edgeMade_reportEdge input now' record event
  refine ⟨reported.triggered input (endMomentaryIf_leaves _ _).1 (quiet_endMomentaryIf _ _), ?_, ?_⟩
  all_goals
    simp only [endMomentaryIf_leaves, reportEdge_leaves, setSuppressed, State.setLineRec_desk, resumeDesk_desk, now]

/-- An edge that ends a swallowed press is reported alone. -/
theorem edge_swallowed (input : (s.lineRec l).config.mode = .input) (now : (edged l b n s).now = n)
    (inactive : (b != (s.lineRec l).config.activeLow) = false) (suppressed : (s.lineRec l).suppressed = true) :
    EdgeMade l b false n s (edgeOf l b n s) ∧ (edgeOf l b n s).keyboard = s.keyboard ∧
      (edgeOf l b n s).matcher = s.matcher ∧ OnlyChanges [.now, .lines, .status] s (edgeOf l b n s) := by
  have unoffered : offerEdge l (b != (s.lineRec l).config.activeLow) (edged l b n s) = (edged l b n s, false) :=
    if_neg fun offered => by rw [inactive] at offered; cases offered.1
  have reported := edgeMade_reportEdge (u := edged l b n s) input now (lineRec_edged_rec l b n s) rfl
  have ends : edgeOf l b n s =
      setSuppressed l false (reportEdge l (b != (s.lineRec l).config.activeLow) (edged l b n s)) := by
    rw [edgeOf_input input, inputEdge, unoffered]
    refine if_pos ⟨by rw [inactive]; decide, ?_⟩
    rw [reported.record]
    exact suppressed
  have stored (x : LineRec) (t : State) : OnlyChanges [.lines] t (t.setLineRec l x) := fun p hp => by
    cases p <;> first | rfl | simp at hp
  have only : OnlyChanges [.now, .lines, .status] s (edgeOf l b n s) := by
    rw [ends]
    exact onlyChanges_then (onlyChanges_then (onlyChanges_edged l b n s) (onlyChanges_reportEdge l _ _) (List.Subset.refl _))
      (stored _ _) (by decide)
  refine ⟨?_, only .keyboard (by decide), only .matcher (by decide), only⟩
  rw [ends]
  exact reported.suppressed false

/-- The state in which an edge is offered for triggering: an ACTIVE edge of a wake-enabled line was activity. -/
def noticedEdge (l : LineId) (b : Bool) (n : Nat) (s : State) : State :=
  if (b != (s.lineRec l).config.activeLow) = true ∧ (s.lineRec l).config.wake = true then restartIdle (edged l b n s)
  else edged l b n s

theorem edge_offered (input : (s.lineRec l).config.mode = .input)
    (quiet : (b != (s.lineRec l).config.activeLow) = true → (s.lineRec l).config.wake = true → s.desk.state = .active)
    (pressed : (b != (s.lineRec l).config.activeLow) = false → (s.lineRec l).suppressed = false)
    (now : (edged l b n s).now = n) : EdgeMade l b (s.lineRec l).suppressed n s (edgeOf l b n s) ∧
      edgeOf l b n s = lineTrigger l (b != (s.lineRec l).config.activeLow)
        (reportEdge l (b != (s.lineRec l).config.activeLow) (noticedEdge l b n s)) := by
  have offered : offerEdge l (b != (s.lineRec l).config.activeLow) (edged l b n s) = (noticedEdge l b n s, false) := by
    rw [offerEdge, config_edged, noticedEdge]
    split
    · next activity =>
      have active' : (edged l b n s).desk.state = .active := quiet activity.1 activity.2
      rw [qualify, if_pos active']
    · rfl
  have noticed : (noticedEdge l b n s).now = n ∧ (noticedEdge l b n s).lineRec l = (edged l b n s).lineRec l ∧
      (noticedEdge l b n s).event .lineEdge = s.event .lineEdge := by
    unfold noticedEdge
    split <;> exact ⟨now, rfl, rfl⟩
  obtain ⟨now', record, event⟩ := noticed
  have reported := edgeMade_reportEdge input now' (record.trans (lineRec_edged_rec l b n s)) event
  have triggers : edgeOf l b n s = lineTrigger l (b != (s.lineRec l).config.activeLow)
      (reportEdge l (b != (s.lineRec l).config.activeLow) (noticedEdge l b n s)) := by
    rw [edgeOf_input input, inputEdge, offered]
    refine if_neg fun ends => ?_
    rw [reported.record] at ends
    have held : (s.lineRec l).suppressed = true := ends.2
    rw [pressed (by simpa using ends.1)] at held
    cases held
  refine ⟨?_, triggers⟩
  rw [triggers]
  exact reported.triggered input (lineTrigger_leaves _ _ _).1 (quiet_lineTrigger _ _ _)

/-- An edge that was activity, with nothing to trigger or to end, is reported and restarts the idle timer alone. -/
theorem edge_idle (input : (s.lineRec l).config.mode = .input) (now : (edged l b n s).now = n)
    (active : (b != (s.lineRec l).config.activeLow) = true) (wake : (s.lineRec l).config.wake = true)
    (up : s.desk.state = .active) (entries : ∀ m, s.entry m = none) (slot : s.matcher.slot = none) :
    (edgeOf l b n s).desk = { s.desk with idleStart := some n } ∧
      OnlyChanges [.now, .lines, .status, .desk] s (edgeOf l b n s) := by
  have triggers := (edge_offered (b := b) (n := n) input (fun _ _ => up) (fun off => by rw [active] at off; cases off) now).2
  have noticed : noticedEdge l b n s = restartIdle (edged l b n s) := if_pos ⟨active, wake⟩
  have matcher : (reportEdge l (b != (s.lineRec l).config.activeLow) (restartIdle (edged l b n s))).matcher = s.matcher := by
    simp only [reportEdge_leaves]
    rfl
  have unlisted (m : EntryNo) :
      (reportEdge l (b != (s.lineRec l).config.activeLow) (restartIdle (edged l b n s))).entry m = none := by
    rw [State.entry, matcher]
    exact entries m
  rw [noticed, lineTrigger_of_none unlisted (by rw [matcher, slot])] at triggers
  have restarted : OnlyChanges [.desk] (edged l b n s) (restartIdle (edged l b n s)) := fun p hp => by
    cases p <;> first | rfl | simp at hp
  rw [triggers]
  refine ⟨?_, onlyChanges_then (onlyChanges_then (onlyChanges_edged l b n s) restarted (List.Subset.refl _))
    (onlyChanges_reportEdge l _ _) (by decide)⟩
  simp only [reportEdge_leaves, restartIdle, now]
  rfl

end

/-- The clause on an INPUT line's edge. -/
theorem input_edge_clause {i : Instr} {l : LineId} {b : Bool} {n : Nat} {s : State} (input : (s.lineRec l).config.mode = .input)
    (h : MakesEdge i l b n s) :
    ∃ t, exec i s = .next t ∧ t.now = n ∧ (t.lineRec l).pin = b ∧
      (t.lineRec l).filtered = some (b != (s.lineRec l).config.activeLow) ∧ (t.lineRec l).timer = none ∧
      (t.lineRec l).config = (s.lineRec l).config ∧
      ((s.lineRec l).config.report = true → Raised (.lineEdge l (b != (s.lineRec l).config.activeLow)) t) ∧
      ((s.lineRec l).config.report = false → t.event .lineEdge = s.event .lineEdge) ∧
      (b ≠ (s.lineRec l).config.activeLow → (s.lineRec l).config.wake = true → s.desk.state ≠ .active →
        (t.lineRec l).suppressed = true ∧ t.desk.state = .active ∧ t.desk.idleStart = some n) ∧
      (b = (s.lineRec l).config.activeLow → (t.lineRec l).suppressed = false) ∧
      (b = (s.lineRec l).config.activeLow → (s.lineRec l).suppressed = true →
        t.keyboard = s.keyboard ∧ t.matcher = s.matcher ∧ OnlyChanges [.now, .lines, .status] s t) ∧
      (b ≠ (s.lineRec l).config.activeLow → (s.lineRec l).config.wake = true → s.desk.state = .active →
        (∀ m, s.entry m = none) → s.matcher.slot = none → t.desk = { s.desk with idleStart := some n } ∧
        OnlyChanges [.now, .lines, .status, .desk] s t) := by
  have now := makesEdge_time h
  have active_iff : (b != (s.lineRec l).config.activeLow) = true ↔ b ≠ (s.lineRec l).config.activeLow := bne_iff_ne
  have inactive_iff : (b != (s.lineRec l).config.activeLow) = false ↔ b = (s.lineRec l).config.activeLow := bne_eq_false_iff_eq
  have made : ∃ q, EdgeMade l b q n s (edgeOf l b n s) ∧ (b = (s.lineRec l).config.activeLow → q = false) := by
    by_cases active : b = (s.lineRec l).config.activeLow
    · by_cases suppressed : (s.lineRec l).suppressed = true
      · exact ⟨false, (edge_swallowed input now (inactive_iff.2 active) suppressed).1, fun _ => rfl⟩
      · exact ⟨_, (edge_offered input (fun on => absurd active (active_iff.1 on)) (fun _ => by simpa using suppressed) now).1,
          fun _ => by simpa using suppressed⟩
    · by_cases waking : (s.lineRec l).config.wake = true ∧ s.desk.state ≠ .active
      · exact ⟨true, (edge_waking input now (active_iff.2 active) waking.1 waking.2).1, fun off => absurd off active⟩
      · refine ⟨_, (edge_offered input (fun _ wake => ?_) (fun off => absurd (inactive_iff.1 off) active) now).1,
          fun off => absurd off active⟩
        exact not_not.1 fun low => waking ⟨wake, low⟩
  obtain ⟨q, ⟨now', record, raised, unraised⟩, unsuppressed⟩ := made
  refine ⟨edgeOf l b n s, exec_makesEdge h (by rw [input]; rfl), now', by rw [record]; rfl, by rw [record]; rfl,
    by rw [record]; rfl, by rw [record]; rfl, raised, unraised, fun active wake low => ?_, fun off => ?_, fun off suppressed => ?_,
    fun active wake up entries slot => edge_idle input now (active_iff.2 active) wake up entries slot⟩
  · obtain ⟨swallowed, desk⟩ := edge_waking input now (active_iff.2 active) wake low
    exact ⟨by rw [swallowed.record]; rfl, desk⟩
  · rw [record]
    exact unsuppressed off
  · exact (edge_swallowed input now (inactive_iff.2 off) suppressed).2

end Sys2Proof.Machine
end

section
/-!
PROOFS, the edges of the dial (R143) and its detents (R75); and O48.
-/

set_option Elab.async false
namespace Sys2Proof.Machine
open Sys2Proof Sys2Proof.Safety

/-! ### The cycle of the phases (R143) -/

theorem phaseMove_eq_cycleMove (a b a' b' : Bool) : phaseMove (phasePlace a b) (phasePlace a' b') = cycleMove a b a' b' := by
  revert a b a' b'
  decide

/-- The state in which a dial edge is handled, the dial being moved on. -/
def turned (l : LineId) (pin : Bool) (n : Nat) (d : Dial) (s : State) : State := setDial (some d) (edged l pin n s)

/-- A dial edge: a move that reaches a limit is a detent (R143). -/
theorem edgeOf_dial {l : LineId} {pin : Bool} {n : Nat} {d : Dial} {a b : Bool} {m : Int} {s : State}
    (mode : (s.lineRec l).config.mode = .dial) (dial : s.lines.dial = some d)
    (pair : (a, b) = d.after l (pin != (s.lineRec l).config.activeLow)) (moved : m = d.count + cycleMove d.a d.b a b) :
    edgeOf l pin n s =
      if m = (s.lineRec l).config.counts then detent 1 (turned l pin n ⟨a, b, 0⟩ s)
      else if m = -(s.lineRec l).config.counts then detent (-1) (turned l pin n ⟨a, b, 0⟩ s)
      else turned l pin n ⟨a, b, m⟩ s := by
  have dial' : (edged l pin n s).lines.dial = some d := dial
  simp only [edgeOf, mode, dialEdge, dial', ← pair, phaseMove_eq_cycleMove, ← moved, config_edged]
  rfl

/-! ### A detent (R75, R182) -/

section
variable {l : LineId} {pin : Bool} {n : Nat} {d : Dial} {w : Int} {s : State}

theorem detent_low (low : s.desk.state ≠ .active) : detent w s = resumeDesk s := by
  rw [detent, qualify, if_neg low]

theorem detent_active (up : s.desk.state = .active) : detent w s =
    takePointer s.standIn s.pointer.lastAbs[s.standIn].1 s.pointer.lastAbs[s.standIn].2 s.delivered w (restartIdle s) := by
  rw [detent, qualify, if_pos up]
  rfl

theorem silent_detent (w : Int) (s : State) : Silent s (detent w s) := by
  by_cases up : s.desk.state = .active
  · have restarted : Silent s (restartIdle s) := silent_of_parts rfl rfl
    rw [detent_active up]
    exact restarted.trans (silent_takePointer ..)
  · rw [detent_low up]
    exact silent_resumeDesk s

/-- What a dial edge leaves of its line and the dial. -/
theorem turned_of_silent {t : State} (mode : (s.lineRec l).config.mode = .dial) (h : Silent (turned l pin n d s) t) :
    t.lineRec l = edgedRec pin (s.lineRec l).suppressed (s.lineRec l) ∧ t.lines.dial = some d := by
  have record : (turned l pin n d s).lineRec l = edgedRec pin (s.lineRec l).suppressed (s.lineRec l) := lineRec_edged_rec l pin n s
  refine ⟨(lineRec_of_quiet h ?_).trans record, h.2.1⟩
  rw [record, edgedRec, mode]
  decide

theorem onlyChanges_turned : OnlyChanges [.now, .lines] s (turned l pin n d s) := fun p hp => by
  cases p <;> first | rfl | simp at hp

/-- A detent in low power is the waking input, and is discarded. -/
theorem detent_wakes (now : (edged l pin n s).now = n) (low : s.desk.state ≠ .active) :
    (detent w (turned l pin n d s)).desk.state = .active ∧ (detent w (turned l pin n d s)).desk.idleStart = some n ∧
    Raised (.deskPower .active) (detent w (turned l pin n d s)) ∧ (detent w (turned l pin n d s)).pointer = s.pointer ∧
    (detent w (turned l pin n d s)).matcher = s.matcher ∧ ResumeWakes n s (detent w (turned l pin n d s)) := by
  have now' : (turned l pin n d s).now = n := now
  have low' : (turned l pin n d s).desk.state ≠ .active := low
  have woken := resumeWakes_resumeDesk (turned l pin n d s)
  rw [now'] at woken
  rw [detent_low low']
  refine ⟨by rw [resumeDesk_desk], by rw [resumeDesk_desk, now'], raised_resumeDesk _, by rw [resumeDesk_pointer]; rfl, ?_,
    resumeWakes_of_before rfl rfl rfl rfl rfl woken⟩
  simp only [resumeDesk_leaves]
  rfl

/-- A detent on an ACTIVE desk is a wheel step for the stand-in computer. -/
theorem detent_steps (now : (edged l pin n s).now = n) (up : s.desk.state = .active) :
    (detent w (turned l pin n d s)).desk = { s.desk with idleStart := some n } ∧
    (detent w (turned l pin n d s)).pointer.lastAbs = s.pointer.lastAbs ∧
    PointerTaken s.standIn s.pointer.lastAbs[s.standIn].1 s.pointer.lastAbs[s.standIn].2 s.delivered w s.pointer.swallow n s
      (detent w (turned l pin n d s)) ∧
    OnlyChanges [.now, .lines, .desk, .pointer, .ports, .power, .status] s (detent w (turned l pin n d s)) := by
  have now' : (turned l pin n d s).now = n := now
  have restarted : OnlyChanges [.desk] (turned l pin n d s) (restartIdle (turned l pin n d s)) := fun p hp => by
    cases p <;> first | rfl | simp at hp
  have up' : (turned l pin n d s).desk.state = .active := up
  have taken : detent w (turned l pin n d s) = takePointer s.standIn s.pointer.lastAbs[s.standIn].1
      s.pointer.lastAbs[s.standIn].2 s.delivered w (restartIdle (turned l pin n d s)) := detent_active up'
  rw [taken]
  refine ⟨?_, ?_, pointerTaken_from rfl rfl rfl rfl rfl now', onlyChanges_then
    (onlyChanges_then onlyChanges_turned restarted (List.Subset.refl _)) (onlyChanges_takePointer _ _ _ _ _ _) (by decide)⟩
  · simp only [takePointer_leaves, restartIdle, now']
    rfl
  · obtain ⟨swallow, pointer⟩ := takePointer_pointer s.standIn s.pointer.lastAbs[s.standIn].1 s.pointer.lastAbs[s.standIn].2
      s.delivered w (restartIdle (turned l pin n d s))
    rw [pointer]
    rfl

end

/-- A dial edge that reaches a limit, by the step it makes. -/
theorem edgeOf_detent {l : LineId} {pin : Bool} {n : Nat} {d : Dial} {a b : Bool} {m : Int} {s : State}
    (mode : (s.lineRec l).config.mode = .dial) (dial : s.lines.dial = some d)
    (pair : (a, b) = d.after l (pin != (s.lineRec l).config.activeLow)) (moved : m = d.count + cycleMove d.a d.b a b)
    (limit : m = (s.lineRec l).config.counts ∨ m = -(s.lineRec l).config.counts) :
    edgeOf l pin n s = detent (if m = (s.lineRec l).config.counts then 1 else -1) (turned l pin n ⟨a, b, 0⟩ s) := by
  rw [edgeOf_dial mode dial pair moved]
  by_cases forward : m = (s.lineRec l).config.counts
  · rw [if_pos forward, if_pos forward]
  · rw [if_neg forward, if_neg forward, if_pos (limit.resolve_left forward)]

/-- The clause on an edge of the dial. -/
theorem dial_edge_clause {i : Instr} {l : LineId} {pin : Bool} {n : Nat} {d : Dial} {a b : Bool} {m : Int} {s : State}
    (h : MakesEdge i l pin n s) (mode : (s.lineRec l).config.mode = .dial) (dial : s.lines.dial = some d)
    (pair : (a, b) = d.after l (pin != (s.lineRec l).config.activeLow)) (moved : m = d.count + cycleMove d.a d.b a b) :
    ∃ t, exec i s = .next t ∧ t.now = n ∧ (t.lineRec l).pin = pin ∧
      (t.lineRec l).filtered = some (pin != (s.lineRec l).config.activeLow) ∧ (t.lineRec l).timer = none ∧
      t.lines.dial = some ⟨a, b, if m = (s.lineRec l).config.counts ∨ m = -(s.lineRec l).config.counts then 0 else m⟩ ∧
      (m ≠ (s.lineRec l).config.counts → m ≠ -(s.lineRec l).config.counts → OnlyChanges [.now, .lines] s t) ∧
      (m = (s.lineRec l).config.counts ∨ m = -(s.lineRec l).config.counts → s.desk.state ≠ .active →
        t.desk.state = .active ∧ t.desk.idleStart = some n ∧ Raised (.deskPower .active) t ∧ t.pointer = s.pointer ∧
        t.matcher = s.matcher ∧ ResumeWakes n s t) ∧
      (m = (s.lineRec l).config.counts ∨ m = -(s.lineRec l).config.counts → s.desk.state = .active →
        0 < (s.lineRec l).config.counts →
        t.desk = { s.desk with idleStart := some n } ∧ t.pointer.lastAbs = s.pointer.lastAbs ∧
        PointerTaken s.standIn s.pointer.lastAbs[s.standIn].1 s.pointer.lastAbs[s.standIn].2 s.delivered
          (if m = (s.lineRec l).config.counts then 1 else -1) s.pointer.swallow n s t ∧
        OnlyChanges [.now, .lines, .desk, .pointer, .ports, .power, .status] s t) := by
  have now := makesEdge_time h
  have made := exec_makesEdge h (by rw [mode]; rfl)
  by_cases limit : m = (s.lineRec l).config.counts ∨ m = -(s.lineRec l).config.counts
  · rw [edgeOf_detent mode dial pair moved limit] at made
    obtain ⟨record, dial'⟩ := turned_of_silent mode (silent_detent (if m = (s.lineRec l).config.counts then 1 else -1)
      (turned l pin n ⟨a, b, 0⟩ s))
    refine ⟨_, made, (detent_leaves _ _).1.trans now, by rw [record]; rfl, by rw [record]; rfl, by rw [record]; rfl,
      by rw [dial', if_pos limit], fun forward backward => absurd limit (not_or.2 ⟨forward, backward⟩),
      fun _ low => detent_wakes now low, fun _ up _ => detent_steps now up⟩
  · obtain ⟨forward, backward⟩ := not_or.1 limit
    rw [edgeOf_dial mode dial pair moved, if_neg forward, if_neg backward] at made
    obtain ⟨record, dial'⟩ := turned_of_silent mode (Silent.refl (turned l pin n ⟨a, b, m⟩ s))
    exact ⟨_, made, now, by rw [record]; rfl, by rw [record]; rfl, by rw [record]; rfl, by rw [dial', if_neg limit],
      fun _ _ => onlyChanges_turned, fun reached => absurd reached limit, fun reached => absurd reached limit⟩

/-- Settles O48: the filter judges a level change by the mode and the filter of its line, and an edge is handled by the three outcomes
of R139 on an INPUT line and by the cycle of R143 on the dial. -/
theorem lineLevelsAreFiltered : Obligations.LineLevelsAreFiltered :=
  ⟨level_stays, fun _ _ _ changed mode => level_unfiltered changed mode,
    fun _ _ _ changed mode timed => level_timed changed mode timed, fun _ _ stopped => expiry_stopped stopped,
    fun _ _ _ _ _ input edge => input_edge_clause input edge,
    fun _ _ _ _ _ _ _ _ _ edge mode _ dial pair moved => dial_edge_clause edge mode dial pair moved⟩

end Sys2Proof.Machine
end
